-- ==== Sys2Proof/Word.lean ====
section
/-! DEFINITION. The word and byte types of the hub: every register is 32 bits wide (R11). -/

namespace Sys2Proof

/-- A 32-bit register or packet word (R11, R75). -/
abbrev Word := BitVec 32

/-- A byte of a memory or of a link message. -/
abbrev Byte := BitVec 8

end Sys2Proof
end

