-- ==== Sys2Proof/Syntax.lean ====
section
/-! DEFINITION. The commands of the hub: one constructor of Instr for each row of the opcode table, with the
row's operands. A command of Table CM-9 carries its packet; a step of the part carries what the outside
world supplies to it (data that arrives, the unit it happens to). -/

namespace Sys2Proof

/-- A command source: a ring pair, an Ethernet sender by allow entry, TWT0 (R76), or the internal source of
a configuration image (R482). -/
inductive Source where
  | sq (n : Fin 4)
  | eth (n : Fin 8)
  | twt
  | image
  deriving DecidableEq, Repr

/-- A command packet without its opcode (Table CM-1); LEN is the number of parameter words. -/
structure Packet where
  src : Source
  unit : BitVec 16
  tag : BitVec 16
  stage : Bool
  reply : Bool
  chain : Bool
  urgent : Bool
  applyTick : Word
  cred : Word
  params : List Word
  deriving DecidableEq, Repr

/-- What resets the host bridge, or takes its link down (R374). -/
inductive HbReset where
  | flr | hotReset | linkDown | perst
  deriving DecidableEq, Repr

/-- A received Ethernet frame (R402, R403): addresses, optional IEEE 802.1Q tag, EtherType, the bytes after
the EtherType up to the FCS, and whether the FCS is good. -/
structure EthFrame where
  dst : BitVec 48
  src : BitVec 48
  vlan : Option (BitVec 16)
  etherType : BitVec 16
  payload : List Byte
  fcsOk : Bool
  deriving DecidableEq, Repr

/-- A PTP timestamp: seconds and nanoseconds (R389). -/
structure PtpTime where
  s : BitVec 48
  ns : BitVec 32
  deriving DecidableEq, Repr

/-- The fields of an Announce message that the BMCA compares (R410). -/
structure AnnounceMsg where
  gm : BitVec 64
  prio1 : Byte
  clockClass : Byte
  accuracy : Byte
  variance : BitVec 16
  prio2 : Byte
  steps : BitVec 16
  sender : BitVec 80
  deriving DecidableEq, Repr

/-- Levels at the strap balls (Table BS-1). -/
structure StrapLevels where
  twtAs : BitVec 2
  bootSel : BitVec 2
  mosSel : BitVec 2
  medSel : Bool
  deriving DecidableEq, Repr

/-- Header of a received link message (R147): its SEQ and PORT, and whether its CRC-16 is good. -/
structure MsgHdr where
  seq : Byte
  port : Byte
  crcOk : Bool
  deriving DecidableEq, Repr

/-- What the search found on the line with one preset applied (R122): V_STEPS at each CTLE setting, and the eye once the
CTLE is set and the DFE has converged. -/
structure PresetTry where
  vAt : Vector (BitVec 6) 16
  hSteps : BitVec 6
  vSteps : BitVec 6
  deriving DecidableEq, Repr

/-- What a training attempt of a receive lane found on the line (R115, R116, R121, R122, R127, R129, R130): each preset's
figures, the eye and the DFE taps at the final check, the polarity and lane number seen, and what the partner declared in
its training blocks. Of a transmit lane, whose partner is the receiving end, only the end of the attempt counts. -/
structure TrainResult where
  tries : Vector PresetTry 8
  hSteps : BitVec 6
  vSteps : BitVec 6
  dfeLo : Word
  dfeHi : Word
  polInv : Bool
  /-- The blocks carry lane number 1 (R129). -/
  oddBlock : Bool
  /-- Highest rate code the partner supports (Table LP-6). -/
  partnerRate : BitVec 2
  partnerFollow : Bool
  deriving DecidableEq, Repr

/-- Header of a CSI-2 packet as a gate sees it: its stream, and whether a single-bit error in it was corrected (R168). -/
structure PktHead where
  stream : BitVec 6
  corrected : Bool
  deriving DecidableEq, Repr

/-- An eye measurement: its steps and the index they give (R116). -/
structure EyeMeas where
  hSteps : BitVec 6
  vSteps : BitVec 6
  index : Byte
  deriving DecidableEq, Repr

/-- How a received CSI-2 packet is damaged, if it is (R144, R146, R168, R193). -/
inductive PktDamage where
  /-- Whole and good. -/
  | good
  /-- Cells lost with an uncorrectable codeword after a good header (R144). -/
  | cut
  /-- The header could not be corrected or was lost (R168). -/
  | header
  /-- The payload CRC mismatches (R168). -/
  | crc
  /-- The sender ended the packet with TRUNC (R146). -/
  | trunc
  /-- The lane buffer was full (R193). -/
  | overrun
  deriving DecidableEq, Repr

/-- A line ring with credits: the target ring of a gate context, or a paddock fill (R191, R315). -/
inductive RingRef where
  | gate (g : Fin 8) (c : Fin 16)
  | fill (p : Fin 256) (k : Fin 2)
  deriving DecidableEq, Repr

/-- What the scrubber's read of a granule found (R311). -/
inductive ScrubRead where
  | clean | corrected | uncorrectable
  deriving DecidableEq, Repr

/-- How a transaction on a local two-wire bus ended (R420, R425, R426). -/
inductive TwEnd where
  /-- Complete, with the bytes read. -/
  | ok (read : List Byte)
  | addrNack
  /-- Write byte `i` was not acknowledged. -/
  | dataNack (i : Byte)
  /-- Arbitration lost during an address or data bit, at BITPOS. -/
  | arbData (pos : BitVec 13)
  /-- Arbitration lost on a STOP or repeated START. -/
  | arbCond
  deriving DecidableEq, Repr

/-- The commands of the block, one per row of spec/opcode_table.json. -/
inductive Instr where
  /-- PING (R100). Command that replies at once to prove the groom answers. -/
  | ping (p : Packet)
  /-- GET_ID (R101). Command that returns TOP_ID, the enabled unit counts, the firmware version and the serial. -/
  | getId (p : Packet)
  /-- GET_STATE (R101). Command that returns the device state, the last transition cause and the high tick bits. -/
  | getState (p : Packet)
  /-- SEAL (R65). In CONFIG, freezes the set being filled, checks it and applies it within 50 µs. -/
  | seal (p : Packet)
  /-- ABORT_SEAL (R62). Discards the set being filled, or only the entries accepted since the seal window opened. -/
  | abortSeal (p : Packet)
  /-- RESUME_REPORT (R461). Returns PWR_RESUME, the tick of the resume step and every bank result. -/
  | resumeReport (p : Packet)
  /-- EVENT_ROUTE (R505). Writes EV_CTRL images for a range of event sources. -/
  | eventRoute (p : Packet)
  /-- EVENT_READ (R505). Returns and consumes the oldest unread event log records. -/
  | eventRead (p : Packet)
  /-- REG_READ (R538). Reads one or two BAR0 registers by command, with the dark and absent rules. -/
  | regRead (p : Packet)
  /-- REG_WRITE (R538). Writes one or two BAR0 registers by command, staging ST registers or writing others at once. -/
  | regWrite (p : Packet)
  /-- STAGE_QUERY (R100). Command that reports the staging state without changing it. -/
  | stageQuery (p : Packet)
  /-- SAFE_EXIT (R501). Leaves SAFE for CONFIG when every SAFE condition has ended, otherwise replies FAULT. -/
  | safeExit (p : Packet)
  /-- RESET (R468). Replies, puts the DRAM into self-refresh and performs a warm reset into BOOT. -/
  | reset (p : Packet)
  /-- CONFIG_LOAD (R483). Verifies a signed image in the heap and stages it to apply at the tick, optionally writing it to flash. -/
  | configLoad (p : Packet)
  /-- CONFIG_SAVE (R484). Writes the live configuration to flash slot 1 as a device-signed image. -/
  | configSave (p : Packet)
  /-- LANE_SET (R135). Stages the CTRL, TXEQ, THRESH and RXEQ images of a lane. -/
  | laneSet (p : Packet)
  /-- LANE_STATE (R136). Sets the target state of a lane, at once or staged. -/
  | laneState (p : Packet)
  /-- LANE_STATUS (R135). Returns the status, eye, DFE, round-trip and count registers of a lane. -/
  | laneStatus (p : Packet)
  /-- LANE_BOND (R128). Stages bonding or unbonding of an even-odd lane pair. -/
  | laneBond (p : Packet)
  /-- ROLL_CALL_SET (R164). Stages the roll-call period, miss limit and lane enables. -/
  | rollCallSet (p : Packet)
  /-- DISCOVER (R164). Sends ROLL_CALL on a lane at once and returns the partner record and any IDENT within 1 ms. -/
  | discover (p : Packet)
  /-- PARTNER_INFO (R164). Returns the stored partner state, authentication result and IDENT of a lane. -/
  | partnerInfo (p : Packet)
  /-- TRIGGER_SET (R164). Stages trigger control, offset, sensor latency and trim of a receive lane. -/
  | triggerSet (p : Packet)
  /-- TRIGGER_CAL (R152). Runs the requested number of CAL exchanges and stores the mean round trip. -/
  | triggerCal (p : Packet)
  /-- LINK_GPIO (R164). Sets the GPIO levels and mask sent to a lane's partner, at once or staged. -/
  | linkGpio (p : Packet)
  /-- REPEATER_SET (R131). Stages the repeat configuration of a transmit lane. -/
  | repeaterSet (p : Packet)
  /-- STREAM_OPEN (R196). Stages opening of a gate stream context with its selection, crop, decimation, target and planned rate. -/
  | streamOpen (p : Packet)
  /-- STREAM_CLOSE (R166). Stages closing of a gate stream context. -/
  | streamClose (p : Packet)
  /-- STREAM_CROP (R179). Stages the crop window and decimation of a context. -/
  | streamCrop (p : Packet)
  /-- STREAM_TARGET (R190). Stages the output target of a context. -/
  | streamTarget (p : Packet)
  /-- STREAM_TAG (R196). Stages the user tag, stamp time base and EXPECT flag of a context. -/
  | streamTag (p : Packet)
  /-- HDR_GROUP (R185). Stages an HDR group's members and grouping parameters. -/
  | hdrGroup (p : Packet)
  /-- GATE_STATUS (R196). Returns a gate's global registers and the status and counts of its contexts. -/
  | gateStatus (p : Packet)
  /-- GATE_FLUSH (R192). Flushes the target rings of the masked contexts at once and resets their credits. -/
  | gateFlush (p : Packet)
  /-- LOAD_KERNEL (R218). Stages the loading of a cached kernel object into a stall or yard. -/
  | loadKernel (p : Packet)
  /-- BIND (R219). Stages binding of a resident kernel with fit estimate, windows and queues. -/
  | bind (p : Packet)
  /-- SET_PARAM (R211). Stages parameter block words for a stall or yard. -/
  | setParam (p : Packet)
  /-- YARD_DEFINE (R225). Stages a yard descriptor after checking the yard graph at receipt. -/
  | yardDefine (p : Packet)
  /-- YARD_DISSOLVE (R227). Stages removal of a yard, its members keeping their bindings. -/
  | yardDissolve (p : Packet)
  /-- UNBIND (R219). Stages stopping a stall, leaving its kernel resident. -/
  | unbind (p : Packet)
  /-- LOCKSTEP_PAIR (R221). Stages joining or splitting an even-odd lockstep pair. -/
  | lockstepPair (p : Packet)
  /-- STALL_STATUS (R231). Returns status, PC and cycle figures per stall, fanned out over a yard. -/
  | stallStatus (p : Packet)
  /-- YARD_QUERY (R231). Returns a yard's members, parent, stall count, depth and cycles. -/
  | yardQuery (p : Packet)
  /-- MESH_LOAD (R267). Copies a mesh from the frame store into a slot's inactive buffer. -/
  | meshLoad (p : Packet)
  /-- REMAP_BIND (R273). Stages a remap engine's source, destination and regions. -/
  | remapBind (p : Packet)
  /-- REMAP_UNBIND (R275). Stages unbinding of a remap engine. -/
  | remapUnbind (p : Packet)
  /-- REMAP_STATUS (R275). Returns a remap engine's registers and region slots. -/
  | remapStatus (p : Packet)
  /-- HEAD_SET (R359). Stages a head's control, size, line pacing, fill and witness settings. -/
  | headSet (p : Packet)
  /-- HEAD_LANES (R328). Stages a head's lane mask and output stream settings. -/
  | headLanes (p : Packet)
  /-- KITE_SET (R332). Stages a layer set of a head. -/
  | kiteSet (p : Packet)
  /-- KITE_CLEAR (R359). Stages a layer's KIND to none. -/
  | kiteClear (p : Packet)
  /-- TETHER_SET (R343). Stages a tethered region of a head. -/
  | tetherSet (p : Packet)
  /-- TETHER_CLEAR (R359). Stages clearing of the masked tethers. -/
  | tetherClear (p : Packet)
  /-- DIRECT_SET (R339). Stages a direct path for a head. -/
  | directSet (p : Packet)
  /-- DIRECT_CLEAR (R339). Stages removal of a head's direct path. -/
  | directClear (p : Packet)
  /-- HEAD_STATUS (R359). Returns a head's registers, layer status and stream counters. -/
  | headStatus (p : Packet)
  /-- WITNESS_STATUS (R359). Returns a head's alarm, failure counts and tether signatures and status. -/
  | witnessStatus (p : Packet)
  /-- CODEC_SET (R303). Stages codec profiles or a head's stream coding selections. -/
  | codecSet (p : Packet)
  /-- CODEC_STATUS (R303). Returns a codec unit's registers or the profile table. -/
  | codecStatus (p : Packet)
  /-- PADDOCK_CREATE (R312). Stages creation of a paddock ring in the heap. -/
  | paddockCreate (p : Packet)
  /-- PADDOCK_DELETE (R320). Stages deletion of a paddock. -/
  | paddockDelete (p : Packet)
  /-- PADDOCK_POLICY (R320). Stages a paddock's overtaking policy, fills and drain. -/
  | paddockPolicy (p : Packet)
  /-- MARK_SET (R319). Places or moves a rewind mark on a COMPLETE slot. -/
  | markSet (p : Packet)
  /-- MARK_CLEAR (R319). Clears one or all rewind marks of a paddock. -/
  | markClear (p : Packet)
  /-- PADDOCK_STATUS (R323). Returns a paddock's status, newest SEQ, mark SEQs and completion count. -/
  | paddockStatus (p : Packet)
  /-- DMA_SET (R388). Stages a DMA channel's configuration. -/
  | dmaSet (p : Packet)
  /-- DMA_START (R378). Rings a DMA channel's doorbell and returns its status. -/
  | dmaStart (p : Packet)
  /-- DMA_ABORT (R384). Aborts a DMA channel and replies when the abort has completed. -/
  | dmaAbort (p : Packet)
  /-- DMA_STATUS (R388). Returns a DMA channel's status, current descriptor, residue, coded bytes and counts. -/
  | dmaStatus (p : Packet)
  /-- TB_SET (R416). Sets a time base's control, gPTP, limits, step, back limit, link delay and trim. -/
  | tbSet (p : Packet)
  /-- TB_READ (R416). Returns a consistent time-base reading with its status, rate, offset and grandmaster. -/
  | tbRead (p : Packet)
  /-- TB_ADJUST_SET (R398). TB_ADJUST KIND 0: schedules a step of a time base to a given value. -/
  | tbAdjustSet (p : Packet)
  /-- TB_ADJUST_OFFSET (R398). TB_ADJUST KIND 1: schedules a step of a time base by a signed offset. -/
  | tbAdjustOffset (p : Packet)
  /-- TB_PAIR (R400). Stages pairing of a primary time base with a partner. -/
  | tbPair (p : Packet)
  /-- PPS_SET (R416). Sets the PPS input and output registers. -/
  | ppsSet (p : Packet)
  /-- TS_READ (R416). Returns the PPS capture or an Ethernet transmit timestamp queue without consuming it. -/
  | tsRead (p : Packet)
  /-- TW_SET (R439). Sets a local or tunnelled two-wire controller's control register. -/
  | twSet (p : Packet)
  /-- TW_XFER (R420). Queues one two-wire transaction and replies when it ends. -/
  | twXfer (p : Packet)
  /-- TW_STATUS (R439). Returns a two-wire controller's, tunnel's or TWT0's registers. -/
  | twStatus (p : Packet)
  /-- TWT_SET (R430). Sets TWT0's window address and attention output. -/
  | twtSet (p : Packet)
  /-- LEVEL_SET (R442). Stages a performance level for a shed or the fabric. -/
  | levelSet (p : Packet)
  /-- DOMAIN_SET (R74). Stages switching a power domain on or off. -/
  | domainSet (p : Packet)
  /-- SLEEP_ENTER_LEAVE_IDLE (R444). SLEEP_ENTER KIND 0: ends Idle, or has no effect outside it. -/
  | sleepEnterLeaveIdle (p : Packet)
  /-- SLEEP_ENTER_IDLE (R444). SLEEP_ENTER KIND 1: enters Idle in CONFIG by gating clocks and dozing lanes. -/
  | sleepEnterIdle (p : Packet)
  /-- SLEEP_ENTER_HOLD (R445). SLEEP_ENTER KIND 2: enters HOLD_ENTRY and starts the entry towards Hold. -/
  | sleepEnterHold (p : Packet)
  /-- SLEEP_ENTER_STOW (R445). SLEEP_ENTER KIND 3: enters STOW_ENTRY and starts the entry towards Stow. -/
  | sleepEnterStow (p : Packet)
  /-- SLEEP_ENTER_OFF (R449). SLEEP_ENTER KIND 4: quiesces as for Stow and ends with every rail removed. -/
  | sleepEnterOff (p : Packet)
  /-- PAD_RELEASE (R451). Releases held pad groups whose owning domains are ready. -/
  | padRelease (p : Packet)
  /-- WAKE_SET (R461). Writes the wake enables, wake lanes, RTC alarm and resume control. -/
  | wakeSet (p : Packet)
  /-- POWER_STATUS (R461). Returns the power block registers. -/
  | powerStatus (p : Packet)
  /-- CRED_OPEN_STEP_A (R474). Draws a one-use 10 s nonce for the source. -/
  | credOpenStepA (p : Packet)
  /-- CRED_OPEN_STEP_B (R474). Verifies a signed nonce and grants an owner or operator handle. -/
  | credOpenStepB (p : Packet)
  /-- CRED_CLOSE (R475). Closes a credential handle. -/
  | credClose (p : Packet)
  /-- ATTEST (R477). Returns an attestation report signed by the device key. -/
  | attest (p : Packet)
  /-- CAMERA_AUTH (R159). Runs an authentication exchange with a lane's partner and returns the result. -/
  | cameraAuth (p : Packet)
  /-- KEY_REVOKE_OWNER (R473). KEY_REVOKE KIND 0: revokes an owner key slot. -/
  | keyRevokeOwner (p : Packet)
  /-- KEY_REVOKE_VENDOR (R473). KEY_REVOKE KIND 1: revokes the vendor key. -/
  | keyRevokeVendor (p : Packet)
  /-- KEY_REVOKE_SVN (R473). KEY_REVOKE KIND 2: raises the SVN floor of an image type. -/
  | keyRevokeSvn (p : Packet)
  /-- DEBUG_UNLOCK (R479). Opens the named JTAG debug scopes. -/
  | debugUnlock (p : Packet)
  /-- TRNG_READ (R478). Returns words drawn from the DRBG. -/
  | trngRead (p : Packet)
  /-- OTP_READ (R490). Returns the readable OTP fields. -/
  | otpRead (p : Packet)
  /-- FW_LOAD (R485). Verifies firmware in the heap and starts it from STANDALONE or writes it to flash in CONFIG. -/
  | fwLoad (p : Packet)
  /-- PATTERN_SET (R509). Sets a test set's pattern generator, checker and user pattern. -/
  | patternSet (p : Packet)
  /-- PATTERN_CHECK (R510). Returns the checker counters, optionally clearing them. -/
  | patternCheck (p : Packet)
  /-- LOOPBACK_OFF (R512). LOOPBACK_SET KIND 0: ends a loopback at once. -/
  | loopbackOff (p : Packet)
  /-- LOOPBACK_SERIAL (R512). LOOPBACK_SET KIND SERIAL: loops TXm to RX(2m) next to the balls. -/
  | loopbackSerial (p : Packet)
  /-- LOOPBACK_DIGITAL (R512). LOOPBACK_SET KIND DIGITAL: loops TXm to RX(2m) ahead of the serialiser. -/
  | loopbackDigital (p : Packet)
  /-- EYE_SCAN (R514). Starts an offset-sampler eye scan of a receive lane. -/
  | eyeScan (p : Packet)
  /-- ERR_INJECT_STOP (R513). ERR_INJECT KIND 0: stops a running injection. -/
  | errInjectStop (p : Packet)
  /-- ERR_INJECT_SINGLE (R513). ERR_INJECT SINGLE: inverts the next forward bit. -/
  | errInjectSingle (p : Packet)
  /-- ERR_INJECT_RATE (R513). ERR_INJECT RATE: inverts one bit every 2^RATE_EXP bits for COUNT errors or for ever. -/
  | errInjectRate (p : Packet)
  /-- ERR_INJECT_BURST (R513). ERR_INJECT BURST: inverts LEN consecutive bits. -/
  | errInjectBurst (p : Packet)
  /-- MEMTEST_MARCH (R516). MEMTEST_RUN ALGO 0: runs March C- on a unit and zeroes it. -/
  | memtestMarch (p : Packet)
  /-- MEMTEST_READ (R517). MEMTEST_RUN ALGO 1: reads a frame-store range and counts ECC results. -/
  | memtestRead (p : Packet)
  /-- DIAG_READ (R520). Returns the diagnostic data of a selector. -/
  | diagRead (p : Packet)
  /-- COMMAND_UNKNOWN (R83). A command with an undefined opcode replies UNKNOWN. -/
  | commandUnknown (opcode : BitVec 16) (p : Packet)
  /-- CHAIN_TIMEOUT (R87). A chain's next command missing for 10 ms discards the held commands. -/
  | chainTimeout (src : Source)
  /-- REGISTER_WRITE (R41). A BAR0 write to a register without its own row, staged for ST registers or written directly. -/
  | registerWrite (off size : Nat) (full : Bool) (lo hi : Word)
  /-- TICK_COUNT_LO (R48). Reading TICK_COUNT_LO latches the high tick bits. -/
  | tickCountLo (wide : Bool)
  /-- TB_NS (R392). Reading TBn_NS latches the seconds registers. -/
  | tbNs (n : Fin 4) (wide : Bool)
  /-- PPS_IN_NS (R530). Reading PPS_IN_NS latches the rest of the PPS capture. -/
  | ppsInNs (wide : Bool)
  /-- PWR_RTC_LO (R530). Reading PWR_RTC_LO latches PWR_RTC_HI. -/
  | pwrRtcLo (wide : Bool)
  /-- TEST_BITS_LO (R530). Reading TEST_x_BITS_LO latches the high bit count. -/
  | testBitsLo (x : Fin 48) (wide : Bool)
  /-- CMD_SQ_TAIL (R89). Writing a submission tail rings the doorbell of a command ring pair. -/
  | cmdSqTail (n : Fin 4) (tail : BitVec 17) (words : List Word) (ok : Bool)
  /-- CMD_RQ_HEAD (R90). Writing a reply head frees reply ring room, letting a stalled pair go on. -/
  | cmdRqHead (n : Fin 4) (head : BitVec 17) (ok : Bool)
  /-- CMD_Q_EN (R91). Writing EN enables a ring pair with its pointers zeroed, or disables it. -/
  | cmdQEn (n : Fin 4) (ctrl : Word)
  /-- DMA_C_DOORBELL (R378). Writing DMA_c_DOORBELL starts, resumes or is ignored by a channel according to its state. -/
  | dmaCDoorbell (c : Fin 16) (v : Word)
  /-- DMA_C_ABORT (R384). Writing DMA_c_ABORT aborts a channel according to its state. -/
  | dmaCAbort (c : Fin 16) (v : Word)
  /-- ALARM_ACK (R353). Writing HEADn_ALARM.ACK clears a latched alarm when no condition cause is held. -/
  | alarmAck (n : Fin 4) (v : Word)
  /-- PCHK_CLEAR (R510). Writing PCHK.CLEAR zeroes the checker's bit and error counts. -/
  | pchkClear (x : Fin 48) (v : Word)
  /-- ETH_MDIO_GO (R405). Writing GO starts one MDIO operation unless one is busy. -/
  | ethMdioGo (v : Word)
  /-- MDIO_COMPLETE (R405). An MDIO operation ends, clearing BUSY and giving the read result or ERR. -/
  | mdioComplete (data : Option (BitVec 16))
  /-- BAR2_READ (R367). A host read of the frame store through the BAR2 window. -/
  | bar2Read (off len : Nat)
  /-- BAR2_WRITE (R367). A host write to the frame store through the BAR2 window. -/
  | bar2Write (off : Nat) (data : List (Option Byte))
  /-- HOST_BRIDGE_RESET (R374). FLR, hot reset, link-down or PERST# resets the host bridge only. -/
  | hostBridgeReset (kind : HbReset)
  /-- PCIE_D3HOT (R361). The host puts the function in D3hot or back in D0. -/
  | pcieD3hot (d3 : Bool)
  /-- DMA_BACKOFF (R371). An inbound request waiting over 256 ns makes all DMA engines back off. -/
  | dmaBackoff (waiting : Bool)
  /-- DMA_TIMER_START (R378). A TIMER channel's period expires and starts or resumes the channel. -/
  | dmaTimerStart (c : Fin 16)
  /-- DESCRIPTOR_FETCH (R380). A descriptor's 32 bytes arrive and the engine starts its lines. -/
  | descriptorFetch (c : Fin 16) (words : List Word) (ok : Bool)
  /-- DESCRIPTOR_DONE (R381). A descriptor's data is finished and the engine fetches NEXT or re-reads the tail word. -/
  | descriptorDone (c : Fin 16) (data : List Byte) (ok : Bool) (moved : Nat)
  /-- TAIL_REREAD (R381). A re-read of a tail's word 0 returns and the channel parks or moves on. -/
  | tailReread (c : Fin 16) (w : Option Word)
  /-- READBACK_COMPLETE (R383). The completion read-back returns and the write-back and message follow. -/
  | readbackComplete (c : Fin 16) (ok : Bool)
  /-- TICK (R64). At a tick instant the groom applies the set, launches kernels, starts head frames and sends triggers. -/
  | tick
  /-- SEAL_WINDOW_OPEN (R57). SEAL_US before a tick, the groom freezes the set and starts the consistency check. -/
  | sealWindowOpen
  /-- CONSISTENCY_CHECK_DONE (R58). The consistency check finishes, passing or recording the first failure. -/
  | consistencyCheckDone
  /-- SHED_CLOCK_RESTART (R72). A shed's clocks restart at the new level and its tick kernels launch. -/
  | shedClockRestart (h : Fin 16)
  /-- DONE_REPORT (R66). A yard, stall, remap engine or head sends its done report after its writes are acknowledged. -/
  | doneReport (u : BitVec 16)
  /-- KERNEL_LOAD_COMPLETE (R218). A kernel copy into a stall completes and the stall becomes LOADED. -/
  | kernelLoadComplete (n : Fin 256)
  /-- NOP (R204). Stall slot opcode 0 does nothing. -/
  | opNop (st : Fin 256) (raw : BitVec 128)
  /-- ADD (R204). Scalar add. -/
  | opAdd (st : Fin 256) (raw : BitVec 128)
  /-- SUB (R204). Scalar subtract. -/
  | opSub (st : Fin 256) (raw : BitVec 128)
  /-- AND (R204). Scalar bitwise and. -/
  | opAnd (st : Fin 256) (raw : BitVec 128)
  /-- OR (R204). Scalar bitwise or. -/
  | opOr (st : Fin 256) (raw : BitVec 128)
  /-- XOR (R204). Scalar bitwise exclusive or. -/
  | opXor (st : Fin 256) (raw : BitVec 128)
  /-- SHL (R204). Scalar shift left by register. -/
  | opShl (st : Fin 256) (raw : BitVec 128)
  /-- SHR (R204). Scalar logical shift right by register. -/
  | opShr (st : Fin 256) (raw : BitVec 128)
  /-- SRA (R204). Scalar arithmetic shift right by register. -/
  | opSra (st : Fin 256) (raw : BitVec 128)
  /-- MUL (R204). Scalar multiply, low 32 bits. -/
  | opMul (st : Fin 256) (raw : BitVec 128)
  /-- MIN (R204). Scalar signed minimum. -/
  | opMin (st : Fin 256) (raw : BitVec 128)
  /-- MAX (R204). Scalar signed maximum. -/
  | opMax (st : Fin 256) (raw : BitVec 128)
  /-- SLT (R204). Scalar signed set-less-than. -/
  | opSlt (st : Fin 256) (raw : BitVec 128)
  /-- SLTU (R204). Scalar unsigned set-less-than. -/
  | opSltu (st : Fin 256) (raw : BitVec 128)
  /-- ADDI (R204). Scalar add immediate. -/
  | opAddi (st : Fin 256) (raw : BitVec 128)
  /-- ANDI (R204). Scalar and immediate. -/
  | opAndi (st : Fin 256) (raw : BitVec 128)
  /-- ORI (R204). Scalar or immediate. -/
  | opOri (st : Fin 256) (raw : BitVec 128)
  /-- SHLI (R204). Scalar shift left immediate. -/
  | opShli (st : Fin 256) (raw : BitVec 128)
  /-- SHRI (R204). Scalar logical shift right immediate. -/
  | opShri (st : Fin 256) (raw : BitVec 128)
  /-- SRAI (R204). Scalar arithmetic shift right immediate. -/
  | opSrai (st : Fin 256) (raw : BitVec 128)
  /-- MOVI (R202). Loads a 32-bit immediate in a long-immediate bundle. -/
  | opMovi (st : Fin 256) (raw : BitVec 128)
  /-- BEZ (R204). Branch if zero. -/
  | opBez (st : Fin 256) (raw : BitVec 128)
  /-- BNZ (R204). Branch if not zero. -/
  | opBnz (st : Fin 256) (raw : BitVec 128)
  /-- BLTZ (R204). Branch if negative. -/
  | opBltz (st : Fin 256) (raw : BitVec 128)
  /-- JMP (R204). Relative jump. -/
  | opJmp (st : Fin 256) (raw : BitVec 128)
  /-- JAL (R204). Jump and link. -/
  | opJal (st : Fin 256) (raw : BitVec 128)
  /-- JR (R204). Jump to register. -/
  | opJr (st : Fin 256) (raw : BitVec 128)
  /-- LOOP (R204). Sets up a hardware loop over following bundles. -/
  | opLoop (st : Fin 256) (raw : BitVec 128)
  /-- GETP (R204). Reads a parameter word. -/
  | opGetp (st : Fin 256) (raw : BitVec 128)
  /-- GETID (R205). Reads an identity selector. -/
  | opGetid (st : Fin 256) (raw : BitVec 128)
  /-- ENDT (R206). Ends a TICK-mode kernel's tick work after draining its writes. -/
  | opEndt (st : Fin 256) (raw : BitVec 128)
  /-- ENDL (R223). Ends one output line of a LINE-mode kernel, which then waits for the next input line. -/
  | opEndl (st : Fin 256) (raw : BitVec 128)
  /-- TRAP (R207). Stops the stall with fault TRAP and a code. -/
  | opTrap (st : Fin 256) (raw : BitVec 128)
  /-- FENCE (R204). Waits until earlier stores, pushes and transfers are acknowledged. -/
  | opFence (st : Fin 256) (raw : BitVec 128)
  /-- VADD (R204). Vector element-wise add. -/
  | opVadd (st : Fin 256) (raw : BitVec 128)
  /-- VSUB (R204). Vector element-wise subtract. -/
  | opVsub (st : Fin 256) (raw : BitVec 128)
  /-- VMIN (R204). Vector element-wise minimum. -/
  | opVmin (st : Fin 256) (raw : BitVec 128)
  /-- VMAX (R204). Vector element-wise maximum. -/
  | opVmax (st : Fin 256) (raw : BitVec 128)
  /-- VABSD (R204). Vector absolute difference. -/
  | opVabsd (st : Fin 256) (raw : BitVec 128)
  /-- VAND (R204). Vector bitwise and. -/
  | opVand (st : Fin 256) (raw : BitVec 128)
  /-- VOR (R204). Vector bitwise or. -/
  | opVor (st : Fin 256) (raw : BitVec 128)
  /-- VXOR (R204). Vector bitwise exclusive or. -/
  | opVxor (st : Fin 256) (raw : BitVec 128)
  /-- VSHL (R204). Vector shift left. -/
  | opVshl (st : Fin 256) (raw : BitVec 128)
  /-- VSHR (R201). Vector shift right with narrowing. -/
  | opVshr (st : Fin 256) (raw : BitVec 128)
  /-- VCLAMP (R204). Vector clamp between two vectors. -/
  | opVclamp (st : Fin 256) (raw : BitVec 128)
  /-- VSPLAT (R204). Broadcasts a scalar to every lane. -/
  | opVsplat (st : Fin 256) (raw : BitVec 128)
  /-- VMUL (R201). Vector multiply with narrowing. -/
  | opVmul (st : Fin 256) (raw : BitVec 128)
  /-- VMAC (R204). Vector multiply-accumulate. -/
  | opVmac (st : Fin 256) (raw : BitVec 128)
  /-- VMACS (R204). Vector multiply by scalar and accumulate. -/
  | opVmacs (st : Fin 256) (raw : BitVec 128)
  /-- VMSU (R204). Vector multiply-subtract from accumulator. -/
  | opVmsu (st : Fin 256) (raw : BitVec 128)
  /-- VACLR (R204). Clears an accumulator. -/
  | opVaclr (st : Fin 256) (raw : BitVec 128)
  /-- VAREAD (R201). Reads an accumulator to a vector with narrowing. -/
  | opVaread (st : Fin 256) (raw : BitVec 128)
  /-- VAWRITE (R204). Writes a shifted vector into an accumulator. -/
  | opVawrite (st : Fin 256) (raw : BitVec 128)
  /-- VSLIDE (R204). Slides lanes across a register pair. -/
  | opVslide (st : Fin 256) (raw : BitVec 128)
  /-- VPERM (R204). Permutes lanes of a register pair. -/
  | opVperm (st : Fin 256) (raw : BitVec 128)
  /-- VRSUM (R204). Sums vector lanes into accumulator lane 0. -/
  | opVrsum (st : Fin 256) (raw : BitVec 128)
  /-- PCMPEQ (R204). Lane-wise equal compare into a predicate. -/
  | opPcmpeq (st : Fin 256) (raw : BitVec 128)
  /-- PCMPLT (R204). Lane-wise less-than compare into a predicate. -/
  | opPcmplt (st : Fin 256) (raw : BitVec 128)
  /-- PCMPLE (R204). Lane-wise less-or-equal compare into a predicate. -/
  | opPcmple (st : Fin 256) (raw : BitVec 128)
  /-- PAND (R204). Predicate and. -/
  | opPand (st : Fin 256) (raw : BitVec 128)
  /-- POR (R204). Predicate or. -/
  | opPor (st : Fin 256) (raw : BitVec 128)
  /-- PNOT (R204). Predicate not. -/
  | opPnot (st : Fin 256) (raw : BitVec 128)
  /-- VSEL (R204). Selects lanes by predicate. -/
  | opVsel (st : Fin 256) (raw : BitVec 128)
  /-- VLD (R204). Loads 64 bytes into a vector. -/
  | opVld (st : Fin 256) (raw : BitVec 128)
  /-- VST (R204). Stores a vector's 64 bytes under a predicate. -/
  | opVst (st : Fin 256) (raw : BitVec 128)
  /-- VLDB (R204). Loads 32 bytes zero-extended into lanes. -/
  | opVldb (st : Fin 256) (raw : BitVec 128)
  /-- VSTB (R204). Stores saturated low bytes of each lane. -/
  | opVstb (st : Fin 256) (raw : BitVec 128)
  /-- VGATHER (R204). Gathers 16-bit words from the stall store by lane index. -/
  | opVgather (st : Fin 256) (raw : BitVec 128)
  /-- SLD (R204). Loads a 32-bit scalar word. -/
  | opSld (st : Fin 256) (raw : BitVec 128)
  /-- SST (R204). Stores a 32-bit scalar word. -/
  | opSst (st : Fin 256) (raw : BitVec 128)
  /-- QPUSH (R214). Pushes a vector to an outbound queue port, spending one credit. -/
  | opQpush (st : Fin 256) (raw : BitVec 128)
  /-- QEND (R214). Closes the packet on an outbound port. -/
  | opQend (st : Fin 256) (raw : BitVec 128)
  /-- QCRED (R214). Reads an outbound port's credits and FLUSHED bit. -/
  | opQcred (st : Fin 256) (raw : BitVec 128)
  /-- QWAIT (R214). Waits for a complete packet on an inbound port. -/
  | opQwait (st : Fin 256) (raw : BitVec 128)
  /-- QPOP (R214). Takes the next vector of the current inbound packet. -/
  | opQpop (st : Fin 256) (raw : BitVec 128)
  /-- QREL (R214). Releases the inbound packet and returns its credits. -/
  | opQrel (st : Fin 256) (raw : BitVec 128)
  /-- HGET (R204). Starts an asynchronous copy from hayloft to stall store. -/
  | opHget (st : Fin 256) (raw : BitVec 128)
  /-- HPUT (R204). Starts an asynchronous copy from stall store to hayloft. -/
  | opHput (st : Fin 256) (raw : BitVec 128)
  /-- HWAIT (R204). Waits until at most OFF transfers remain outstanding. -/
  | opHwait (st : Fin 256) (raw : BitVec 128)
  /-- QUEUE_CREDIT_RETURN (R214). Released credits reach the producer some cycles after QREL. -/
  | queueCreditReturn (n : Fin 256) (port : Fin 4)
  /-- HAYLOFT_TRANSFER_COMPLETE (R204). An HGET or HPUT transfer completes. -/
  | hayloftTransferComplete (n : Fin 256)
  /-- INPUT_LINE_ARRIVAL (R223). The next input line reaches a direct-path input ring and the waiting pair continues. -/
  | inputLineArrival (n : Fin 4)
  /-- LINE_RUNAWAY (R209). A LINE-mode stall runs 4 line periods without ENDL and faults RUNAWAY. -/
  | lineRunaway (n : Fin 256)
  /-- MESH_LOAD_COMPLETE (R267). A mesh copy into a slot's inactive buffer completes and MESH_LOAD replies. -/
  | meshLoadComplete (m : Fin 64) (ok : Bool)
  /-- PARTNER_TONE_DETECT (R119). The partner's detect tone seen in two bursts takes the lane from detect to train. -/
  | partnerToneDetect (x : Fin 48)
  /-- TRAIN_COMPLETE (R122). Training ends with TS2 and enough eye, or falls back to a lower rate. -/
  | trainComplete (x : Fin 48) (r : TrainResult)
  /-- TRAIN_TIMEOUT (R119). A training attempt lasting 20 ms returns the lane to detect. -/
  | trainTimeout (x : Fin 48)
  /-- DETECT_HOLDOFF_EXPIRY (R119). The 100 ms wait after LANE_TRAIN_FAIL ends and the lane answers tones again. -/
  | detectHoldoffExpiry (x : Fin 48)
  /-- ALIGN_LOCK (R119). Two alignment codewords 64 apart take the lane, or bonded pair, to up. -/
  | alignLock (x : Fin 48) (skewNs : Nat)
  /-- ALIGN_TIMEOUT (R119). No alignment lock within 1 ms returns the lane to train. -/
  | alignTimeout (x : Fin 48)
  /-- ALIGNMENT_LOSS (R119). Four missing expected alignment codewords take an up lane to align. -/
  | alignmentLoss (x : Fin 48)
  /-- EYE_LOW_TIMEOUT (R119). Eye index below DROP_MIN for DROP_MS retrains or raises LANE_EYE_LOW. -/
  | eyeLowTimeout (x : Fin 48)
  /-- LOSS_OF_SIGNAL (R119). Forward amplitude below threshold for 1 µs drops the lane to detect. -/
  | lossOfSignal (x : Fin 48)
  /-- KEEPALIVE_TIMEOUT (R119). No back-channel keep-alive for 1 ms in deep drops the lane to detect. -/
  | keepaliveTimeout (x : Fin 48)
  /-- PM_ACK_TIMEOUT (R124). No PM acknowledgement within 100 µs causes a retry or LANE_PM_NAK. -/
  | pmAckTimeout (x : Fin 48)
  /-- DEEP_EXIT_COMPLETE (R126). Deep exit restores equalisation and the lane enters align or train. -/
  | deepExitComplete (x : Fin 48) (eye : EyeMeas)
  /-- CODEWORD (R138). A forward codeword is decoded, unscrambled and split into cells, or discarded as uncorrectable. -/
  | codeword (x : Fin 32) (raw : List Byte)
  /-- TRAIN (R121). A training packet from the forward receiver carries the requested preset, eye index, flags (READY, bond
  capable, role) and rates (Table LK-5). -/
  | train (x : Fin 48) (h : MsgHdr) (req eye flags rates : Byte)
  /-- EYE (R117). A partner receiver reports its eye index on a transmit lane. -/
  | eye (x : Fin 48) (h : MsgHdr) (eye hSteps vSteps : Byte)
  /-- PM (R124). A power-management request or acknowledgement for doze or deep. -/
  | pm (x : Fin 48) (h : MsgHdr) (code : Byte)
  /-- KEEPALIVE (R151). A keep-alive in deep. -/
  | keepalive (x : Fin 48) (h : MsgHdr)
  /-- CAL_REQ (R152). A calibration request received by a chained hub transmit lane, answered with CAL_RESP. -/
  | calReq (x : Fin 48) (h : MsgHdr) (id : Byte)
  /-- CAL_RESP (R152). A calibration response ends a CAL exchange with the partner's turnaround. -/
  | calResp (x : Fin 48) (h : MsgHdr) (id : Byte) (turn : Word) (t : Nat)
  /-- CAL_EXCHANGE_TIMEOUT (R152). A CAL exchange unanswered within 1 ms is left out. -/
  | calExchangeTimeout (x : Fin 48)
  /-- TRIGGER (R162). A TRIGGER received, relayed with DELAY_NS rewritten or answered NAK. -/
  | trigger (x : Fin 48) (h : MsgHdr) (out pulse : Byte) (tick : BitVec 16) (delay : Word) (held : Nat)
  /-- TRIG_ACK (R154). A camera acknowledges a trigger pulse. -/
  | trigAck (x : Fin 48) (h : MsgHdr) (tick : BitVec 16)
  /-- TRIG_ACK_TIMEOUT (R154). No TRIG_ACK within 100 µs after fire raises TRIG_MISS. -/
  | trigAckTimeout (x : Fin 48) (tick : BitVec 16)
  /-- I2C_REQ (R161). An I2C_REQ received on a chained transmit lane is answered NAK. -/
  | i2cReq (x : Fin 48) (h : MsgHdr) (body : List Byte)
  /-- I2C_RESP (R429). A serialiser's response ends or retries a tunnelled transfer. -/
  | i2cResp (x : Fin 32) (h : MsgHdr) (status idx : Byte) (data : List Byte)
  /-- TUNNEL_TIMEOUT (R429). No I2C_RESP within the limit ends the tunnelled transfer. -/
  | tunnelTimeout (x : Fin 32)
  /-- GPIO (R163). GPIO levels from the partner update LINK_x_GPIO.IN. -/
  | gpio (x : Fin 48) (h : MsgHdr) (levels mask : Byte)
  /-- GPIO_LEVEL_CHANGE (R163). A driven GPIO level change is sent to the partner. -/
  | gpioLevelChange (x : Fin 48)
  /-- ROLL_CALL (R161). A ROLL_CALL received by a chained hub transmit lane, answered with IDENT. -/
  | rollCall (x : Fin 48) (h : MsgHdr)
  /-- ROLL_CALL_PERIOD (R155). A roll-call schedule boundary calls every enabled up lane. -/
  | rollCallPeriod
  /-- IDENT (R155). A partner's IDENT is compared and recorded, advancing the partner state. -/
  | ident (x : Fin 48) (h : MsgHdr) (body : List Byte)
  /-- IDENT_TIMEOUT (R155). No IDENT within 1 ms counts a miss, losing the partner at MISS_LIMIT. -/
  | identTimeout (x : Fin 48)
  /-- AUTH_CHAL (R161). An authentication challenge received by a chained transmit lane is answered with the device key. -/
  | authChal (x : Fin 48) (h : MsgHdr) (nonce : List Byte)
  /-- AUTH_RESP (R159). The partner's response is checked against the allow list and signature. -/
  | authResp (x : Fin 48) (h : MsgHdr) (key sig : List Byte)
  /-- AUTH_TIMEOUT (R159). No AUTH_RESP within 50 ms ends the exchange as a timeout. -/
  | authTimeout (x : Fin 48)
  /-- ECHO (R350). A sink's echo is matched and compared with the kept region signature. -/
  | echo (x : Fin 48) (h : MsgHdr) (stream region : Byte) (counter crc : Word)
  /-- FRAME_STATUS (R189). A received FRAME_STATUS is written into the waiting context's CLOSE record. -/
  | frameStatus (x : Fin 48) (h : MsgHdr) (body : List Byte)
  /-- FRAME_STATUS_WAIT_TIMEOUT (R189). No FRAME_STATUS within 100 µs of close writes the CLOSE record without it. -/
  | frameStatusWaitTimeout (g : Fin 8) (c : Fin 16)
  /-- NAK (R150). A partner refuses a message type; a NAKed AUTH_CHAL fails the exchange. -/
  | nak (x : Fin 48) (h : MsgHdr) (mtype : Byte)
  /-- PARTNER_RESUME_TIMEOUT (R459). A partner not READY 1000 ms after resume is handled as lost. -/
  | partnerResumeTimeout (x : Fin 48)
  /-- FRAME_START (R172). A frame-start packet, its header corrected or not, opens a frame with its SOF stamp, tag and target slot. -/
  | frameStart (x : Fin 32) (head : PktHead) (frameNum : BitVec 16)
  /-- PIXEL_LINE (R170). A matched pixel line is unpacked, cropped, decimated and written to the target. -/
  | pixelLine (x : Fin 32) (head : PktHead) (dt : BitVec 6) (data : List Byte) (dmg : PktDamage)
  /-- EMBEDDED_DATA (R171). A matched embedded-data packet is kept in the slot header or counted. -/
  | embeddedData (x : Fin 32) (head : PktHead) (data : List Byte) (dmg : PktDamage)
  /-- FRAME_END (R175). A frame-end packet closes the frame and writes its CLOSE record. -/
  | frameEnd (x : Fin 32) (head : PktHead) (frameNum : BitVec 16)
  /-- CSI2_PACKET (R169). Another CSI-2 packet is discarded and counted as its type requires. -/
  | csi2Packet (x : Fin 32) (stream dt : BitVec 6) (corrected : Bool) (dmg : PktDamage)
  /-- FRAME_OPEN_TIMEOUT (R175). A frame open longer than OPEN_MS closes with cause timeout. -/
  | frameOpenTimeout (g : Fin 8) (c : Fin 16)
  /-- HDR_WINDOW_EXPIRY (R187). WIN_US after an instance opens, it closes if started members have closed. -/
  | hdrWindowExpiry (g k : Fin 8)
  /-- CREDIT_RETURN (R191). A ring consumer returns line or record credits to the gate or fill. -/
  | creditReturn (r : RingRef) (lines recs : Nat)
  /-- SCRUB_STEP (R311). The scrubber reads the next granule and writes back a correction. -/
  | scrubStep (r : ScrubRead) (overtaken : Bool)
  /-- FS_MONITOR_WINDOW (R309). A window ends and pseudo-channel imbalance is evaluated. -/
  | fsMonitorWindow (counts : List Nat)
  /-- LINE_HANDOVER (R329). A composed canvas line is handed to its lanes once its pacing time comes. -/
  | lineHandover (n : Fin 4)
  /-- ECHO_DEADLINE (R350). An awaited echo's deadline passes, recording MISSING or completing a passing frame. -/
  | echoDeadline (n : Fin 4) (r : Fin 16) (counter : Word)
  /-- DIRECT_FRAME_TIMEOUT (R341). No SOF within FRAME_TIMEOUT_US holds NOSOURCE and may start fill frames. -/
  | directFrameTimeout (n : Fin 4)
  /-- COMMAND_FRAME (R92). An EtherType 0x88B5 command frame is accepted, replayed or discarded. -/
  | commandFrame (port : Fin 2) (f : EthFrame)
  /-- ETHERNET_FRAME (R403). A received Ethernet frame is filtered by address and EtherType. -/
  | ethernetFrame (port : Fin 2) (f : EthFrame)
  /-- SYNC (R409). A gPTP Sync is received and stamped. -/
  | sync (port : Fin 2) (domain : BitVec 8) (seq : BitVec 16) (twoStep : Bool) (origin : PtpTime) (corr : Int)
  /-- FOLLOW_UP (R395). A Follow_Up completes a measurement that updates the time base servo. -/
  | followUp (port : Fin 2) (domain : BitVec 8) (seq : BitVec 16) (origin : PtpTime) (corr : Int)
  /-- PDELAY_REQ (R411). A Pdelay_Req is answered. -/
  | pdelayReq (port : Fin 2) (domain : BitVec 8) (seq : BitVec 16) (sender : BitVec 80)
  /-- PDELAY_RESP (R411). A Pdelay_Resp contributes to the link delay measurement. -/
  | pdelayResp (port : Fin 2) (domain : BitVec 8) (seq : BitVec 16) (t2 : PtpTime)
  /-- PDELAY_RESP_FOLLOW_UP (R411). A Pdelay_Resp_Follow_Up completes the link delay measurement. -/
  | pdelayRespFollowUp (port : Fin 2) (domain : BitVec 8) (seq : BitVec 16) (t3 : PtpTime)
  /-- ANNOUNCE (R410). An Announce feeds the BMCA and grandmaster identity. -/
  | announce (port : Fin 2) (domain : BitVec 8) (a : AnnounceMsg)
  /-- SIGNALING (R409). A Signaling message may request new message intervals. -/
  | signaling (port : Fin 2) (domain : BitVec 8) (syncLog annLog linkLog : Int)
  /-- PDELAY_TIMER (R411). Every 1 s the instance sends Pdelay_Req. -/
  | pdelayTimer (n : Fin 4)
  /-- SYNC_TIMER (R410). As master, the instance sends Sync and Follow_Up every 2^SYNC_LOG s. -/
  | syncTimer (n : Fin 4)
  /-- ANNOUNCE_TIMER (R410). As master, the instance sends Announce every 1 s. -/
  | announceTimer (n : Fin 4)
  /-- TX_TIMESTAMP (R408). A stamped frame's SFD stores an entry in the transmit timestamp queue. -/
  | txTimestamp (port : Fin 2) (id : BitVec 16) (n : Fin 4)
  /-- ETH_LINK_CHANGE (R402). A port's link goes up or down. -/
  | ethLinkChange (port : Fin 2) (up lock anDone : Bool)
  /-- RECEIPT_TIMEOUT (R399). No measurement within RECEIPT intervals enters HOLDOVER or switches to the partner. -/
  | receiptTimeout (n : Fin 4)
  /-- SLEW_COMPLETE (R395). REMAIN reaches 0 and the time base returns to LOCKED. -/
  | slewComplete (n : Fin 4)
  /-- STEP_APPLY (R396). A scheduled step applies at the tick or within 1 µs where no tick runs. -/
  | stepApply (n : Fin 4)
  /-- PPS_IN_EDGE (R412). A PPS_IN rising edge is captured and measured. -/
  | ppsInEdge
  /-- PPS_OUT_EDGE (R413). PPS_OUT rises when the source time base reaches PHASE_NS. -/
  | ppsOutEdge
  /-- PPS_OUT_FALL (R413). PPS_OUT falls after WIDTH_MS. -/
  | ppsOutFall
  /-- TW_TRANSFER_END (R420). A two-wire transaction ends and TW_XFER replies with its result. -/
  | twTransferEnd (n : Fin 4) (r : TwEnd)
  /-- BUS_FREE (R419). The bus becomes free and a waiting controller starts its transaction. -/
  | busFree (n : Fin 4)
  /-- STRETCH_TIMEOUT (R423). A clock stretch reaching STRETCH_MS ends the transfer. -/
  | stretchTimeout (n : Fin 4)
  /-- BUS_STUCK (R424). A line held low for STRETCH_MS puts the controller in STUCK. -/
  | busStuck (n : Fin 4)
  /-- STUCK_CLEAR (R424). Both lines high for 10 µs end STUCK. -/
  | stuckClear (n : Fin 4)
  /-- ATTENTION_REQUEST (R427). A target's SDA low with SCL high sets attention pending. -/
  | attentionRequest (n : Fin 4) (lowNs : Nat) (sclFell : Bool)
  /-- TWT0_PAGE_WRITE (R431). A write to address A+1 sets TWT0's page. -/
  | twt0PageWrite (data : List Byte)
  /-- TWT0_PAGE_READ (R431). A read from address A+1 returns the page. -/
  | twt0PageRead (len : Nat)
  /-- TWT0_WINDOW_WRITE (R431). A write to address A sets the pointer and writes window bytes. -/
  | twt0WindowWrite (data : List Byte)
  /-- TWT0_WINDOW_READ (R431). A read from address A returns window bytes at the pointer. -/
  | twt0WindowRead (len : Nat)
  /-- SUBMIT (R94). MBOX_CTRL SUBMIT hands page 0x01's command to the groom or is refused. -/
  | submit
  /-- DONE (R94). MBOX_CTRL DONE releases the reply and clears READY. -/
  | done
  /-- TWT_PROTOCOL_ERROR (R432). A misplaced START, repeated START or STOP at TWT0 discards the partial byte. -/
  | twtProtocolError
  /-- TWT_ATTENTION_OUT (R434). TWT0 calls the body controller for attention when a reply is ready and the bus idle. -/
  | twtAttentionOut
  /-- TWT_ADDRESS_MATCH (R435). In sleep, an address match at TWT0 raises a wake without acknowledging. -/
  | twtAddressMatch (addr : BitVec 7) (also : BitVec 5)
  /-- DOMAIN_DELAY_EXPIRY (R446). A domain's entry delay ends and it agrees, refuses or has its work abandoned. -/
  | domainDelayExpiry (d : Fin 53)
  /-- DOMAIN_AGREE (R446). A delaying domain becomes able to agree to the entry. -/
  | domainAgree (d : Fin 53)
  /-- ENTRY_COMPLETE (R448). After all domains agree, the groom signs, saves, replies and releases PWR_REQ. -/
  | entryComplete
  /-- WAKE_PIN (R452). The filtered WAKE pin edge wakes the hub or aborts an entry. -/
  | wakePin (also : BitVec 5)
  /-- RTC_ALARM (R452). The RTC reaching its alarm wakes the hub. -/
  | rtcAlarm (also : BitVec 5)
  /-- PPS_WAKE (R452). A PPS_IN rising edge wakes the hub. -/
  | ppsWake (also : BitVec 5)
  /-- LINK_TONE_WAKE (R452). A partner's detect tone on a named lane wakes the hub. -/
  | linkToneWake (x : Fin 48) (also : BitVec 5)
  /-- PWRGOOD (R455). PWRGOOD after a wake starts resume with the groom and security banks. -/
  | pwrgood (fails : List (Fin 60))
  /-- PWRGOOD_TIMEOUT (R454). PWRGOOD missing 100 ms after PWR_REQ releases the request. -/
  | pwrgoodTimeout
  /-- BANK_CHECK (R455). A domain becomes ready and its bank is re-signed and compared. -/
  | bankCheck (b : Fin 60) (ok : Bool)
  /-- RESUME_STEP (R456). When every bank is checked the hub releases pads, powers cameras and restarts the tick. -/
  | resumeStep
  /-- BANK_REBUILD_DONE (R457). A failed domain's configuration is rebuilt and applied. -/
  | bankRebuildDone (b : Fin 60)
  /-- BROWN_OUT (R552). PWRGOOD low over 10 µs stops every block and leads to a cold boot. -/
  | brownOut
  /-- THERMAL_TRIP (R553). A sensor reading 140 °C drives FAULT#, WITNESS_FAIL# and PWR_REQ low. -/
  | thermalTrip
  /-- TEMPERATURE_CHANGE (R498). The hottest sensor crosses a threshold, raising TEMP_WARN or TEMP_CRIT. -/
  | temperatureChange (temp : BitVec 9) (sensor : Fin 16)
  /-- COLD_POWER_UP (R550). Group 1 rails rise, the always-on reset releases and PWR_REQ is driven high. -/
  | coldPowerUp
  /-- COLD_BOOT (R467). PWRGOOD at a cold start runs the mask ROM boot steps. -/
  | coldBoot (balls : StrapLevels) (katOk : Bool)
  /-- FIRMWARE_START (R467). Verified groom firmware starts, trains DRAM, fills caches and applies the configuration image. -/
  | firmwareStart (trained : Bool)
  /-- GROOM_MISCOMPARE (R107). The groom cores disagree, FAULT# asserts and the groom restarts. -/
  | groomMiscompare
  /-- GROOM_RESTART_COMPLETE (R107). The groom restart ends and the hub continues, DEGRADED where running. -/
  | groomRestartComplete
  /-- TRNG_HEALTH_FAIL (R478). A TRNG health test fails and draws are refused. -/
  | trngHealthFail
  /-- TRNG_RETEST (R478). One second after a failure the TRNG is retested. -/
  | trngRetest (ok : Bool)
  /-- OTP_PROGRAM_COMPLETE (R472). An OTP key slot programming and read-back completes. -/
  | otpProgramComplete (ok : Bool)
  /-- FLASH_WRITE_COMPLETE (R483). A flash write of an image completes. -/
  | flashWriteComplete (ok : Bool)
  /-- PATTERN_LOCK (R510). A pattern checker locks to the received pattern. -/
  | patternLock (x : Fin 48) (inv : Bool)
  /-- PATTERN_LOST (R510). A checker loses lock and searches again. -/
  | patternLost (x : Fin 48) (bits errs : Nat)
  /-- EYE_SCAN_DONE (R515). An eye scan ends, complete or aborted, and replies. -/
  | eyeScanDone (grid : List Byte) (aborted : Bool)
  /-- INJECT_DONE (R513). An error injection completes or stops. -/
  | injectDone (x : Fin 48) (injected : Nat)
  /-- MEMTEST_DONE (R516). A memory test ends and replies with its result. -/
  | memtestDone (fails : Nat) (addr mask : Word) (corr uncorr : Nat)
  /-- BYPASS (R519). Boundary-scan BYPASS instruction. -/
  | bypass (dr : List Bool)
  /-- IDCODE (R519). Boundary-scan IDCODE instruction. -/
  | idcode
  /-- SAMPLE_PRELOAD (R519). Boundary-scan SAMPLE/PRELOAD instruction. -/
  | samplePreload (dr : List Bool)
  /-- EXTEST (R519). Boundary-scan EXTEST takes the pads and raises BSCAN_ACTIVE. -/
  | extest (dr : List Bool)
  /-- EXTEST_PULSE (R519). AC-coupled EXTEST_PULSE on lane balls. -/
  | extestPulse (dr : List Bool)
  /-- EXTEST_TRAIN (R519). AC-coupled EXTEST_TRAIN on lane balls. -/
  | extestTrain (dr : List Bool)
  /-- CLAMP (R519). Boundary-scan CLAMP instruction. -/
  | clamp (dr : List Bool)
  /-- HIGHZ (R519). Boundary-scan HIGHZ instruction. -/
  | highz (dr : List Bool)
  /-- TRST_ASSERT (R519). TRST# asserted returns the pads to the hub. -/
  | trstAssert
  /-- ABORT_BURST_DONE (R384). An aborting DMA channel finishes the burst, or on a coded channel the line, that was in progress and starts its completion read-back. -/
  | abortBurstDone (c : Fin 16) (moved : Nat) (data : List Byte)
  /-- COMPLETION_TIMEOUT (R386). A DMA host read request whose completion never arrives times out and stops the channel with ERR = HOST. -/
  | completionTimeout (c : Fin 16) (moved : Nat)
  /-- PCIE_LINK_UP (R375). The endpoint finishes link training after PERST# release, a reset or a resume, and HB_LINK shows speed and width. -/
  | pcieLinkUp (speed width : BitVec 3)
  /-- CREDENTIAL_EXPIRY (R475). A credential handle reaches its LIFE_S on the RTC, expires and frees its slot among the 8 open handles. -/
  | credentialExpiry (h : Word)
  /-- SUPPLY_LOSS (R551). The board or PMIC removes the rails, group 1 included, and the hub goes to Off with nothing retained. -/
  | supplyLoss
  /-- DETECT_TONE_BURST (R120). Every 100 µs in detect, each lane sends its 10 µs tone burst, which counts towards the two own bursts that detect-to-train requires. -/
  | detectToneBurst (x : Fin 48)
  /-- KEEPALIVE_SEND (R118). Every 100 µs in deep, the hub as forward receiver sends a back-channel keep-alive burst. -/
  | keepaliveSend (x : Fin 48)
  /-- EVENT_RECORD_WINDOW (R496). Where no tick runs, each 16 666 667 ns window ends and the per-source record counts restart. -/
  | eventRecordWindow
  deriving DecidableEq, Repr

end Sys2Proof
end

