-- ==== Sys2Proof/Decode.lean ====
section
/-! DEFINITION. Commands spelt by words of the opcode table. No row of the table gives bits: commands come as packets,
register accesses, packets on a line and steps of the part, not as instruction words. -/

namespace Sys2Proof

/-- The command that a table word spells: none, as no row of the table gives bits (log entry 24). -/
def decodeTableWord (_nbits _w : Nat) : Option Instr := none

end Sys2Proof
end

