-- ==== Sys2Proof/Machine/RegMap.lean ====
section
/-! DEFINITION. The register map (chapter 19): the address of every BAR0 register, the place of every
field, and one row of the register tables of spec/ for each register or array: page offset, strides and
counts, reset value (the Reset column, R532) and the masks of its ST, RW, W1C and WO fields (Table SC-3).
A field whose Reset cell is OTP, Straps, Fuses or Revision is computed on read and stands as 0 here. -/

namespace Sys2Proof.Machine

/-- A field of a 32-bit register: bits hi down to lo (R10). -/
structure Fld where
  hi : Nat
  lo : Nat
  deriving DecidableEq, Repr

/-- One row of a register table: a register or an array of registers (R539). -/
structure RegRow where
  /-- Offset of the first register within its page. -/
  off : Nat
  /-- Stride and count of each array dimension, the outermost first. -/
  dims : List (Nat × Nat)
  /-- Value after a cold boot (R532). -/
  rst : Nat
  /-- Bits with access ST. -/
  st : Nat
  /-- Bits with access RW. -/
  rw : Nat
  /-- Bits with access W1C. -/
  w1c : Nat
  /-- Bits with access WO. -/
  wo : Nat
  deriving DecidableEq, Repr

/-! Register addresses: BAR0 offset of each register (Table RM-1, R539). Lane-indexed arrays take the lane
number 0–31 for RX00–RX31 and 32–47 for TX00–TX15; layer 16 of a head is the background. -/

def R.TICK_CTRL : Nat := 0x20000
def R.TICK_PERIOD : Nat := 0x20004
def R.TICK_SEAL : Nat := 0x20008
def R.TICK_PHASE : Nat := 0x2000C
def R.TICK_COUNT_LO : Nat := 0x20010
def R.TICK_COUNT_HI : Nat := 0x20014
def R.COMMIT_STATUS : Nat := 0x20018
def R.COMMIT_TICK : Nat := 0x2001C
def R.COMMIT_FAIL_SRC : Nat := 0x20020
def R.STAGE_FILL : Nat := 0x20024
def R.DEFER_COUNT : Nat := 0x20028
def R.LATE_COUNT : Nat := 0x2002C
def R.HEAD_LATE_POLICY (n : Nat) : Nat := 0x20040 + 0x4 * n
def R.CMD_SQ_BASE_LO (n : Nat) : Nat := 0x30000 + 0x40 * n
def R.CMD_SQ_BASE_HI (n : Nat) : Nat := 0x30004 + 0x40 * n
def R.CMD_Q_CTRL (n : Nat) : Nat := 0x30008 + 0x40 * n
def R.CMD_SQ_TAIL (n : Nat) : Nat := 0x3000C + 0x40 * n
def R.CMD_SQ_HEAD (n : Nat) : Nat := 0x30010 + 0x40 * n
def R.CMD_RQ_BASE_LO (n : Nat) : Nat := 0x30014 + 0x40 * n
def R.CMD_RQ_BASE_HI (n : Nat) : Nat := 0x30018 + 0x40 * n
def R.CMD_RQ_HEAD (n : Nat) : Nat := 0x3001C + 0x40 * n
def R.CMD_RQ_TAIL (n : Nat) : Nat := 0x30020 + 0x40 * n
def R.CMD_RQ_WB_LO (n : Nat) : Nat := 0x30024 + 0x40 * n
def R.CMD_RQ_WB_HI (n : Nat) : Nat := 0x30028 + 0x40 * n
def R.CMD_Q_STATUS (n : Nat) : Nat := 0x3002C + 0x40 * n
def R.CMD_ETH_CTRL : Nat := 0x30100
def R.CMD_ETH_STATUS : Nat := 0x30104
def R.CMD_ETH_ALLOW_LO (n : Nat) : Nat := 0x30110 + 0x8 * n
def R.CMD_ETH_ALLOW_HI (n : Nat) : Nat := 0x30114 + 0x8 * n
def R.LANE_CTRL (n : Nat) : Nat := 0x100000 + 0x40 * n
def R.LANE_TXEQ (n : Nat) : Nat := 0x100004 + 0x40 * n
def R.LANE_RXEQ (n : Nat) : Nat := 0x100008 + 0x40 * n
def R.LANE_THRESH (n : Nat) : Nat := 0x10000C + 0x40 * n
def R.LANE_STATUS (n : Nat) : Nat := 0x100010 + 0x40 * n
def R.LANE_EYE (n : Nat) : Nat := 0x100014 + 0x40 * n
def R.LANE_DFE_LO (n : Nat) : Nat := 0x100018 + 0x40 * n
def R.LANE_DFE_HI (n : Nat) : Nat := 0x10001C + 0x40 * n
def R.LANE_RTT (n : Nat) : Nat := 0x100020 + 0x40 * n
def R.LANE_CNT (n : Nat) : Nat := 0x100024 + 0x40 * n
def R.LANE_REPEAT (n : Nat) : Nat := 0x100028 + 0x40 * n
def R.LINK_PARTNER (n : Nat) : Nat := 0x110000 + 0x40 * n
def R.LINK_PID (n : Nat) : Nat := 0x110004 + 0x40 * n
def R.LINK_PSN (n : Nat) : Nat := 0x110008 + 0x40 * n
def R.LINK_AUTH (n : Nat) : Nat := 0x11000C + 0x40 * n
def R.LINK_TRIG_CTRL (n : Nat) : Nat := 0x110010 + 0x40 * n
def R.LINK_TRIG_OFFSET (n : Nat) : Nat := 0x110014 + 0x40 * n
def R.LINK_TRIG_LAT (n : Nat) : Nat := 0x110018 + 0x40 * n
def R.LINK_TRIG_TRIM (n : Nat) : Nat := 0x11001C + 0x40 * n
def R.LINK_TRIG_CNT (n : Nat) : Nat := 0x110020 + 0x40 * n
def R.LINK_GPIO (n : Nat) : Nat := 0x110024 + 0x40 * n
def R.LINK_FEC_CORR (n : Nat) : Nat := 0x110028 + 0x40 * n
def R.LINK_FEC_UNCORR (n : Nat) : Nat := 0x11002C + 0x40 * n
def R.LINK_MSG (n : Nat) : Nat := 0x110030 + 0x40 * n
def R.LINK_ROLL : Nat := 0x110C00
def R.LINK_ROLL_RX_EN : Nat := 0x110C04
def R.LINK_ROLL_TX_EN : Nat := 0x110C08
def R.GATE_TIMEOUT (n : Nat) : Nat := 0x140000 + 0x400 * n
def R.GATE_HDR (n : Nat) : Nat := 0x140004 + 0x400 * n
def R.GATE_PKT (n : Nat) : Nat := 0x140008 + 0x400 * n
def R.GATE_DROP (n : Nat) : Nat := 0x14000C + 0x400 * n
def R.GATE_DROP2 (n : Nat) : Nat := 0x140010 + 0x400 * n
def R.GATE_LOAD (n : Nat) : Nat := 0x140014 + 0x400 * n
def R.GATE_DMG (n : Nat) : Nat := 0x140018 + 0x400 * n
def R.GATE_CREDIT (n : Nat) : Nat := 0x14001C + 0x400 * n
def R.GATE_CTRL (n k : Nat) : Nat := 0x140100 + 0x400 * n + 0x4 * k
def R.GATE_CROP_X (n k : Nat) : Nat := 0x140140 + 0x400 * n + 0x4 * k
def R.GATE_CROP_Y (n k : Nat) : Nat := 0x140180 + 0x400 * n + 0x4 * k
def R.GATE_DECTAG (n k : Nat) : Nat := 0x1401C0 + 0x400 * n + 0x4 * k
def R.GATE_TARGET (n k : Nat) : Nat := 0x140200 + 0x400 * n + 0x4 * k
def R.GATE_STATUS (n k : Nat) : Nat := 0x140240 + 0x400 * n + 0x4 * k
def R.GATE_CNT (n k : Nat) : Nat := 0x140280 + 0x400 * n + 0x4 * k
def R.STALL_STATUS (n : Nat) : Nat := 0x180000 + 0x8 * n
def R.STALL_PC (n : Nat) : Nat := 0x180004 + 0x8 * n
def R.SHED_STATUS (n : Nat) : Nat := 0x180800 + 0x8 * n
def R.SHED_CMP (n : Nat) : Nat := 0x180804 + 0x8 * n
def R.REMAP_STATUS (n : Nat) : Nat := 0x1C0000 + 0x40 * n
def R.REMAP_FRAMES (n : Nat) : Nat := 0x1C0004 + 0x40 * n
def R.REMAP_FILL (n : Nat) : Nat := 0x1C0008 + 0x40 * n
def R.REMAP_LOAD (n : Nat) : Nat := 0x1C000C + 0x40 * n
def R.REMAP_CYCLES (n : Nat) : Nat := 0x1C0010 + 0x40 * n
def R.MESH_STATUS (n : Nat) : Nat := 0x1C0400 + 0x4 * n
def R.MESH_BASE (n : Nat) : Nat := 0x1C0500 + 0x4 * n
def R.CODEC_PROF (n : Nat) : Nat := 0x1D0000 + 0x4 * n
def R.CODEC_STATUS (n : Nat) : Nat := 0x1D0100 + 0x10 * n
def R.CODEC_LINES (n : Nat) : Nat := 0x1D0104 + 0x10 * n
def R.CODEC_ESC (n : Nat) : Nat := 0x1D0108 + 0x10 * n
def R.CODEC_BITS (n : Nat) : Nat := 0x1D010C + 0x10 * n
def R.CODEC_HEAD_SEL (n k : Nat) : Nat := 0x1D0200 + 0x40 * n + 0x4 * k
def R.FS_STATUS : Nat := 0x200000
def R.FS_BAR2_BASE : Nat := 0x200004
def R.FS_SCRUB : Nat := 0x200008
def R.FS_SCRUB_POS : Nat := 0x20000C
def R.FS_MON : Nat := 0x200010
def R.FS_ECC_TOTAL : Nat := 0x200014
def R.FS_LAST_ERR : Nat := 0x200018
def R.FS_BW : Nat := 0x20001C
def R.FS_CH_OCC (n : Nat) : Nat := 0x200100 + 0x8 * n
def R.FS_CH_ECC (n : Nat) : Nat := 0x200104 + 0x8 * n
def R.PAD_STATUS (n : Nat) : Nat := 0x200400 + 0x8 * n
def R.PAD_SEQ (n : Nat) : Nat := 0x200404 + 0x8 * n
def R.HEAD_CTRL (n : Nat) : Nat := 0x240000 + 0x1000 * n
def R.HEAD_SIZE (n : Nat) : Nat := 0x240004 + 0x1000 * n
def R.HEAD_LINE (n : Nat) : Nat := 0x240008 + 0x1000 * n
def R.HEAD_FILL_A (n : Nat) : Nat := 0x24000C + 0x1000 * n
def R.HEAD_FILL_B (n : Nat) : Nat := 0x240010 + 0x1000 * n
def R.HEAD_WIT (n : Nat) : Nat := 0x240014 + 0x1000 * n
def R.HEAD_STATUS (n : Nat) : Nat := 0x240018 + 0x1000 * n
def R.HEAD_ALARM (n : Nat) : Nat := 0x24001C + 0x1000 * n
def R.HEAD_FRAMES (n : Nat) : Nat := 0x240020 + 0x1000 * n
def R.HEAD_WFAIL (n : Nat) : Nat := 0x240024 + 0x1000 * n
def R.KCTRL (n l : Nat) : Nat := 0x240000 + 0x1000 * n + (if l = 16 then 0x40 else 0x100 + 0x20 * l)
def R.KDST (n l : Nat) : Nat := 0x240004 + 0x1000 * n + (if l = 16 then 0x40 else 0x100 + 0x20 * l)
def R.KSIZE (n l : Nat) : Nat := 0x240008 + 0x1000 * n + (if l = 16 then 0x40 else 0x100 + 0x20 * l)
def R.KSRC (n l : Nat) : Nat := 0x24000C + 0x1000 * n + (if l = 16 then 0x40 else 0x100 + 0x20 * l)
def R.KPROD (n l : Nat) : Nat := 0x240010 + 0x1000 * n + (if l = 16 then 0x40 else 0x100 + 0x20 * l)
def R.KSOFF (n l : Nat) : Nat := 0x240014 + 0x1000 * n + (if l = 16 then 0x40 else 0x100 + 0x20 * l)
def R.KPITCH (n l : Nat) : Nat := 0x240018 + 0x1000 * n + (if l = 16 then 0x40 else 0x100 + 0x20 * l)
def R.KCOLOR (n l : Nat) : Nat := 0x24001C + 0x1000 * n + (if l = 16 then 0x40 else 0x100 + 0x20 * l)
def R.HEAD_KSTAT (n k : Nat) : Nat := 0x240300 + 0x1000 * n + 0x4 * k
def R.SCTRL (n k : Nat) : Nat := 0x240400 + 0x1000 * n + 0x10 * k
def R.SRECT_X (n k : Nat) : Nat := 0x240404 + 0x1000 * n + 0x10 * k
def R.SRECT_Y (n k : Nat) : Nat := 0x240408 + 0x1000 * n + 0x10 * k
def R.SCOUNT (n k : Nat) : Nat := 0x24040C + 0x1000 * n + 0x10 * k
def R.TCTRL (n k : Nat) : Nat := 0x240500 + 0x1000 * n + 0x10 * k
def R.TRECT_X (n k : Nat) : Nat := 0x240504 + 0x1000 * n + 0x10 * k
def R.TRECT_Y (n k : Nat) : Nat := 0x240508 + 0x1000 * n + 0x10 * k
def R.TEXPECT (n k : Nat) : Nat := 0x24050C + 0x1000 * n + 0x10 * k
def R.HEAD_TCRC (n k : Nat) : Nat := 0x240600 + 0x1000 * n + 0x8 * k
def R.HEAD_TSTAT (n k : Nat) : Nat := 0x240604 + 0x1000 * n + 0x8 * k
def R.HEAD_DIR_SRC (n : Nat) : Nat := 0x240800 + 0x1000 * n
def R.HEAD_DIR_IN (n : Nat) : Nat := 0x240804 + 0x1000 * n
def R.HEAD_DIR_OUT (n : Nat) : Nat := 0x240808 + 0x1000 * n
def R.HEAD_DIR_LINE (n : Nat) : Nat := 0x24080C + 0x1000 * n
def R.HEAD_DIR_TIMEOUT (n : Nat) : Nat := 0x240810 + 0x1000 * n
def R.HEAD_DIR_STATUS (n : Nat) : Nat := 0x240814 + 0x1000 * n
def R.HB_LINK : Nat := 0xA0000
def R.HB_CTRL : Nat := 0xA0004
def R.HB_BACKOFF : Nat := 0xA0008
def R.HB_DARK (n : Nat) : Nat := 0xA0010 + 0x4 * n
def R.HB_PWLOG_STATUS : Nat := 0xA0030
def R.HB_PWLOG_OFFSET (n : Nat) : Nat := 0xA0040 + 0x10 * n
def R.HB_PWLOG_PHYS (n : Nat) : Nat := 0xA0044 + 0x10 * n
def R.HB_PWLOG_INFO (n : Nat) : Nat := 0xA0048 + 0x10 * n
def R.HB_PWLOG_TICK (n : Nat) : Nat := 0xA004C + 0x10 * n
def R.DMA_ENG (n : Nat) : Nat := 0xC0000 + 0x4 * n
def R.DMA_CTRL (n : Nat) : Nat := 0xC0100 + 0x40 * n
def R.DMA_FIRST (n : Nat) : Nat := 0xC0104 + 0x40 * n
def R.DMA_DBASE_HI (n : Nat) : Nat := 0xC0108 + 0x40 * n
def R.DMA_WB_LO (n : Nat) : Nat := 0xC010C + 0x40 * n
def R.DMA_WB_HI (n : Nat) : Nat := 0xC0110 + 0x40 * n
def R.DMA_TIMER (n : Nat) : Nat := 0xC0114 + 0x40 * n
def R.DMA_DOORBELL (n : Nat) : Nat := 0xC0118 + 0x40 * n
def R.DMA_STATUS (n : Nat) : Nat := 0xC011C + 0x40 * n
def R.DMA_CUR (n : Nat) : Nat := 0xC0120 + 0x40 * n
def R.DMA_RESIDUE (n : Nat) : Nat := 0xC0124 + 0x40 * n
def R.DMA_CODED (n : Nat) : Nat := 0xC0128 + 0x40 * n
def R.DMA_CNT (n : Nat) : Nat := 0xC012C + 0x40 * n
def R.DMA_ABORT (n : Nat) : Nat := 0xC0130 + 0x40 * n
def R.DMA_PLAN (n : Nat) : Nat := 0xC0134 + 0x40 * n
def R.TB_CTRL (n : Nat) : Nat := 0x70000 + 0x100 * n
def R.TB_GPTP (n : Nat) : Nat := 0x70004 + 0x100 * n
def R.TB_LIMITS (n : Nat) : Nat := 0x70008 + 0x100 * n
def R.TB_STEP (n : Nat) : Nat := 0x7000C + 0x100 * n
def R.TB_BACKLIM (n : Nat) : Nat := 0x70010 + 0x100 * n
def R.TB_LINKDLY (n : Nat) : Nat := 0x70014 + 0x100 * n
def R.TB_TRIM (n : Nat) : Nat := 0x70018 + 0x100 * n
def R.TB_PAIR (n : Nat) : Nat := 0x7001C + 0x100 * n
def R.TB_STATUS (n : Nat) : Nat := 0x70020 + 0x100 * n
def R.TB_RATE (n : Nat) : Nat := 0x70024 + 0x100 * n
def R.TB_OFFSET (n : Nat) : Nat := 0x70028 + 0x100 * n
def R.TB_NS (n : Nat) : Nat := 0x7002C + 0x100 * n
def R.TB_S_LO (n : Nat) : Nat := 0x70030 + 0x100 * n
def R.TB_S_HI (n : Nat) : Nat := 0x70034 + 0x100 * n
def R.TB_GM_LO (n : Nat) : Nat := 0x70038 + 0x100 * n
def R.TB_GM_HI (n : Nat) : Nat := 0x7003C + 0x100 * n
def R.TB_CNT (n : Nat) : Nat := 0x70040 + 0x100 * n
def R.TB_LINKMEAS (n : Nat) : Nat := 0x70044 + 0x100 * n
def R.PPS_IN_CTRL : Nat := 0x70400
def R.PPS_IN_NS : Nat := 0x70404
def R.PPS_IN_S_LO : Nat := 0x70408
def R.PPS_IN_INFO : Nat := 0x7040C
def R.PPS_IN_CNT : Nat := 0x70410
def R.PPS_OUT_CTRL : Nat := 0x70414
def R.PPS_OUT_PHASE : Nat := 0x70418
def R.PPS_OUT_CNT : Nat := 0x7041C
def R.ETH_CTRL (n : Nat) : Nat := 0x80000 + 0x100 * n
def R.ETH_MAC_LO (n : Nat) : Nat := 0x80004 + 0x100 * n
def R.ETH_MAC_HI (n : Nat) : Nat := 0x80008 + 0x100 * n
def R.ETH_TX_LAT (n : Nat) : Nat := 0x8000C + 0x100 * n
def R.ETH_RX_LAT (n : Nat) : Nat := 0x80010 + 0x100 * n
def R.ETH_STATUS (n : Nat) : Nat := 0x80014 + 0x100 * n
def R.ETH_RX (n : Nat) : Nat := 0x80018 + 0x100 * n
def R.ETH_RXERR (n : Nat) : Nat := 0x8001C + 0x100 * n
def R.ETH_TX (n : Nat) : Nat := 0x80020 + 0x100 * n
def R.ETH_TXTS (n : Nat) : Nat := 0x80024 + 0x100 * n
def R.ETH_LINKCNT (n : Nat) : Nat := 0x80028 + 0x100 * n
def R.ETH_MDIO_CMD : Nat := 0x80400
def R.ETH_MDIO_DATA : Nat := 0x80404
def R.TWC_CTRL (n : Nat) : Nat := 0x90000 + 0x20 * n
def R.TWC_STATUS (n : Nat) : Nat := 0x90004 + 0x20 * n
def R.TWC_CNT (n : Nat) : Nat := 0x90008 + 0x20 * n
def R.TWC_ARB (n : Nat) : Nat := 0x9000C + 0x20 * n
def R.TWC_ATTN (n : Nat) : Nat := 0x90010 + 0x20 * n
def R.TWTUN_CTRL (n : Nat) : Nat := 0x90100 + 0x10 * n
def R.TWTUN_STATUS (n : Nat) : Nat := 0x90104 + 0x10 * n
def R.TWTUN_CNT (n : Nat) : Nat := 0x90108 + 0x10 * n
def R.TWT_CTRL : Nat := 0x90400
def R.TWT_STATUS : Nat := 0x90404
def R.TWT_CNT : Nat := 0x90408
def R.TWT_XFER : Nat := 0x9040C
def R.PWR_ON_LO : Nat := 0x50000
def R.PWR_ON_HI : Nat := 0x50004
def R.PWR_READY_LO : Nat := 0x50008
def R.PWR_READY_HI : Nat := 0x5000C
def R.PWR_LEVEL : Nat := 0x50010
def R.PWR_FABRIC : Nat := 0x50014
def R.PWR_WAKE : Nat := 0x50018
def R.PWR_WAKE_RX : Nat := 0x5001C
def R.PWR_WAKE_TX : Nat := 0x50020
def R.PWR_RTC_LO : Nat := 0x50024
def R.PWR_RTC_HI : Nat := 0x50028
def R.PWR_RTC_ALARM_LO : Nat := 0x5002C
def R.PWR_RTC_ALARM_HI : Nat := 0x50030
def R.PWR_RESUME_CTRL : Nat := 0x50034
def R.PWR_PADS : Nat := 0x50038
def R.PWR_ENTRY : Nat := 0x5003C
def R.PWR_RESUME : Nat := 0x50040
def R.PWR_CNT : Nat := 0x50044
def R.PWR_BANK (n : Nat) : Nat := 0x50100 + 0x4 * n
def R.PWR_SIG (n : Nat) : Nat := 0x50200 + 0x4 * n
def R.SEC_STATUS : Nat := 0x60000
def R.SEC_STRAPS : Nat := 0x60004
def R.SEC_KEYS : Nat := 0x60008
def R.SEC_SVN : Nat := 0x6000C
def R.SEC_BOOT : Nat := 0x60010
def R.SEC_LAST_FAIL : Nat := 0x60014
def R.SEC_CRED : Nat := 0x60018
def R.SEC_TRNG : Nat := 0x6001C
def R.EV_STATUS (n : Nat) : Nat := 0x40000 + 0x4 * n
def R.EV_LOG : Nat := 0x40020
def R.EV_TEMP : Nat := 0x40024
def R.EV_CTRL (n : Nat) : Nat := 0x40400 + 0x4 * n
def R.TEST_PGEN (n : Nat) : Nat := 0x120000 + 0x40 * n
def R.TEST_PCHK (n : Nat) : Nat := 0x120004 + 0x40 * n
def R.TEST_USER_LO (n : Nat) : Nat := 0x120008 + 0x40 * n
def R.TEST_USER_HI (n : Nat) : Nat := 0x12000C + 0x40 * n
def R.TEST_BITS_LO (n : Nat) : Nat := 0x120010 + 0x40 * n
def R.TEST_BITS_HI (n : Nat) : Nat := 0x120014 + 0x40 * n
def R.TEST_ERRS (n : Nat) : Nat := 0x120018 + 0x40 * n
def R.TEST_CELL (n : Nat) : Nat := 0x12001C + 0x40 * n
def R.TEST_INJ (n : Nat) : Nat := 0x120020 + 0x40 * n
def R.TEST_LOOP (n : Nat) : Nat := 0x120024 + 0x40 * n
def R.TEST_MEM_STATUS : Nat := 0x120C00
def R.TEST_MEM_ADDR : Nat := 0x120C04
def R.TEST_MEM_BITS : Nat := 0x120C08
def R.TEST_MEM_COUNT : Nat := 0x120C0C
def R.TEST_EYE_STATUS : Nat := 0x120C10
def R.TOP_ID : Nat := 0x0
def R.TOP_UNITS : Nat := 0x4
def R.TOP_SERIAL : Nat := 0x8
def R.TOP_FW_VER : Nat := 0xC
def R.TOP_STATE : Nat := 0x10000
def R.TOP_RESET_CAUSE : Nat := 0x10004
def R.TOP_BOOT_TIME : Nat := 0x10008
def R.TOP_SCRATCH (n : Nat) : Nat := 0x1000C + 0x4 * n
def R.MSIX_ADDR_LO (n : Nat) : Nat := 0xB0000 + 0x10 * n
def R.MSIX_ADDR_HI (n : Nat) : Nat := 0xB0004 + 0x10 * n
def R.MSIX_DATA (n : Nat) : Nat := 0xB0008 + 0x10 * n
def R.MSIX_CTRL (n : Nat) : Nat := 0xB000C + 0x10 * n
def R.MSIX_PBA (n : Nat) : Nat := 0xB0800 + 0x4 * n

/-! Field places, one per field of the register tables. -/

def F.TICK_CTRL_RUN : Fld := ⟨0, 0⟩
def F.TICK_CTRL_SRC : Fld := ⟨2, 1⟩
def F.TICK_CTRL_ALIGN : Fld := ⟨3, 3⟩
def F.TICK_PERIOD_PERIOD_NS : Fld := ⟨27, 0⟩
def F.TICK_SEAL_SEAL_US : Fld := ⟨9, 0⟩
def F.TICK_SEAL_FIT_PCT : Fld := ⟨22, 16⟩
def F.TICK_PHASE_PHASE_NS : Fld := ⟨27, 0⟩
def F.TICK_COUNT_LO_COUNT_LO : Fld := ⟨31, 0⟩
def F.TICK_COUNT_HI_COUNT_HI : Fld := ⟨15, 0⟩
def F.COMMIT_STATUS_RESULT : Fld := ⟨1, 0⟩
def F.COMMIT_STATUS_REASON : Fld := ⟨11, 8⟩
def F.COMMIT_STATUS_ENTRIES : Fld := ⟨28, 16⟩
def F.COMMIT_TICK_TICK_LO : Fld := ⟨31, 0⟩
def F.COMMIT_FAIL_SRC_TAG : Fld := ⟨15, 0⟩
def F.COMMIT_FAIL_SRC_UNIT : Fld := ⟨31, 16⟩
def F.STAGE_FILL_OPEN : Fld := ⟨12, 0⟩
def F.STAGE_FILL_FUTURE : Fld := ⟨24, 16⟩
def F.DEFER_COUNT_WRITES : Fld := ⟨31, 0⟩
def F.LATE_COUNT_LATE : Fld := ⟨31, 0⟩
def F.HEAD_LATE_POLICY_POLICY : Fld := ⟨1, 0⟩
def F.HEAD_LATE_POLICY_REPEAT_LIMIT : Fld := ⟨7, 4⟩
def F.CMD_SQ_BASE_LO_ADDR : Fld := ⟨31, 12⟩
def F.CMD_SQ_BASE_HI_ADDR : Fld := ⟨31, 0⟩
def F.CMD_Q_CTRL_LOG2_UNITS : Fld := ⟨4, 0⟩
def F.CMD_Q_CTRL_EN : Fld := ⟨8, 8⟩
def F.CMD_Q_CTRL_VECTOR : Fld := ⟨14, 9⟩
def F.CMD_SQ_TAIL_TAIL : Fld := ⟨16, 0⟩
def F.CMD_SQ_HEAD_HEAD : Fld := ⟨16, 0⟩
def F.CMD_RQ_BASE_LO_ADDR : Fld := ⟨31, 12⟩
def F.CMD_RQ_BASE_HI_ADDR : Fld := ⟨31, 0⟩
def F.CMD_RQ_HEAD_HEAD : Fld := ⟨16, 0⟩
def F.CMD_RQ_TAIL_TAIL : Fld := ⟨16, 0⟩
def F.CMD_RQ_WB_LO_ADDR : Fld := ⟨31, 2⟩
def F.CMD_RQ_WB_HI_ADDR : Fld := ⟨31, 0⟩
def F.CMD_Q_STATUS_ACTIVE : Fld := ⟨0, 0⟩
def F.CMD_Q_STATUS_STALL : Fld := ⟨1, 1⟩
def F.CMD_Q_STATUS_ERR : Fld := ⟨2, 2⟩
def F.CMD_Q_STATUS_EV_DROP : Fld := ⟨31, 16⟩
def F.CMD_ETH_CTRL_PORT_EN : Fld := ⟨1, 0⟩
def F.CMD_ETH_STATUS_DISCARD : Fld := ⟨15, 0⟩
def F.CMD_ETH_STATUS_REPLAYED : Fld := ⟨31, 16⟩
def F.CMD_ETH_ALLOW_LO_MAC_LO : Fld := ⟨31, 0⟩
def F.CMD_ETH_ALLOW_HI_MAC_HI : Fld := ⟨15, 0⟩
def F.CMD_ETH_ALLOW_HI_VALID : Fld := ⟨16, 16⟩
def F.LANE_CTRL_TARGET : Fld := ⟨2, 0⟩
def F.LANE_CTRL_MAX_RATE : Fld := ⟨4, 3⟩
def F.LANE_CTRL_FALLBACK : Fld := ⟨5, 5⟩
def F.LANE_CTRL_MEDIUM : Fld := ⟨6, 6⟩
def F.LANE_CTRL_ROLE : Fld := ⟨7, 7⟩
def F.LANE_CTRL_FAST : Fld := ⟨8, 8⟩
def F.LANE_CTRL_BOND : Fld := ⟨9, 9⟩
def F.LANE_CTRL_AUTO_RETRAIN : Fld := ⟨10, 10⟩
def F.LANE_TXEQ_PRESET : Fld := ⟨2, 0⟩
def F.LANE_TXEQ_CUSTOM : Fld := ⟨3, 3⟩
def F.LANE_TXEQ_PRE : Fld := ⟨7, 4⟩
def F.LANE_TXEQ_POST : Fld := ⟨12, 8⟩
def F.LANE_TXEQ_SWING : Fld := ⟨14, 13⟩
def F.LANE_TXEQ_PRESET_MASK : Fld := ⟨23, 16⟩
def F.LANE_RXEQ_CTLE : Fld := ⟨3, 0⟩
def F.LANE_RXEQ_CTLE_FIX : Fld := ⟨4, 4⟩
def F.LANE_RXEQ_DFE_FREEZE : Fld := ⟨5, 5⟩
def F.LANE_THRESH_TRAIN_MIN : Fld := ⟨7, 0⟩
def F.LANE_THRESH_DROP_MIN : Fld := ⟨15, 8⟩
def F.LANE_THRESH_DROP_MS : Fld := ⟨23, 16⟩
def F.LANE_STATUS_STATE : Fld := ⟨2, 0⟩
def F.LANE_STATUS_RATE : Fld := ⟨4, 3⟩
def F.LANE_STATUS_POL_INV : Fld := ⟨5, 5⟩
def F.LANE_STATUS_REVERSED : Fld := ⟨6, 6⟩
def F.LANE_STATUS_BOND_UP : Fld := ⟨7, 7⟩
def F.LANE_STATUS_PARTNER_FOLLOW : Fld := ⟨8, 8⟩
def F.LANE_STATUS_ROLE_YIELD : Fld := ⟨9, 9⟩
def F.LANE_STATUS_FAST_USED : Fld := ⟨10, 10⟩
def F.LANE_STATUS_PRESET_USED : Fld := ⟨13, 11⟩
def F.LANE_STATUS_ATTEMPTS : Fld := ⟨23, 16⟩
def F.LANE_STATUS_CTLE_USED : Fld := ⟨27, 24⟩
def F.LANE_EYE_EYE_INDEX : Fld := ⟨7, 0⟩
def F.LANE_EYE_H_STEPS : Fld := ⟨13, 8⟩
def F.LANE_EYE_V_STEPS : Fld := ⟨21, 16⟩
def F.LANE_EYE_AGE : Fld := ⟨31, 24⟩
def F.LANE_DFE_LO_TAPS : Fld := ⟨31, 0⟩
def F.LANE_DFE_HI_TAPS : Fld := ⟨31, 0⟩
def F.LANE_RTT_RTT_PS : Fld := ⟨23, 0⟩
def F.LANE_CNT_RETRAINS : Fld := ⟨15, 0⟩
def F.LANE_CNT_DOWNS : Fld := ⟨31, 16⟩
def F.LANE_REPEAT_EN : Fld := ⟨0, 0⟩
def F.LANE_REPEAT_MODE : Fld := ⟨1, 1⟩
def F.LANE_REPEAT_BC_RELAY : Fld := ⟨2, 2⟩
def F.LANE_REPEAT_SRC : Fld := ⟨12, 8⟩
def F.LINK_PARTNER_STATE : Fld := ⟨2, 0⟩
def F.LINK_PARTNER_CLASS : Fld := ⟨15, 8⟩
def F.LINK_PARTNER_CAPS : Fld := ⟨23, 16⟩
def F.LINK_PARTNER_MISSED : Fld := ⟨27, 24⟩
def F.LINK_PID_VENDOR : Fld := ⟨15, 0⟩
def F.LINK_PID_PRODUCT : Fld := ⟨31, 16⟩
def F.LINK_PSN_SERIAL : Fld := ⟨31, 0⟩
def F.LINK_AUTH_REQUIRED : Fld := ⟨0, 0⟩
def F.LINK_AUTH_RESULT : Fld := ⟨5, 4⟩
def F.LINK_AUTH_ENTRY : Fld := ⟨11, 8⟩
def F.LINK_TRIG_CTRL_EN : Fld := ⟨0, 0⟩
def F.LINK_TRIG_CTRL_OUT : Fld := ⟨2, 1⟩
def F.LINK_TRIG_CTRL_PULSE_US : Fld := ⟨15, 8⟩
def F.LINK_TRIG_OFFSET_OFFSET_NS : Fld := ⟨27, 0⟩
def F.LINK_TRIG_LAT_SENSOR_LAT_NS : Fld := ⟨19, 0⟩
def F.LINK_TRIG_TRIM_TRIM_PS : Fld := ⟨15, 0⟩
def F.LINK_TRIG_CNT_SENT : Fld := ⟨15, 0⟩
def F.LINK_TRIG_CNT_MISSED : Fld := ⟨31, 16⟩
def F.LINK_GPIO_OUT : Fld := ⟨7, 0⟩
def F.LINK_GPIO_MASK : Fld := ⟨15, 8⟩
def F.LINK_GPIO_IN : Fld := ⟨23, 16⟩
def F.LINK_FEC_CORR_CORR : Fld := ⟨31, 0⟩
def F.LINK_FEC_UNCORR_UNCORR : Fld := ⟨31, 0⟩
def F.LINK_MSG_CRC_ERR : Fld := ⟨15, 0⟩
def F.LINK_MSG_NAK : Fld := ⟨31, 16⟩
def F.LINK_ROLL_PERIOD_MS : Fld := ⟨9, 0⟩
def F.LINK_ROLL_MISS_LIMIT : Fld := ⟨15, 12⟩
def F.LINK_ROLL_RX_EN_EN : Fld := ⟨31, 0⟩
def F.LINK_ROLL_TX_EN_EN : Fld := ⟨15, 0⟩
def F.GATE_TIMEOUT_OPEN_MS : Fld := ⟨7, 0⟩
def F.GATE_HDR_WIN_US : Fld := ⟨15, 0⟩
def F.GATE_HDR_MATCH : Fld := ⟨16, 16⟩
def F.GATE_PKT_HDR_CORR : Fld := ⟨15, 0⟩
def F.GATE_PKT_HDR_UNCORR : Fld := ⟨31, 16⟩
def F.GATE_DROP_CRC_ERR : Fld := ⟨15, 0⟩
def F.GATE_DROP_NOMATCH : Fld := ⟨31, 16⟩
def F.GATE_DROP2_DT_DROP : Fld := ⟨15, 0⟩
def F.GATE_DROP2_OVERRUN : Fld := ⟨31, 16⟩
def F.GATE_LOAD_RATE : Fld := ⟨11, 0⟩
def F.GATE_LOAD_PEAK : Fld := ⟨27, 16⟩
def F.GATE_DMG_LINES : Fld := ⟨31, 0⟩
def F.GATE_CREDIT_DROPS : Fld := ⟨15, 0⟩
def F.GATE_CREDIT_FLUSHES : Fld := ⟨31, 16⟩
def F.GATE_CTRL_LANE : Fld := ⟨1, 0⟩
def F.GATE_CTRL_PORT : Fld := ⟨3, 2⟩
def F.GATE_CTRL_VC : Fld := ⟨7, 4⟩
def F.GATE_CTRL_DT : Fld := ⟨13, 8⟩
def F.GATE_CTRL_CFA : Fld := ⟨14, 14⟩
def F.GATE_CTRL_EMB : Fld := ⟨15, 15⟩
def F.GATE_CTRL_DMG_FILL : Fld := ⟨16, 16⟩
def F.GATE_CTRL_EXPECT : Fld := ⟨17, 17⟩
def F.GATE_CTRL_TB : Fld := ⟨19, 18⟩
def F.GATE_CTRL_GROUP_EN : Fld := ⟨20, 20⟩
def F.GATE_CTRL_GROUP : Fld := ⟨23, 21⟩
def F.GATE_CTRL_EXP : Fld := ⟨25, 24⟩
def F.GATE_CTRL_OPEN : Fld := ⟨31, 31⟩
def F.GATE_CROP_X_X0 : Fld := ⟨12, 0⟩
def F.GATE_CROP_X_W_M1 : Fld := ⟨28, 16⟩
def F.GATE_CROP_Y_Y0 : Fld := ⟨12, 0⟩
def F.GATE_CROP_Y_H_M1 : Fld := ⟨28, 16⟩
def F.GATE_DECTAG_DX : Fld := ⟨1, 0⟩
def F.GATE_DECTAG_DY : Fld := ⟨3, 2⟩
def F.GATE_DECTAG_MODE : Fld := ⟨4, 4⟩
def F.GATE_DECTAG_USER : Fld := ⟨31, 16⟩
def F.GATE_TARGET_KIND : Fld := ⟨1, 0⟩
def F.GATE_TARGET_PADDOCK : Fld := ⟨13, 2⟩
def F.GATE_TARGET_LOG2_DEPTH : Fld := ⟨4, 2⟩
def F.GATE_TARGET_OFFSET : Fld := ⟨23, 10⟩
def F.GATE_TARGET_SLICE : Fld := ⟨27, 24⟩
def F.GATE_STATUS_STATE : Fld := ⟨1, 0⟩
def F.GATE_STATUS_CAUSE : Fld := ⟨4, 2⟩
def F.GATE_STATUS_CREDITS : Fld := ⟨15, 8⟩
def F.GATE_STATUS_LINE : Fld := ⟨28, 16⟩
def F.GATE_CNT_FRAMES : Fld := ⟨15, 0⟩
def F.GATE_CNT_TRUNC : Fld := ⟨23, 16⟩
def F.GATE_CNT_MISSING : Fld := ⟨31, 24⟩
def F.STALL_STATUS_STATE : Fld := ⟨2, 0⟩
def F.STALL_STATUS_LOCK : Fld := ⟨3, 3⟩
def F.STALL_STATUS_MODE : Fld := ⟨5, 4⟩
def F.STALL_STATUS_LATE : Fld := ⟨6, 6⟩
def F.STALL_STATUS_FAULT : Fld := ⟨11, 8⟩
def F.STALL_STATUS_YARD : Fld := ⟨23, 16⟩
def F.STALL_PC_PC : Fld := ⟨11, 0⟩
def F.STALL_PC_KERNEL_ID : Fld := ⟨31, 16⟩
def F.SHED_STATUS_LEVEL : Fld := ⟨1, 0⟩
def F.SHED_STATUS_ECC_CORR : Fld := ⟨23, 16⟩
def F.SHED_STATUS_ECC_UNCORR : Fld := ⟨31, 24⟩
def F.SHED_CMP_MISCOMPARE : Fld := ⟨15, 0⟩
def F.SHED_CMP_RUNAWAY : Fld := ⟨31, 16⟩
def F.REMAP_STATUS_STATE : Fld := ⟨1, 0⟩
def F.REMAP_STATUS_LATE : Fld := ⟨2, 2⟩
def F.REMAP_STATUS_FAULT : Fld := ⟨7, 4⟩
def F.REMAP_STATUS_REGIONS : Fld := ⟨12, 8⟩
def F.REMAP_FRAMES_FRAMES : Fld := ⟨31, 0⟩
def F.REMAP_FILL_PIXELS : Fld := ⟨23, 0⟩
def F.REMAP_LOAD_RATE : Fld := ⟨11, 0⟩
def F.REMAP_LOAD_PEAK : Fld := ⟨27, 16⟩
def F.REMAP_CYCLES_CYCLES : Fld := ⟨31, 0⟩
def F.MESH_STATUS_VALID : Fld := ⟨0, 0⟩
def F.MESH_STATUS_PENDING : Fld := ⟨1, 1⟩
def F.MESH_STATUS_ACTIVE : Fld := ⟨2, 2⟩
def F.MESH_STATUS_GW_M1 : Fld := ⟨15, 8⟩
def F.MESH_STATUS_GH_M1 : Fld := ⟨23, 16⟩
def F.MESH_STATUS_MS : Fld := ⟨26, 24⟩
def F.MESH_BASE_BASE : Fld := ⟨19, 0⟩
def F.CODEC_PROF_MODE : Fld := ⟨1, 0⟩
def F.CODEC_PROF_BW_M1 : Fld := ⟨5, 2⟩
def F.CODEC_PROF_LAYOUT : Fld := ⟨8, 6⟩
def F.CODEC_PROF_PARAM : Fld := ⟨12, 9⟩
def F.CODEC_PROF_CONT : Fld := ⟨13, 13⟩
def F.CODEC_STATUS_ACTIVE : Fld := ⟨0, 0⟩
def F.CODEC_STATUS_LAST_ERR : Fld := ⟨15, 8⟩
def F.CODEC_STATUS_ERRORS : Fld := ⟨31, 16⟩
def F.CODEC_LINES_LINES : Fld := ⟨31, 0⟩
def F.CODEC_ESC_ESC : Fld := ⟨31, 0⟩
def F.CODEC_BITS_RATIO : Fld := ⟨15, 0⟩
def F.CODEC_BITS_CLIP : Fld := ⟨31, 16⟩
def F.CODEC_HEAD_SEL_PROF : Fld := ⟨4, 0⟩
def F.CODEC_HEAD_SEL_DT : Fld := ⟨13, 8⟩
def F.CODEC_HEAD_SEL_EN : Fld := ⟨16, 16⟩
def F.FS_STATUS_DARK : Fld := ⟨0, 0⟩
def F.FS_STATUS_KEYED : Fld := ⟨1, 1⟩
def F.FS_STATUS_SCRUB_BUSY : Fld := ⟨2, 2⟩
def F.FS_BAR2_BASE_BASE : Fld := ⟨7, 0⟩
def F.FS_SCRUB_EN : Fld := ⟨0, 0⟩
def F.FS_SCRUB_PERIOD_H : Fld := ⟨15, 8⟩
def F.FS_SCRUB_POS_GRANULE : Fld := ⟨23, 0⟩
def F.FS_SCRUB_POS_PASSES : Fld := ⟨31, 24⟩
def F.FS_MON_RATIO : Fld := ⟨7, 0⟩
def F.FS_MON_SUSTAIN : Fld := ⟨15, 8⟩
def F.FS_MON_FLOOR_PCT : Fld := ⟨22, 16⟩
def F.FS_ECC_TOTAL_CORR : Fld := ⟨15, 0⟩
def F.FS_ECC_TOTAL_UNCORR : Fld := ⟨31, 16⟩
def F.FS_LAST_ERR_GRANULE : Fld := ⟨31, 8⟩
def F.FS_BW_GBPS : Fld := ⟨15, 0⟩
def F.FS_BW_PEAK : Fld := ⟨31, 16⟩
def F.FS_CH_OCC_KIB : Fld := ⟨23, 0⟩
def F.FS_CH_OCC_OVER : Fld := ⟨31, 24⟩
def F.FS_CH_ECC_CORR : Fld := ⟨15, 0⟩
def F.FS_CH_ECC_UNCORR : Fld := ⟨31, 16⟩
def F.PAD_STATUS_DEFINED : Fld := ⟨0, 0⟩
def F.PAD_STATUS_POLICY : Fld := ⟨1, 1⟩
def F.PAD_STATUS_CODED : Fld := ⟨2, 2⟩
def F.PAD_STATUS_WRITING : Fld := ⟨3, 3⟩
def F.PAD_STATUS_MARKS : Fld := ⟨7, 4⟩
def F.PAD_STATUS_SLOTS : Fld := ⟨14, 8⟩
def F.PAD_STATUS_DROPS : Fld := ⟨19, 16⟩
def F.PAD_STATUS_LOST : Fld := ⟨23, 20⟩
def F.PAD_STATUS_SKIPPED : Fld := ⟨31, 24⟩
def F.PAD_SEQ_NEWEST : Fld := ⟨31, 0⟩
def F.HEAD_CTRL_EN : Fld := ⟨0, 0⟩
def F.HEAD_CTRL_FMT : Fld := ⟨3, 1⟩
def F.HEAD_SIZE_W_M1 : Fld := ⟨12, 0⟩
def F.HEAD_SIZE_H_M1 : Fld := ⟨28, 16⟩
def F.HEAD_LINE_LINE_NS : Fld := ⟨19, 0⟩
def F.HEAD_FILL_A_C0 : Fld := ⟨15, 0⟩
def F.HEAD_FILL_A_C1 : Fld := ⟨31, 16⟩
def F.HEAD_FILL_B_C2 : Fld := ⟨15, 0⟩
def F.HEAD_WIT_ECHO_LINES : Fld := ⟨7, 0⟩
def F.HEAD_WIT_CLEAR_N : Fld := ⟨11, 8⟩
def F.HEAD_WIT_PIN_EN : Fld := ⟨12, 12⟩
def F.HEAD_WIT_POLICY : Fld := ⟨13, 13⟩
def F.HEAD_WIT_NOSRC_FILL : Fld := ⟨14, 14⟩
def F.HEAD_STATUS_STATE : Fld := ⟨2, 0⟩
def F.HEAD_STATUS_LATE : Fld := ⟨3, 3⟩
def F.HEAD_STATUS_DIRECT : Fld := ⟨4, 4⟩
def F.HEAD_STATUS_LINE : Fld := ⟨28, 16⟩
def F.HEAD_ALARM_ACTIVE : Fld := ⟨0, 0⟩
def F.HEAD_ALARM_ACK : Fld := ⟨1, 1⟩
def F.HEAD_ALARM_CAUSES : Fld := ⟨13, 4⟩
def F.HEAD_ALARM_LAST_REGION : Fld := ⟨19, 16⟩
def F.HEAD_ALARM_LAST_CAUSE : Fld := ⟨23, 20⟩
def F.HEAD_FRAMES_FRAMES : Fld := ⟨31, 0⟩
def F.HEAD_WFAIL_ALARMS : Fld := ⟨15, 0⟩
def F.HEAD_WFAIL_STRAY : Fld := ⟨31, 16⟩
def F.KCTRL_KIND : Fld := ⟨2, 0⟩
def F.KCTRL_SFMT : Fld := ⟨6, 4⟩
def F.KCTRL_BLEND : Fld := ⟨7, 7⟩
def F.KCTRL_GA : Fld := ⟨15, 8⟩
def F.KCTRL_POLICY : Fld := ⟨17, 16⟩
def F.KCTRL_DIV_M1 : Fld := ⟨20, 18⟩
def F.KDST_X : Fld := ⟨12, 0⟩
def F.KDST_Y : Fld := ⟨28, 16⟩
def F.KSIZE_W_M1 : Fld := ⟨12, 0⟩
def F.KSIZE_H_M1 : Fld := ⟨28, 16⟩
def F.KSRC_ADDR : Fld := ⟨25, 0⟩
def F.KPROD_PKIND : Fld := ⟨1, 0⟩
def F.KPROD_INDEX : Fld := ⟨15, 8⟩
def F.KPROD_SW_M1 : Fld := ⟨12, 0⟩
def F.KPROD_SH_M1 : Fld := ⟨28, 16⟩
def F.KSOFF_SX : Fld := ⟨12, 0⟩
def F.KSOFF_SY : Fld := ⟨28, 16⟩
def F.KPITCH_PITCH : Fld := ⟨15, 0⟩
def F.KPITCH_PSTRIDE : Fld := ⟨31, 16⟩
def F.KCOLOR_C0 : Fld := ⟨7, 0⟩
def F.KCOLOR_C1 : Fld := ⟨15, 8⟩
def F.KCOLOR_C2 : Fld := ⟨23, 16⟩
def F.KCOLOR_A : Fld := ⟨31, 24⟩
def F.HEAD_KSTAT_CODE : Fld := ⟨1, 0⟩
def F.HEAD_KSTAT_REPEATS : Fld := ⟨5, 2⟩
def F.HEAD_KSTAT_SEQ : Fld := ⟨31, 16⟩
def F.SCTRL_EN : Fld := ⟨0, 0⟩
def F.SCTRL_EMB : Fld := ⟨1, 1⟩
def F.SCTRL_LANE : Fld := ⟨5, 2⟩
def F.SCTRL_PORT : Fld := ⟨7, 6⟩
def F.SCTRL_VC : Fld := ⟨11, 8⟩
def F.SRECT_X_X0 : Fld := ⟨12, 0⟩
def F.SRECT_X_W_M1 : Fld := ⟨28, 16⟩
def F.SRECT_Y_Y0 : Fld := ⟨12, 0⟩
def F.SRECT_Y_H_M1 : Fld := ⟨28, 16⟩
def F.SCOUNT_COUNTER : Fld := ⟨31, 0⟩
def F.TCTRL_EN : Fld := ⟨0, 0⟩
def F.TCTRL_MODE : Fld := ⟨1, 1⟩
def F.TCTRL_STREAM : Fld := ⟨5, 2⟩
def F.TCTRL_ON_KITE : Fld := ⟨6, 6⟩
def F.TCTRL_LAYER : Fld := ⟨11, 7⟩
def F.TCTRL_LIVE_REQ : Fld := ⟨12, 12⟩
def F.TCTRL_FREEZE_N : Fld := ⟨16, 13⟩
def F.TRECT_X_X0 : Fld := ⟨12, 0⟩
def F.TRECT_X_W_M1 : Fld := ⟨28, 16⟩
def F.TRECT_Y_Y0 : Fld := ⟨12, 0⟩
def F.TRECT_Y_H_M1 : Fld := ⟨28, 16⟩
def F.TEXPECT_CRC : Fld := ⟨31, 0⟩
def F.HEAD_TCRC_CRC : Fld := ⟨31, 0⟩
def F.HEAD_TSTAT_LAST_CAUSE : Fld := ⟨3, 0⟩
def F.HEAD_TSTAT_RUN : Fld := ⟨7, 4⟩
def F.HEAD_TSTAT_PASS : Fld := ⟨19, 8⟩
def F.HEAD_TSTAT_FAIL : Fld := ⟨31, 20⟩
def F.HEAD_DIR_SRC_GATE : Fld := ⟨2, 0⟩
def F.HEAD_DIR_SRC_CTX : Fld := ⟨7, 4⟩
def F.HEAD_DIR_SRC_PAIR : Fld := ⟨15, 8⟩
def F.HEAD_DIR_IN_BASE : Fld := ⟨19, 0⟩
def F.HEAD_DIR_IN_LOG2_DEPTH : Fld := ⟨26, 24⟩
def F.HEAD_DIR_OUT_BASE : Fld := ⟨19, 0⟩
def F.HEAD_DIR_OUT_LOG2_DEPTH : Fld := ⟨26, 24⟩
def F.HEAD_DIR_LINE_T_LINE_NS : Fld := ⟨19, 0⟩
def F.HEAD_DIR_LINE_DELAY_LINES : Fld := ⟨31, 24⟩
def F.HEAD_DIR_TIMEOUT_FRAME_TIMEOUT_US : Fld := ⟨15, 0⟩
def F.HEAD_DIR_STATUS_RUN : Fld := ⟨0, 0⟩
def F.HEAD_DIR_STATUS_STOP : Fld := ⟨3, 1⟩
def F.HEAD_DIR_STATUS_RESTARTS : Fld := ⟨15, 8⟩
def F.HB_LINK_SPEED : Fld := ⟨2, 0⟩
def F.HB_LINK_WIDTH : Fld := ⟨5, 3⟩
def F.HB_LINK_DOWNS : Fld := ⟨31, 16⟩
def F.HB_CTRL_ANF_EN : Fld := ⟨0, 0⟩
def F.HB_BACKOFF_COUNT : Fld := ⟨31, 0⟩
def F.HB_DARK_PAGES : Fld := ⟨31, 0⟩
def F.HB_PWLOG_STATUS_VALID : Fld := ⟨7, 0⟩
def F.HB_PWLOG_STATUS_LOST : Fld := ⟨31, 16⟩
def F.HB_PWLOG_OFFSET_OFFSET : Fld := ⟨31, 0⟩
def F.HB_PWLOG_PHYS_PHYS : Fld := ⟨31, 0⟩
def F.HB_PWLOG_INFO_SIZE : Fld := ⟨12, 0⟩
def F.HB_PWLOG_INFO_BAR : Fld := ⟨13, 13⟩
def F.HB_PWLOG_INFO_REASON : Fld := ⟨19, 16⟩
def F.HB_PWLOG_TICK_TICK : Fld := ⟨31, 0⟩
def F.DMA_ENG_CH : Fld := ⟨1, 0⟩
def F.DMA_ENG_BUSY : Fld := ⟨2, 2⟩
def F.DMA_ENG_QUEUED : Fld := ⟨6, 4⟩
def F.DMA_CTRL_EN : Fld := ⟨0, 0⟩
def F.DMA_CTRL_START : Fld := ⟨3, 1⟩
def F.DMA_CTRL_RESTART : Fld := ⟨4, 4⟩
def F.DMA_CTRL_IRQ_EN : Fld := ⟨5, 5⟩
def F.DMA_CTRL_VECTOR : Fld := ⟨11, 6⟩
def F.DMA_CTRL_SRC : Fld := ⟨23, 16⟩
def F.DMA_FIRST_ADDR : Fld := ⟨31, 5⟩
def F.DMA_DBASE_HI_ADDR : Fld := ⟨31, 0⟩
def F.DMA_WB_LO_ADDR : Fld := ⟨31, 5⟩
def F.DMA_WB_HI_ADDR : Fld := ⟨31, 0⟩
def F.DMA_TIMER_PERIOD_US : Fld := ⟨23, 0⟩
def F.DMA_DOORBELL_RING : Fld := ⟨0, 0⟩
def F.DMA_STATUS_STATE : Fld := ⟨2, 0⟩
def F.DMA_STATUS_RESULT : Fld := ⟨5, 4⟩
def F.DMA_STATUS_ERR : Fld := ⟨11, 8⟩
def F.DMA_CUR_ADDR : Fld := ⟨31, 5⟩
def F.DMA_RESIDUE_BYTES : Fld := ⟨31, 0⟩
def F.DMA_CODED_BYTES : Fld := ⟨31, 0⟩
def F.DMA_CNT_RUNS : Fld := ⟨15, 0⟩
def F.DMA_CNT_OVERRUN : Fld := ⟨31, 16⟩
def F.DMA_ABORT_ABORT : Fld := ⟨0, 0⟩
def F.DMA_PLAN_KSPS : Fld := ⟨31, 0⟩
def F.TB_CTRL_MODE : Fld := ⟨1, 0⟩
def F.TB_CTRL_BACK : Fld := ⟨2, 2⟩
def F.TB_CTRL_KP_SH : Fld := ⟨7, 4⟩
def F.TB_CTRL_RECEIPT : Fld := ⟨11, 8⟩
def F.TB_GPTP_DOMAIN : Fld := ⟨6, 0⟩
def F.TB_GPTP_PORT : Fld := ⟨7, 7⟩
def F.TB_GPTP_ROLE : Fld := ⟨9, 8⟩
def F.TB_GPTP_PDELAY_EN : Fld := ⟨10, 10⟩
def F.TB_GPTP_SYNC_LOG : Fld := ⟨15, 12⟩
def F.TB_GPTP_PRIO1 : Fld := ⟨23, 16⟩
def F.TB_GPTP_PRIO2 : Fld := ⟨31, 24⟩
def F.TB_LIMITS_MAX_PPM : Fld := ⟨9, 0⟩
def F.TB_LIMITS_SLEW_PPM : Fld := ⟨25, 16⟩
def F.TB_STEP_STEP_NS : Fld := ⟨29, 0⟩
def F.TB_BACKLIM_BACK_LIMIT_US : Fld := ⟨23, 0⟩
def F.TB_LINKDLY_DELAY_PS : Fld := ⟨23, 0⟩
def F.TB_TRIM_TRIM : Fld := ⟨31, 0⟩
def F.TB_PAIR_EN : Fld := ⟨0, 0⟩
def F.TB_PAIR_PARTNER : Fld := ⟨2, 1⟩
def F.TB_PAIR_REVERT : Fld := ⟨3, 3⟩
def F.TB_PAIR_CONVERGE : Fld := ⟨4, 4⟩
def F.TB_PAIR_SWITCH_GM : Fld := ⟨5, 5⟩
def F.TB_STATUS_STATE : Fld := ⟨2, 0⟩
def F.TB_STATUS_STEP_PEND : Fld := ⟨3, 3⟩
def F.TB_STATUS_SWITCHED : Fld := ⟨4, 4⟩
def F.TB_STATUS_PORT_STATE : Fld := ⟨6, 5⟩
def F.TB_STATUS_EPOCH : Fld := ⟨15, 8⟩
def F.TB_RATE_RATE_EFF : Fld := ⟨31, 0⟩
def F.TB_OFFSET_OFFSET_NS : Fld := ⟨31, 0⟩
def F.TB_NS_NS : Fld := ⟨31, 0⟩
def F.TB_S_LO_S_LO : Fld := ⟨31, 0⟩
def F.TB_S_HI_S_HI : Fld := ⟨15, 0⟩
def F.TB_S_HI_FRAC : Fld := ⟨31, 16⟩
def F.TB_GM_LO_GM : Fld := ⟨31, 0⟩
def F.TB_GM_HI_GM : Fld := ⟨31, 0⟩
def F.TB_CNT_STEPS : Fld := ⟨7, 0⟩
def F.TB_CNT_BACKSTEPS : Fld := ⟨15, 8⟩
def F.TB_CNT_SWITCHES : Fld := ⟨23, 16⟩
def F.TB_CNT_HOLDOVERS : Fld := ⟨31, 24⟩
def F.TB_LINKMEAS_DELAY_PS : Fld := ⟨23, 0⟩
def F.PPS_IN_CTRL_EN : Fld := ⟨0, 0⟩
def F.PPS_IN_CTRL_TB : Fld := ⟨2, 1⟩
def F.PPS_IN_CTRL_DLY_NS : Fld := ⟨15, 8⟩
def F.PPS_IN_NS_NS : Fld := ⟨31, 0⟩
def F.PPS_IN_S_LO_S_LO : Fld := ⟨31, 0⟩
def F.PPS_IN_INFO_S_HI : Fld := ⟨15, 0⟩
def F.PPS_IN_INFO_EPOCH : Fld := ⟨23, 16⟩
def F.PPS_IN_INFO_TB : Fld := ⟨25, 24⟩
def F.PPS_IN_CNT_EDGES : Fld := ⟨15, 0⟩
def F.PPS_IN_CNT_GLITCHES : Fld := ⟨31, 16⟩
def F.PPS_OUT_CTRL_EN : Fld := ⟨0, 0⟩
def F.PPS_OUT_CTRL_SRC : Fld := ⟨2, 1⟩
def F.PPS_OUT_CTRL_GATE : Fld := ⟨3, 3⟩
def F.PPS_OUT_CTRL_WIDTH_MS : Fld := ⟨12, 4⟩
def F.PPS_OUT_PHASE_PHASE_NS : Fld := ⟨29, 0⟩
def F.PPS_OUT_CNT_PULSES : Fld := ⟨15, 0⟩
def F.PPS_OUT_CNT_SKIPPED : Fld := ⟨31, 16⟩
def F.ETH_CTRL_EN : Fld := ⟨0, 0⟩
def F.ETH_CTRL_MODE : Fld := ⟨1, 1⟩
def F.ETH_CTRL_AN_EN : Fld := ⟨2, 2⟩
def F.ETH_CTRL_POL_TX : Fld := ⟨3, 3⟩
def F.ETH_CTRL_POL_RX : Fld := ⟨4, 4⟩
def F.ETH_MAC_LO_MAC_LO : Fld := ⟨31, 0⟩
def F.ETH_MAC_HI_MAC_HI : Fld := ⟨15, 0⟩
def F.ETH_TX_LAT_LAT_PS : Fld := ⟨23, 0⟩
def F.ETH_RX_LAT_LAT_PS : Fld := ⟨23, 0⟩
def F.ETH_STATUS_LINK : Fld := ⟨0, 0⟩
def F.ETH_STATUS_LOCK : Fld := ⟨1, 1⟩
def F.ETH_STATUS_AN_DONE : Fld := ⟨2, 2⟩
def F.ETH_RX_GOOD : Fld := ⟨15, 0⟩
def F.ETH_RX_FILTERED : Fld := ⟨31, 16⟩
def F.ETH_RXERR_FCS : Fld := ⟨15, 0⟩
def F.ETH_RXERR_SIZE : Fld := ⟨31, 16⟩
def F.ETH_TX_FRAMES : Fld := ⟨15, 0⟩
def F.ETH_TX_PAUSE_RX : Fld := ⟨31, 16⟩
def F.ETH_TXTS_DEPTH : Fld := ⟨4, 0⟩
def F.ETH_TXTS_OVERFLOW : Fld := ⟨31, 16⟩
def F.ETH_LINKCNT_DOWNS : Fld := ⟨15, 0⟩
def F.ETH_MDIO_CMD_GO : Fld := ⟨0, 0⟩
def F.ETH_MDIO_CMD_CL45 : Fld := ⟨1, 1⟩
def F.ETH_MDIO_CMD_OP : Fld := ⟨3, 2⟩
def F.ETH_MDIO_CMD_PHYAD : Fld := ⟨8, 4⟩
def F.ETH_MDIO_CMD_REG : Fld := ⟨13, 9⟩
def F.ETH_MDIO_CMD_BUSY : Fld := ⟨15, 15⟩
def F.ETH_MDIO_DATA_DATA : Fld := ⟨15, 0⟩
def F.ETH_MDIO_DATA_ERR : Fld := ⟨16, 16⟩
def F.TWC_CTRL_EN : Fld := ⟨0, 0⟩
def F.TWC_CTRL_SPEED : Fld := ⟨2, 1⟩
def F.TWC_CTRL_ATTN_EN : Fld := ⟨3, 3⟩
def F.TWC_CTRL_STRETCH_MS : Fld := ⟨14, 8⟩
def F.TWC_CTRL_RETRIES : Fld := ⟨18, 16⟩
def F.TWC_STATUS_STATE : Fld := ⟨1, 0⟩
def F.TWC_STATUS_QUEUED : Fld := ⟨5, 2⟩
def F.TWC_STATUS_LAST_RESULT : Fld := ⟨15, 8⟩
def F.TWC_STATUS_BITPOS : Fld := ⟨28, 16⟩
def F.TWC_CNT_XFERS : Fld := ⟨15, 0⟩
def F.TWC_CNT_FAILS : Fld := ⟨31, 16⟩
def F.TWC_ARB_DATA : Fld := ⟨15, 0⟩
def F.TWC_ARB_COND : Fld := ⟨31, 16⟩
def F.TWC_ATTN_COUNT : Fld := ⟨15, 0⟩
def F.TWC_ATTN_PEND : Fld := ⟨16, 16⟩
def F.TWTUN_CTRL_SPEED : Fld := ⟨1, 0⟩
def F.TWTUN_CTRL_STRETCH_MS : Fld := ⟨14, 8⟩
def F.TWTUN_CTRL_RETRIES : Fld := ⟨18, 16⟩
def F.TWTUN_STATUS_BUSY : Fld := ⟨0, 0⟩
def F.TWTUN_STATUS_QUEUED : Fld := ⟨4, 1⟩
def F.TWTUN_STATUS_LAST_RESULT : Fld := ⟨15, 8⟩
def F.TWTUN_CNT_XFERS : Fld := ⟨15, 0⟩
def F.TWTUN_CNT_FAILS : Fld := ⟨31, 16⟩
def F.TWT_CTRL_ADDR : Fld := ⟨6, 0⟩
def F.TWT_CTRL_ATTN_OUT : Fld := ⟨8, 8⟩
def F.TWT_STATUS_PAGE : Fld := ⟨7, 0⟩
def F.TWT_STATUS_POINTER : Fld := ⟨15, 8⟩
def F.TWT_STATUS_ACTIVE : Fld := ⟨16, 16⟩
def F.TWT_CNT_PROTO : Fld := ⟨15, 0⟩
def F.TWT_CNT_WAKES : Fld := ⟨31, 16⟩
def F.TWT_XFER_TRANS : Fld := ⟨15, 0⟩
def F.TWT_XFER_NACKS : Fld := ⟨31, 16⟩
def F.PWR_ON_LO_ON : Fld := ⟨31, 0⟩
def F.PWR_ON_HI_ON : Fld := ⟨19, 0⟩
def F.PWR_READY_LO_READY : Fld := ⟨31, 0⟩
def F.PWR_READY_HI_READY : Fld := ⟨19, 0⟩
def F.PWR_LEVEL_SHED : Fld := ⟨31, 0⟩
def F.PWR_FABRIC_LEVEL : Fld := ⟨1, 0⟩
def F.PWR_WAKE_EN_PIN : Fld := ⟨0, 0⟩
def F.PWR_WAKE_EN_TWT : Fld := ⟨1, 1⟩
def F.PWR_WAKE_EN_PPS : Fld := ⟨2, 2⟩
def F.PWR_WAKE_EN_RTC : Fld := ⟨3, 3⟩
def F.PWR_WAKE_EN_LINK : Fld := ⟨4, 4⟩
def F.PWR_WAKE_PIN_POL : Fld := ⟨5, 5⟩
def F.PWR_WAKE_DEB : Fld := ⟨15, 8⟩
def F.PWR_WAKE_RX_LANES : Fld := ⟨31, 0⟩
def F.PWR_WAKE_TX_LANES : Fld := ⟨15, 0⟩
def F.PWR_RTC_LO_RTC : Fld := ⟨31, 0⟩
def F.PWR_RTC_HI_RTC : Fld := ⟨15, 0⟩
def F.PWR_RTC_ALARM_LO_ALARM : Fld := ⟨31, 0⟩
def F.PWR_RTC_ALARM_HI_ALARM : Fld := ⟨15, 0⟩
def F.PWR_RESUME_CTRL_AUTO_PADS : Fld := ⟨7, 0⟩
def F.PWR_RESUME_CTRL_CAMPWR : Fld := ⟨31, 16⟩
def F.PWR_PADS_HELD : Fld := ⟨7, 0⟩
def F.PWR_ENTRY_RESULT : Fld := ⟨1, 0⟩
def F.PWR_ENTRY_DOMAIN : Fld := ⟨15, 8⟩
def F.PWR_ENTRY_REASON : Fld := ⟨23, 16⟩
def F.PWR_RESUME_FROM : Fld := ⟨1, 0⟩
def F.PWR_RESUME_SOURCE : Fld := ⟨6, 2⟩
def F.PWR_RESUME_DRAM : Fld := ⟨8, 7⟩
def F.PWR_RESUME_FAILED : Fld := ⟨14, 9⟩
def F.PWR_RESUME_FLASH_CFG : Fld := ⟨15, 15⟩
def F.PWR_RESUME_TIME : Fld := ⟨31, 16⟩
def F.PWR_CNT_ENTRIES : Fld := ⟨7, 0⟩
def F.PWR_CNT_REFUSALS : Fld := ⟨15, 8⟩
def F.PWR_CNT_WAKES : Fld := ⟨23, 16⟩
def F.PWR_CNT_BANK_FAILS : Fld := ⟨31, 24⟩
def F.PWR_BANK_RESULT : Fld := ⟨2, 0⟩
def F.PWR_SIG_SIG : Fld := ⟨31, 0⟩
def F.SEC_STATUS_LIFECYCLE : Fld := ⟨1, 0⟩
def F.SEC_STATUS_CMD_AUTH : Fld := ⟨2, 2⟩
def F.SEC_STATUS_ALLOW_DEVSIG : Fld := ⟨3, 3⟩
def F.SEC_STATUS_DEBUG_DISABLE : Fld := ⟨4, 4⟩
def F.SEC_STATUS_VENDOR_REVOKED : Fld := ⟨5, 5⟩
def F.SEC_STATUS_DEBUG_OPEN : Fld := ⟨6, 6⟩
def F.SEC_STATUS_TRNG_OK : Fld := ⟨7, 7⟩
def F.SEC_STRAPS_TWT_AS : Fld := ⟨1, 0⟩
def F.SEC_STRAPS_BOOT_SEL : Fld := ⟨3, 2⟩
def F.SEC_STRAPS_MOS_SEL : Fld := ⟨5, 4⟩
def F.SEC_STRAPS_MED_SEL : Fld := ⟨6, 6⟩
def F.SEC_KEYS_SLOTS : Fld := ⟨7, 0⟩
def F.SEC_SVN_FW : Fld := ⟨5, 0⟩
def F.SEC_SVN_LIB : Fld := ⟨13, 8⟩
def F.SEC_SVN_CFG : Fld := ⟨21, 16⟩
def F.SEC_BOOT_FW_SLOT : Fld := ⟨1, 0⟩
def F.SEC_BOOT_LIB_SLOT : Fld := ⟨3, 2⟩
def F.SEC_BOOT_CFG_SLOT : Fld := ⟨5, 4⟩
def F.SEC_BOOT_FW_KEY : Fld := ⟨11, 8⟩
def F.SEC_BOOT_DIR_COPY : Fld := ⟨12, 12⟩
def F.SEC_BOOT_FAIL : Fld := ⟨23, 16⟩
def F.SEC_BOOT_REJECTS : Fld := ⟨31, 24⟩
def F.SEC_LAST_FAIL_CODE : Fld := ⟨7, 0⟩
def F.SEC_LAST_FAIL_TYPE : Fld := ⟨15, 8⟩
def F.SEC_CRED_OPEN : Fld := ⟨3, 0⟩
def F.SEC_CRED_FAILS : Fld := ⟨31, 16⟩
def F.SEC_TRNG_HEALTH_FAILS : Fld := ⟨15, 0⟩
def F.SEC_TRNG_RESEEDS : Fld := ⟨31, 16⟩
def F.EV_STATUS_STATUS : Fld := ⟨31, 0⟩
def F.EV_LOG_UNREAD : Fld := ⟨8, 0⟩
def F.EV_LOG_OVERWRITTEN : Fld := ⟨31, 16⟩
def F.EV_TEMP_TEMP : Fld := ⟨8, 0⟩
def F.EV_TEMP_WARN_C : Fld := ⟨23, 16⟩
def F.EV_TEMP_CRIT_C : Fld := ⟨31, 24⟩
def F.EV_CTRL_EN : Fld := ⟨0, 0⟩
def F.EV_CTRL_VECTOR : Fld := ⟨6, 1⟩
def F.EV_CTRL_MSI : Fld := ⟨7, 7⟩
def F.EV_CTRL_IRQ : Fld := ⟨8, 8⟩
def F.EV_CTRL_FAULT : Fld := ⟨9, 9⟩
def F.EV_CTRL_SAFE : Fld := ⟨10, 10⟩
def F.EV_CTRL_SQ : Fld := ⟨14, 11⟩
def F.EV_CTRL_ETH : Fld := ⟨22, 15⟩
def F.EV_CTRL_TWT : Fld := ⟨23, 23⟩
def F.EV_CTRL_COUNT : Fld := ⟨31, 24⟩
def F.TEST_PGEN_PAT : Fld := ⟨2, 0⟩
def F.TEST_PGEN_INV : Fld := ⟨3, 3⟩
def F.TEST_PCHK_PAT : Fld := ⟨2, 0⟩
def F.TEST_PCHK_LOCK : Fld := ⟨4, 4⟩
def F.TEST_PCHK_INV_SEEN : Fld := ⟨5, 5⟩
def F.TEST_PCHK_CLEAR : Fld := ⟨6, 6⟩
def F.TEST_USER_LO_USER : Fld := ⟨31, 0⟩
def F.TEST_USER_HI_USER : Fld := ⟨31, 0⟩
def F.TEST_BITS_LO_BITS : Fld := ⟨31, 0⟩
def F.TEST_BITS_HI_BITS : Fld := ⟨15, 0⟩
def F.TEST_ERRS_ERRS : Fld := ⟨31, 0⟩
def F.TEST_CELL_IDLE_ERR : Fld := ⟨15, 0⟩
def F.TEST_CELL_RELOCKS : Fld := ⟨31, 16⟩
def F.TEST_INJ_KIND : Fld := ⟨1, 0⟩
def F.TEST_INJ_ACTIVE : Fld := ⟨2, 2⟩
def F.TEST_INJ_INJECTED : Fld := ⟨31, 8⟩
def F.TEST_LOOP_KIND : Fld := ⟨1, 0⟩
def F.TEST_MEM_STATUS_BUSY : Fld := ⟨0, 0⟩
def F.TEST_MEM_STATUS_RESULT : Fld := ⟨2, 1⟩
def F.TEST_MEM_STATUS_UNIT : Fld := ⟨31, 16⟩
def F.TEST_MEM_ADDR_ADDR : Fld := ⟨31, 0⟩
def F.TEST_MEM_BITS_MASK : Fld := ⟨31, 0⟩
def F.TEST_MEM_COUNT_WORDS : Fld := ⟨31, 0⟩
def F.TEST_EYE_STATUS_BUSY : Fld := ⟨0, 0⟩
def F.TEST_EYE_STATUS_ABORTED : Fld := ⟨1, 1⟩
def F.TEST_EYE_STATUS_LANE : Fld := ⟨7, 2⟩
def F.TEST_EYE_STATUS_DONE : Fld := ⟨19, 8⟩
def F.TOP_ID_MINOR : Fld := ⟨1, 0⟩
def F.TOP_ID_MAJOR : Fld := ⟨4, 2⟩
def F.TOP_ID_MFR : Fld := ⟨15, 5⟩
def F.TOP_ID_PART : Fld := ⟨31, 16⟩
def F.TOP_UNITS_RX_LANES : Fld := ⟨7, 0⟩
def F.TOP_UNITS_TX_LANES : Fld := ⟨15, 8⟩
def F.TOP_UNITS_STALLS : Fld := ⟨27, 16⟩
def F.TOP_SERIAL_SERIAL : Fld := ⟨31, 0⟩
def F.TOP_FW_VER_VERSION : Fld := ⟨31, 0⟩
def F.TOP_STATE_DSTATE : Fld := ⟨7, 0⟩
def F.TOP_STATE_CAUSE : Fld := ⟨31, 16⟩
def F.TOP_RESET_CAUSE_CAUSE : Fld := ⟨1, 0⟩
def F.TOP_RESET_CAUSE_RESETS : Fld := ⟨15, 8⟩
def F.TOP_BOOT_TIME_CONFIG_T : Fld := ⟨15, 0⟩
def F.TOP_BOOT_TIME_RUN_T : Fld := ⟨31, 16⟩
def F.TOP_SCRATCH_DATA : Fld := ⟨31, 0⟩

/-! The rows of the register tables, page by page. -/

def regRowsPage00 : List RegRow := [
  /- TOP_ID -/ ⟨0x0, [], 0x963256E0, 0x0, 0x0, 0x0, 0x0⟩,
  /- TOP_UNITS -/ ⟨0x4, [], 0x1000, 0x0, 0x0, 0x0, 0x0⟩,
  /- TOP_SERIAL -/ ⟨0x8, [], 0x0, 0x0, 0x0, 0x0, 0x0⟩,
  /- TOP_FW_VER -/ ⟨0xC, [], 0x0, 0x0, 0x0, 0x0, 0x0⟩]

def regRowsPage01 : List RegRow := [
  /- TOP_STATE -/ ⟨0x0, [], 0xF0000000, 0x0, 0x0, 0x0, 0x0⟩,
  /- TOP_RESET_CAUSE -/ ⟨0x4, [], 0x0, 0x0, 0x0, 0x0, 0x0⟩,
  /- TOP_BOOT_TIME -/ ⟨0x8, [], 0x0, 0x0, 0x0, 0x0, 0x0⟩,
  /- TOP_SCRATCH -/ ⟨0xC, [(0x4, 4)], 0x0, 0x0, 0xFFFFFFFF, 0x0, 0x0⟩]

def regRowsPage02 : List RegRow := [
  /- TICK_CTRL -/ ⟨0x0, [], 0x0, 0xF, 0x0, 0x0, 0x0⟩,
  /- TICK_PERIOD -/ ⟨0x4, [], 0xFE502B, 0xFFFFFFF, 0x0, 0x0, 0x0⟩,
  /- TICK_SEAL -/ ⟨0x8, [], 0x5A0064, 0x7F03FF, 0x0, 0x0, 0x0⟩,
  /- TICK_PHASE -/ ⟨0xC, [], 0x0, 0xFFFFFFF, 0x0, 0x0, 0x0⟩,
  /- TICK_COUNT_LO -/ ⟨0x10, [], 0x0, 0x0, 0x0, 0x0, 0x0⟩,
  /- TICK_COUNT_HI -/ ⟨0x14, [], 0x0, 0x0, 0x0, 0x0, 0x0⟩,
  /- COMMIT_STATUS -/ ⟨0x18, [], 0x0, 0x0, 0x0, 0x0, 0x0⟩,
  /- COMMIT_TICK -/ ⟨0x1C, [], 0x0, 0x0, 0x0, 0x0, 0x0⟩,
  /- COMMIT_FAIL_SRC -/ ⟨0x20, [], 0x0, 0x0, 0x0, 0x0, 0x0⟩,
  /- STAGE_FILL -/ ⟨0x24, [], 0x0, 0x0, 0x0, 0x0, 0x0⟩,
  /- DEFER_COUNT -/ ⟨0x28, [], 0x0, 0x0, 0x0, 0x0, 0x0⟩,
  /- LATE_COUNT -/ ⟨0x2C, [], 0x0, 0x0, 0x0, 0x0, 0x0⟩,
  /- HEAD_LATE_POLICY -/ ⟨0x40, [(0x4, 4)], 0x30, 0xF3, 0x0, 0x0, 0x0⟩]

def regRowsPage03 : List RegRow := [
  /- CMD_SQ_BASE_LO -/ ⟨0x0, [(0x40, 4)], 0x0, 0x0, 0xFFFFF000, 0x0, 0x0⟩,
  /- CMD_SQ_BASE_HI -/ ⟨0x4, [(0x40, 4)], 0x0, 0x0, 0xFFFFFFFF, 0x0, 0x0⟩,
  /- CMD_Q_CTRL -/ ⟨0x8, [(0x40, 4)], 0x8, 0x0, 0x7F1F, 0x0, 0x0⟩,
  /- CMD_SQ_TAIL -/ ⟨0xC, [(0x40, 4)], 0x0, 0x0, 0x1FFFF, 0x0, 0x0⟩,
  /- CMD_SQ_HEAD -/ ⟨0x10, [(0x40, 4)], 0x0, 0x0, 0x0, 0x0, 0x0⟩,
  /- CMD_RQ_BASE_LO -/ ⟨0x14, [(0x40, 4)], 0x0, 0x0, 0xFFFFF000, 0x0, 0x0⟩,
  /- CMD_RQ_BASE_HI -/ ⟨0x18, [(0x40, 4)], 0x0, 0x0, 0xFFFFFFFF, 0x0, 0x0⟩,
  /- CMD_RQ_HEAD -/ ⟨0x1C, [(0x40, 4)], 0x0, 0x0, 0x1FFFF, 0x0, 0x0⟩,
  /- CMD_RQ_TAIL -/ ⟨0x20, [(0x40, 4)], 0x0, 0x0, 0x0, 0x0, 0x0⟩,
  /- CMD_RQ_WB_LO -/ ⟨0x24, [(0x40, 4)], 0x0, 0x0, 0xFFFFFFFC, 0x0, 0x0⟩,
  /- CMD_RQ_WB_HI -/ ⟨0x28, [(0x40, 4)], 0x0, 0x0, 0xFFFFFFFF, 0x0, 0x0⟩,
  /- CMD_Q_STATUS -/ ⟨0x2C, [(0x40, 4)], 0x0, 0x0, 0x0, 0x4, 0x0⟩,
  /- CMD_ETH_CTRL -/ ⟨0x100, [], 0x0, 0x0, 0x3, 0x0, 0x0⟩,
  /- CMD_ETH_STATUS -/ ⟨0x104, [], 0x0, 0x0, 0x0, 0x0, 0x0⟩,
  /- CMD_ETH_ALLOW_LO -/ ⟨0x110, [(0x8, 8)], 0x0, 0x0, 0xFFFFFFFF, 0x0, 0x0⟩,
  /- CMD_ETH_ALLOW_HI -/ ⟨0x114, [(0x8, 8)], 0x0, 0x0, 0x1FFFF, 0x0, 0x0⟩]

def regRowsPage04 : List RegRow := [
  /- EV_STATUS -/ ⟨0x0, [(0x4, 8)], 0x0, 0x0, 0x0, 0xFFFFFFFF, 0x0⟩,
  /- EV_LOG -/ ⟨0x20, [], 0x0, 0x0, 0x0, 0x0, 0x0⟩,
  /- EV_TEMP -/ ⟨0x24, [], 0x7D730000, 0x0, 0xFFFF0000, 0x0, 0x0⟩,
  /- EV_CTRL -/ ⟨0x400, [(0x4, 256)], 0x1, 0x0, 0xFFFFFF, 0x0, 0x0⟩]

def regRowsPage05 : List RegRow := [
  /- PWR_ON_LO -/ ⟨0x0, [], 0xFFFFFFFF, 0xFFFFFFFF, 0x0, 0x0, 0x0⟩,
  /- PWR_ON_HI -/ ⟨0x4, [], 0xFFFFF, 0xFFFFF, 0x0, 0x0, 0x0⟩,
  /- PWR_READY_LO -/ ⟨0x8, [], 0x0, 0x0, 0x0, 0x0, 0x0⟩,
  /- PWR_READY_HI -/ ⟨0xC, [], 0x0, 0x0, 0x0, 0x0, 0x0⟩,
  /- PWR_LEVEL -/ ⟨0x10, [], 0x0, 0xFFFFFFFF, 0x0, 0x0, 0x0⟩,
  /- PWR_FABRIC -/ ⟨0x14, [], 0x0, 0x3, 0x0, 0x0, 0x0⟩,
  /- PWR_WAKE -/ ⟨0x18, [], 0x1, 0x0, 0xFF3F, 0x0, 0x0⟩,
  /- PWR_WAKE_RX -/ ⟨0x1C, [], 0x0, 0x0, 0xFFFFFFFF, 0x0, 0x0⟩,
  /- PWR_WAKE_TX -/ ⟨0x20, [], 0x0, 0x0, 0xFFFF, 0x0, 0x0⟩,
  /- PWR_RTC_LO -/ ⟨0x24, [], 0x0, 0x0, 0x0, 0x0, 0x0⟩,
  /- PWR_RTC_HI -/ ⟨0x28, [], 0x0, 0x0, 0x0, 0x0, 0x0⟩,
  /- PWR_RTC_ALARM_LO -/ ⟨0x2C, [], 0x0, 0x0, 0xFFFFFFFF, 0x0, 0x0⟩,
  /- PWR_RTC_ALARM_HI -/ ⟨0x30, [], 0x0, 0x0, 0xFFFF, 0x0, 0x0⟩,
  /- PWR_RESUME_CTRL -/ ⟨0x34, [], 0x0, 0x0, 0xFFFF00FF, 0x0, 0x0⟩,
  /- PWR_PADS -/ ⟨0x38, [], 0x0, 0x0, 0x0, 0x0, 0x0⟩,
  /- PWR_ENTRY -/ ⟨0x3C, [], 0x3, 0x0, 0x0, 0x0, 0x0⟩,
  /- PWR_RESUME -/ ⟨0x40, [], 0x0, 0x0, 0x0, 0x0, 0x0⟩,
  /- PWR_CNT -/ ⟨0x44, [], 0x0, 0x0, 0x0, 0x0, 0x0⟩,
  /- PWR_BANK -/ ⟨0x100, [(0x4, 60)], 0x0, 0x0, 0x0, 0x0, 0x0⟩,
  /- PWR_SIG -/ ⟨0x200, [(0x4, 60)], 0x0, 0x0, 0x0, 0x0, 0x0⟩]

def regRowsPage06 : List RegRow := [
  /- SEC_STATUS -/ ⟨0x0, [], 0x0, 0x0, 0x0, 0x0, 0x0⟩,
  /- SEC_STRAPS -/ ⟨0x4, [], 0x0, 0x0, 0x0, 0x0, 0x0⟩,
  /- SEC_KEYS -/ ⟨0x8, [], 0x0, 0x0, 0x0, 0x0, 0x0⟩,
  /- SEC_SVN -/ ⟨0xC, [], 0x0, 0x0, 0x0, 0x0, 0x0⟩,
  /- SEC_BOOT -/ ⟨0x10, [], 0x3F, 0x0, 0x0, 0x0, 0x0⟩,
  /- SEC_LAST_FAIL -/ ⟨0x14, [], 0x0, 0x0, 0x0, 0x0, 0x0⟩,
  /- SEC_CRED -/ ⟨0x18, [], 0x0, 0x0, 0x0, 0x0, 0x0⟩,
  /- SEC_TRNG -/ ⟨0x1C, [], 0x0, 0x0, 0x0, 0x0, 0x0⟩]

def regRowsPage07 : List RegRow := [
  /- TB_CTRL -/ ⟨0x0, [(0x100, 4)], 0x330, 0xFF7, 0x0, 0x0, 0x0⟩,
  /- TB_GPTP -/ ⟨0x4, [(0x100, 4)], 0xF8FFD400, 0xFFFFF7FF, 0x0, 0x0, 0x0⟩,
  /- TB_LIMITS -/ ⟨0x8, [(0x100, 4)], 0x3E80064, 0x3FF03FF, 0x0, 0x0, 0x0⟩,
  /- TB_STEP -/ ⟨0xC, [(0x100, 4)], 0x2710, 0x3FFFFFFF, 0x0, 0x0, 0x0⟩,
  /- TB_BACKLIM -/ ⟨0x10, [(0x100, 4)], 0x3E8, 0xFFFFFF, 0x0, 0x0, 0x0⟩,
  /- TB_LINKDLY -/ ⟨0x14, [(0x100, 4)], 0x0, 0xFFFFFF, 0x0, 0x0, 0x0⟩,
  /- TB_TRIM -/ ⟨0x18, [(0x100, 4)], 0x0, 0xFFFFFFFF, 0x0, 0x0, 0x0⟩,
  /- TB_PAIR -/ ⟨0x1C, [(0x100, 4)], 0x8, 0x3F, 0x0, 0x0, 0x0⟩,
  /- TB_STATUS -/ ⟨0x20, [(0x100, 4)], 0x0, 0x0, 0x0, 0x0, 0x0⟩,
  /- TB_RATE -/ ⟨0x24, [(0x100, 4)], 0x0, 0x0, 0x0, 0x0, 0x0⟩,
  /- TB_OFFSET -/ ⟨0x28, [(0x100, 4)], 0x0, 0x0, 0x0, 0x0, 0x0⟩,
  /- TB_NS -/ ⟨0x2C, [(0x100, 4)], 0x0, 0x0, 0x0, 0x0, 0x0⟩,
  /- TB_S_LO -/ ⟨0x30, [(0x100, 4)], 0x0, 0x0, 0x0, 0x0, 0x0⟩,
  /- TB_S_HI -/ ⟨0x34, [(0x100, 4)], 0x0, 0x0, 0x0, 0x0, 0x0⟩,
  /- TB_GM_LO -/ ⟨0x38, [(0x100, 4)], 0x0, 0x0, 0x0, 0x0, 0x0⟩,
  /- TB_GM_HI -/ ⟨0x3C, [(0x100, 4)], 0x0, 0x0, 0x0, 0x0, 0x0⟩,
  /- TB_CNT -/ ⟨0x40, [(0x100, 4)], 0x0, 0x0, 0x0, 0x0, 0x0⟩,
  /- TB_LINKMEAS -/ ⟨0x44, [(0x100, 4)], 0x0, 0x0, 0x0, 0x0, 0x0⟩,
  /- PPS_IN_CTRL -/ ⟨0x400, [], 0x0, 0xFF07, 0x0, 0x0, 0x0⟩,
  /- PPS_IN_NS -/ ⟨0x404, [], 0x0, 0x0, 0x0, 0x0, 0x0⟩,
  /- PPS_IN_S_LO -/ ⟨0x408, [], 0x0, 0x0, 0x0, 0x0, 0x0⟩,
  /- PPS_IN_INFO -/ ⟨0x40C, [], 0x0, 0x0, 0x0, 0x0, 0x0⟩,
  /- PPS_IN_CNT -/ ⟨0x410, [], 0x0, 0x0, 0x0, 0x0, 0x0⟩,
  /- PPS_OUT_CTRL -/ ⟨0x414, [], 0x648, 0x1FFF, 0x0, 0x0, 0x0⟩,
  /- PPS_OUT_PHASE -/ ⟨0x418, [], 0x0, 0x3FFFFFFF, 0x0, 0x0, 0x0⟩,
  /- PPS_OUT_CNT -/ ⟨0x41C, [], 0x0, 0x0, 0x0, 0x0, 0x0⟩]

def regRowsPage08 : List RegRow := [
  /- ETH_CTRL -/ ⟨0x0, [(0x100, 2)], 0x4, 0x1F, 0x0, 0x0, 0x0⟩,
  /- ETH_MAC_LO -/ ⟨0x4, [(0x100, 2)], 0x0, 0xFFFFFFFF, 0x0, 0x0, 0x0⟩,
  /- ETH_MAC_HI -/ ⟨0x8, [(0x100, 2)], 0x0, 0xFFFF, 0x0, 0x0, 0x0⟩,
  /- ETH_TX_LAT -/ ⟨0xC, [(0x100, 2)], 0x0, 0xFFFFFF, 0x0, 0x0, 0x0⟩,
  /- ETH_RX_LAT -/ ⟨0x10, [(0x100, 2)], 0x0, 0xFFFFFF, 0x0, 0x0, 0x0⟩,
  /- ETH_STATUS -/ ⟨0x14, [(0x100, 2)], 0x0, 0x0, 0x0, 0x0, 0x0⟩,
  /- ETH_RX -/ ⟨0x18, [(0x100, 2)], 0x0, 0x0, 0x0, 0x0, 0x0⟩,
  /- ETH_RXERR -/ ⟨0x1C, [(0x100, 2)], 0x0, 0x0, 0x0, 0x0, 0x0⟩,
  /- ETH_TX -/ ⟨0x20, [(0x100, 2)], 0x0, 0x0, 0x0, 0x0, 0x0⟩,
  /- ETH_TXTS -/ ⟨0x24, [(0x100, 2)], 0x0, 0x0, 0x0, 0x0, 0x0⟩,
  /- ETH_LINKCNT -/ ⟨0x28, [(0x100, 2)], 0x0, 0x0, 0x0, 0x0, 0x0⟩,
  /- ETH_MDIO_CMD -/ ⟨0x400, [], 0x0, 0x0, 0x3FFE, 0x0, 0x1⟩,
  /- ETH_MDIO_DATA -/ ⟨0x404, [], 0x0, 0x0, 0xFFFF, 0x0, 0x0⟩]

def regRowsPage09 : List RegRow := [
  /- TWC_CTRL -/ ⟨0x0, [(0x20, 4)], 0x31900, 0x77F0F, 0x0, 0x0, 0x0⟩,
  /- TWC_STATUS -/ ⟨0x4, [(0x20, 4)], 0x0, 0x0, 0x0, 0x0, 0x0⟩,
  /- TWC_CNT -/ ⟨0x8, [(0x20, 4)], 0x0, 0x0, 0x0, 0x0, 0x0⟩,
  /- TWC_ARB -/ ⟨0xC, [(0x20, 4)], 0x0, 0x0, 0x0, 0x0, 0x0⟩,
  /- TWC_ATTN -/ ⟨0x10, [(0x20, 4)], 0x0, 0x0, 0x0, 0x10000, 0x0⟩,
  /- TWTUN_CTRL -/ ⟨0x100, [(0x10, 32)], 0x31901, 0x77F03, 0x0, 0x0, 0x0⟩,
  /- TWTUN_STATUS -/ ⟨0x104, [(0x10, 32)], 0x0, 0x0, 0x0, 0x0, 0x0⟩,
  /- TWTUN_CNT -/ ⟨0x108, [(0x10, 32)], 0x0, 0x0, 0x0, 0x0, 0x0⟩,
  /- TWT_CTRL -/ ⟨0x400, [], 0x0, 0x0, 0x0, 0x0, 0x0⟩,
  /- TWT_STATUS -/ ⟨0x404, [], 0x0, 0x0, 0x0, 0x0, 0x0⟩,
  /- TWT_CNT -/ ⟨0x408, [], 0x0, 0x0, 0x0, 0x0, 0x0⟩,
  /- TWT_XFER -/ ⟨0x40C, [], 0x0, 0x0, 0x0, 0x0, 0x0⟩]

def regRowsPage0A : List RegRow := [
  /- HB_LINK -/ ⟨0x0, [], 0x0, 0x0, 0x0, 0x0, 0x0⟩,
  /- HB_CTRL -/ ⟨0x4, [], 0x0, 0x0, 0x1, 0x0, 0x0⟩,
  /- HB_BACKOFF -/ ⟨0x8, [], 0x0, 0x0, 0x0, 0x0, 0x0⟩,
  /- HB_DARK -/ ⟨0x10, [(0x4, 8)], 0x0, 0x0, 0x0, 0xFFFFFFFF, 0x0⟩,
  /- HB_PWLOG_STATUS -/ ⟨0x30, [], 0x0, 0x0, 0x0, 0xFF, 0x0⟩,
  /- HB_PWLOG_OFFSET -/ ⟨0x40, [(0x10, 8)], 0x0, 0x0, 0x0, 0x0, 0x0⟩,
  /- HB_PWLOG_PHYS -/ ⟨0x44, [(0x10, 8)], 0x0, 0x0, 0x0, 0x0, 0x0⟩,
  /- HB_PWLOG_INFO -/ ⟨0x48, [(0x10, 8)], 0x0, 0x0, 0x0, 0x0, 0x0⟩,
  /- HB_PWLOG_TICK -/ ⟨0x4C, [(0x10, 8)], 0x0, 0x0, 0x0, 0x0, 0x0⟩]

def regRowsPage0B : List RegRow := [
  /- MSIX_ADDR_LO -/ ⟨0x0, [(0x10, 64)], 0x0, 0x0, 0xFFFFFFFC, 0x0, 0x0⟩,
  /- MSIX_ADDR_HI -/ ⟨0x4, [(0x10, 64)], 0x0, 0x0, 0xFFFFFFFF, 0x0, 0x0⟩,
  /- MSIX_DATA -/ ⟨0x8, [(0x10, 64)], 0x0, 0x0, 0xFFFFFFFF, 0x0, 0x0⟩,
  /- MSIX_CTRL -/ ⟨0xC, [(0x10, 64)], 0x1, 0x0, 0x1, 0x0, 0x0⟩,
  /- MSIX_PBA -/ ⟨0x800, [(0x4, 2)], 0x0, 0x0, 0x0, 0x0, 0x0⟩]

def regRowsPage0C : List RegRow := [
  /- DMA_ENG -/ ⟨0x0, [(0x4, 4)], 0x0, 0x0, 0x0, 0x0, 0x0⟩,
  /- DMA_CTRL -/ ⟨0x100, [(0x40, 16)], 0x0, 0xFF0FFF, 0x0, 0x0, 0x0⟩,
  /- DMA_FIRST -/ ⟨0x104, [(0x40, 16)], 0x0, 0xFFFFFFE0, 0x0, 0x0, 0x0⟩,
  /- DMA_DBASE_HI -/ ⟨0x108, [(0x40, 16)], 0x0, 0xFFFFFFFF, 0x0, 0x0, 0x0⟩,
  /- DMA_WB_LO -/ ⟨0x10C, [(0x40, 16)], 0x0, 0xFFFFFFE0, 0x0, 0x0, 0x0⟩,
  /- DMA_WB_HI -/ ⟨0x110, [(0x40, 16)], 0x0, 0xFFFFFFFF, 0x0, 0x0, 0x0⟩,
  /- DMA_TIMER -/ ⟨0x114, [(0x40, 16)], 0x3E8, 0xFFFFFF, 0x0, 0x0, 0x0⟩,
  /- DMA_DOORBELL -/ ⟨0x118, [(0x40, 16)], 0x0, 0x0, 0x0, 0x0, 0x1⟩,
  /- DMA_STATUS -/ ⟨0x11C, [(0x40, 16)], 0x0, 0x0, 0x0, 0x0, 0x0⟩,
  /- DMA_CUR -/ ⟨0x120, [(0x40, 16)], 0x0, 0x0, 0x0, 0x0, 0x0⟩,
  /- DMA_RESIDUE -/ ⟨0x124, [(0x40, 16)], 0x0, 0x0, 0x0, 0x0, 0x0⟩,
  /- DMA_CODED -/ ⟨0x128, [(0x40, 16)], 0x0, 0x0, 0x0, 0x0, 0x0⟩,
  /- DMA_CNT -/ ⟨0x12C, [(0x40, 16)], 0x0, 0x0, 0x0, 0x0, 0x0⟩,
  /- DMA_ABORT -/ ⟨0x130, [(0x40, 16)], 0x0, 0x0, 0x0, 0x0, 0x1⟩,
  /- DMA_PLAN -/ ⟨0x134, [(0x40, 16)], 0x0, 0xFFFFFFFF, 0x0, 0x0, 0x0⟩]

def regRowsPage10 : List RegRow := [
  /- LANE_CTRL -/ ⟨0x0, [(0x40, 48)], 0x438, 0x7FF, 0x0, 0x0, 0x0⟩,
  /- LANE_TXEQ -/ ⟨0x4, [(0x40, 48)], 0xFF4002, 0xFF7FFF, 0x0, 0x0, 0x0⟩,
  /- LANE_RXEQ -/ ⟨0x8, [(0x40, 48)], 0x0, 0x3F, 0x0, 0x0, 0x0⟩,
  /- LANE_THRESH -/ ⟨0xC, [(0x40, 48)], 0x11030, 0xFFFFFF, 0x0, 0x0, 0x0⟩,
  /- LANE_STATUS -/ ⟨0x10, [(0x40, 48)], 0x0, 0x0, 0x0, 0x0, 0x0⟩,
  /- LANE_EYE -/ ⟨0x14, [(0x40, 48)], 0xFF000000, 0x0, 0x0, 0x0, 0x0⟩,
  /- LANE_DFE_LO -/ ⟨0x18, [(0x40, 48)], 0x0, 0x0, 0x0, 0x0, 0x0⟩,
  /- LANE_DFE_HI -/ ⟨0x1C, [(0x40, 48)], 0x0, 0x0, 0x0, 0x0, 0x0⟩,
  /- LANE_RTT -/ ⟨0x20, [(0x40, 48)], 0x0, 0x0, 0x0, 0x0, 0x0⟩,
  /- LANE_CNT -/ ⟨0x24, [(0x40, 48)], 0x0, 0x0, 0x0, 0x0, 0x0⟩,
  /- LANE_REPEAT -/ ⟨0x28, [(0x40, 48)], 0x0, 0x1F07, 0x0, 0x0, 0x0⟩]

def regRowsPage11 : List RegRow := [
  /- LINK_PARTNER -/ ⟨0x0, [(0x40, 48)], 0x0, 0x0, 0x0, 0x0, 0x0⟩,
  /- LINK_PID -/ ⟨0x4, [(0x40, 48)], 0x0, 0x0, 0x0, 0x0, 0x0⟩,
  /- LINK_PSN -/ ⟨0x8, [(0x40, 48)], 0x0, 0x0, 0x0, 0x0, 0x0⟩,
  /- LINK_AUTH -/ ⟨0xC, [(0x40, 48)], 0x0, 0x1, 0x0, 0x0, 0x0⟩,
  /- LINK_TRIG_CTRL -/ ⟨0x10, [(0x40, 48)], 0xA00, 0xFF07, 0x0, 0x0, 0x0⟩,
  /- LINK_TRIG_OFFSET -/ ⟨0x14, [(0x40, 48)], 0x4E20, 0xFFFFFFF, 0x0, 0x0, 0x0⟩,
  /- LINK_TRIG_LAT -/ ⟨0x18, [(0x40, 48)], 0x0, 0xFFFFF, 0x0, 0x0, 0x0⟩,
  /- LINK_TRIG_TRIM -/ ⟨0x1C, [(0x40, 48)], 0x0, 0xFFFF, 0x0, 0x0, 0x0⟩,
  /- LINK_TRIG_CNT -/ ⟨0x20, [(0x40, 48)], 0x0, 0x0, 0x0, 0x0, 0x0⟩,
  /- LINK_GPIO -/ ⟨0x24, [(0x40, 48)], 0x0, 0x0, 0xFFFF, 0x0, 0x0⟩,
  /- LINK_FEC_CORR -/ ⟨0x28, [(0x40, 48)], 0x0, 0x0, 0x0, 0x0, 0x0⟩,
  /- LINK_FEC_UNCORR -/ ⟨0x2C, [(0x40, 48)], 0x0, 0x0, 0x0, 0x0, 0x0⟩,
  /- LINK_MSG -/ ⟨0x30, [(0x40, 48)], 0x0, 0x0, 0x0, 0x0, 0x0⟩,
  /- LINK_ROLL -/ ⟨0xC00, [], 0x3064, 0xF3FF, 0x0, 0x0, 0x0⟩,
  /- LINK_ROLL_RX_EN -/ ⟨0xC04, [], 0xFFFFFFFF, 0xFFFFFFFF, 0x0, 0x0, 0x0⟩,
  /- LINK_ROLL_TX_EN -/ ⟨0xC08, [], 0xFFFF, 0xFFFF, 0x0, 0x0, 0x0⟩]

def regRowsPage12 : List RegRow := [
  /- TEST_PGEN -/ ⟨0x0, [(0x40, 48)], 0x0, 0x0, 0xF, 0x0, 0x0⟩,
  /- TEST_PCHK -/ ⟨0x4, [(0x40, 48)], 0x0, 0x0, 0x7, 0x0, 0x40⟩,
  /- TEST_USER_LO -/ ⟨0x8, [(0x40, 48)], 0x0, 0x0, 0xFFFFFFFF, 0x0, 0x0⟩,
  /- TEST_USER_HI -/ ⟨0xC, [(0x40, 48)], 0x0, 0x0, 0xFFFFFFFF, 0x0, 0x0⟩,
  /- TEST_BITS_LO -/ ⟨0x10, [(0x40, 48)], 0x0, 0x0, 0x0, 0x0, 0x0⟩,
  /- TEST_BITS_HI -/ ⟨0x14, [(0x40, 48)], 0x0, 0x0, 0x0, 0x0, 0x0⟩,
  /- TEST_ERRS -/ ⟨0x18, [(0x40, 48)], 0x0, 0x0, 0x0, 0x0, 0x0⟩,
  /- TEST_CELL -/ ⟨0x1C, [(0x40, 48)], 0x0, 0x0, 0x0, 0x0, 0x0⟩,
  /- TEST_INJ -/ ⟨0x20, [(0x40, 48)], 0x0, 0x0, 0x0, 0x0, 0x0⟩,
  /- TEST_LOOP -/ ⟨0x24, [(0x40, 48)], 0x0, 0x0, 0x0, 0x0, 0x0⟩,
  /- TEST_MEM_STATUS -/ ⟨0xC00, [], 0x0, 0x0, 0x0, 0x0, 0x0⟩,
  /- TEST_MEM_ADDR -/ ⟨0xC04, [], 0x0, 0x0, 0x0, 0x0, 0x0⟩,
  /- TEST_MEM_BITS -/ ⟨0xC08, [], 0x0, 0x0, 0x0, 0x0, 0x0⟩,
  /- TEST_MEM_COUNT -/ ⟨0xC0C, [], 0x0, 0x0, 0x0, 0x0, 0x0⟩,
  /- TEST_EYE_STATUS -/ ⟨0xC10, [], 0x0, 0x0, 0x0, 0x0, 0x0⟩]

def regRowsPage14 : List RegRow := [
  /- GATE_TIMEOUT -/ ⟨0x0, [(0x400, 8)], 0x64, 0xFF, 0x0, 0x0, 0x0⟩,
  /- GATE_HDR -/ ⟨0x4, [(0x400, 8)], 0x1388, 0x1FFFF, 0x0, 0x0, 0x0⟩,
  /- GATE_PKT -/ ⟨0x8, [(0x400, 8)], 0x0, 0x0, 0x0, 0x0, 0x0⟩,
  /- GATE_DROP -/ ⟨0xC, [(0x400, 8)], 0x0, 0x0, 0x0, 0x0, 0x0⟩,
  /- GATE_DROP2 -/ ⟨0x10, [(0x400, 8)], 0x0, 0x0, 0x0, 0x0, 0x0⟩,
  /- GATE_LOAD -/ ⟨0x14, [(0x400, 8)], 0x0, 0x0, 0x0, 0x0, 0x0⟩,
  /- GATE_DMG -/ ⟨0x18, [(0x400, 8)], 0x0, 0x0, 0x0, 0x0, 0x0⟩,
  /- GATE_CREDIT -/ ⟨0x1C, [(0x400, 8)], 0x0, 0x0, 0x0, 0x0, 0x0⟩,
  /- GATE_CTRL -/ ⟨0x100, [(0x400, 8), (0x4, 16)], 0x6C00, 0x83FFFFFF, 0x0, 0x0, 0x0⟩,
  /- GATE_CROP_X -/ ⟨0x140, [(0x400, 8), (0x4, 16)], 0x1FFF0000, 0x1FFF1FFF, 0x0, 0x0, 0x0⟩,
  /- GATE_CROP_Y -/ ⟨0x180, [(0x400, 8), (0x4, 16)], 0x1FFF0000, 0x1FFF1FFF, 0x0, 0x0, 0x0⟩,
  /- GATE_DECTAG -/ ⟨0x1C0, [(0x400, 8), (0x4, 16)], 0x0, 0xFFFF001F, 0x0, 0x0, 0x0⟩,
  /- GATE_TARGET -/ ⟨0x200, [(0x400, 8), (0x4, 16)], 0x0, 0xFFFFFFF, 0x0, 0x0, 0x0⟩,
  /- GATE_STATUS -/ ⟨0x240, [(0x400, 8), (0x4, 16)], 0x0, 0x0, 0x0, 0x0, 0x0⟩,
  /- GATE_CNT -/ ⟨0x280, [(0x400, 8), (0x4, 16)], 0x0, 0x0, 0x0, 0x0, 0x0⟩]

def regRowsPage18 : List RegRow := [
  /- STALL_STATUS -/ ⟨0x0, [(0x8, 256)], 0xFF0000, 0x0, 0x0, 0x0, 0x0⟩,
  /- STALL_PC -/ ⟨0x4, [(0x8, 256)], 0x0, 0x0, 0x0, 0x0, 0x0⟩,
  /- SHED_STATUS -/ ⟨0x800, [(0x8, 16)], 0x0, 0x0, 0x0, 0x0, 0x0⟩,
  /- SHED_CMP -/ ⟨0x804, [(0x8, 16)], 0x0, 0x0, 0x0, 0x0, 0x0⟩]

def regRowsPage1C : List RegRow := [
  /- REMAP_STATUS -/ ⟨0x0, [(0x40, 16)], 0x0, 0x0, 0x0, 0x0, 0x0⟩,
  /- REMAP_FRAMES -/ ⟨0x4, [(0x40, 16)], 0x0, 0x0, 0x0, 0x0, 0x0⟩,
  /- REMAP_FILL -/ ⟨0x8, [(0x40, 16)], 0x0, 0x0, 0x0, 0x0, 0x0⟩,
  /- REMAP_LOAD -/ ⟨0xC, [(0x40, 16)], 0x0, 0x0, 0x0, 0x0, 0x0⟩,
  /- REMAP_CYCLES -/ ⟨0x10, [(0x40, 16)], 0x0, 0x0, 0x0, 0x0, 0x0⟩,
  /- MESH_STATUS -/ ⟨0x400, [(0x4, 64)], 0x0, 0x0, 0x0, 0x0, 0x0⟩,
  /- MESH_BASE -/ ⟨0x500, [(0x4, 64)], 0x0, 0x0, 0x0, 0x0, 0x0⟩]

def regRowsPage1D : List RegRow := [
  /- CODEC_PROF -/ ⟨0x0, [(0x4, 32)], 0x1C, 0x3FFF, 0x0, 0x0, 0x0⟩,
  /- CODEC_STATUS -/ ⟨0x100, [(0x10, 16)], 0x0, 0x0, 0x0, 0x0, 0x0⟩,
  /- CODEC_LINES -/ ⟨0x104, [(0x10, 16)], 0x0, 0x0, 0x0, 0x0, 0x0⟩,
  /- CODEC_ESC -/ ⟨0x108, [(0x10, 16)], 0x0, 0x0, 0x0, 0x0, 0x0⟩,
  /- CODEC_BITS -/ ⟨0x10C, [(0x10, 16)], 0x0, 0x0, 0x0, 0x0, 0x0⟩,
  /- CODEC_HEAD_SEL -/ ⟨0x200, [(0x40, 4), (0x4, 16)], 0x3600, 0x13F1F, 0x0, 0x0, 0x0⟩]

def regRowsPage20 : List RegRow := [
  /- FS_STATUS -/ ⟨0x0, [], 0x0, 0x0, 0x0, 0x1, 0x0⟩,
  /- FS_BAR2_BASE -/ ⟨0x4, [], 0xC, 0x0, 0xFF, 0x0, 0x0⟩,
  /- FS_SCRUB -/ ⟨0x8, [], 0xC01, 0xFF01, 0x0, 0x0, 0x0⟩,
  /- FS_SCRUB_POS -/ ⟨0xC, [], 0x0, 0x0, 0x0, 0x0, 0x0⟩,
  /- FS_MON -/ ⟨0x10, [], 0x50820, 0x7FFFFF, 0x0, 0x0, 0x0⟩,
  /- FS_ECC_TOTAL -/ ⟨0x14, [], 0x0, 0x0, 0x0, 0x0, 0x0⟩,
  /- FS_LAST_ERR -/ ⟨0x18, [], 0x0, 0x0, 0x0, 0x0, 0x0⟩,
  /- FS_BW -/ ⟨0x1C, [], 0x0, 0x0, 0x0, 0x0, 0x0⟩,
  /- FS_CH_OCC -/ ⟨0x100, [(0x8, 64)], 0x0, 0x0, 0x0, 0x0, 0x0⟩,
  /- FS_CH_ECC -/ ⟨0x104, [(0x8, 64)], 0x0, 0x0, 0x0, 0x0, 0x0⟩,
  /- PAD_STATUS -/ ⟨0x400, [(0x8, 256)], 0x0, 0x0, 0x0, 0x0, 0x0⟩,
  /- PAD_SEQ -/ ⟨0x404, [(0x8, 256)], 0x0, 0x0, 0x0, 0x0, 0x0⟩]

def regRowsPage24 : List RegRow := [
  /- HEAD_CTRL -/ ⟨0x0, [(0x1000, 4)], 0x0, 0xF, 0x0, 0x0, 0x0⟩,
  /- HEAD_SIZE -/ ⟨0x4, [(0x1000, 4)], 0x437077F, 0x1FFF1FFF, 0x0, 0x0, 0x0⟩,
  /- HEAD_LINE -/ ⟨0x8, [(0x1000, 4)], 0x3BEB, 0xFFFFF, 0x0, 0x0, 0x0⟩,
  /- HEAD_FILL_A -/ ⟨0xC, [(0x1000, 4)], 0x0, 0xFFFFFFFF, 0x0, 0x0, 0x0⟩,
  /- HEAD_FILL_B -/ ⟨0x10, [(0x1000, 4)], 0x0, 0xFFFF, 0x0, 0x0, 0x0⟩,
  /- HEAD_WIT -/ ⟨0x14, [(0x1000, 4)], 0x208, 0x7FFF, 0x0, 0x0, 0x0⟩,
  /- HEAD_STATUS -/ ⟨0x18, [(0x1000, 4)], 0x0, 0x0, 0x0, 0x0, 0x0⟩,
  /- HEAD_ALARM -/ ⟨0x1C, [(0x1000, 4)], 0xF0000, 0x0, 0x0, 0x3FF0, 0x2⟩,
  /- HEAD_FRAMES -/ ⟨0x20, [(0x1000, 4)], 0x0, 0x0, 0x0, 0x0, 0x0⟩,
  /- HEAD_WFAIL -/ ⟨0x24, [(0x1000, 4)], 0x0, 0x0, 0x0, 0x0, 0x0⟩,
  /- KCTRL -/ ⟨0x100, [(0x1000, 4), (0x20, 16)], 0x3FF00, 0x1FFFF7, 0x0, 0x0, 0x0⟩,
  /- KCTRL of the background -/ ⟨0x40, [(0x1000, 4)], 0x3FF00, 0x1FFFF7, 0x0, 0x0, 0x0⟩,
  /- KDST -/ ⟨0x104, [(0x1000, 4), (0x20, 16)], 0x0, 0x1FFF1FFF, 0x0, 0x0, 0x0⟩,
  /- KDST of the background -/ ⟨0x44, [(0x1000, 4)], 0x0, 0x1FFF1FFF, 0x0, 0x0, 0x0⟩,
  /- KSIZE -/ ⟨0x108, [(0x1000, 4), (0x20, 16)], 0x0, 0x1FFF1FFF, 0x0, 0x0, 0x0⟩,
  /- KSIZE of the background -/ ⟨0x48, [(0x1000, 4)], 0x0, 0x1FFF1FFF, 0x0, 0x0, 0x0⟩,
  /- KSRC -/ ⟨0x10C, [(0x1000, 4), (0x20, 16)], 0x0, 0x3FFFFFF, 0x0, 0x0, 0x0⟩,
  /- KSRC of the background -/ ⟨0x4C, [(0x1000, 4)], 0x0, 0x3FFFFFF, 0x0, 0x0, 0x0⟩,
  /- KPROD -/ ⟨0x110, [(0x1000, 4), (0x20, 16)], 0x0, 0x1FFFFFFF, 0x0, 0x0, 0x0⟩,
  /- KPROD of the background -/ ⟨0x50, [(0x1000, 4)], 0x0, 0x1FFFFFFF, 0x0, 0x0, 0x0⟩,
  /- KSOFF -/ ⟨0x114, [(0x1000, 4), (0x20, 16)], 0x0, 0x1FFF1FFF, 0x0, 0x0, 0x0⟩,
  /- KSOFF of the background -/ ⟨0x54, [(0x1000, 4)], 0x0, 0x1FFF1FFF, 0x0, 0x0, 0x0⟩,
  /- KPITCH -/ ⟨0x118, [(0x1000, 4), (0x20, 16)], 0x0, 0xFFFFFFFF, 0x0, 0x0, 0x0⟩,
  /- KPITCH of the background -/ ⟨0x58, [(0x1000, 4)], 0x0, 0xFFFFFFFF, 0x0, 0x0, 0x0⟩,
  /- KCOLOR -/ ⟨0x11C, [(0x1000, 4), (0x20, 16)], 0x0, 0xFFFFFFFF, 0x0, 0x0, 0x0⟩,
  /- KCOLOR of the background -/ ⟨0x5C, [(0x1000, 4)], 0x0, 0xFFFFFFFF, 0x0, 0x0, 0x0⟩,
  /- HEAD_KSTAT -/ ⟨0x300, [(0x1000, 4), (0x4, 17)], 0x0, 0x0, 0x0, 0x0, 0x0⟩,
  /- SCTRL -/ ⟨0x400, [(0x1000, 4), (0x10, 16)], 0x2, 0xFFF, 0x0, 0x0, 0x0⟩,
  /- SRECT_X -/ ⟨0x404, [(0x1000, 4), (0x10, 16)], 0x0, 0x1FFF1FFF, 0x0, 0x0, 0x0⟩,
  /- SRECT_Y -/ ⟨0x408, [(0x1000, 4), (0x10, 16)], 0x0, 0x1FFF1FFF, 0x0, 0x0, 0x0⟩,
  /- SCOUNT -/ ⟨0x40C, [(0x1000, 4), (0x10, 16)], 0x0, 0x0, 0x0, 0x0, 0x0⟩,
  /- TCTRL -/ ⟨0x500, [(0x1000, 4), (0x10, 16)], 0x1000, 0x1FFFF, 0x0, 0x0, 0x0⟩,
  /- TRECT_X -/ ⟨0x504, [(0x1000, 4), (0x10, 16)], 0x0, 0x1FFF1FFF, 0x0, 0x0, 0x0⟩,
  /- TRECT_Y -/ ⟨0x508, [(0x1000, 4), (0x10, 16)], 0x0, 0x1FFF1FFF, 0x0, 0x0, 0x0⟩,
  /- TEXPECT -/ ⟨0x50C, [(0x1000, 4), (0x10, 16)], 0x0, 0xFFFFFFFF, 0x0, 0x0, 0x0⟩,
  /- HEAD_TCRC -/ ⟨0x600, [(0x1000, 4), (0x8, 16)], 0x0, 0x0, 0x0, 0x0, 0x0⟩,
  /- HEAD_TSTAT -/ ⟨0x604, [(0x1000, 4), (0x8, 16)], 0x0, 0x0, 0x0, 0x0, 0x0⟩,
  /- HEAD_DIR_SRC -/ ⟨0x800, [(0x1000, 4)], 0x0, 0xFFF7, 0x0, 0x0, 0x0⟩,
  /- HEAD_DIR_IN -/ ⟨0x804, [(0x1000, 4)], 0x0, 0x70FFFFF, 0x0, 0x0, 0x0⟩,
  /- HEAD_DIR_OUT -/ ⟨0x808, [(0x1000, 4)], 0x0, 0x70FFFFF, 0x0, 0x0, 0x0⟩,
  /- HEAD_DIR_LINE -/ ⟨0x80C, [(0x1000, 4)], 0x0, 0xFF0FFFFF, 0x0, 0x0, 0x0⟩,
  /- HEAD_DIR_TIMEOUT -/ ⟨0x810, [(0x1000, 4)], 0xC350, 0xFFFF, 0x0, 0x0, 0x0⟩,
  /- HEAD_DIR_STATUS -/ ⟨0x814, [(0x1000, 4)], 0x0, 0x0, 0x0, 0x0, 0x0⟩]

/-- The rows of page p; none where no block is assigned (Table RM-1). -/
def regRows (page : Nat) : List RegRow :=
  match page with
  | 0x00 => regRowsPage00
  | 0x01 => regRowsPage01
  | 0x02 => regRowsPage02
  | 0x03 => regRowsPage03
  | 0x04 => regRowsPage04
  | 0x05 => regRowsPage05
  | 0x06 => regRowsPage06
  | 0x07 => regRowsPage07
  | 0x08 => regRowsPage08
  | 0x09 => regRowsPage09
  | 0x0A => regRowsPage0A
  | 0x0B => regRowsPage0B
  | 0x0C => regRowsPage0C
  | 0x10 => regRowsPage10
  | 0x11 => regRowsPage11
  | 0x12 => regRowsPage12
  | 0x14 => regRowsPage14
  | 0x18 => regRowsPage18
  | 0x1C => regRowsPage1C
  | 0x1D => regRowsPage1D
  | 0x20 => regRowsPage20
  | 0x24 => regRowsPage24
  | _ => []

/-- Page p holds a block (Table RM-1). -/
def pageAssigned (page : Nat) : Bool := !(regRows page).isEmpty

/-- Offset d from the first register of an array is one of the array's registers. -/
def dimsHit : List (Nat × Nat) → Nat → Bool
  | [], d => d == 0
  | (stride, count) :: ds, d => decide (d / stride < count) && dimsHit ds (d % stride)

/-- The row covers page offset off. -/
def RegRow.covers (r : RegRow) (off : Nat) : Bool :=
  decide (r.off ≤ off) && dimsHit r.dims (off - r.off)

/-- The row of the register at a BAR0 offset; none for an unlisted offset (R525). -/
def rowAt (addr : Nat) : Option RegRow :=
  (regRows (addr / 0x10000)).find? (fun r => r.covers (addr % 0x10000))

/-- The reset value of the register at a BAR0 offset (Reset column, R532); 0 where none is listed (R525). -/
def resetOf (addr : Nat) : BitVec 32 :=
  match rowAt addr with
  | some r => BitVec.ofNat 32 r.rst
  | none => 0

end Sys2Proof.Machine
end

