-- ==== Sys2Proof/Machine/Flags.lean ====
section
/-! DEFINITION. Field and counter arithmetic of 32-bit registers, and the byte and word helpers every chapter
uses: little-endian words (R364), big-endian link fields (chapter 05), signed fields, saturating counters. -/

namespace Sys2Proof.Machine

/-- Number of bits of a field. -/
def Fld.width (f : Fld) : Nat := f.hi + 1 - f.lo

/-- Largest value of a field. -/
def Fld.max (f : Fld) : Nat := 2 ^ f.width - 1

/-- The bits of a field in place. -/
def Fld.mask (f : Fld) : Nat := f.max * 2 ^ f.lo

/-- The value of field `f` of word `w` (R10). -/
def Fld.get (f : Fld) (w : Word) : Nat := w.toNat / 2 ^ f.lo % 2 ^ f.width

/-- Word `w` with field `f` set to the low bits of `v`. -/
def Fld.put (f : Fld) (v : Nat) (w : Word) : Word :=
  (w &&& ~~~ (BitVec.ofNat 32 f.mask)) ||| BitVec.ofNat 32 (v % 2 ^ f.width * 2 ^ f.lo)

/-- The value of a field read as two's complement. -/
def Fld.sget (f : Fld) (w : Word) : Int :=
  let v := f.get w
  if v < 2 ^ (f.width - 1) then (v : Int) else (v : Int) - 2 ^ f.width

/-- Bits hi:lo of a word. -/
def bits (w : Word) (hi lo : Nat) : Nat := Fld.get ⟨hi, lo⟩ w

/-- Bit i of a word. -/
def bit (w : Word) (i : Nat) : Bool := w.toNat / 2 ^ i % 2 == 1

/-- A number as a 32-bit word. -/
def w32 (n : Nat) : Word := BitVec.ofNat 32 n

/-- A Boolean as 0 or 1. -/
def b01 (b : Bool) : Nat := if b then 1 else 0

/-- `v + n`, stopping at `top` (R503). -/
def satAdd (v n top : Nat) : Nat := if v + n ≤ top then v + n else top

/-- A two's complement reading of the low `w` bits of `n`. -/
def sext (w n : Nat) : Int :=
  let v := n % 2 ^ w
  if v < 2 ^ (w - 1) then (v : Int) else (v : Int) - 2 ^ w

/-- `x` limited to lo … hi. -/
def clampI (lo hi x : Int) : Int := if x < lo then lo else if hi < x then hi else x

/-- `n ÷ d` rounded up. -/
def ceilDiv (n d : Nat) : Nat := (n + d - 1) / d

/-- The four bytes of a word, least significant first (R364). -/
def wordBytes (w : Word) : List Byte :=
  [w.extractLsb' 0 8, w.extractLsb' 8 8, w.extractLsb' 16 8, w.extractLsb' 24 8]

/-- The bytes of words in order. -/
def wordsBytes (ws : List Word) : List Byte := ws.flatMap wordBytes

/-- A number from bytes, least significant first. -/
def leNat : List Byte → Nat
  | [] => 0
  | b :: bs => b.toNat + 256 * leNat bs

/-- A number from bytes, most significant first. -/
def beNat (bs : List Byte) : Nat := bs.foldl (fun a b => a * 256 + b.toNat) 0

/-- `n` bytes of a number, least significant first. -/
def leBytes : Nat → Nat → List Byte
  | 0, _ => []
  | n + 1, v => BitVec.ofNat 8 v :: leBytes n (v / 256)

/-- `n` bytes of a number, most significant first. -/
def beBytes (n v : Nat) : List Byte := (leBytes n v).reverse

/-- Words from bytes, four bytes a word, the first byte in bits 7:0; a short tail is filled with zeros. -/
def bytesWords : List Byte → List Word
  | a :: b :: c :: d :: rest => w32 (leNat [a, b, c, d]) :: bytesWords rest
  | [] => []
  | rest => [w32 (leNat rest)]

/-- The `i`th word of a list; 0 beyond its end. -/
def wAt (ws : List Word) (i : Nat) : Word := ws.getD i 0

/-- The `i`th byte of a list; 0 beyond its end. -/
def bAt (bs : List Byte) (i : Nat) : Nat := (bs.getD i 0).toNat

/-- `n` copies of zero appended to bring a list to a multiple of `m`. -/
def padTo {α : Type} (z : α) (m : Nat) (l : List α) : List α :=
  l ++ List.replicate ((m - l.length % m) % m) z

/-- The numbers below `n`. -/
def upTo (n : Nat) : List Nat := List.range n

/-- Positions of the ones of `v` below `n`. -/
def onesOf (v n : Nat) : List Nat := (List.range n).filter (fun i => v / 2 ^ i % 2 == 1)

/-- A mask with the listed bits set. -/
def maskOf (l : List Nat) : Nat := l.foldl (fun a i => if a / 2 ^ i % 2 == 1 then a else a + 2 ^ i) 0

/-! ### Fixed-point helpers (R234) -/

/-- x >> n with floor, for integers. -/
def shrI (x : Int) (n : Nat) : Int := x.fdiv (2 ^ n)

/-- rnd(x, n): half towards plus infinity (R234). -/
def rndI (x : Int) (n : Nat) : Int := if n = 0 then x else shrI (x + 2 ^ (n - 1)) n

/-- The built-in cubic weights at taps −1, 0, 1, 2 (R263). -/
def cubic (f : Int) : List Int :=
  let half (x : Int) : Int := (2 * x + 32).fdiv 64
  let a := half (-(f * f * f) + 128 * f * f - 4096 * f)
  let b := half (-(3 * f * f * f) + 256 * f * f + 4096 * f)
  let c := half (f * f * f - 64 * f * f)
  [a, 16384 - a - b - c, b, c]

end Sys2Proof.Machine
end

