-- ==== Sys2Proof/Machine/Fec.lean ====
section
/-! DEFINITION. The forward stream of a lane: the Reed–Solomon code RS(240,224) (R138), the alignment mask
(R139), the scrambler (R140) and the cells of a codeword (R141). -/

namespace Sys2Proof.Machine

/-! ### GF(2^8) with polynomial 0x11D (R138) -/

/-- Multiplication by α = 2. -/
def gx (a : Nat) : Nat := if 128 ≤ a then (2 * a) ^^^ 0x11D else 2 * a

/-- Product over the bits of `b`, most significant first. -/
def gmulBits (a b : Nat) : Nat → Nat → Nat
  | 0, acc => acc
  | n + 1, acc => gmulBits a b n (gx acc ^^^ (if b / 2 ^ n % 2 = 1 then a else 0))

def gmul (a b : Nat) : Nat := gmulBits a b 8 0

/-- α^n. -/
def gpow : Nat → Nat
  | 0 => 1
  | n + 1 => gx (gpow n)

/-- Inverse of a nonzero element: a^254. -/
def ginv (a : Nat) : Nat :=
  let a2 := gmul a a
  let a4 := gmul a2 a2
  let a8 := gmul a4 a4
  let a16 := gmul a8 a8
  let a32 := gmul a16 a16
  let a64 := gmul a32 a32
  gmul (gmul (gmul a2 a4) (gmul a8 a16)) (gmul (gmul a32 a64) (gmul a64 a64))

/-- Value of a polynomial, lowest coefficient first. -/
def gevalLow (p : List Nat) (x : Nat) : Nat := p.foldr (fun c acc => c ^^^ gmul acc x) 0

/-- Value of a polynomial, highest coefficient first. -/
def gevalHigh (p : List Nat) (x : Nat) : Nat := p.foldl (fun acc c => gmul acc x ^^^ c) 0

def gscale (k : Nat) (p : List Nat) : List Nat := p.map (gmul k)

def gadd : List Nat → List Nat → List Nat
  | [], q => q
  | p, [] => p
  | a :: p, b :: q => (a ^^^ b) :: gadd p q

/-! ### Encoding (R138) -/

/-- The generator polynomial, highest coefficient first, without its leading 1. -/
def rsGen : List Nat :=
  let times (p : List Nat) (r : Nat) : List Nat := gadd (p ++ [0]) (0 :: gscale r p)
  ((List.range 16).foldl (fun p i => times p (gpow i)) [1]).drop 1

/-- The 16 parity bytes of 224 data bytes: the remainder of data × x^16 by the generator. -/
def rsParity (data : List Nat) : List Nat :=
  let step (r : List Nat) (c : Nat) : List Nat :=
    gadd (r.drop 1 ++ [0]) (gscale (c ^^^ r.headD 0) rsGen)
  data.foldl step (List.replicate 16 0)

/-! ### Decoding -/

/-- The 16 syndromes of a received word. -/
def syndromes (cw : List Nat) : List Nat := (List.range 16).map (fun i => gevalHigh cw (gpow i))

/-- State of the search for the error locator: locator, previous locator, length, gap, previous discrepancy. -/
structure Locator where
  lam : List Nat
  prev : List Nat
  len : Nat
  gap : Nat
  disc : Nat
  deriving DecidableEq, Repr

/-- One step of the Berlekamp–Massey recurrence at syndrome `n`. -/
def Locator.next (syn : List Nat) (l : Locator) (n : Nat) : Locator :=
  let d := (List.range (l.len + 1)).foldl (fun acc i => acc ^^^ gmul (l.lam.getD i 0) (syn.getD (n - i) 0)) 0
  if d = 0 then { l with gap := l.gap + 1 }
  else
    let lam := gadd l.lam (List.replicate l.gap 0 ++ gscale (gmul d (ginv l.disc)) l.prev)
    if 2 * l.len ≤ n then ⟨lam, l.lam, n + 1 - l.len, 1, d⟩ else { l with lam := lam, gap := l.gap + 1 }

def locate (syn : List Nat) : Locator := (List.range 16).foldl (Locator.next syn) ⟨[1], [1], 0, 1, 1⟩

/-- The formal derivative of a polynomial, lowest coefficient first. -/
def gderiv (p : List Nat) : List Nat := (List.range (p.length - 1)).map (fun i => if i % 2 = 0 then p.getD (i + 1) 0 else 0)

/-- A received word with at most 8 byte errors corrected, and whether it held any; none where it is
uncorrectable (R138). -/
def rsDecode (cw : List Nat) : Option (List Nat × Bool) :=
  let syn := syndromes cw
  if syn.all (· == 0) then some (cw, false) else
  let l := locate syn
  let omega := ((List.range 16).map (fun n =>
    (List.range (n + 1)).foldl (fun acc i => acc ^^^ gmul (l.lam.getD i 0) (syn.getD (n - i) 0)) 0))
  let der := gderiv l.lam
  let fixed := (List.range cw.length).map (fun j =>
    let p := cw.length - 1 - j
    let xinv := gpow ((255 - p) % 255)
    let c := cw.getD j 0
    if gevalLow l.lam xinv = 0 then
      (c ^^^ gmul (gpow p) (gmul (gevalLow omega xinv) (ginv (gevalLow der xinv))), true)
    else (c, false))
  let roots := (fixed.filter (·.2)).length
  let out := fixed.map (·.1)
  if l.len ≤ 8 ∧ roots = l.len ∧ (syndromes out).all (· == 0) then some (out, true) else none

/-! ### Alignment and scrambling (R139, R140) -/

/-- The alignment mask, c224 first. -/
def alignMask : List Nat :=
  [0x8E, 0x3B, 0xD4, 0x61, 0x1F, 0xA7, 0x52, 0xC9, 0x36, 0xEB, 0x04, 0x7D, 0xB8, 0x25, 0xF3, 0x9A]

/-- Apply or remove the alignment mask. -/
def maskParity (cw : List Nat) : List Nat := cw.take 224 ++ List.zipWith (· ^^^ ·) (cw.drop 224) alignMask

/-- One bit of the scrambler: the bit and the next state. -/
def scrBit (st : Nat) : Nat × Nat :=
  let b := (st / 2 ^ 22 + st / 2 ^ 17) % 2
  (b, (2 * st + b) % 2 ^ 23)

/-- Eight bits of the scrambler, most significant first. -/
def scrByte (st : Nat) : Nat × Nat :=
  (List.range 8).foldl (fun (acc : Nat × Nat) _ => let r := scrBit acc.2; (2 * acc.1 + r.1, r.2)) (0, st)

/-- Scramble or descramble bytes. -/
def scramble : List Nat → Nat → List Nat × Nat
  | [], st => ([], st)
  | b :: bs, st =>
    let (k, st) := scrByte st
    let (out, st) := scramble bs st
    ((b ^^^ k) :: out, st)

/-- The seed of an unbonded lane or lane 0 of a bond, and of lane 1 of a bond. -/
def scrSeed (one : Bool) : Nat := if one then 0x2AAAAA else 0x7FFFFF

/-- The scrambler's state after the 1792 data bits of an alignment codeword. -/
def scrAfterAlign (one : Bool) : Nat := if one then 0x633181 else 0x255283

/-! ### Cells (R141, R142) -/

/-- A cell: type, stream, FIRST, LAST, TRUNC and its bytes. -/
structure Cell where
  type : Nat
  stream : Nat
  first : Bool
  last : Bool
  trunc : Bool
  payload : List Byte
  /-- All 32 bytes, for the IDLE check (R511). -/
  nonZero : Nat
  deriving DecidableEq, Repr

def cellOf (bs : List Nat) : Cell :=
  let h := bs.getD 0 0 * 256 + bs.getD 1 0
  { type := h / 4096, stream := h / 64 % 64, first := h / 32 % 2 == 1, last := h / 16 % 2 == 1, trunc := h / 8 % 2 == 1,
    payload := (bs.drop 2).map (BitVec.ofNat 8), nonZero := (bs.filter (· ≠ 0)).length }

/-- The seven cells of 224 descrambled bytes. -/
def cellsOf (bs : List Nat) : List Cell := (List.range 7).map (fun i => cellOf ((bs.drop (32 * i)).take 32))

/-- Length of a CSI-2 packet from its header: 4 bytes, or 4 + WC + 2 (R142). -/
def csi2Len (bs : List Byte) : Nat :=
  if (bs.getD 0 0).toNat % 64 < 16 then 4 else 4 + leNat ((bs.drop 1).take 2) + 2

/-- Length of a link message from its header: 4 + LEN + 2 (R142). -/
def msgLen (bs : List Byte) : Nat := 4 + (bs.getD 1 0).toNat + 2

/-- One bits of a byte. -/
def ones8 (b : Nat) : Nat := ((List.range 8).filter (fun i => b / 2 ^ i % 2 = 1)).length

end Sys2Proof.Machine
end

