-- ==== Sys2Proof/Config.lean ====
section
/-! DEFINITION. What the spec leaves open: free values, each an opaque constant applied to the state's counter
of values drawn or to the operands it depends on, and the cryptographic functions the spec names by their
standards. None has a body, so no proof can rest on a value of it. -/

namespace Sys2Proof

/-- A free word: a value the spec does not state. Drawn with State.fresh (log entry 1). -/
opaque Config.freeWord : Nat → BitVec 32

/-- A free natural number (log entry 1). -/
opaque Config.freeNat : Nat → Nat

/-- Free word lists: one for each value of the counter (log entry 1). -/
opaque Config.freeWords : Nat → List (BitVec 32)

/-- A free byte: the i-th of a draw (log entry 1). -/
opaque Config.freeByte : Nat → Nat → BitVec 8

/-- The 256 × 32 RGBA status picture in ROM by byte offset (R488; the spec does not give it, log entry 22). -/
opaque Config.romStill : Nat → BitVec 8

/-- A word drawn from the DRBG (R478, log entry 2). -/
opaque Config.random : Nat → BitVec 32

/-- SHA-384 of a byte string (R465; the standard itself is outside the spec, log entry 2). -/
opaque Config.sha384 : List (BitVec 8) → BitVec 384

/-- ECDSA P-384 verification: public key bytes, SHA-384 digest, signature bytes (R465, log entry 2). -/
opaque Config.ecdsaVerify : List (BitVec 8) → BitVec 384 → List (BitVec 8) → Bool

/-- ECDSA P-384 signature by the device identity key derived from UNIQUE_SECRET (R476, log entry 2). -/
opaque Config.deviceSign : BitVec 384 → BitVec 384 → List (BitVec 8)

/-- The device public key, 97 bytes, derived from UNIQUE_SECRET (R476, log entry 2). -/
opaque Config.devicePublic : BitVec 384 → List (BitVec 8)

/-- CRC-32C signature of a retention bank taken at sleep entry (R441, log entry 4). -/
opaque Config.bankSig : Nat → Nat → BitVec 32

/-- Cycles a stall used, from its address and a draw (R66; hayloft latencies are typical, log entry 5). -/
opaque Config.cycles : Nat → Nat → BitVec 32

/-- Reference instant of a TRIGGER after its tick, in picoseconds of the reference clock (R154, log entry 6). -/
opaque Config.trigRef : Nat → Nat

/-- The order of the BMCA of IEEE 802.1AS: true when the first dataset is better (R410, log entry 7). -/
opaque Config.bmcaBetter : BitVec 232 → BitVec 232 → Bool

/-- The clockIdentity that a port's MAC address gives the instances on it (IEEE 802.1AS; R409, log entry 7). -/
opaque Config.clockIdentity : BitVec 48 → BitVec 64

/-- The bytes of an IEEE 802.1AS frame, from a draw, its message type, domain, sequenceId, and a time in 2^−16 ns (R404,
R409; the standard itself is outside the spec, and the draw stands for its other fields, log entry 7). -/
opaque Config.gptpFrame : Nat → Nat → Nat → BitVec 16 → Int → List (BitVec 8)

/-- Which of equally busy pseudo-channels the monitor names, from the counts (R309 states none, log entry 67). -/
opaque Config.busiestTie : List Nat → Nat

/-- Bytes of the IDENT with which the hub answers as a partner that the spec leaves to the maker (R161, log
entry 1). -/
opaque Config.hubIdent : Nat → BitVec 8

/-- The header ECC of CSI-2 over its 26 bits (R145; the standard itself is outside the spec, log entry 13). -/
opaque Config.csi2Ecc : Nat → BitVec 6

/-- The payload CRC of CSI-2 (R145; the standard itself is outside the spec, log entry 13). -/
opaque Config.csi2Crc : List (BitVec 8) → BitVec 16

/-- What the background measurement of a receive lane finds at a time of LocalClock: one number that holds H_STEPS, V_STEPS
and AGE (R116, log entry 39). -/
opaque Config.eyeAt : Nat → Nat → Nat

/-- Where the adaptation of a receive lane's DFE tap stands at a time of LocalClock (R115, log entry 39). -/
opaque Config.dfeAt : Nat → Nat → Nat → Nat

/-- Byte address in the kernel cache of an object, by KERNEL_ID and KVER: the spec does not lay the cache out (R216, log
entry 46). -/
opaque Config.cacheAt : Nat → Nat → Nat

/-- The object is the library's kernel of its reserved KERNEL_ID (R232, log entry 26). -/
opaque Config.libraryKernel : List (BitVec 8) → Bool

/-- CFA of a kernel's input surface that no stream feeds (R240, log entry 26). -/
opaque Config.surfaceCfa : Nat → Bool

/-- A sample of a line that never reached a kernel: draw, column, line (R247, log entry 26). -/
opaque Config.lostSample : Nat → Nat → Nat → Nat

end Sys2Proof
end

