-- ==== Sys2Proof/Machine/SMap.lean ====
section
/-! DEFINITION. Sparse maps: a list of key and value pairs with rising keys in which no entry holds the
value an unlisted key reads as, so that equal maps are equal data. Registers, memories and the per-unit
records of the state are kept in this form. -/

namespace Sys2Proof.Machine

/-- A sparse map from numbers to values. -/
abbrev SMap (α : Type) := List (Nat × α)

/-- The value listed for a key. -/
def SMap.find {α : Type} : SMap α → Nat → Option α
  | [], _ => none
  | (k, v) :: m, a => if k = a then some v else if a < k then none else SMap.find m a

/-- The value at a key; `d` where none is listed. -/
def SMap.get {α : Type} (m : SMap α) (d : α) (a : Nat) : α := (SMap.find m a).getD d

/-- List `v` at key `a`, keeping the keys rising. -/
def SMap.insert {α : Type} : SMap α → Nat → α → SMap α
  | [], a, v => [(a, v)]
  | (k, w) :: m, a, v =>
    if k = a then (a, v) :: m
    else if a < k then (a, v) :: (k, w) :: m
    else (k, w) :: SMap.insert m a v

/-- Remove the entry of key `a`. -/
def SMap.erase {α : Type} : SMap α → Nat → SMap α
  | [], _ => []
  | (k, w) :: m, a => if k = a then m else if a < k then (k, w) :: m else (k, w) :: SMap.erase m a

/-- Write `v` at key `a` of a map whose unlisted keys read as `d`: writing `d` removes the entry. -/
def SMap.put {α : Type} [DecidableEq α] (m : SMap α) (d : α) (a : Nat) (v : α) : SMap α :=
  if v = d then SMap.erase m a else SMap.insert m a v

/-- Every key of the map is greater than `lo`, and keys rise. -/
def SMap.risingFrom {α : Type} : Nat → SMap α → Bool
  | _, [] => true
  | lo, (k, _) :: m => decide (lo ≤ k) && SMap.risingFrom (k + 1) m

/-- The canonical form: keys rise and no entry holds what its unlisted key reads as (`d key`). -/
def SMap.wf {α : Type} [DecidableEq α] (m : SMap α) (d : Nat → α) : Bool :=
  SMap.risingFrom 0 m && m.all (fun e => decide (e.2 ≠ d e.1))

end Sys2Proof.Machine
end

