-- ==== Sys2Proof/Machine/State.lean ====
section
/-! DEFINITION. The state of the hub as plain data: everything the spec gives it. Registers are held by BAR0
offset in one map (State.regs); what is not a register has a field of its own, grouped by chapter. -/

namespace Sys2Proof.Machine

/-- The device states (Table CM-6). -/
inductive DState where
  | boot | standalone | config | run | degraded | safe | holdEntry | stowEntry
  deriving DecidableEq, Repr

/-- Faults: what stops the model. Raised only by accesses outside every address window of the hub. -/
inductive Fault where
  /-- A BAR0 or BAR2 access at an offset outside the BAR (Table HB-1); raised by REGISTER_WRITE, BAR2_READ and
  BAR2_WRITE. Safe: the model stops where no such access can reach the hub. -/
  | outsideWindow
  deriving DecidableEq, Repr

/-- Refusals: commands without a meaning. -/
inductive Refusal where
  /-- The command is not modelled; raised by a refused arm of exec. Safe: the model stops. -/
  | notModelled (mnemonic : String)
  deriving DecidableEq, Repr

/-! ### The groom: staging, replies, chains (chapters 02 and 03) -/

/-- A verified image in the protected configuration region that applies at the tick (R483). -/
structure StagedImage where
  type : Nat
  key : Nat
  imageVer : Word
  svn : Nat
  payload : List Byte
  /-- Header, payload, padding and trailer. -/
  whole : List Byte
  /-- SHA-384 of header and payload. -/
  digest : BitVec 384
  flash : Bool
  deriving DecidableEq, Repr

/-- What a staging entry holds: ST register writes or a staged command (R51). -/
inductive EntryKind where
  /-- Writes of ST registers, as BAR0 offset and value; one BAR0 write is one entry (R52). -/
  | regs (writes : List (Nat × Word))
  /-- A command that carries STAGE: opcode, unit and parameter words. -/
  | cmd (opcode : BitVec 16) (unit : BitVec 16) (params : List Word)
  /-- A CONFIG_LOAD, by the image it verified at receipt. -/
  | image (img : StagedImage)
  deriving DecidableEq, Repr

/-- One staging entry (R51). -/
structure Entry where
  /-- Tag of the command; 0xFFFF for a register write (COMMIT_FAIL_SRC). -/
  tag : BitVec 16
  /-- Unit address, or the block page index for a register write (COMMIT_FAIL_SRC). -/
  unit : BitVec 16
  kind : EntryKind
  /-- Accepted since the open seal window opened (R62). -/
  inWindow : Bool
  deriving DecidableEq, Repr

/-- Outcome of a consistency check (R58). -/
inductive Verdict where
  | pass
  /-- Failed: reason of Table TK-2, tag and unit of the first failing entry. -/
  | fail (reason : Nat) (tag unit : BitVec 16)
  deriving DecidableEq, Repr

/-- A frozen set (R57). -/
structure Frozen where
  entries : List Entry
  /-- The seal discards the set and reports nothing: it fell due in a groom restart or in SAFE (R107, R500). -/
  void : Bool
  /-- The check's outcome, once it has one (R60). -/
  verdict : Option Verdict
  deriving DecidableEq, Repr

/-- The staging set (R51–R57). -/
structure Staging where
  /-- Entries of the set being filled, in order of receipt. -/
  fill : List Entry
  /-- Future entries with their apply ticks (R53). -/
  future : List (Nat × Entry)
  /-- The frozen set while a seal window is open (R57). -/
  frozen : Option Frozen
  deriving DecidableEq, Repr

/-- A command taken or waiting: its opcode and packet (R75). -/
structure Cmd where
  opcode : BitVec 16
  pkt : Packet
  deriving DecidableEq, Repr

/-- Why a reply waits: the work whose end completes it. -/
inductive WaitKey where
  | discover (lane : Nat)
  | triggerCal (lane : Nat)
  | cameraAuth (lane : Nat)
  | meshLoad (slot : Nat)
  | dmaAbort (ch : Nat)
  /-- A DMA_STATUS, or a REG_READ of DMA_c_STATUS, held while the tail's re-read is outstanding (R382). -/
  | dmaStatus (ch : Nat)
  | dmaRead (ch : Nat)
  /-- A two-wire transfer: controller 0–3 or 32 + tunnel lane, and the transfer's serial number. -/
  | twXfer (ctl : Nat) (serial : Nat)
  | sleepEnter
  | flashSave
  | flashFw
  | eyeScan
  | memtest
  deriving DecidableEq, Repr

/-- A reply packet (Table CM-2), its header fields and payload. -/
structure Reply where
  tag : BitVec 16
  status : BitVec 8
  dstate : BitVec 8
  detail : BitVec 16
  fanout : Bool
  trunc : Bool
  unsol : Bool
  tick : Word
  opcode : BitVec 16
  unit : BitVec 16
  payload : List Word
  deriving DecidableEq, Repr

/-- The way a command came on Ethernet: port, VLAN tag, sender address and SEQ of its frame (R93). -/
structure Via where
  eport : Nat
  vlan : Option (BitVec 16)
  mac : BitVec 48
  seq : BitVec 16
  deriving DecidableEq, Repr

def Via.none : Via := ⟨0, Option.none, 0, 0⟩

/-- One taken command that owes a reply; replies of one source leave in the order taken (R105). -/
structure Slot where
  src : Source
  cmd : Cmd
  /-- The frame of an Ethernet sender that carried the command (R93). -/
  via : Via
  /-- The work the reply waits for. -/
  key : Option WaitKey
  /-- The reply is formed; none inside when REPLY = 0 asks for no reply (Table CM-1). -/
  done : Option (Option Reply)
  deriving DecidableEq, Repr

/-- An entry that passed its receipt checks: its APPLY_TICK, the payload its reply carries and the FANOUT flag. -/
structure Held where
  tick : Word
  entry : Entry
  payload : List Word
  fanout : Bool
  deriving DecidableEq, Repr

/-- The open chain of one source (R84–R87). -/
structure Chain where
  staged : Bool
  count : Nat
  words : Nat
  broken : Bool
  /-- Entries of a staged chain held until its last command passes (R86). -/
  held : List Held
  /-- The work that the latest command of an immediate chain waits for; the next one waits with its source. -/
  key : Option WaitKey
  deriving DecidableEq, Repr

/-- What waits with one source, and its replies and events: a ring pair (R89, R90), an Ethernet sender (R93) or TWT0. -/
structure Port where
  /-- Replies that wait for RQ room (R90). -/
  backlog : List Reply
  /-- Submission-ring words from HEAD to TAIL whose commands the groom has not taken (R89). -/
  unserved : List Word
  /-- Event packets that wait: one record of four words each (R90). -/
  events : List (List Word)
  /-- Commands that have come and wait for the groom to take them, oldest first (R105). -/
  queue : List (Cmd × Via)
  /-- Ethernet: the frame of the command taken last, and the last accepted command frame (R93). -/
  via : Via
  last : Via
  /-- Ethernet: replies kept for the last 16 SEQ values, oldest first (R93). -/
  replay : List (BitVec 16 × List Reply)
  deriving DecidableEq, Repr

def Port.empty : Port := ⟨[], [], [], [], Via.none, Via.none, []⟩

/-- The TWT0 mailbox of the groom (Table CM-8, R94). -/
structure Mbox where
  busy : Bool
  ready : Bool
  reject : Bool
  /-- Page 0x01, 256 bytes, sparse over 0. -/
  cmd : SMap Byte
  /-- Page 0x02, 256 bytes, sparse over 0. -/
  rpl : SMap Byte
  /-- TICK as latched when pointer 0x04 was read. -/
  tickLatch : Word
  /-- The present reply's call for attention is still to be made (R434). -/
  attn : Bool
  deriving DecidableEq, Repr

/-- The groom (chapters 02, 03). -/
structure Groom where
  /-- The groom runs: false in a restart (R107), in sleep, and before the firmware or ROM runs. -/
  up : Bool
  /-- A restart under R107 is in progress. -/
  restarting : Bool
  /-- A restart has happened and no commit has applied since (Table EV-3). -/
  restarted : Bool
  /-- A second miscompare came within 1000 ms of the first (Table EV-3). -/
  safeAfterRestart : Bool
  /-- Time of the last miscompare in milliseconds of the local clock; none before the first. -/
  lastMiscompare : Option Nat
  staging : Staging
  chains : List (Source × Chain)
  slots : List Slot
  ports : SMap Port
  mbox : Mbox
  /-- The source, by its place in the order of R105, at which the next turn of the round-robin begins. -/
  turn : Nat
  /-- Sequence number of event frames on Ethernet (Table CM-7). -/
  evSeq : BitVec 16
  deriving DecidableEq, Repr

/-- The tick generator (R43–R47). -/
structure TickGen where
  /-- Ticks run. -/
  running : Bool
  /-- The tick counter, 48 bits (R47). -/
  count : BitVec 48
  /-- ANCHOR: whole nanoseconds of the tick source at the last re-anchoring (R43). -/
  anchor : Nat
  /-- k': ticks since that re-anchoring (R43). -/
  since : Nat
  /-- The next tick is the first after a start and has not occurred (R45). -/
  first : Bool
  deriving DecidableEq, Repr

/-! ### Events (chapter 17) -/

/-- One event record (Table EV-2). -/
structure Rec where
  ev : Nat
  ovf : Bool
  defer : Bool
  unit : BitVec 16
  arg : Word
  tick : Word
  ns : Word
  deriving DecidableEq, Repr

/-- The event block beside its registers (R493–R498). -/
structure Events where
  /-- The unread records of the log, oldest first, at most 256 (R495). -/
  log : List Rec
  /-- Records of each source written in the current period (R496). -/
  written : SMap Nat
  /-- Sources with suppressed records since their previous record (R496). -/
  suppressed : List Nat
  /-- Records to be written when the groom runs again (R497). -/
  deferred : List Rec
  /-- TEMP_WARN and TEMP_CRIT may raise again (R498). -/
  warnArmed : Bool
  critArmed : Bool
  /-- TEMP_CRIT stands: TEMP has not yet fallen below CRIT_C − 5 (Table EV-3). -/
  critHot : Bool
  /-- The sheds must go to P3 at the next tick instant (R500). -/
  forceP3 : Bool
  /-- TRNG unhealthy at boot step 6 (Table EV-3). -/
  trngBoot : Bool
  /-- EV_LOST was raised with its SAFE route set, and the hub has not yet acted on it (R493, R495). -/
  lostSafe : Bool
  deriving DecidableEq, Repr

/-! ### The host bridge and the DMA engines (chapter 12) -/

/-- A descriptor of a DMA chain (Table HB-5), with its address. -/
structure Desc where
  addr : BitVec 64
  words : List Word
  deriving DecidableEq, Repr

/-- What a DMA engine's channel waits for. -/
inductive DmaPhase where
  | none
  /-- The 32 bytes of a descriptor (R380). -/
  | fetch
  /-- The descriptor's data (R380). -/
  | data
  /-- The re-read of a tail's word 0 (R381); `parked` when a doorbell asked for it. -/
  | tail (parked : Bool)
  /-- The completion read-back (R383), and what follows it. -/
  | readback (after : Nat)
  /-- The burst in progress of an aborting channel (R384). -/
  | abortBurst
  deriving DecidableEq, Repr

/-- One DMA channel beside its registers (R376–R386). -/
structure Chan where
  phase : DmaPhase
  /-- The current descriptor, once read (R380). -/
  desc : Option Desc
  /-- Address of the descriptor being fetched. -/
  fetchAt : BitVec 64
  /-- The queued channel resumes a parked chain rather than starting at FIRST (R378, R384). -/
  resume : Bool
  /-- A write has been made in this run, so that a read-back has an address (R386). -/
  wrote : Bool
  /-- SEQ of the frame read by the last P2H descriptor (Table HB-6). -/
  p2hSeq : Word
  /-- Error that ends the run after its read-back: code and residue (R386). -/
  err : Option (Nat × Word)
  /-- Bytes of the current descriptor moved on the frame-store side. -/
  moved : Nat
  /-- A committed EN = 0 ends the run after the current descriptor. -/
  disabling : Bool
  /-- CTRL, DBASE_HI, WB_LO and WB_HI as in force when the current descriptor was asked for (R387). -/
  kept : List Word
  deriving DecidableEq, Repr

def Chan.idle : Chan := ⟨.none, none, 0, false, false, 0, none, 0, false, []⟩

/-- The PCIe side (R360–R375). -/
structure HostSide where
  /-- The function is in D3hot (R361). -/
  d3hot : Bool
  /-- The DMA engines back off (R371). -/
  backoff : Bool
  /-- Channels waiting for each engine, in start order (R376). -/
  queues : SMap (List Nat)
  chans : SMap Chan
  /-- The PCIe link is up (R375). -/
  linkUp : Bool
  deriving DecidableEq, Repr

/-! ### Time bases and Ethernet ports (chapter 13) -/

/-- The 802.1AS instance of a time base in MODE GPTP (R409–R411). -/
structure Gptp where
  /-- A received Sync awaiting its Follow_Up: sequenceId, receive stamp of this time base in 2^−16 ns, and
  LocalClock in nanoseconds. -/
  sync : Option (BitVec 16 × Int × Nat)
  /-- Pdelay_Req outstanding: sequenceId and transmit stamp, once taken, in 2^−16 ns (R411). -/
  pdReq : Option (BitVec 16 × Option Int)
  /-- Pdelay_Resp received: its request receipt time and our receive stamp, in 2^−16 ns. -/
  pdResp : Option (BitVec 16 × Int × Int)
  /-- Our transmit stamp's exchange before this one: t3 and t4, for neighborRateRatio (R411). -/
  pdLast : Option (Int × Int)
  /-- Pdelay_Resp sent whose transmit stamp is awaited: sequenceId and requester. -/
  pdRespTo : Option (BitVec 16 × BitVec 80)
  /-- Sync sent whose transmit stamp is awaited (R408). -/
  syncSent : Option (BitVec 16)
  /-- meanLinkDelay in 2^−16 ns, measured (R411). -/
  linkDelay : Int
  asCapable : Bool
  /-- Next sequenceIds of Sync, Pdelay_Req and Announce. -/
  syncSeq : BitVec 16
  pdSeq : BitVec 16
  annSeq : BitVec 16
  /-- Intervals of Sync, Announce and Pdelay_Req asked for by the last Signaling message, as log2 (R409). -/
  asked : Option (Int × Int × Int)
  /-- Pdelay_Req in a row that no response has answered (IEEE 802.1AS; R411). -/
  lost : Nat
  deriving DecidableEq, Repr

def Gptp.idle : Gptp := ⟨none, none, none, none, none, none, 0, false, 0, 0, 0, none, 0⟩

/-- One time base beside its registers (R389–R400). -/
structure Tb where
  /-- The whole value in units of 2^−48 ns: (S × 10^9 + NS) × 2^48 + fraction (R389). -/
  val : Nat
  /-- The pending step in 2^−16 ns, positive forward (R397). -/
  step : Option Int
  /-- F of the last measurement, 2^−40 (R394). -/
  f : Option Int
  /-- Source reading (2^−16 ns) and LocalClock (ns) of the last measurements, newest first, at most 9 (R394). -/
  hist : List (Int × Nat)
  /-- REMAIN of a slew in 2^−48 ns (R395). -/
  remain : Int
  /-- Δ := b − a of a primary, as read at its partner's last measurement, in 2^−16 ns (R400). -/
  delta : Int
  /-- Δ0 while the primary follows its partner (R400). -/
  delta0 : Int
  gptp : Gptp
  deriving DecidableEq, Repr

def Tb.zero : Tb := ⟨0, none, none, [], 0, 0, 0, Gptp.idle⟩

/-- An entry of a transmit timestamp queue (R408). -/
structure TxStamp where
  id : BitVec 16
  tb : Nat
  epoch : Nat
  /-- The stamp in units of 2^−16 ns. -/
  stamp : Nat
  deriving DecidableEq, Repr

/-- The clocks of the hub: the time bases, LocalClock, the timestamp queues and the PPS pins. -/
structure Clocks where
  tbs : SMap Tb
  /-- LocalClock in nanoseconds (R390). -/
  localNs : Nat
  /-- The transmit timestamp queues of ETH0 and ETH1, oldest first, at most 16 (R408). -/
  txts : SMap (List TxStamp)
  /-- LocalClock of the last accepted PPS_IN edge (R412). -/
  ppsInAt : Option Nat
  /-- LocalClock of the last PPS_OUT rising edge, and the pin's level (R413). -/
  ppsOutAt : Option Nat
  ppsOut : Bool
  deriving DecidableEq, Repr

/-! ### Power, sleep and resume (chapter 15) -/

/-- The KIND of a sleep entry (Table PW-7). -/
inductive SleepKind where
  | hold | stow | off
  deriving DecidableEq, Repr

/-- A sleep entry in progress (R445–R448). -/
structure EntrySt where
  kind : SleepKind
  /-- DRAM_SIG of the command (R448). -/
  dramSig : Bool
  /-- The stop instant has passed (R445). -/
  stopped : Bool
  /-- Tick counter [31:0] at the stop instant. -/
  stopTick : Word
  /-- Next domain to ask (R446). -/
  next : Nat
  /-- The domain whose delay is running (R446). -/
  delaying : Option Nat
  deriving DecidableEq, Repr

/-- Where the hub is on its way from sleep to the resume step (R454–R456). -/
inductive ResumePhase where
  | awake
  /-- In Hold, Stow or Off with PWR_REQ released. -/
  | asleep
  /-- PWR_REQ asserted, PWRGOOD awaited. -/
  | waitPwrgood
  /-- The groom runs; the banks of the other domains are being checked. -/
  | checking
  deriving DecidableEq, Repr

/-- New work for a domain that has agreed to a sleep entry, held with its operands (R446). -/
inductive Work where
  | cmdSqTail (n : Fin 4) (tail : BitVec 17) (words : List Word) (ok : Bool)
  | dmaCDoorbell (c : Fin 16) (v : Word)
  | dmaTimerStart (c : Fin 16)
  | commandFrame (port : Fin 2) (f : EthFrame)
  | train (x : Fin 48) (h : MsgHdr) (req eye flags rates : Byte)
  | eye (x : Fin 48) (h : MsgHdr) (eye : Byte)
  | pm (x : Fin 48) (h : MsgHdr) (code : Byte)
  | keepalive (x : Fin 48) (h : MsgHdr)
  | calReq (x : Fin 48) (h : MsgHdr) (id : Byte)
  | calResp (x : Fin 48) (h : MsgHdr) (id : Byte) (turn : Word) (t : Nat)
  | trigger (x : Fin 48) (h : MsgHdr) (out pulse : Byte) (tick : BitVec 16) (delay : Word) (held : Nat)
  | trigAck (x : Fin 48) (h : MsgHdr) (tick : BitVec 16)
  | i2cReq (x : Fin 48) (h : MsgHdr) (body : List Byte)
  | i2cResp (x : Fin 32) (h : MsgHdr) (status idx : Byte) (data : List Byte)
  | gpio (x : Fin 48) (h : MsgHdr) (levels mask : Byte)
  | rollCall (x : Fin 48) (h : MsgHdr)
  | ident (x : Fin 48) (h : MsgHdr) (body : List Byte)
  | authChal (x : Fin 48) (h : MsgHdr) (nonce : List Byte)
  | authResp (x : Fin 48) (h : MsgHdr) (key sig : List Byte)
  | echo (x : Fin 48) (h : MsgHdr) (stream region : Byte) (counter crc : Word)
  | frameStatus (x : Fin 48) (h : MsgHdr) (body : List Byte)
  | nak (x : Fin 48) (h : MsgHdr) (mtype : Byte)
  deriving DecidableEq, Repr

/-- Power state beside the registers of Table PW-6. -/
structure Power where
  /-- The device state held before a sleep entry (R447, R455). -/
  before : DState
  /-- Idle (R444). -/
  idle : Bool
  entry : Option EntrySt
  kind : SleepKind
  resume : ResumePhase
  /-- A wake that fired after the entry's reply (R448), as PWR_RESUME.SOURCE bits. -/
  lateWake : Nat
  /-- RTC at the wake, for PWR_RESUME.TIME. -/
  wakeRtc : Nat
  /-- The RTC, 48 bits (R453). -/
  rtc : BitVec 48
  /-- Fraction of the present RTC count, in units of 10^−9 of a count. -/
  rtcNs : Nat
  /-- RTC at entry, for the time bases (R414). -/
  entryRtc : Nat
  /-- PWRGOOD timeouts not yet raised (R454). -/
  pmicTimeouts : Nat
  /-- PMIC writes of the last entry that failed: controller and result (R480). -/
  pmicFails : List (Nat × Nat)
  /-- PWR_REQ is asserted. -/
  pwrReq : Bool
  /-- The rails of group 2 are good (PWRGOOD). -/
  pwrgood : Bool
  /-- Banks still to be checked in the waves of R455. -/
  toCheck : List Nat
  /-- Domains on at entry. -/
  onAtEntry : List Nat
  /-- Failed banks awaiting rebuild (R457), and whether their rebuild is ready to apply at a tick. -/
  rebuild : List Nat
  rebuilt : List Nat
  /-- Tick counter [31:0] of the resume step (RESUME_REPORT). -/
  resumeTick : Word
  /-- Pad groups held: levels latched, as a number per group (R450). -/
  padLatch : SMap Nat
  /-- Domains switched off by DOMAIN_SET whose pads are latched (R450). -/
  padDomains : List Nat
  /-- IDENT of each lane's partner recorded at entry: VENDOR, PRODUCT, SERIAL (R459). -/
  idents : SMap (BitVec 16 × BitVec 16 × Word)
  /-- Lanes whose partner must still be READY within 1000 ms of the resume step (R459). -/
  awaitPartner : List Nat
  /-- Domains switched on at a tick that become ready at the next (R74). -/
  coming : List Nat
  /-- The last committed configuration image in the frame store is readable (R457). -/
  cfgImage : Bool
  /-- LocalClock (ns) at PWRGOOD or at the RESET, for TOP_BOOT_TIME; and RUN has been entered since. -/
  startNs : Nat
  ranOnce : Bool
  /-- GPIO0–GPIO15 driven high since the resume step (R456). -/
  gpio : BitVec 16
  /-- The last entry signed the whole frame store (R448). -/
  dramSigned : Bool
  /-- Sheds whose stall clocks stand after a change of level (R72). -/
  stoppedSheds : List Nat
  /-- New work that domains hold which have agreed to a sleep entry: it goes on after resume or refusal (R446). -/
  heldWork : List Work
  /-- The RTC at the address match of TWT0 that woke the hub, in units of 10^−9 of a count (R436). -/
  matched : Option Nat
  /-- The configuration reloaded from the flash copy after the frame store failed its signature, as staging entries
  (R458). -/
  flashCfg : Option (List Entry)
  deriving DecidableEq, Repr

/-! ### Boot and security (chapter 16) -/

/-- The OTP fields of Table BS-6. -/
structure Otp where
  vendorHash : BitVec 384
  /-- OWNER_HASH(1–4). -/
  ownerHash : SMap (BitVec 384)
  /-- SLOT_STATE(1–4): 0 empty, 1 programmed, 2 failed, 3 revoked (SEC_KEYS). -/
  slotState : SMap Nat
  vendorRevoked : Bool
  /-- SVN floors: counts of ones of the thermometers of TYPE 1–3. -/
  svn : SMap Nat
  cmdAuth : Bool
  allowDevsig : Bool
  debugDisable : Bool
  serial : Word
  uniqueSecret : BitVec 384
  deriving DecidableEq, Repr

/-- The straps as sampled at the last cold boot (Table BS-1). -/
structure Straps where
  twtAs : Nat
  bootSel : Nat
  mosSel : Nat
  medSel : Nat
  deriving DecidableEq, Repr

/-- An open credential handle (R475). -/
structure Cred where
  handle : Word
  src : Source
  owner : Bool
  /-- RTC count at which it expires. -/
  expires : Nat
  /-- Key slot that opened it: 0 vendor, 1–4 owner slots, 5 operator list. -/
  slot : Nat
  live : Bool
  deriving DecidableEq, Repr

/-- A kernel object of the cache (R216) with what verified it. -/
structure KObj where
  kernelId : BitVec 16
  kver : BitVec 16
  /-- KEY of the library image it came from (Table BS-3). -/
  key : Nat
  bytes : List Byte
  deriving DecidableEq, Repr

/-- One entry of PMIC_SEQ (Table BS-8). -/
structure PmicWrite where
  state : Nat
  twc : Nat
  addr : Nat
  data : List Byte
  deriving DecidableEq, Repr

/-- An image for the boot flash: TYPE and SLOT of its directory entry, and its bytes. -/
structure FlashImage where
  type : Nat
  slot : Nat
  bytes : List Byte
  deriving DecidableEq, Repr

/-- A flash write that is wanted or in progress (R483–R485). -/
structure FlashJob where
  image : FlashImage
  /-- Also erase configuration slot 1 (R483). -/
  eraseSaved : Bool
  /-- 0 CONFIG_LOAD, 1 CONFIG_SAVE, 2 FW_LOAD. -/
  kind : Nat
  payloadBytes : Nat
  deriving DecidableEq, Repr

/-- The security block and the boot state. -/
structure Security where
  otp : Otp
  straps : Straps
  /-- Levels at the strap balls, sampled at cold boot. -/
  strapBalls : Straps
  trngOk : Bool
  /-- Open debug scopes (R479). -/
  debugScopes : BitVec 3
  creds : List Cred
  /-- CRED_OPEN nonces by source with the RTC count at which each expires (R474). -/
  nonces : List (Source × List Word × Nat)
  /-- The boot flash by byte address, sparse over 0xFF (erased), its 4 KiB sectors that cannot be read, and 8D mode
  (R463, R464). -/
  flash : SMap Byte
  flashBad : List Nat
  xspi : Bool
  /-- Flash writes, the one in progress first. -/
  flashJobs : List FlashJob
  /-- Running firmware: IMAGE_VER, SVN, KEY and digest; none in BOOT and STANDALONE. -/
  fw : Option (Word × Nat × Nat × BitVec 384)
  /-- Verified firmware that has not started yet (steps 4 and 5 of Table BS-5), and whether the start is a warm
  reset (R468). -/
  fwReady : Bool
  warm : Bool
  /-- Library in the cache: SVN and digest. -/
  libSvn : Nat
  libDigest : BitVec 384
  cfgSvn : Nat
  cfgDigest : BitVec 384
  cache : List KObj
  /-- Partner allow list, operator keys and PMIC sequence of the active configuration image (Table BS-8). -/
  allow : List (BitVec 384)
  operators : List (BitVec 384)
  pmic : List PmicWrite
  /-- OTP slots being programmed, the present one first: slot and key hash (R472). -/
  otpJobs : List (Nat × BitVec 384)
  /-- Requests to the DRBG since it was last seeded (R478). -/
  draws : Nat
  /-- FAULT# is driven by a failed boot step or by a thermal trip. -/
  bootFault : Bool
  deriving DecidableEq, Repr

/-! ### Lanes and link (chapters 04 and 05). Lanes 0–31 are RX00–RX31, lanes 32–47 are TX00–TX15. -/

/-- What a receive lane hands on to its gate and to the link logic, byte for byte. -/
inductive Delivered where
  /-- A CSI-2 packet of a stream: damaged, cut short by the sender (R144, R146). -/
  | csi2 (stream : Nat) (bytes : List Byte) (damaged trunc : Bool)
  /-- A link message (R147). -/
  | msg (bytes : List Byte)
  deriving DecidableEq, Repr

/-- A link message that waits to be sent (R149): its header and payload. -/
structure OutMsg where
  mtype : Nat
  seq : Nat
  port : Nat
  payload : List Byte
  /-- A TRIGGER of the hub's own: fire, in nanoseconds after its tick; DELAY is filled in when the transmission starts
  (R149, R154). -/
  fire : Option Int
  deriving DecidableEq, Repr

/-- What the partner's receiver last reported in training (Table LK-5, TRAIN): READY, its eye index, the highest rate code
it supports, and its role FOLLOW. -/
structure PeerTrain where
  ready : Bool
  eye : Nat
  rate : Nat
  follow : Bool
  deriving DecidableEq, Repr

/-- A lane beside its registers (R118–R144). -/
structure LaneDyn where
  /-- Tone bursts sent and seen in detect (R119). -/
  ownBursts : Nat
  partnerBursts : Nat
  /-- Waiting 100 ms in detect after LANE_TRAIN_FAIL (R119). -/
  holdoff : Bool
  /-- Training attempts of this bring-up (ATTEMPTS). -/
  attempts : Nat
  /-- Stored result of an earlier up: preset, CTLE, DFE taps (R122, R126). -/
  stored : Option (Nat × Nat × Word × Word)
  /-- The training in progress makes a full search, whatever FAST says (R122, R126). -/
  full : Bool
  /-- Training has succeeded at this end: TS2 and READY are sent (R121, R122). -/
  trained : Bool
  peer : Option PeerTrain
  /-- Rate code now tried in training. -/
  rate : Nat
  /-- Transmit lane: the preset in use in training (R122). -/
  sentPreset : Nat
  /-- Transmit lane: PRBS31 state of its training blocks (Table LP-6). -/
  prbs : BitVec 31
  /-- Codewords since an alignment codeword was recognised in align (R139). -/
  alignAt : Option Nat
  /-- The lane has aligned and waits for its bond partner (R128). -/
  aligned : Bool
  /-- Codeword index 0–63 (R139). -/
  cwIndex : Nat
  /-- Scrambler state (R140). -/
  scr : BitVec 23
  /-- Consecutive expected alignment codewords missing (R119). -/
  missed : Nat
  /-- PM entry request outstanding: target state code and tries made (R124). -/
  pmReq : Option (Nat × Nat)
  /-- The acknowledged new state to enter at the next alignment codeword (R124). -/
  pmNext : Option Nat
  /-- An exit request arrived or was made before an entry completed (R124). -/
  pmExit : Bool
  /-- The hub's own exit request is to be sent when the entry completes (R124). -/
  pmAsk : Bool
  /-- CSI-2 packets in progress by stream, and the link message in progress (R142, R144). -/
  parts : SMap (List Byte)
  msgPart : Option (List Byte)
  /-- Packets and messages completed by the last codeword. -/
  delivered : List Delivered
  /-- Transmit lane: repeating is switched onto the source (R132). -/
  repeating : Bool
  /-- Link messages that wait to be sent, in the order queued (R149). -/
  msgs : List OutMsg
  /-- Transmit lane, the even one of a bond: cells of the message in progress, and cells of CSI-2 packets that wait
  (R142, R148). -/
  msgCells : List (List Byte)
  cells : List (List Byte)
  /-- Transmit lane: index of the next codeword and the scrambler's state (R139, R140). -/
  txIndex : Nat
  txScr : BitVec 23
  /-- Transmit lane: a committed TXEQ takes effect at the next alignment codeword (R136). -/
  newEq : Bool
  /-- LocalClock at the measurement that LANE_x_EYE shows (AGE). -/
  eyeNs : Option Nat
  deriving DecidableEq, Repr

def LaneDyn.rest : LaneDyn :=
  { ownBursts := 0, partnerBursts := 0, holdoff := false, attempts := 0, stored := none, full := false, trained := false,
    peer := none, rate := 0, sentPreset := 0, prbs := 0, alignAt := none, aligned := false, cwIndex := 0, scr := 0x7FFFFF,
    missed := 0, pmReq := none, pmNext := none, pmExit := false, pmAsk := false, parts := [], msgPart := none,
    delivered := [], repeating := false, msgs := [], msgCells := [], cells := [], txIndex := 0, txScr := 0x7FFFFF, newEq := false,
    eyeNs := none }

/-- An authentication exchange (R159). -/
structure AuthX where
  nonce : List Byte
  /-- CAMERA_AUTH waits for its end. -/
  forCmd : Bool
  deriving DecidableEq, Repr

/-- A round-trip calibration (R152). -/
structure CalX where
  /-- ID of the CAL_REQ outstanding. -/
  id : Nat
  /-- Exchanges still to run after this one. -/
  left : Nat
  /-- RTT_PS of the answered exchanges. -/
  answered : List Nat
  forCmd : Bool
  deriving DecidableEq, Repr

/-- Link logic of a lane beside its registers (R145–R163). -/
structure LinkDyn where
  /-- Stored IDENT payload, 32 bytes (R155). -/
  ident : Option (List Byte)
  /-- A ROLL_CALL waits for its IDENT. -/
  calling : Bool
  /-- DISCOVER waits for it. -/
  discover : Bool
  auth : Option AuthX
  cal : Option CalX
  /-- Next SEQ of the hub's requests (R147). -/
  seq : Nat
  calId : Nat
  /-- TICK[15:0] of triggers sent and not yet acknowledged (R154). -/
  trigs : List (BitVec 16)
  /-- GPIO levels and mask last sent (R163). -/
  gpioSent : Option (Nat × Nat)
  /-- LocalClock (ns) at which the partner became READY (R487). -/
  readyNs : Nat
  deriving DecidableEq, Repr

def LinkDyn.none : LinkDyn := ⟨Option.none, false, false, Option.none, Option.none, 0, 0, [], Option.none, 0⟩

/-! ### Gates (chapter 06) -/

/-- The settings with which a frame opened (R167). -/
structure GSet where
  ctrl : Word
  cropX : Word
  cropY : Word
  dectag : Word
  target : Word
  deriving DecidableEq, Repr

/-- A frame in progress on a context, or closed and waiting for its CLOSE record. -/
structure GFrame where
  set : GSet
  frameNum : BitVec 16
  seq : Word
  /-- Tag words 3–7: TICK, stamp and time base (R184, R182, R183). -/
  w3 : Word
  w4 : Word
  w5 : Word
  w6 : Word
  w7 : Word
  /-- LocalClock at capture, in nanoseconds (EOF_DELTA_NS). -/
  captured : Nat
  eofDelta : Word
  /-- Pixel lines the frame has had, good or damaged (R173). -/
  inLines : Nat
  /-- Output lines written. -/
  outLines : Nat
  /-- Input rows of the crop window gathered for the cell row being decimated (R180). -/
  rows : List (List Nat)
  /-- The last output lines, newest first, for DMG_FILL = 1 (R174). -/
  last : List (List Nat)
  trunc : Bool
  cause : Nat
  damaged : Bool
  /-- GATE_DMG has been raised for this frame (R174). -/
  dmgRaised : Bool
  noend : Bool
  oversize : Bool
  fnumMismatch : Bool
  embLost : Bool
  embBytes : Nat
  dmgLines : Nat
  /-- Paddock slot being written (R190). -/
  slot : Option Nat
  /-- FRAME_STATUS words 13–15 once received (R189). -/
  fs : Option (Word × Word × Word)
  /-- HDR: GSEQ of the instance it joined (R186). -/
  gseq : Word
  hdrIncomplete : Bool
  nexp : Nat
  deriving DecidableEq, Repr

/-- A stream context beside its registers. -/
structure GCtx where
  frame : Option GFrame
  /-- A closed frame whose CLOSE record waits for FRAME_STATUS (R189) or its HDR instance (R187). -/
  closing : Option GFrame
  /-- The wait of R189 runs. -/
  waitFs : Bool
  seq : Word
  /-- MISSED count for the next frame's tag (R178). -/
  missed : Nat
  /-- Frame starts in the present tick period, and whether the context has been open throughout it (R178). -/
  starts : Nat
  wholePeriod : Bool
  /-- Planned rate in kpixel/s (R194). -/
  plan : Nat
  lineCred : Nat
  recCred : Nat
  /-- Ring write positions of the next line and record. -/
  lineAt : Nat
  recAt : Nat
  /-- The next write answers with a flush marker (R192). -/
  flushMark : Bool
  /-- Lines of the frame are dropped until the next frame start (R175, R192). -/
  dropping : Bool
  deriving DecidableEq, Repr

/-- An HDR group instance (R186). -/
structure HdrInst where
  gseq : Word
  frameNum : BitVec 16
  /-- LocalClock at its opening, in nanoseconds. -/
  openedNs : Nat
  /-- The group's members at its opening (R185). -/
  members : List Nat
  started : List Nat
  closed : List Nat
  /-- WIN_US has passed since it opened. -/
  expired : Bool
  bad : Bool
  deriving DecidableEq, Repr

/-- A gate beside its registers. -/
structure GateDyn where
  ctxs : SMap GCtx
  /-- The open instance of each HDR group, and the next GSEQ. -/
  insts : SMap (Option HdrInst)
  gseq : SMap Word
  /-- Pixels unpacked in the present tick (GATEn_LOAD). -/
  pixels : Nat
  deriving DecidableEq, Repr

/-! ### Stalls and yards (chapter 07) -/

/-- What a resident kernel declares (Table ST-7). -/
structure KInfo where
  id : BitVec 16
  kver : BitVec 16
  /-- KEY of its library. -/
  key : Nat
  tickMode : Bool
  lineMode : Bool
  p12 : Bool
  lockstep : Bool
  entry : BitVec 12
  deriving DecidableEq, Repr

/-- A hayloft window of a binding (Table ST-9). -/
structure Win where
  /-- Window number, 0–3. -/
  no : Nat
  writable : Bool
  /-- Base and size in 64-byte units. -/
  base : Nat
  size : Nat
  deriving DecidableEq, Repr

/-- A frame of a ring as a library kernel reads it (R188, R236): its tag, OPEN's words until it closes; its lines, one
of which may not have decoded. -/
structure InFrame where
  tag : List Word
  lines : List (List Byte)
  bad : Bool
  closed : Bool
  deriving DecidableEq, Repr

/-- An outbound queue port of a binding (R214). -/
structure OutPort where
  log2Depth : Nat
  consumer : Nat
  inPort : Nat
  /-- Ring base in 64-byte units. -/
  base : Nat
  credits : Nat
  /-- Ring index of the next vector. -/
  wr : Nat
  /-- Vectors of the packet in progress. -/
  cur : Nat
  /-- The queue was flushed and the producer's next push or end meets it (R215). -/
  flushPending : Bool
  /-- FLUSHED is set: pushes up to the next QEND are discarded (R215). -/
  flushed : Bool
  /-- Credits released by the consumer and on their way back, oldest first (R214). -/
  returning : List Nat
  deriving DecidableEq, Repr

/-- An inbound queue port (R214). -/
structure InPort where
  /-- Complete packets not yet released: their lengths, oldest first. -/
  packets : List Nat
  /-- Ring index of the first vector of the oldest packet. -/
  rd : Nat
  /-- QWAIT has taken the oldest packet as the current one; vectors popped of it. -/
  current : Bool
  popped : Nat
  deriving DecidableEq, Repr

/-- A hayloft transfer under way (HGET, HPUT). -/
structure Xfer where
  put : Bool
  hay : Nat
  loc : Nat
  bytes : Nat
  deriving DecidableEq, Repr

/-- Execution state of a stall (Table ST-1). -/
structure Regs where
  /-- Scalar registers s1–s31, sparse over 0. -/
  s : SMap Word
  /-- Vector registers, sparse over 0. -/
  v : SMap (BitVec 512)
  /-- Accumulators, 32 lanes of 40 bits, lane i at bits 40i + 39:40i. -/
  a : SMap (BitVec 1280)
  /-- Predicates pr1–pr7, sparse over 0. -/
  pr : SMap Word
  pc : BitVec 12
  /-- Loop stack: first bundle, last bundle, iterations left; innermost first, at most 2. -/
  loops : List (BitVec 12 × BitVec 12 × Nat)
  deriving DecidableEq, Repr

def Regs.zero : Regs := ⟨[], [], [], [], 0, []⟩

/-- States of a stall (STALL_n_STATUS.STATE). -/
inductive StallState where
  | empty | loading | loaded | bound | running | done | fault | checker
  deriving DecidableEq, Repr

/-- A stall. -/
structure Stall where
  state : StallState
  regs : Regs
  /-- Instruction memory, sparse over 0 (4096 bundles). -/
  imem : SMap (BitVec 128)
  /-- Stall store, sparse over 0 (128 KiB); its top 1 KiB is the parameter block. -/
  store : SMap Byte
  /-- Parameter words committed and not yet visible to GETP (R211). -/
  params : List (Nat × Word)
  /-- Bundles and 64-bit store words with an uncorrectable error (R207). -/
  badBundles : List Nat
  badWords : List Nat
  kernel : Option KInfo
  /-- The object being copied in while LOADING. -/
  loadingObj : Option KObj
  /-- 0 unbound, 1 TICK, 2 LINE. -/
  mode : Nat
  est : Nat
  wins : List Win
  outs : SMap (Option OutPort)
  ins : SMap InPort
  xfers : List Xfer
  /-- Joined in a lockstep pair (R221). -/
  lock : Bool
  late : Bool
  lastFault : Nat
  /-- Tick counter [31:0] at launch, or at the SOF of the current frame (Table ST-5). -/
  launchTick : Word
  /-- LINE mode: output line and SEQ of the current frame (Table ST-5). -/
  line : Nat
  frameSeq : Word
  /-- LINE mode: waiting for the next input line (R223). -/
  waitLine : Bool
  /-- Tick instants since the launch (R209). -/
  ticksRunning : Nat
  /-- A tick's work has started and its done report has not been sent. -/
  owesDone : Bool
  /-- Cycles used in the last completed tick, and the largest since BIND (STALL_STATUS). -/
  usedCycles : Word
  maxCycles : Word
  /-- LINE mode: launch at the next SOF. -/
  armed : Bool
  /-- LocalClock (ns) of the restarts of a pair (R224). -/
  restarts : List Nat
  /-- The pair is halted (R224). -/
  halted : Bool
  /-- Its shed's clocks are stopped and the kernel launches on restart (R72). -/
  launchOnRestart : Bool
  /-- Ticks skipped so far while late, for a stall outside yards (R67). -/
  skipped : Nat
  /-- LINE mode: input lines present and not yet taken, oldest first: number, SEQ and tick of their frame (R223). -/
  ready : List (Nat × Word × Word)
  /-- LINE mode: the kernel works on an input line it has taken (R223). -/
  haveLine : Bool
  /-- A truncated frame has closed in one of its windows since its last report (R66, R175). -/
  truncIn : Bool
  /-- A BIND of this tick's set has bound it: it launches at this tick (R219). -/
  boundNow : Bool
  /-- LINE mode: largest cycles of a line in the present tick (Table ST-9). -/
  lineMax : Word
  /-- Code of the last TRAP (R204). -/
  trapCode : Nat
  /-- Frames of the rings a library kernel reads, by parameter word, oldest first (R236). -/
  inputs : SMap (List InFrame)
  /-- Its last output lacks an exposure of its group (R247). -/
  hdrLack : Bool
  /-- LINE mode: output lines of the current frame that are in the output ring (R223, R340). -/
  outEnd : Nat
  deriving DecidableEq, Repr

def Stall.fresh : Stall :=
  ⟨.empty, Regs.zero, [], [], [], [], [], none, none, 0, 0, [], [], [], [], false, false, 0, 0, 0, 0, false, 0,
   false, 0, 0, false, [], false, false, 0, [], false, false, false, 0, 0, [], false, 0⟩

/-- What a done report said of a tick's work (R66): its tick, its status (0 OK, 1 TRUNCATED, 2 FAULT) and LATE. -/
structure DoneRec where
  tick : Word
  status : Nat
  late : Bool
  deriving DecidableEq, Repr

/-- A yard (R225): its members in descriptor order. -/
structure Yard where
  index : Nat
  members : List (BitVec 16)
  /-- It has work in the present or an earlier tick and owes a done report; the tick it launched (R66, R67). -/
  owes : Option Word
  late : Bool
  /-- Ticks skipped so far while late (R67). -/
  skipped : Nat
  /-- Its last two done reports, newest first (R30, R335). -/
  dones : List DoneRec
  usedCycles : Word
  /-- Stalls that count towards it for the tick they launched in, across membership changes (R227). -/
  awaiting : List Nat
  /-- Of the work owed: a stall has faulted or been abandoned; an input frame was truncated (R66). -/
  fault : Bool
  trunc : Bool
  /-- Cycles used in the last completed tick (YARD_QUERY). -/
  lastCycles : Word
  deriving DecidableEq, Repr

/-! ### Frame store and paddocks (chapter 10) -/

/-- State of a paddock slot (R313). -/
inductive SlotState where
  | empty
  | writing
  | complete
  deriving DecidableEq, Repr

/-- A slot: its state and the SEQ of its frame. -/
structure PSlot where
  state : SlotState
  seq : Word
  /-- CODEC_PROF word in force since the slot was begun, for a coded paddock (R301). -/
  prof : Word
  /-- The report of the yard or remap engine that wrote the frame; none from a gate (R67, R337). -/
  from_ : Option DoneRec
  /-- Samples of a line, as its writer delivers them: what a decoder expects (R296). -/
  samples : Nat
  deriving DecidableEq, Repr

/-- A fill of a paddock (R315). -/
structure Fill where
  plane : Nat
  log2Depth : Nat
  /-- Ring and tag ring, hayloft global addresses in 64-byte units. -/
  ring : Nat
  tags : Nat
  /-- SEQ last delivered. -/
  delivered : Word
  /-- A tick has asked for a frame that has not been taken yet. -/
  due : Bool
  /-- The slot being copied, its SEQ and its next line; none between frames. -/
  reading : Option (Nat × Word × Nat)
  /-- Lines of it written as zeros (Table FS-2). -/
  dmg : Nat
  lineCred : Nat
  recCred : Nat
  lineAt : Nat
  recAt : Nat
  deriving DecidableEq, Repr

/-- A drain of a yard's surface (R316). -/
structure Drain where
  yard : Nat
  /-- Hayloft global address and pitch, in 64-byte units. -/
  surface : Nat
  pitch : Nat
  deriving DecidableEq, Repr

/-- A rewind mark: the SEQ it was placed on, and whether it has been invalidated (R317, R318). -/
structure Mark where
  seq : Word
  lost : Bool
  deriving DecidableEq, Repr

/-- A paddock (R312). -/
structure Paddock where
  slots : Nat
  planes : Nat
  /-- Base in 4 KiB units, pitch in 256-byte units, lines. -/
  base : Nat
  pitch : Nat
  lines : Nat
  coded : Bool
  fsc : Nat
  prof : Nat
  /-- Hold policy in force, and the one that applies from the writer's next frame start (R320). -/
  hold : Bool
  holdNext : Bool
  ring : SMap PSlot
  /-- Slot and SEQ the writer's next frame takes (R313). -/
  nextSlot : Nat
  nextSeq : Word
  marks : SMap (Option Mark)
  fills : SMap (Option Fill)
  drain : Option Drain
  newest : Word
  /-- NEWEST as it stood just before the last tick instant (R335). -/
  atTick : Word
  completed : Word
  /-- Slots that DMA, remap engines or heads are reading: implicit marks as (slot, reader) (R317). -/
  readers : List (Nat × Nat)
  deriving DecidableEq, Repr

/-- The frame store (R304–R311). -/
structure Store where
  /-- Contents by physical byte address, sparse over 0. -/
  mem : SMap Byte
  /-- Granules (address / 256) that read as uncorrectable (R310). -/
  poison : List Nat
  /-- KEYMASK[0]–KEYMASK[5] (R307). -/
  masks : List (BitVec 18)
  /-- The paddocks that exist, by index. -/
  pads : List (Nat × Paddock)
  /-- Deleted paddocks of which a slot was being written, by index: that frame completes into its slot (R320). -/
  gone : List (Nat × Paddock)
  /-- FS_IMBALANCE has been raised and RATIO not met since (R309). -/
  imbRaised : Bool
  imbCount : Nat
  /-- Self-refresh (R305). -/
  selfRefresh : Bool
  deriving DecidableEq, Repr

/-! ### Remap engines and mesh slots (chapter 08) -/

/-- A region of a remap binding (Table IF-9). -/
structure Region where
  ox : Nat
  oy : Nat
  w : Nat
  h : Nat
  slot : Nat
  bicubic : Bool
  fill : Bool
  deriving DecidableEq, Repr

/-- A remap binding (R273). -/
structure RemapBind where
  /-- Source and destination: 1 paddock, 2 hayloft. -/
  srcKind : Nat
  fmt : Nat
  dstKind : Nat
  producer : Nat
  src : Nat
  sw : Nat
  sh : Nat
  sPitch : Nat
  sPlane : Nat
  dst : Nat
  dw : Nat
  dh : Nat
  dPitch : Nat
  dPlane : Nat
  fill0 : Word
  fill1 : Word
  regions : List Region
  deriving DecidableEq, Repr

/-- A mesh buffer as an engine reads it: hayloft byte address and shape (R267, R268). -/
structure MeshBuf where
  at_ : Nat
  gw : Nat
  gh : Nat
  ms : Nat
  deriving DecidableEq, Repr

/-- A frame an engine is remapping. -/
structure RemapRun where
  bind : RemapBind
  tick : Word
  /-- Source paddock slot held by an implicit mark, destination slot being written. -/
  srcSlot : Option Nat
  dstSlot : Option Nat
  /-- The mesh of each region, shape and bytes, as at the frame's start (R267). -/
  bufs : List (Option (MeshBuf × List Byte))
  /-- A mesh buffer had an uncorrectable error (R274). -/
  poor : Bool
  /-- The producer yard of a hayloft source reported TRUNCATED (R271). -/
  trunc : Bool
  /-- The destination paddock dropped the frame under hold (R318). -/
  dropped : Bool
  deriving DecidableEq, Repr

/-- A remap engine (R266). -/
structure Remap where
  bind : Option RemapBind
  run : Option RemapRun
  late : Bool
  /-- Ticks skipped while late (R67). -/
  skipped : Nat
  /-- SEQ of the paddock frame remapped last (R273). -/
  lastSeq : Option Word
  /-- Pixels written in the present tick (REMAP_n_LOAD). -/
  pixels : Nat
  /-- Its last two done reports, newest first (R30, R335). -/
  dones : List DoneRec
  /-- It stays in fault until REMAP_BIND or REMAP_UNBIND (R274). -/
  stuck : Bool
  /-- The tick whose hayloft frame it awaits from its producer yard (R273). -/
  waits : Option Word
  /-- Fabric cycles used in the present tick (REMAP_n_CYCLES). -/
  cycles : Word
  deriving DecidableEq, Repr

def Remap.unbound : Remap := ⟨none, none, false, 0, none, 0, [], false, none, 0⟩

/-- A mesh slot (R267). -/
structure Mesh where
  /-- The active buffer, which of the two it is, and the mesh in the other that awaits activation. -/
  active : Option MeshBuf
  index : Nat
  next : Option MeshBuf
  /-- The copy in progress: buffer and frame-store source address. -/
  loading : Option (MeshBuf × Nat)
  /-- BASE in 64-byte units. -/
  base : Nat
  /-- A staged load: its mesh becomes active only after its entry has applied (R267). -/
  held : Bool
  /-- Status and TICK of the reply that a staged load sends when the copy ends. -/
  reply : Option (Nat × Word)
  deriving DecidableEq, Repr

def Mesh.free : Mesh := ⟨none, 0, none, none, 0, false, none⟩

/-! ### Output heads (chapter 11). Layers 0–15 are the kites, layer 16 is the background. -/

/-- Where a layer's pixels of the present frame come from (R331, R335). -/
inductive LaySrc where
  | none
  | fill
  | solid
  /-- Slot of a paddock. -/
  | slot (pad slot : Nat)
  /-- A hayloft surface. -/
  | surface
  | still
  | direct
  /-- Missing under PASS: composed as soon as it is done (R69). -/
  | awaited
  /-- A frame composed earlier, by the lines kept of it (R69, R336). -/
  | kept
  /-- The camera of a STANDALONE tile, through BASIC, by receive lane (R487). -/
  | camera (lane : Nat)
  /-- The status picture in ROM (R488). -/
  | rom
  deriving DecidableEq, Repr

/-- A pixel at 16 bits a component, with its alpha (R333). On a YUV422 head the components are Y, U and V. -/
structure Px where
  c0 : Nat
  c1 : Nat
  c2 : Nat
  a : Nat
  deriving DecidableEq, Repr

/-- A layer as a frame composes it: registers at the frame's start, source, FRAME_STATUS code (R337), SEQ. -/
structure LayUse where
  ctrl : Word
  dst : Word
  size : Word
  src : Word
  soff : Word
  pitch : Word
  color : Word
  from_ : LaySrc
  code : Nat
  seq : Nat
  /-- The frame it composes was marked truncated (R66). -/
  trunc : Bool
  prod : Word
  /-- Lines of the source as they were composed, by line of the rectangle. -/
  lines : SMap (List Px)
  deriving DecidableEq, Repr

/-- A stream of the frame in progress. -/
structure OutStream where
  k : Nat
  lane : Nat
  /-- STREAM id: PORT × 16 + VC (R325). -/
  id : Nat
  emb : Bool
  x0 : Nat
  y0 : Nat
  w : Nat
  h : Nat
  counter : Word
  /-- Profile word and DT of a coded stream (R299). -/
  coded : Option (Word × Nat)
  /-- Lowest rate code whose payload covers the lane's demand (R330); 4 where none does. -/
  need : Nat
  /-- The stream has left sending within this frame and stays silent to its end (R328). -/
  lost : Bool
  deriving DecidableEq, Repr

/-- A tether as a frame checks it, with the CRC-32C register so far (R343–R348). -/
structure TetherRun where
  r : Nat
  stream : Nat
  fixed : Bool
  liveReq : Bool
  freezeN : Nat
  expect : Word
  x0 : Nat
  y0 : Nat
  w : Nat
  h : Nat
  crc : Word
  /-- The region's last sample has been handed over. -/
  ended : Bool
  deriving DecidableEq, Repr

/-- An output frame in progress (R326). -/
structure OutFrame where
  /-- Its number on the head; names its span (R353). -/
  serial : Nat
  tick : Word
  fmt : Nat
  w : Nat
  h : Nat
  /-- Next canvas line to be handed over. -/
  line : Nat
  streams : List OutStream
  layers : List LayUse
  tethers : List TetherRun
  /-- A fill frame of NOSRC_FILL (R341). -/
  filler : Bool
  late : Bool
  /-- The frame of a direct path, started at a SOF (R340). -/
  direct : Bool
  /-- Settings with which the frame started (R35, R63): FILL_A, FILL_B, DIR_OUT. -/
  fillA : Word
  fillB : Word
  dirOut : Word
  /-- The tag SEQ of a direct path's frame is not later than that of the frame before (R348). -/
  stale : Bool
  deriving DecidableEq, Repr

/-- A signature kept for an echo (R345). -/
structure Await where
  counter : Word
  crc : Word
  serial : Nat
  echoed : Bool
  /-- No check of the frame's region has failed. -/
  ok : Bool
  deriving DecidableEq, Repr

/-- The span of an output frame (R353). -/
structure Span where
  serial : Nat
  /-- Region checks whose deadline has not passed, those not yet handed over included. -/
  waiting : Nat
  handed : Bool
  failed : Bool
  deriving DecidableEq, Repr

/-- A tethered region between frames. -/
structure RegionDyn where
  awaits : List Await
  /-- COUNTER last echoed (R350). -/
  lastEcho : Option Word
  /-- Signature of the last live frame, and the run of equal ones (R348). -/
  lastSig : Option Word
  run : Nat
  deriving DecidableEq, Repr

def RegionDyn.none : RegionDyn := ⟨[], Option.none, Option.none, 0⟩

/-- A head beside its registers. -/
structure Head where
  frame : Option OutFrame
  /-- Next serial. -/
  serial : Nat
  spans : List Span
  regions : SMap RegionDyn
  /-- Layers as the last frame with them live composed them (R69). -/
  shown : SMap LayUse
  /-- Layers as they were last composed, live, repeated or late (R336). -/
  last : SMap LayUse
  /-- Layers whose KITE_STALE has been raised, blanked until a good frame arrives (R69). -/
  stale : List Nat
  /-- Consecutive due ticks a layer has been repeated (R69). -/
  repeats : SMap Nat
  /-- Consecutive passing frames (R353). -/
  passing : Nat
  /-- Condition causes held (Table CW-6): NOSOURCE, STOPPED, LINK. -/
  nosource : Bool
  stopped : Bool
  link : Bool
  /-- Stopped by policy STOP until a committed HEAD_SET (R356). -/
  halted : Bool
  /-- POLICY STOP takes effect at the end of the present frame (R356). -/
  halting : Bool
  /-- A direct path is in force; its output frames start at SOFs (R339). -/
  direct : Bool
  /-- The path has taken effect at a SOF (R339). -/
  dirLive : Bool
  /-- Tag SEQ of the previous direct-path frame (R348). -/
  lastSeq : Option Word
  /-- The primary's line was suppressed in this frame (R355). -/
  suppressed : Bool
  /-- Lane mask (R328). -/
  lanes : BitVec 16
  /-- Ticks skipped while late (R67), and the last frame ran past its tick. -/
  skipped : Nat
  late : Bool
  /-- A finished frame's done report is still to be sent: its tick, status and LATE (R66). -/
  owes : Option DoneRec
  deriving DecidableEq, Repr

def Head.rest : Head :=
  ⟨none, 0, [], [], [], [], [], [], 0, false, false, false, false, false, false, false, none, false, 0, 0, false, none⟩

/-! ### Two-wire controllers (chapter 14) -/

/-- A queued transfer (R420, R421). -/
structure TwXfer where
  serial : Nat
  addr : Nat
  op : Nat
  wdata : List Byte
  rlen : Nat
  /-- Runs of the transaction so far (R425, R429). -/
  attempts : Nat
  deriving DecidableEq, Repr

/-- A controller, local or tunnelled. -/
structure TwCtl where
  /-- At most 8; the first is the one in progress. -/
  queue : List TwXfer
  serial : Nat
  /-- The first transfer has started on the bus, or its I2C_REQ is outstanding with this SEQ. -/
  active : Bool
  reqSeq : Nat
  stuck : Bool
  /-- Settings with which the transfer in progress began (R438). -/
  ctrl : Word
  deriving DecidableEq, Repr

def TwCtl.idle : TwCtl := ⟨[], 0, false, 0, false, 0⟩

/-! ### Test resources (chapter 18) -/

/-- An eye scan under way (R514). -/
structure EyeScan where
  lane : Nat
  cols : Nat
  rows : Nat
  log2w : Nat
  eyeAtStart : Nat
  deriving DecidableEq, Repr

/-- A memory test under way (R516, R517). -/
structure MemTest where
  unit : Nat
  algo : Nat
  base : Nat
  len : Nat
  deriving DecidableEq, Repr

/-- An injection that runs: its kind, errors still to be injected, none for ever, and its exponent (R513). -/
structure Inject where
  kind : Nat
  left : Option Nat
  exp : Nat
  /-- Bits before the next error. -/
  wait : Nat
  /-- Errors injected. -/
  count : Nat
  deriving DecidableEq, Repr

/-- A pattern generator: its register, newest bit first, and its place in the user pattern (R509). -/
structure Gen where
  pat : Nat
  reg : List Bool
  pos : Nat
  deriving DecidableEq, Repr

/-- A generator starts from all ones. -/
def Gen.start (pat : Nat) : Gen := ⟨pat, List.replicate 31 true, 0⟩

/-- A pattern checker beside its registers (R510): its prediction's bits and the bits or disagreements it looks back on,
newest first, the bits in a row for and against the prediction, and its place in the user pattern. -/
structure Checker where
  reg : List Bool
  agree : Nat
  against : Nat
  recent : List Bool
  phase : Option Nat
  deriving DecidableEq, Repr

def Checker.fresh : Checker := ⟨[], 0, 0, [], none⟩

/-- The instruction of the boundary-scan TAP (R519). -/
inductive TapInstr where
  | bypass | idcode | sample | extest | extestPulse | extestTrain | clamp | highz
  deriving DecidableEq, Repr

/-- The test block beside its registers. -/
structure Test where
  eye : Option EyeScan
  mem : Option MemTest
  inj : SMap (Option Inject)
  /-- Generators of the transmit lanes and checkers of the lanes in test. -/
  gen : SMap Gen
  chk : SMap Checker
  tap : TapInstr
  /-- Update stage of the boundary register, as last shifted in. -/
  bsr : List Bool
  deriving DecidableEq, Repr

/-- The TAP resets to IDCODE, as IEEE 1149.1 has it (PRESUMED, log entry 10). -/
def Test.reset : Test := ⟨none, none, [], [], [], .idcode, []⟩

/-! ### The whole machine -/

/-- What the hub puts out: every effect that another agent sees, in order. -/
inductive Out where
  /-- A posted write to host memory. -/
  | hostWrite (addr : BitVec 64) (ws : List Word)
  /-- DMA data written to host memory. -/
  | hostBytes (addr : BitVec 64) (bs : List Byte)
  /-- An MSI-X message: vector, message address and data. -/
  | msix (vector : Nat) (addr : BitVec 64) (data : Word)
  /-- An AER Advisory Non-Fatal Error for a logged posted-write failure (R372). -/
  | advisory (off : Nat)
  /-- Completion data of a host read. -/
  | readData (ws : List Word)
  /-- Completion bytes of a BAR2 read; poisoned with the EP bit (Table FS-2). -/
  | readBytes (bs : List Byte) (poisoned : Bool)
  /-- A host read completes as an Unsupported Request. -/
  | unsupported
  /-- An Ethernet frame sent on a port. -/
  | eth (port : Nat) (dst : BitVec 48) (vlan : Option (BitVec 16)) (etherType : BitVec 16) (bytes : List Byte)
  /-- A back-channel packet of a receive lane: the preamble and a link message (R148). -/
  | backPacket (lane : Nat) (bytes : List Byte)
  /-- A codeword of a transmit lane, its 240 bytes as sent (R137). -/
  | codeword (lane : Nat) (bytes : List Byte)
  /-- Raw bits of a transmit lane's pattern generator, in bytes as sent (R509). -/
  | pattern (lane : Nat) (bytes : List Byte)
  /-- A training block of a transmit lane (R121, Table LP-6). -/
  | block (lane : Nat) (bytes : List Byte)
  /-- A tone burst in detect (R120). -/
  | tone (lane : Nat)
  /-- A done report: unit, tick, status, cycles, LATE (R66). -/
  | doneReport (unit : BitVec 16) (tick : Word) (status : Nat) (cycles : Word) (late : Bool)
  /-- A ring's consumer is notified of one complete line or, with `record`, one complete tag record (R191). -/
  | ringNotify (r : RingRef) (record : Bool)
  /-- A flush marker seen by a ring's consumer (R192). -/
  | flushMarker (r : RingRef)
  /-- Data a two-wire controller drives or a target returns. -/
  | twoWire (ctl : Nat) (addr : Nat) (bytes : List Byte)
  /-- A byte TWT0 returns to the body controller. -/
  | twtByte (b : Byte)
  /-- TWT0 calls the body controller for attention (R434). -/
  | twtAttn
  /-- Boundary-scan data shifted out (R519). -/
  | jtag (bits : List Bool)
  /-- One MDIO operation starts (R405). -/
  | mdio (cl45 : Bool) (op phy reg : Nat) (data : BitVec 16)
  deriving DecidableEq, Repr

/-- A frame that waits for its Ethernet port (R404): its class in the port's order, and the frame. -/
structure TxFrame where
  cls : Nat
  dst : BitVec 48
  vlan : Option (BitVec 16)
  etherType : BitVec 16
  bytes : List Byte
  deriving DecidableEq, Repr

/-- The transmit side of an Ethernet port: a frame is in progress; frames that wait, in the order generated (R404). -/
structure EthTx where
  busy : Bool
  queue : List TxFrame
  deriving DecidableEq, Repr

def EthTx.idle : EthTx := ⟨false, []⟩

/-- The part: its ordering code and revision (R1, Table RM-3). -/
structure Part where
  /-- KX9632-AB. -/
  ab : Bool
  minor : Nat
  major : Nat
  deriving DecidableEq, Repr

/-- WB of R, G and B of BASIC; the gains of a stream's first frame are 4096 (R277). -/
structure Gains where
  r : Nat
  g : Nat
  b : Nat
  deriving DecidableEq, Repr

def Gains.unit : Gains := ⟨4096, 4096, 4096⟩

/-- A frame of a STANDALONE camera: bits per sample, and its lines, oldest first (R487). -/
structure CamFrame where
  bits : Nat
  rows : List (List Nat)
  deriving DecidableEq, Repr

/-- A STANDALONE camera on its way through BASIC (R276, R277, R487). -/
structure Cam where
  /-- The frame being received, and the last whole one that BASIC has not taken. -/
  taking : Option CamFrame
  done : Option CamFrame
  /-- The frame that BASIC works on in the present tick, and the one whose picture its tile shows, with their gains. -/
  work : Option (CamFrame × Gains)
  shown : Option (CamFrame × Gains)
  /-- The picture shown is of the tick before the present one. -/
  fresh : Bool
  /-- Gains of the next frame. -/
  gains : Gains
  deriving DecidableEq, Repr

def Cam.rest : Cam := ⟨none, none, none, none, false, Gains.unit⟩

/-- The ROM personality of STANDALONE (R487): the receive lane that shows in each tile, the lanes that wait for a
tile, and the cameras by receive lane. -/
structure Stand where
  tiles : SMap (Option Nat)
  waiting : List Nat
  cams : SMap Cam
  deriving DecidableEq, Repr

/-- The state of the hub. -/
structure State where
  /-- Commands that wait, first in, first out. -/
  pending : List Instr
  /-- Everything put out so far, oldest first. -/
  out : List Out
  /-- Counter of free values drawn; the model's own. -/
  fresh : Nat
  part : Part
  /-- Device state and the cause of the last transition (TOP_STATE). -/
  dstate : DState
  cause : BitVec 16
  /-- Every register of Table RM-6, by BAR0 offset; an unlisted one holds its reset value. -/
  regs : SMap Word
  /-- Read latches (R530), keyed by 64 × path + group (Views.lean); path 0 is BAR0, 1 + portNo a command source. -/
  latches : SMap (List Word)
  groom : Groom
  tg : TickGen
  ev : Events
  host : HostSide
  clk : Clocks
  pwr : Power
  sec : Security
  lanes : SMap LaneDyn
  links : SMap LinkDyn
  gates : SMap GateDyn
  stalls : SMap Stall
  yards : List Yard
  /-- Dissolved yards that still owe the report of a tick that launched before (R227). -/
  dissolved : List Yard
  /-- The hayloft, by 26-bit global byte address (R212). -/
  hay : SMap Byte
  /-- Granules of the hayloft (64 bytes) with an uncorrectable error (R207). -/
  hayBad : List Nat
  store : Store
  remaps : SMap Remap
  meshes : SMap Mesh
  heads : SMap Head
  /-- Coded bits and samples of each codec set in the present tick (CODEC_s_BITS.RATIO). -/
  codecAcc : SMap (Nat × Nat)
  /-- Local controllers 0–3, tunnelled controllers at 32 + receive lane. -/
  tw : SMap TwCtl
  /-- The transmit sides of the Ethernet ports (R404). -/
  ethTx : SMap EthTx
  test : Test
  stand : Stand
  deriving DecidableEq, Repr

/-- The groom right after a reset: not running, nothing staged, taken or queued. -/
def Groom.reset : Groom :=
  ⟨false, false, false, false, none, ⟨[], [], none⟩, [], [], [], ⟨false, false, false, [], [], 0, false⟩, 0, 0⟩

def Events.reset : Events := ⟨[], [], [], [], true, true, false, false, false, false⟩

def Clocks.reset : Clocks := ⟨[], 0, [], none, none, false⟩

def Power.reset : Power :=
  ⟨.boot, false, none, .off, .awake, 0, 0, 0, 0, 0, 0, [], true, true, [], [], [], [], 0, [], [], [], [], [], false, 0, false, 0, false, [], [], none, none⟩

/-- OTP of an unprogrammed part: every field 0, lifecycle VENDOR (DESIGN CHOICE, log entry 3). -/
def Otp.blank : Otp := ⟨0, [], [], false, [], false, false, false, 0, 0⟩

def Security.reset : Security :=
  { otp := Otp.blank, straps := ⟨0, 0, 0, 0⟩, strapBalls := ⟨0, 0, 0, 0⟩, trngOk := false, debugScopes := 0,
    creds := [], nonces := [], flash := [], flashBad := [], xspi := false, flashJobs := [], fw := none,
    fwReady := false, warm := false, libSvn := 0, libDigest := 0, cfgSvn := 0, cfgDigest := 0, cache := [],
    allow := [], operators := [], pmic := [], otpJobs := [], draws := 0, bootFault := false }

def Store.reset : Store := ⟨[], [], [0, 0, 0, 0, 0, 0], [], [], false, 0, false⟩

/-- The machine right after a cold-boot reset: device state BOOT with cause 0xF000, every register at the
value of the Reset column (R532), memories, queues and rings empty. -/
def State.reset : State :=
  { pending := [], out := [], fresh := 0, part := ⟨false, 0, 1⟩, dstate := .boot, cause := 0xF000, regs := [],
    latches := [], groom := Groom.reset, tg := ⟨false, 0, 0, 0, false⟩, ev := Events.reset,
    host := ⟨false, false, [], [], false⟩, clk := Clocks.reset, pwr := Power.reset, sec := Security.reset,
    lanes := [], links := [], gates := [], stalls := [], yards := [], dissolved := [], hay := [], hayBad := [], store := Store.reset, remaps := [], meshes := [],
    heads := [], codecAcc := [], tw := [], ethTx := [], test := Test.reset, stand := ⟨[], [], []⟩ }

end Sys2Proof.Machine
end

