-- ==== Sys2Proof/Machine/Ops.lean ====
section
/-! DEFINITION. The named operations over the state: registers and their fields, memories, the per-unit
records, free values and the output list. -/

namespace Sys2Proof.Machine

/-! ### Registers -/

/-- The stored value of the register at a BAR0 offset (R532). -/
def State.reg (s : State) (a : Nat) : Word := SMap.get s.regs (resetOf a) a

/-- Store a register. -/
def State.setReg (s : State) (a : Nat) (w : Word) : State :=
  { s with regs := SMap.put s.regs (resetOf a) a w }

/-- A field of a register. -/
def State.fld (s : State) (a : Nat) (f : Fld) : Nat := f.get (s.reg a)

/-- A one-bit field of a register. -/
def State.flag (s : State) (a : Nat) (f : Fld) : Bool := f.get (s.reg a) == 1

/-- Set a field of a register. -/
def State.setFld (s : State) (a : Nat) (f : Fld) (v : Nat) : State := s.setReg a (f.put v (s.reg a))

/-- Set a one-bit field of a register. -/
def State.setFlag (s : State) (a : Nat) (f : Fld) (v : Bool) : State := s.setFld a f (b01 v)

/-- Add to a counter marked "saturates" (R503). -/
def State.incSat (s : State) (a : Nat) (f : Fld) (n : Nat) : State :=
  s.setFld a f (satAdd (s.fld a f) n f.max)

/-- Add to a counter marked "wraps" (R503). -/
def State.incWrap (s : State) (a : Nat) (f : Fld) (n : Nat) : State := s.setFld a f (s.fld a f + n)

/-- Return the registers whose offset satisfies `p` to their reset values (R532). -/
def State.resetRegs (s : State) (p : Nat → Bool) : State :=
  { s with regs := s.regs.filter (fun e => !p e.1) }

/-- LANE_x_CTRL of an odd lane, whose BOND is RO 0 (Table LP-8). -/
def oddLaneCtrl (a : Nat) : Bool := a / 0x10000 == 0x10 && a % 0x80 == 0x40

/-- The ST bits of the register at a BAR0 offset (R532). -/
def stMask (a : Nat) : Word :=
  match rowAt a with
  | some r => if oddLaneCtrl a then BitVec.ofNat 32 r.st &&& ~~~0x200 else BitVec.ofNat 32 r.st
  | none => 0

/-- A register that this kind of lane does not have: it reads 0 and ignores writes (Tables LP-8, LK-7 and TD-5;
the TRIG registers of a transmit lane, R163). -/
def laneLacks (a : Nat) : Bool :=
  let off := a % 0x10000
  let tx := decide (0x800 ≤ off)
  let r := off % 0x40
  match a / 0x10000 with
  | 0x10 => if tx then r == 0x08 else r == 0x28
  | 0x11 => tx && decide (off < 0xC00) && decide (0x10 ≤ r) && decide (r ≤ 0x20)
  | 0x12 => if tx then false else r == 0x00 || r == 0x24
  | _ => false

/-- Store the ST bits of an image word; the other bits keep their values. A register that this kind of lane lacks
ignores the image (R163). -/
def State.putST (s : State) (a : Nat) (w : Word) : State :=
  if laneLacks a then s else s.setReg a ((s.reg a &&& ~~~ stMask a) ||| (w &&& stMask a))

/-- Store images into registers one after another. -/
def State.putSTs (s : State) : List (Nat × Word) → State
  | [] => s
  | (a, w) :: ws => (s.putST a w).putSTs ws

/-! ### Output, free values -/

/-- Append to the output. -/
def State.emit (s : State) (o : Out) : State := { s with out := s.out ++ [o] }

/-- Draw a free value: its number, and the state with the counter advanced (log entry 1). -/
def State.draw (s : State) : Nat × State := (s.fresh, { s with fresh := s.fresh + 1 })

/-- `n` words of the DRBG's output. -/
def randomWords : Nat → State → List Word × State
  | 0, s => ([], s)
  | n + 1, s =>
    let (ws, t) := randomWords n { s with fresh := s.fresh + 1 }
    (Config.random s.fresh :: ws, t)

/-- The DRBG is seeded again (R478). -/
def State.reseed (s : State) : State :=
  ({ s with sec := { s.sec with draws := 0 } }).incWrap R.SEC_TRNG F.SEC_TRNG_RESEEDS 1

/-- One request of `n` words to the DRBG, which reseeds every 2^16 requests (R478). -/
def State.drawWords (n : Nat) (s : State) : List Word × State :=
  let (ws, s) := randomWords n s
  let s := { s with sec := { s.sec with draws := s.sec.draws + 1 } }
  (ws, if s.sec.draws = 65536 then s.reseed else s)

/-! ### Per-unit records -/

def State.lane (s : State) (x : Nat) : LaneDyn := SMap.get s.lanes LaneDyn.rest x
def State.setLane (s : State) (x : Nat) (l : LaneDyn) : State :=
  { s with lanes := SMap.put s.lanes LaneDyn.rest x l }

def State.link (s : State) (x : Nat) : LinkDyn := SMap.get s.links LinkDyn.none x
def State.setLink (s : State) (x : Nat) (l : LinkDyn) : State :=
  { s with links := SMap.put s.links LinkDyn.none x l }

def GCtx.free : GCtx := ⟨none, none, false, 0, 0, 0, false, 0, 0, 0, 0, 0, false, false⟩
def GateDyn.rest : GateDyn := ⟨[], [], [], 0⟩

def State.gate (s : State) (g : Nat) : GateDyn := SMap.get s.gates GateDyn.rest g
def State.setGate (s : State) (g : Nat) (d : GateDyn) : State :=
  { s with gates := SMap.put s.gates GateDyn.rest g d }
def State.ctx (s : State) (g c : Nat) : GCtx := SMap.get (s.gate g).ctxs GCtx.free c
def State.setCtx (s : State) (g c : Nat) (x : GCtx) : State :=
  s.setGate g { s.gate g with ctxs := SMap.put (s.gate g).ctxs GCtx.free c x }

def State.stall (s : State) (n : Nat) : Stall := SMap.get s.stalls Stall.fresh n
def State.setStall (s : State) (n : Nat) (x : Stall) : State :=
  { s with stalls := SMap.put s.stalls Stall.fresh n x }

def State.chan (s : State) (c : Nat) : Chan := SMap.get s.host.chans Chan.idle c
def State.setChan (s : State) (c : Nat) (x : Chan) : State :=
  { s with host := { s.host with chans := SMap.put s.host.chans Chan.idle c x } }

def State.tb (s : State) (n : Nat) : Tb := SMap.get s.clk.tbs Tb.zero n
def State.setTb (s : State) (n : Nat) (t : Tb) : State :=
  { s with clk := { s.clk with tbs := SMap.put s.clk.tbs Tb.zero n t } }

def State.port (s : State) (k : Nat) : Port := SMap.get s.groom.ports Port.empty k
def State.setPort (s : State) (k : Nat) (p : Port) : State :=
  { s with groom := { s.groom with ports := SMap.put s.groom.ports Port.empty k p } }

def State.yard? (s : State) (i : Nat) : Option Yard := s.yards.find? (fun y => y.index = i)
def State.setYard (s : State) (y : Yard) : State :=
  { s with yards := s.yards.map (fun z => if z.index = y.index then y else z) }

def State.pad? (s : State) (p : Nat) : Option Paddock := (s.store.pads.find? (fun e => e.1 = p)).map (·.2)
def State.setPad (s : State) (p : Nat) (x : Paddock) : State :=
  { s with store := { s.store with pads := s.store.pads.map (fun e => if e.1 = p then (p, x) else e) } }

/-! ### Memories: the hayloft (R212) and the frame store (R304) -/

/-- Bytes of a byte memory from an address. -/
def readBytes (m : SMap Byte) (a n : Nat) : List Byte := (upTo n).map (fun i => SMap.get m 0 (a + i))

/-- Write bytes into a byte memory. -/
def writeBytes (m : SMap Byte) (a : Nat) : List Byte → SMap Byte
  | [] => m
  | b :: bs => writeBytes (SMap.put m 0 a b) (a + 1) bs

def State.hayRead (s : State) (a n : Nat) : List Byte := readBytes s.hay a n

/-- Write hayloft bytes; a granule written whole is good again. -/
def State.hayWrite (s : State) (a : Nat) (bs : List Byte) : State :=
  { s with hay := writeBytes s.hay a bs,
           hayBad := s.hayBad.filter (fun g => !decide (a ≤ g * 64 ∧ g * 64 + 64 ≤ a + bs.length)) }

/-- A hayloft range touches a granule with an uncorrectable error (R207). -/
def State.hayPoor (s : State) (a n : Nat) : Bool := s.hayBad.any (fun g => decide (g * 64 < a + n ∧ a < g * 64 + 64))

def State.fsRead (s : State) (a n : Nat) : List Byte := readBytes s.store.mem a n
def State.fsWrite (s : State) (a : Nat) (bs : List Byte) : State :=
  { s with store := { s.store with mem := writeBytes s.store.mem a bs } }

/-- A byte range touches a granule that reads as uncorrectable (R310). -/
def State.poisoned (s : State) (a n : Nat) : Bool :=
  s.store.poison.any (fun g => decide (g * 256 < a + n ∧ a < (g + 1) * 256))

/-- First address of the paddock heap (Table FS-1). -/
def heapBase : Nat := 0x0C000000

/-- A byte range lies in the paddock heap (Table FS-1). -/
def inHeap (a n : Nat) : Bool := decide (heapBase ≤ a ∧ a + n ≤ 0x100000000)

/-! ### Time -/

/-- The whole reading of time base `n` in nanoseconds, S × 10^9 + NS (R46, R389). -/
def State.tbWhole (s : State) (n : Nat) : Nat := (s.tb n).val / 2 ^ 48

/-- The reading of time base `n` in units of 2^−16 ns. -/
def State.tbFine (s : State) (n : Nat) : Nat := (s.tb n).val / 2 ^ 32

/-- NS of a whole reading (R389). -/
def nsOf (whole : Nat) : Nat := whole % 1000000000

/-- S of a whole reading (R389). -/
def secOf (whole : Nat) : Nat := whole / 1000000000

/-- The tick source: TICK_CTRL.SRC (R43). -/
def State.tickSrc (s : State) : Nat := s.fld R.TICK_CTRL F.TICK_CTRL_SRC

/-- Tick counter [31:0]. -/
def State.tickLo (s : State) : Word := s.tg.count.extractLsb' 0 32

/-- EPOCH of time base `n`. -/
def State.epoch (s : State) (n : Nat) : Nat := s.fld (R.TB_STATUS n) F.TB_STATUS_EPOCH

/-! ### Power domains (Table PW-1) -/

/-- The domain of the register at a BAR0 offset: 0x00–0x33 switched, 0x34 groom, 0x35 always-on (Table
RM-1; a set of an arrayed block lies in its unit's domain). -/
def domainOf (a : Nat) : Nat :=
  let off := a % 0x10000
  let laneDom := if off < 0x800 then 0x20 + off / 0x100 else 0x28 + (off - 0x800) / 0x100
  match a / 0x10000 with
  | 0x00 | 0x01 | 0x05 => 0x35
  | 0x02 | 0x04 | 0x07 => 0x34
  | 0x03 => if off < 0x100 then 0x2F else 0x34
  | 0x06 => 0x33
  | 0x08 => 0x30
  | 0x09 => if off < 0x100 then 0x34 else if off < 0x400 then 0x20 + (off - 0x100) / 0x40 else 0x35
  | 0x0A | 0x0B | 0x0C => 0x2F
  | 0x10 => if off < 0xC00 then laneDom else 0x35
  | 0x11 | 0x12 => if off < 0xC00 then laneDom else 0x34
  | 0x14 => if off < 0x2000 then 0x20 + off / 0x400 else 0x35
  | 0x18 => if off < 0x800 then off / 0x80 else if off < 0x880 then (off - 0x800) / 8 else 0x35
  | 0x1C => 0x2C
  | 0x1D => if off < 0x100 then 0x34 else if off < 0x140 then 0x2D else if off < 0x200 then 0x2E else 0x2D
  | 0x20 => 0x31
  | 0x24 => 0x2D
  | _ => 0x35

/-- Domain `d` is one of the wholly fused-off blocks of KX9632-AB (R3). -/
def fusedDomain (ab : Bool) (d : Nat) : Bool :=
  ab && ((decide (8 ≤ d) && decide (d < 0x10)) || (decide (0x24 ≤ d) && decide (d < 0x28)))

/-- The register at a BAR0 offset lies in a fused-off set (R526). -/
def fusedReg (ab : Bool) (a : Nat) : Bool := fusedDomain ab (domainOf a)

/-- The ON bits of the live configuration, domain 0 in bit 0; those of fused-off domains read 0 (R3). -/
def State.onBits (s : State) : Nat :=
  let raw := (s.reg R.PWR_ON_LO).toNat + 2 ^ 32 * (s.reg R.PWR_ON_HI).toNat
  if s.part.ab then raw &&& (2 ^ 52 - 1 - 0xFF00 - 0xF000000000) else raw

/-- Domain `d` is on in the live configuration; 0x34 and above always are. -/
def State.domainOn (s : State) (d : Nat) : Bool := decide (0x34 ≤ d) || s.onBits / 2 ^ d % 2 == 1

/-- The READY bits (PWR_READY). -/
def State.readyBits (s : State) : Nat :=
  (s.reg R.PWR_READY_LO).toNat + 2 ^ 32 * (s.reg R.PWR_READY_HI).toNat

def State.setReadyBits (s : State) (v : Nat) : State :=
  (s.setReg R.PWR_READY_LO (w32 v)).setReg R.PWR_READY_HI (w32 (v / 2 ^ 32 % 2 ^ 20))

/-- Domain `d` is on and ready (R74). -/
def State.domainReady (s : State) (d : Nat) : Bool :=
  decide (0x34 ≤ d) || (s.domainOn d && s.readyBits / 2 ^ d % 2 == 1)

/-- Domain `d` is dark: off, or on and not yet ready outside BOOT (R74, R368, log entry 8). -/
def State.dark (s : State) (d : Nat) : Bool :=
  !s.domainOn d || (!s.domainReady d && s.dstate != .boot)

/-- The register at a BAR0 offset is dark (R368). -/
def State.darkReg (s : State) (a : Nat) : Bool := s.dark (domainOf a)

/-- The frame store is dark: either of its domains is off (R304, R368). -/
def State.fsDark (s : State) : Bool := s.dark 0x31 || s.dark 0x32

/-! ### Units (Table SC-4) -/

/-- Class of a unit address (R15). -/
def uClass (u : BitVec 16) : Nat := u.toNat / 0x1000

/-- Index of a unit address (R15). -/
def uIndex (u : BitVec 16) : Nat := u.toNat % 0x1000

/-- The lane number 0–47 of a lane index 0x000–0x01F or 0x100–0x10F (Table SC-4). -/
def laneNo (i : Nat) : Option Nat :=
  if i < 0x20 then some i else if 0x100 ≤ i ∧ i < 0x110 then some (32 + (i - 0x100)) else none

/-- The unit address of lane number 0–47. -/
def laneUnit (x : Nat) : Nat := if x < 32 then 0x8000 + x else 0x8100 + (x - 32)

/-- The domain of lane number 0–47. -/
def laneDomain (x : Nat) : Nat := if x < 32 then 0x20 + x / 4 else 0x28 + (x - 32) / 4

/-- The unit exists in the address ranges of Table SC-4 and of the chapters it names, whatever the fuses. -/
def unitListed (u : BitVec 16) : Bool :=
  let i := uIndex u
  match uClass u with
  | 0x0 => i == 0
  | 0x1 => decide (i < 8)
  | 0x2 => decide (i < 256)
  | 0x3 => decide (i < 255)
  | 0x4 => decide (i < 16)
  | 0x5 => decide (i < 4)
  | 0x6 => decide (i < 4 ∨ (0x100 ≤ i ∧ i < 0x108) ∨ (0x200 ≤ i ∧ i < 0x204) ∨ i = 0x300)
  | 0x7 => decide (i < 256)
  | 0x8 => (laneNo i).isSome
  | 0x9 => decide (i < 16)
  | 0xA => decide (i < 4)
  | 0xB => decide (i < 4 ∨ (0x100 ≤ i ∧ i < 0x120) ∨ i = 0x200)
  | 0xC => decide (i = 0 ∨ (0x100 ≤ i ∧ i < 0x134) ∨ (0x200 ≤ i ∧ i < 0x211))
  | 0xD => i == 0
  | 0xE => decide (i < 0x20 ∨ (0x100 ≤ i ∧ i < 0x110) ∨ (0x200 ≤ i ∧ i < 0x221) ∨ i = 0x300)
  | _ => false

/-- The unit is fused off on KX9632-AB (R2, R3). -/
def unitFused (ab : Bool) (u : BitVec 16) : Bool :=
  let i := uIndex u
  ab && (match uClass u with
  | 0x1 => decide (4 ≤ i)
  | 0x2 => decide (0x80 ≤ i)
  | 0x8 => decide (16 ≤ i ∧ i < 32)
  | 0xB => decide (0x110 ≤ i ∧ i < 0x120)
  | 0xC => decide ((0x108 ≤ i ∧ i < 0x110) ∨ (0x124 ≤ i ∧ i < 0x128) ∨ (0x208 ≤ i ∧ i < 0x210))
  | 0xE => decide ((16 ≤ i ∧ i < 32) ∨ (0x218 ≤ i ∧ i < 0x220))
  | _ => false)

/-- The unit exists and is enabled (R3, R16). -/
def State.unitOk (s : State) (u : BitVec 16) : Bool := unitListed u && !unitFused s.part.ab u

/-- The power domain a unit lies in (Table HA-1); 0x34 for the groom's own units. -/
def unitDomain (u : BitVec 16) : Nat :=
  let i := uIndex u
  match uClass u with
  | 0x1 => 0x20 + i
  | 0x2 => i / 16
  | 0x4 => 0x2C
  | 0x5 => 0x2D
  | 0x6 => if i < 4 then 0x2D else if i < 0x300 then 0x2E else 0x34
  | 0x8 => match laneNo i with | some x => laneDomain x | none => 0x34
  | 0x9 => 0x2F
  | 0xB => if 0x100 ≤ i ∧ i < 0x120 then 0x20 + (i - 0x100) / 4 else 0x34
  | 0xD => 0x33
  | 0xE =>
    if i < 0x110 then (match laneNo i with | some x => laneDomain x | none => 0x34)
    else if i < 0x210 then 0x10 + (i - 0x200)
    else if i < 0x220 then i - 0x210 else if i = 0x220 then 0x31 else 0x34
  | _ => 0x34

end Sys2Proof.Machine
end

