-- ==== Sys2Proof/Machine/GateGeo.lean ====
section
/-! DEFINITION. Geometry of a gate context (R170, R179, R180, R190): pixel types, containers, cells, the crop
window and the line rings. -/

namespace Sys2Proof.Machine

/-- Pixel data types: rows RAW, YUV422 and RGB888 of Table LK-3. -/
def pixelDt (dt : Nat) : Bool := [0x1E, 0x1F, 0x24, 0x27, 0x2A, 0x2B, 0x2C, 0x2D, 0x2E, 0x2F].contains dt

/-- Data types the hub accepts (Table LK-3). -/
def supportedDt (dt : Nat) : Bool :=
  decide (dt ≤ 3 ∨ (8 ≤ dt ∧ dt ≤ 0xF) ∨ dt = 0x12 ∨ (0x30 ≤ dt ∧ dt ≤ 0x37)) || pixelDt dt

/-- Bits per sample of a RAW type (Table LK-3). -/
def rawBits (dt : Nat) : Nat :=
  match dt with | 0x2A => 8 | 0x2B => 10 | 0x2C => 12 | 0x2D => 14 | 0x2E => 16 | 0x2F => 20 | 0x27 => 24 | _ => 0

/-- Bytes per output pixel (Table GT-2). -/
def pixBytes (dt : Nat) : Nat := match dt with | 0x1F | 0x24 | 0x27 | 0x2F => 4 | _ => 2

/-- Samples per pixel in a container (Table GT-2). -/
def perPixel (dt : Nat) : Nat := match dt with | 0x1E | 0x1F => 2 | 0x24 => 3 | _ => 1

/-- The words of a context's settings. -/
structure GWords where
  ctrl : Word
  cropX : Word
  cropY : Word
  dectag : Word
  target : Word
  deriving DecidableEq, Repr

def State.gwords (s : State) (g c : Nat) : GWords :=
  ⟨s.reg (R.GATE_CTRL g c), s.reg (R.GATE_CROP_X g c), s.reg (R.GATE_CROP_Y g c), s.reg (R.GATE_DECTAG g c),
   s.reg (R.GATE_TARGET g c)⟩

def GWords.dt (w : GWords) : Nat := F.GATE_CTRL_DT.get w.ctrl
def GWords.cfa (w : GWords) : Bool := F.GATE_CTRL_CFA.get w.ctrl == 1
def GWords.kind (w : GWords) : Nat := F.GATE_TARGET_KIND.get w.target
def GWords.x0 (w : GWords) : Nat := F.GATE_CROP_X_X0.get w.cropX
def GWords.w (w : GWords) : Nat := F.GATE_CROP_X_W_M1.get w.cropX + 1
def GWords.y0 (w : GWords) : Nat := F.GATE_CROP_Y_Y0.get w.cropY
def GWords.h (w : GWords) : Nat := F.GATE_CROP_Y_H_M1.get w.cropY + 1
def GWords.dx (w : GWords) : Nat := 2 ^ F.GATE_DECTAG_DX.get w.dectag
def GWords.dy (w : GWords) : Nat := 2 ^ F.GATE_DECTAG_DY.get w.dectag
def GWords.avg (w : GWords) : Bool := F.GATE_DECTAG_MODE.get w.dectag == 1

/-- Cell width and height (Table GT-2). -/
def GWords.cw (w : GWords) : Nat := if w.dt = 0x1E ∨ w.dt = 0x1F then 2 else if w.dt = 0x24 then 1 else if w.cfa then 2 else 1
def GWords.ch (w : GWords) : Nat := if w.dt = 0x1E ∨ w.dt = 0x1F ∨ w.dt = 0x24 then 1 else if w.cfa then 2 else 1

/-- Output width and height (R180). -/
def GWords.outW (w : GWords) : Nat := w.w / w.dx
def GWords.outH (w : GWords) : Nat := w.h / w.dy

/-- Bytes of an output line, and PITCH: the size rounded up to 256 (R190). -/
def GWords.lineBytes (w : GWords) : Nat := w.outW * pixBytes w.dt
def GWords.pitch (w : GWords) : Nat := ceilDiv w.lineBytes 256 * 256

/-- Samples of an output line. -/
def GWords.samples (w : GWords) : Nat := w.outW * perPixel w.dt

/-- The window rules of R179. -/
def GWords.cropOk (w : GWords) : Bool :=
  decide (w.x0 + w.w ≤ 8192 ∧ w.y0 + w.h ≤ 8192 ∧ w.x0 % w.cw = 0 ∧ w.y0 % w.ch = 0
    ∧ w.w % (w.cw * w.dx) = 0 ∧ w.h % (w.ch * w.dy) = 0)

/-- Hayloft ring of KIND 0b10: byte address and LOG2_DEPTH (R190, Table GT-5). -/
def GWords.ringAt (w : GWords) : Nat := F.GATE_TARGET_SLICE.get w.target * 2 ^ 22 + F.GATE_TARGET_OFFSET.get w.target * 256
def GWords.ringLog2 (w : GWords) : Nat := F.GATE_TARGET_LOG2_DEPTH.get w.target
def GWords.tagsAt (w : GWords) : Nat := w.ringAt + 2 ^ w.ringLog2 * w.pitch

/-- Heads whose direct path takes context c of gate g: a direct path is in force and DIR_SRC names them. -/
def State.directHeads (s : State) (g c : Nat) : List Nat :=
  (upTo 4).filter (fun n => (SMap.get s.heads Head.rest n).direct && s.fld (R.HEAD_DIR_SRC n) F.HEAD_DIR_SRC_GATE == g
    && s.fld (R.HEAD_DIR_SRC n) F.HEAD_DIR_SRC_CTX == c)

/-- Heads whose direct path the pair with even stall n serves. -/
def State.pairHeads (s : State) (n : Nat) : List Nat :=
  (upTo 4).filter (fun h => (SMap.get s.heads Head.rest h).direct && s.fld (R.HEAD_DIR_SRC h) F.HEAD_DIR_SRC_PAIR == n)

/-- The input ring of a direct path: hayloft byte address, LOG2_DEPTH and pitch (Table CW-8, R190). -/
def State.dirIn (s : State) (n : Nat) : Nat × Nat × Nat :=
  let w := s.reg (R.HEAD_DIR_IN n)
  (F.HEAD_DIR_IN_BASE.get w * 64, F.HEAD_DIR_IN_LOG2_DEPTH.get w,
   (s.gwords (s.fld (R.HEAD_DIR_SRC n) F.HEAD_DIR_SRC_GATE) (s.fld (R.HEAD_DIR_SRC n) F.HEAD_DIR_SRC_CTX)).pitch)

/-- Bytes of a direct path's input ring: its lines, and the tag ring of 16 records that follows them (R188, R190, log
entry 36). -/
def State.dirInBytes (s : State) (n : Nat) : Nat := 2 ^ (s.dirIn n).2.1 * (s.dirIn n).2.2 + 1024

/-- Bytes of a canvas line of `w` pixels in an output ring, rounded up to 256 (R339, log entry 12). -/
def canvasPitch (fmt w : Nat) : Nat :=
  let bytes := match fmt with | 0 => 4 * w | 1 => 2 * w | 2 => 4 * w | 3 => w | _ => 2 * w
  ceilDiv bytes 256 * 256

/-- The pitch of a head's output ring (R339). -/
def State.dirOutPitch (s : State) (n : Nat) : Nat :=
  canvasPitch (s.fld (R.HEAD_CTRL n) F.HEAD_CTRL_FMT) (s.fld (R.HEAD_SIZE n) F.HEAD_SIZE_W_M1 + 1)

/-- The output ring of a direct path: hayloft byte address, LOG2_DEPTH and pitch (R339). -/
def State.dirOut (s : State) (n : Nat) : Nat × Nat × Nat :=
  let w := s.reg (R.HEAD_DIR_OUT n)
  (F.HEAD_DIR_OUT_BASE.get w * 64, F.HEAD_DIR_OUT_LOG2_DEPTH.get w, s.dirOutPitch n)

/-- Hayloft ranges of a direct path's two rings, as address and length (R33). -/
def State.dirRanges (s : State) (n : Nat) : List (Nat × Nat) :=
  let o := s.dirOut n
  [((s.dirIn n).1, s.dirInBytes n), (o.1, 2 ^ o.2.1 * o.2.2)]

end Sys2Proof.Machine
end

