-- ==== Sys2Proof/Machine/Isp.lean ====
section
/-! DEFINITION. The image functions of the kernel library (chapter 08, R232–R265): the value each stage computes,
the parameter checks of R238 and the kernels of Table IF-1 as functions of their frames, tables and parameter
words; and BASIC (R276, R277), which the ROM personality runs. A resident kernel itself runs bundle by bundle
(chapter 07); what stands here is what a library kernel's bundles compute (R233). -/

namespace Sys2Proof.Machine

/-! ### Frames, colours and grids (R239–R241) -/

/-- A plane of samples by x and y. -/
abbrev Pic := Int → Int → Int

/-- An index mirrored at the edges without repeating the edge sample (R239). -/
def mirrorIx (n : Nat) (i : Int) : Int := if i < 0 then -i else if (n : Int) ≤ i then 2 * ((n : Int) - 1) - i else i

/-- A plane whose neighbours outside W × H mirror (R239). -/
def Pic.mirror (w h : Nat) (f : Pic) : Pic := fun x y => f (mirrorIx w x) (mirrorIx h y)

/-- A plane from its lines. -/
def Pic.ofRows (rows : List (List Nat)) : Pic :=
  fun x y => if x < 0 ∨ y < 0 then 0 else (((rows.getD y.toNat []).getD x.toNat 0 : Nat) : Int)

/-- The channel of a sample: 0 R, 1 Gr, 2 Gb, 3 B; always 0 for monochrome (R240). -/
def chanOf (mono : Bool) (phase : Nat) (x y : Int) : Nat :=
  if mono then 0 else ((x + phase % 2) % 2).toNat + 2 * ((y + phase / 2) % 2).toNat

/-- A grid: its descriptor's S, GW and GH, and its nodes (R241). -/
structure Grid where
  s : Nat
  gw : Nat
  gh : Nat
  node : Nat → Nat → Nat

/-- The grid covers a frame, and its descriptor is in range (R241). -/
def Grid.ok (g : Grid) (w h : Nat) : Bool :=
  decide (g.s ≤ 8 ∧ 2 ≤ g.gw ∧ g.gw ≤ 65 ∧ 2 ≤ g.gh ∧ g.gh ≤ 65 ∧ w - 1 ≤ (g.gw - 1) * 2 ^ g.s ∧ h - 1 ≤ (g.gh - 1) * 2 ^ g.s)

/-- The grid's value at a sample (R241). -/
def Grid.at_ (g : Grid) (x y : Nat) : Int :=
  let q := 2 ^ g.s
  let i := x / q
  let j := y / q
  let fx := x % q
  let fy := y % q
  rndI (((g.node i j * (q - fx) * (q - fy) + g.node (i + 1) j * fx * (q - fy)
    + g.node i (j + 1) * (q - fx) * fy + g.node (i + 1) (j + 1) * fx * fy : Nat) : Int)) (2 * g.s)

/-! ### Black level and defects (R242–R244) -/

/-- Black level: In to N16 (R242). -/
def blackLevel (s bl k : Int) : Int := clampI 0 65535 (rndI ((s - bl) * k) 12)

/-- A sorted insertion, for medians. -/
def insertInt (x : Int) : List Int → List Int
  | [] => [x]
  | y :: ys => if x ≤ y then x :: y :: ys else y :: insertInt x ys

/-- The replacement of a defective sample: the median of four neighbours (R244). -/
def defectMedian (f : Pic) (x y : Int) : Int :=
  let l := [f (x - 2) y, f (x + 2) y, f x (y - 2), f x (y + 2)].foldr insertInt []
  (l.getD 1 0 + l.getD 2 0 + 1) / 2

/-- Dynamic detection: hot or cold against the eight same-colour neighbours (R244). -/
def defective (mono : Bool) (abs_ rel : Int) (f : Pic) (x y : Int) : Bool :=
  let d : Int := if mono then 1 else 2
  let ns := [f (x - d) (y - d), f x (y - d), f (x + d) (y - d), f (x - d) y, f (x + d) y, f (x - d) (y + d), f x (y + d), f (x + d) (y + d)]
  let nmax := ns.foldl max (ns.headD 0)
  let nmin := ns.foldl min (ns.headD 0)
  let p := f x y
  decide (p > nmax + abs_ + shrI (nmax * rel) 8) || decide (p + abs_ + shrI (nmin * rel) 8 < nmin)

/-- The defect stages: listed samples, and detected ones where dynamic correction is on (R243, R244). -/
def defectFix (mono static dynamic : Bool) (listed : List (Nat × Nat)) (abs_ rel : Int) (f : Pic) : Pic := fun x y =>
  if (static && listed.contains (x.toNat, y.toNat)) || (dynamic && defective mono abs_ rel f x y)
  then defectMedian f x y else f x y

/-- A defect list is sorted by Y and then X, without duplicates (R243). -/
def listSorted : List (Nat × Nat) → Bool
  | a :: b :: rest => decide (a.2 < b.2 ∨ a.2 = b.2 ∧ a.1 < b.1) && listSorted (b :: rest)
  | _ => true

/-! ### HDR merge (R245–R247) -/

/-- Parameters of the merge. -/
structure HdrPar where
  g : Nat → Int
  klo : Nat → Int
  khi : Nat → Int
  mtAbs : Int
  mtRel : Int

def l24 (x : Int) : Int := min 16777215 x

/-- An exposure scaled into L24 (R245). -/
def HdrPar.lin (p : HdrPar) (e : Nat) (n : Int) : Int := l24 (rndI (n * (if e = 0 then 256 else p.g e)) 8)

/-- One link of the chain: exposure e against what the shorter ones gave (R246). -/
def HdrPar.link (p : HdrPar) (e : Nat) (n r : Int) : Int :=
  let l := p.lin e n
  let a := clampI 0 4096 ((max n (p.klo e) - p.klo e) * 4096 / (p.khi e - p.klo e))
  let a := if p.mtAbs ≠ 0xFFFF ∧ n < p.klo e ∧ (l - r).natAbs > p.mtAbs + shrI (r * p.mtRel) 8 then 4096 else a
  rndI (l * (4096 - a) + r * a) 12

/-- The merge of the exposures present, given from the longest to the shortest (R246, R247). -/
def HdrPar.merge (p : HdrPar) (present : List (Nat × Int)) : Int :=
  match present.reverse with
  | [] => 0
  | (e, n) :: rest => rest.foldl (fun r x => p.link x.1 x.2 r) (p.lin e n)

/-! ### Lens shading, channel gain, statistics (R248–R251) -/

def lensShade (l g : Int) : Int := l24 (rndI (l * g) 14)
def chanGain (l wb : Int) : Int := l24 (rndI (l * wb) 12)

/-- Luminance of L24, D16 or G16 RGB (R250, R256, R259). -/
def luma (r g b : Int) : Int := rndI (6966 * r + 23436 * g + 2366 * b) 15

/-- The tone index of an L24 value (R255). -/
def toneIndex (y : Int) : Nat :=
  if y ≤ 0 then 0 else
  let v := y.toNat
  let e := Nat.log2 v
  e * 256 + v * 2 ^ (23 - e) / 2 ^ 15 % 256

/-- One zone of the statistics (Table IF-4). -/
structure Zone where
  r : Nat
  g : Nat
  b : Nat
  quads : Nat
  sat : Nat
  dark_ : Nat
  deriving DecidableEq, Repr

/-- A quad's R, G, B and its largest and smallest sample (R250). -/
def quadOf (phase : Nat) (f : Pic) (qx qy : Nat) : Int × Int × Int × Int × Int :=
  let at_ (c : Nat) : Int :=
    match [(0, 0), (1, 0), (0, 1), (1, 1)].find? (fun (d : Int × Int) => chanOf false phase (2 * qx + d.1) (2 * qy + d.2) = c) with
    | some d => f (2 * qx + d.1) (2 * qy + d.2)
    | none => 0
  let r := at_ 0
  let gr := at_ 1
  let gb := at_ 2
  let b := at_ 3
  (r, (gr + gb + 1) / 2, b, max (max r gr) (max gb b), min (min r gr) (min gb b))

/-- Statistics of the quads in rows lo … hi − 1 of the frame's Qw × Qh (R250): zones in row order, histogram. -/
def statsOf (phase zx zy qw qh lo hi : Nat) (satTh darkTh : Int) (f : Pic) : List Zone × List Nat :=
  let rows := (upTo qh).filter (fun y => decide (lo ≤ y ∧ y < hi))
  let quads := rows.flatMap (fun y => (upTo qw).map (fun x => (x, y, quadOf phase f x y)))
  let inside (i n q v : Nat) : Bool := decide (i * q / n ≤ v ∧ v < (i + 1) * q / n)
  let zone (z : Nat) : Zone :=
    quads.foldl (fun (a : Zone) e =>
      let (r, g, b, mx, mn) := e.2.2
      if !(inside (z % zx) zx qw e.1 && inside (z / zx) zy qh e.2.1) then a else
      let sat := decide (satTh ≤ mx)
      let dk := decide (mn < darkTh)
      let a := { a with sat := satAdd a.sat (b01 sat) 65535, dark_ := satAdd a.dark_ (b01 dk) 65535 }
      if sat || dk then a
      else { a with r := a.r + r.toNat, g := a.g + g.toNat, b := a.b + b.toNat, quads := a.quads + 1 }) ⟨0, 0, 0, 0, 0, 0⟩
  let bins := quads.map (fun e => let (r, g, b, _, _) := e.2.2; toneIndex (luma r g b) / 32)
  ((upTo (zx * zy)).map zone, (upTo 192).map (fun b => bins.count b))

/-- The statistics block in memory: words 0–7 of the exposure-0 tag, zones, histogram (Table IF-4). -/
def statsBlock (tag : List Word) (st : List Zone × List Nat) : List Byte :=
  wordsBytes ((upTo 8).map (wAt tag)) ++ List.replicate 32 0
  ++ st.1.flatMap (fun z => leBytes 8 z.r ++ leBytes 8 z.g ++ leBytes 8 z.b ++ leBytes 4 z.quads ++ leBytes 4 (z.sat + 65536 * z.dark_))
  ++ st.2.flatMap (leBytes 4)

/-- Where stall k of a yard writes its block: STATS_OFF in 64-byte units, then k blocks (R251). -/
def statsAt (off k zx zy : Nat) : Nat := 64 * off + k * (64 + 32 * zx * zy + 768)

/-! ### Demosaic (R252, R253) -/

/-- A pixel of three components. -/
structure Rgb where
  r : Int
  g : Int
  b : Int
  deriving DecidableEq, Repr

def Rgb.map (p : Rgb) (f : Int → Int) : Rgb := ⟨f p.r, f p.g, f p.b⟩

/-- Bilinear demosaic of a mirrored plane (R252). -/
def demosaic0 (phase : Nat) (f : Pic) (x y : Int) : Rgb :=
  let s := f x y
  let cross := rndI (f x (y - 1) + f x (y + 1) + f (x + 1) y + f (x - 1) y) 2
  let diag := rndI (f (x - 1) (y - 1) + f (x + 1) (y - 1) + f (x - 1) (y + 1) + f (x + 1) (y + 1)) 2
  let row := rndI (f (x - 1) y + f (x + 1) y) 1
  let col := rndI (f x (y - 1) + f x (y + 1)) 1
  match chanOf false phase x y with
  | 0 => ⟨s, cross, diag⟩
  | 1 => ⟨row, s, col⟩
  | 2 => ⟨col, s, row⟩
  | _ => ⟨diag, cross, s⟩

/-- The first pass of edge-directed demosaic: green everywhere (R253). -/
def greenHat (phase : Nat) (f : Pic) (x y : Int) : Int :=
  let c := f x y
  if chanOf false phase x y = 1 ∨ chanOf false phase x y = 2 then c else
  let est (n s nn ss : Int) : Int := shrI (2 * (n + s) + 2 * c - nn - ss + 2) 2
  let grad (n s nn ss : Int) : Nat := (n - s).natAbs + (2 * c - nn - ss).natAbs
  let gh := est (f (x - 1) y) (f (x + 1) y) (f (x - 2) y) (f (x + 2) y)
  let gv := est (f x (y - 1)) (f x (y + 1)) (f x (y - 2)) (f x (y + 2))
  let dh := grad (f (x - 1) y) (f (x + 1) y) (f (x - 2) y) (f (x + 2) y)
  let dv := grad (f x (y - 1)) (f x (y + 1)) (f x (y - 2)) (f x (y + 2))
  clampI 0 16777215 (if dh < dv then gh else if dv < dh then gv else shrI (gh + gv + 1) 1)

/-- Edge-directed demosaic of a plane and its green estimate, both mirrored (R253). -/
def demosaic1 (phase : Nat) (f gh : Pic) (x y : Int) : Rgb :=
  let g := gh x y
  let df (a b : Int) : Int := f a b - gh a b
  let top (v : Int) : Int := clampI 0 16777215 v
  let row := top (g + shrI (df (x - 1) y + df (x + 1) y + 1) 1)
  let col := top (g + shrI (df x (y - 1) + df x (y + 1) + 1) 1)
  let diag := top (g + shrI (df (x - 1) (y - 1) + df (x + 1) (y - 1) + df (x - 1) (y + 1) + df (x + 1) (y + 1) + 2) 2)
  match chanOf false phase x y with
  | 0 => ⟨f x y, g, diag⟩
  | 1 => ⟨row, g, col⟩
  | 2 => ⟨col, g, row⟩
  | _ => ⟨diag, g, f x y⟩

/-- Demosaic; a monochrome plane gives R = G = B (R240, R252, R253). -/
def demosaic (mono edge : Bool) (phase w h : Nat) (f : Pic) (x y : Int) : Rgb :=
  if mono then ⟨f x y, f x y, f x y⟩
  else if edge then demosaic1 phase (f.mirror w h) (Pic.mirror w h (greenHat phase (f.mirror w h))) x y
  else demosaic0 phase (f.mirror w h) x y

/-! ### Noise reduction (R254) -/

/-- The largest integer whose square does not exceed `x` (R234), by bits from `n` − 1 down. -/
def isqrtFrom (x : Nat) : Nat → Nat → Nat
  | 0, r => r
  | n + 1, r => isqrtFrom x n (if (r + 2 ^ n) * (r + 2 ^ n) ≤ x then r + 2 ^ n else r)

def isqrt (x : Nat) : Nat := isqrtFrom x 33 0

/-- Parameters of noise reduction. -/
structure NrPar where
  na : Nat
  nb : Nat
  st : Nat
  wr : List Nat
  ws : List Nat
  blend : Nat

/-- The place of r² in WS (R254). -/
def wsIndex (r2 : Nat) : Nat := match r2 with | 0 => 0 | 1 => 1 | 2 => 2 | 4 => 3 | 5 => 4 | _ => 5

/-- Noise reduction at one pixel of a mirrored RGB frame (R254). -/
def noiseReduce (mono : Bool) (p : NrPar) (f : Int → Int → Rgb) (x y : Int) : Rgb :=
  let c := f x y
  let sigma := isqrt (p.na + p.nb * c.g.toNat / 256)
  let offs : List Int := [-2, -1, 0, 1, 2]
  let win := offs.flatMap (fun dy => offs.map (fun dx => (dx, dy, f (x + dx) (y + dy))))
  let wts := win.map (fun e =>
    let q := e.2.2
    let d : Nat := if mono then (c.g - q.g).natAbs
      else ((c.r - q.r).natAbs + 2 * (c.g - q.g).natAbs + (c.b - q.b).natAbs + 2) / 4
    let k := min 63 (d * 4 / (sigma * p.st / 16 + 1))
    (p.wr.getD k 0 * p.ws.getD (wsIndex ((e.1 * e.1 + e.2.1 * e.2.1).toNat)) 0, q))
  let w : Int := ((wts.map (·.1)).foldl (· + ·) 0 : Nat)
  let mean (g : Rgb → Int) : Int := (wts.foldl (fun a e => a + (e.1 : Int) * g e.2) 0 + w / 2) / w
  let mix (g : Rgb → Int) : Int := rndI (g c * (256 - p.blend) + mean g * p.blend) 8
  ⟨mix (·.r), mix (·.g), mix (·.b)⟩

/-! ### Tone, colour matrix, gamma (R255–R258) -/

/-- The tone curve of 97 nodes at a tone index (R255). -/
def toneCurve (node : Nat → Int) (x : Nat) : Int :=
  node (x / 64) + shrI ((node (x / 64 + 1) - node (x / 64)) * ((x % 64 : Nat) : Int) + 32) 6

/-- Tone mapping with the local gain at the pixel (R256). -/
def toneMap (node : Nat → Int) (lg : Int) (p : Rgb) : Rgb :=
  let y := luma p.r p.g p.b
  let t := min 65535 (rndI (toneCurve node (toneIndex y) * lg) 12)
  p.map (fun c => if y ≤ 0 then t else min 65535 ((c * t + y / 2) / y))

/-- The colour matrix (R257). -/
def colourMatrix (m : Nat → Nat → Int) (msh : Nat) (o : Nat → Int) (p : Rgb) : Rgb :=
  let row (i : Nat) : Int := clampI 0 65535 (rndI (m i 0 * p.r + m i 1 * p.g + m i 2 * p.b) (14 - msh) + o i)
  ⟨row 0, row 1, row 2⟩

/-- A coefficient at the precision of paired mode (R261). -/
def pairCoeff (m : Int) : Int := shrI (m + 8) 4 * 16

/-- The gamma curve of 257 nodes (R258). -/
def gammaCurve (node : Nat → Int) (c : Int) : Int :=
  let k := c.toNat / 256
  node k + shrI ((node (k + 1) - node k) * ((c.toNat % 256 : Nat) : Int) + 128) 8

/-! ### Output conversion (R259) -/

/-- Y', Cb and Cr of a pixel (R259). -/
def yuvOf (p : Rgb) : Int × Int × Int :=
  let y := luma p.r p.g p.b
  (y, rndI ((p.b - y) * 17659) 15, rndI ((p.r - y) * 20808) 15)

/-- A luma sample in `bits` 8 or 10, full or limited range (R259). -/
def lumaOut (ten full : Bool) (y : Int) : Int :=
  if full then rndI (y * (if ten then 1023 else 255)) 16
  else if ten then 64 + rndI (y * 876) 16 else 16 + rndI (y * 219) 16

def chromaOut (ten full : Bool) (c : Int) : Int :=
  if full then (if ten then clampI 0 1023 (512 + rndI (c * 1023) 16) else clampI 0 255 (128 + rndI (c * 255) 16))
  else if ten then 512 + rndI (c * 896) 16 else 128 + rndI (c * 224) 16

/-- One output line as bytes, plane by plane (R259). -/
def outLine (fmt : Nat) (full : Bool) (ps : List Rgb) : List (List Byte) :=
  let u16 (g : Rgb → Int) : List Byte := ps.flatMap (fun p => leBytes 2 (g p).toNat)
  let v8 (v : Int) : Byte := BitVec.ofNat 8 (min 255 (rndI v 8)).toNat
  let ten := decide (fmt = 3)
  let samp (v : Int) : List Byte := if ten then leBytes 2 v.toNat else leBytes 1 v.toNat
  let px (i : Nat) : Int × Int × Int := yuvOf (ps.getD i ⟨0, 0, 0⟩)
  match fmt with
  | 0 => [u16 (·.r), u16 (·.g), u16 (·.b)]
  | 1 => [ps.flatMap (fun p => [v8 p.r, v8 p.g, v8 p.b, 0])]
  | 4 => [ps.flatMap (fun p => leBytes 1 (lumaOut false full (yuvOf p).1).toNat)]
  | _ => [(upTo (ps.length / 2)).flatMap (fun i =>
      let a := px (2 * i)
      let b := px (2 * i + 1)
      samp (chromaOut ten full (shrI (a.2.1 + b.2.1 + 1) 1)) ++ samp (lumaOut ten full a.1)
        ++ samp (chromaOut ten full (shrI (a.2.2 + b.2.2 + 1) 1)) ++ samp (lumaOut ten full b.1))]

/-! ### The ISP kernels (R237, R238, R260, R261) -/

/-- The stripe of stall k of n: first line and the line after its last (R237). -/
def stripeOf (k n h : Nat) : Nat × Nat := (k * h / n, (k + 1) * h / n)

/-- What a kernel reads: parameter words, and the bytes of window 0 (R236). -/
structure KIn where
  par : Nat → Word
  tab : Nat → Byte

def KIn.u16 (k : KIn) (a : Nat) : Nat := (k.tab a).toNat + 256 * (k.tab (a + 1)).toNat
def KIn.u32 (k : KIn) (a : Nat) : Nat := k.u16 a + 65536 * k.u16 (a + 2)

/-- A grid from its two descriptor words, its nodes `skip` bytes behind OFFSET (R241). -/
def KIn.grid (k : KIn) (wa wb skip : Nat) : Grid :=
  let a := k.par wa
  let gw := bits a 14 8
  ⟨bits a 3 0, gw, bits a 22 16, fun i j => k.u16 (64 * bits (k.par wb) 15 0 + skip + 2 * (j * gw + i))⟩

/-- Bytes of one grid, padded to 64 (R248). -/
def gridBytes (g : Grid) : Nat := ceilDiv (2 * g.gw * g.gh) 64 * 64

/-- A stage enable of ISP word 0. -/
def KIn.stage (k : KIn) (i : Nat) : Bool := bit (k.par 0) i
def KIn.phase (k : KIn) : Nat := bits (k.par 0) 17 16
def KIn.nexp (k : KIn) : Nat := bits (k.par 0) 19 18 + 1
def KIn.inBits (k : KIn) : Nat := bits (k.par 0) 27 24 + 1
def KIn.width (k : KIn) : Nat := bits (k.par 1) 12 0 + 1
def KIn.height (k : KIn) : Nat := bits (k.par 1) 28 16 + 1

def KIn.defects (k : KIn) : List (Nat × Nat) :=
  (upTo (bits (k.par 17) 13 0)).map (fun i =>
    let e := k.u32 (64 * bits (k.par 17) 31 16 + 4 * i)
    (e % 8192, e / 65536 % 8192))

def KIn.hdr (k : KIn) : HdrPar :=
  ⟨fun e => (bits (k.par (17 + e)) 16 0 : Nat), fun e => (bits (k.par (21 + e)) 15 0 : Nat),
   fun e => (bits (k.par (21 + e)) 31 16 : Nat), (bits (k.par 24) 15 0 : Nat), (bits (k.par 24) 23 16 : Nat)⟩

def KIn.nr (k : KIn) : NrPar :=
  ⟨(k.par 35).toNat, bits (k.par 36) 23 0, bits (k.par 34) 7 0,
   (upTo 64).map (fun i => (k.par (37 + i / 4)).toNat / 2 ^ (8 * (i % 4)) % 256),
   (upTo 6).map (fun i => (k.par (53 + i / 4)).toNat / 2 ^ (8 * (i % 4)) % 256), bits (k.par 34) 16 8⟩

/-- A coefficient m[i][j], at paired precision for ISP_L (R257, R261). -/
def KIn.coeff (k : KIn) (line : Bool) (i j : Nat) : Int :=
  let n := 3 * i + j
  let m := sext 16 ((k.par (58 + n / 2)).toNat / 2 ^ (16 * (n % 2)))
  if line then pairCoeff m else m

def KIn.offset (k : KIn) (i : Nat) : Int := sext 16 ((k.par (63 + i / 2)).toNat / 2 ^ (16 * (i % 2)))

/-- K of a disabled black level where 65 535 divides exactly; 0 elsewhere (R260). -/
def flatK (b : Nat) : Nat := if 65535 % (2 ^ b - 1) = 0 then 65535 / (2 ^ b - 1) else 0

/-- The defect stages' ranges (R243, Table IF-5). -/
def KIn.defectOk (k : KIn) : Bool :=
  !k.stage 1 || (decide (bits (k.par 17) 13 0 ≤ 8192) && listSorted k.defects)

/-- The merge's ranges: gains from 1.0 that do not decrease, knees in order (R245, R246). -/
def KIn.hdrOk (k : KIn) : Bool :=
  !k.stage 3 || (upTo (k.nexp - 1)).all (fun i =>
    decide (256 ≤ k.hdr.g (i + 1) ∧ (i = 0 ∨ k.hdr.g i ≤ k.hdr.g (i + 1)) ∧ k.hdr.klo i < k.hdr.khi i))

/-- The statistics' ranges (Table IF-5). -/
def KIn.statsOk (k : KIn) : Bool :=
  let w := k.par 31
  !k.stage 6 || decide (1 ≤ bits w 5 0 ∧ bits w 5 0 ≤ 32 ∧ 1 ≤ bits w 13 8 ∧ bits w 13 8 ≤ 32
    ∧ bits (k.par 32) 23 0 < bits (k.par 33) 23 0)

/-- The first stage whose parameters are out of range, by its code of Table IF-3 (R238, R260, R261). -/
def ispTrap (line : Bool) (mono : Bool) (k : KIn) : Option Nat :=
  let b := k.inBits
  let chans := if mono then [0] else [0, 1, 2, 3]
  let checks : List (Nat × Bool) :=
    [(0x0C, decide (8 ≤ b) && decide (8 ≤ k.width) && (upTo 189).all (fun i => k.par (67 + i) == 0) && k.par 66 == 0
       && (!line || (decide (k.nexp ≤ 2) && decide (b ≤ 12)))),
     (0x01, if k.stage 0 then chans.all (fun c => decide (bits (k.par (8 + c)) 15 0 < 2 ^ b ∧ 0x1000 ≤ bits (k.par (12 + c)) 21 0))
       else decide (flatK b ≠ 0)),
     (0x02, k.defectOk), (0x03, k.hdrOk),
     (0x04, (!k.stage 4 || (k.grid 25 26 0).ok k.width k.height) && (!k.stage 5 || chans.all (fun c => decide (1 ≤ bits (k.par (27 + c)) 15 0)))),
     (0x05, k.statsOk && !(line && k.stage 6)),
     (0x07, !k.stage 8 || decide (1 ≤ k.nr.st ∧ k.nr.blend ≤ 256 ∧ k.nr.wr.getD 0 0 ≠ 0 ∧ k.nr.ws.getD 0 0 ≠ 0)),
     (0x08, !k.stage 10 || (k.grid 56 57 0).ok k.width k.height),
     (0x09, !k.stage 11 || decide (bits (k.par 62) 17 16 ≤ 2)),
     (0x0B, !k.stage 13 || decide (bits (k.par 7) 3 0 ≤ 4))]
  (checks.find? (fun e => !e.2)).map (·.1)

/-- What the gates hand an ISP kernel: a sample of exposure e, none where the exposure or its line is absent (R247). -/
abbrev Exposures := Nat → Nat → Nat → Option Nat

/-- Black level and the defect stages of one exposure: N16 (R242–R244). A sample that never came is a free value. -/
def ispN16 (mono : Bool) (k : KIn) (src : Exposures) (e : Nat) : Pic :=
  let raw : Pic := fun x y => match src e x.toNat y.toNat with
    | some v => (v : Int)
    | none => ((Config.lostSample e x.toNat y.toNat % 2 ^ k.inBits : Nat) : Int)
  let n : Pic := fun x y =>
    let c := chanOf mono k.phase x y
    if k.stage 0 then blackLevel (raw x y) (bits (k.par (8 + c)) 15 0 : Nat) (bits (k.par (12 + c)) 21 0 : Nat)
    else raw x y * (flatK k.inBits : Nat)
  let m := n.mirror k.width k.height
  Pic.mirror k.width k.height (defectFix mono (k.stage 1) (k.stage 2) k.defects (bits (k.par 16) 15 0 : Nat) (bits (k.par 16) 23 16 : Nat) m)

/-- The L24 plane at the statistics tap: merge and lens shading (R245–R248). -/
def ispTap (mono : Bool) (k : KIn) (src : Exposures) : Pic := fun x y =>
  let present := (upTo k.nexp).filter (fun e => (src e x.toNat y.toNat).isSome)
  let l := if k.stage 3 && !present.isEmpty then k.hdr.merge (present.map (fun e => (e, ispN16 mono k src e x y)))
    else ispN16 mono k src 0 x y
  let c := chanOf mono k.phase x y
  let g := k.grid 25 26 0
  if k.stage 4 then lensShade l ((k.grid 25 26 (c * gridBytes g)).at_ x.toNat y.toNat) else l

/-- The L24 RGB pixel after channel gain, demosaic and noise reduction (R249, R252–R254). -/
def ispRgb (mono : Bool) (k : KIn) (src : Exposures) (x y : Int) : Rgb :=
  let gained : Pic := fun x y =>
    let c := chanOf mono k.phase x y
    let l := ispTap mono k src x y
    if k.stage 5 then chanGain l (bits (k.par (27 + c)) 15 0 : Nat) else l
  let rgb (x y : Int) : Rgb :=
    let mx := mirrorIx k.width x
    let my := mirrorIx k.height y
    if k.stage 7 then demosaic mono (bit (k.par 0) 20) k.phase k.width k.height gained mx my
    else ⟨gained mx my, gained mx my, gained mx my⟩
  if k.stage 8 then noiseReduce mono k.nr rgb x y else rgb x y

/-- The G16 pixel: tone, colour matrix and gamma (R255–R258). -/
def ispG16 (line mono : Bool) (k : KIn) (src : Exposures) (x y : Int) : Rgb :=
  let p := ispRgb mono k src x y
  let lg : Int := if k.stage 10 then (k.grid 56 57 0).at_ x.toNat y.toNat else 4096
  let p := if k.stage 9 then toneMap (fun i => (k.u16 (64 * bits (k.par 55) 15 0 + 2 * i) : Nat)) lg p else p.map (min 65535)
  let p := if k.stage 11 && !mono then colourMatrix (k.coeff line) (bits (k.par 62) 17 16) k.offset p else p
  if k.stage 12 then p.map (gammaCurve (fun i => (k.u16 (64 * bits (k.par 65) 15 0 + 2 * i) : Nat))) else p

/-- An output line of ISP_T, or of ISP_L where `line`, plane by plane; a disabled conversion gives G16 planes (R260). -/
def ispLine (line mono : Bool) (k : KIn) (src : Exposures) (y : Nat) : List (List Byte) :=
  outLine (if k.stage 13 then bits (k.par 7) 3 0 else 0) (bit (k.par 7) 4)
    ((upTo k.width).map (fun (x : Nat) => ispG16 line mono k src (x : Int) (y : Int)))

/-- Lines of input that one output line of ISP_L needs (R261). -/
def ispSupport (k : KIn) : Nat :=
  2 * ((if k.stage 1 || k.stage 2 then 2 else 0) + (if bit (k.par 0) 20 then 3 else 1) + (if k.stage 8 then 2 else 0)) + 1

/-! ### Scaling (R262–R264) -/

/-- Position and phase of an output index (R262). -/
def scalePos (delta : Nat) (off : Int) (u : Nat) : Int × Nat :=
  let x := shrI (((2 * u + 1) * delta : Nat) : Int) 1 - 0x8000 + off
  (shrI x 16, ((shrI x 10) % 64).toNat)

/-- A line of samples resampled: taps and weights by phase, clamped at the edge samples and to `top` (R262). -/
def resample (taps : List Int) (wts : Nat → List Int) (top : Int) (delta : Nat) (off : Int) (n : Nat) (src : Int → Int) (u : Nat) : Int :=
  let (i, p) := scalePos delta off u
  let sum := (List.zipWith (fun t w => w * src (clampI 0 ((n : Int) - 1) (i + t))) taps (wts p)).foldl (· + ·) 0
  clampI 0 top (rndI sum 14)

/-- Four built-in taps (R263) or eight from a table (R262). -/
def fourTaps : List Int × (Nat → List Int) := ([-1, 0, 1, 2], fun p => cubic (p : Int))
def eightTaps (k : KIn) (at_ : Nat) : List Int × (Nat → List Int) :=
  ([-3, -2, -1, 0, 1, 2, 3, 4], fun p => (upTo 8).map (fun t => sext 16 (k.u16 (at_ + 2 * (8 * p + t)))))

/-- A plane scaled: horizontally, rounded and clamped, then vertically (R262). -/
def scalePlane (taps : List Int × (Nat → List Int)) (top : Int) (w h dx dy : Nat) (ox oy : Int) (f : Pic) (x y : Nat) : Int :=
  resample taps.1 taps.2 top dy oy h (fun j => resample taps.1 taps.2 top dx ox w (fun i => f i j) x) y

/-- SCALE_T's parameter checks (R238, R262, R264). -/
def scaleTrap (k : KIn) : Option Nat :=
  let ok (w : Nat) : Bool := decide (0x1000 ≤ bits (k.par w) 19 0 ∧ bits (k.par w) 19 0 ≤ 0x80000)
  let phases := (upTo 64).all (fun p => ((eightTaps k (64 * bits (k.par 7) 15 0)).2 p).foldl (· + ·) 0 == 16384)
  let checks : List (Nat × Bool) :=
    [(0x0C, decide (1 ≤ bits (k.par 0) 2 0 ∧ bits (k.par 0) 2 0 ≤ 4) && (upTo 240).all (fun i => k.par (16 + i) == 0)),
     (0x0D, ok 3 && ok 4 && (!bit (k.par 0) 5 || phases))]
  (checks.find? (fun e => !e.2)).map (·.1)

/-- A sample of an output plane of SCALE_T (R262, R264). -/
def scaleT (k : KIn) (f : Pic) (x y : Nat) : Int :=
  scalePlane (if bit (k.par 0) 5 then eightTaps k (64 * bits (k.par 7) 15 0) else fourTaps)
    (if bit (k.par 0) 4 then 255 else 65535) (bits (k.par 1) 12 0 + 1) (bits (k.par 1) 28 16 + 1)
    (bits (k.par 3) 19 0) (bits (k.par 4) 19 0) (sext 32 (k.par 5).toNat) (sext 32 (k.par 6).toNat) f x y

/-! ### Stitching (R265) -/

/-- One component of a stitched pixel: (weight, sample, gain) of each source (R265). -/
def stitchOne (top fill : Int) (srcs : List (Int × Int × Int)) : Int :=
  let w := (srcs.map (·.1)).foldl (· + ·) 0
  if w ≤ 0 then fill else
  (srcs.foldl (fun a e => a + e.1 * min top (rndI (e.2.1 * e.2.2) 12)) 0 + w / 2) / w

/-- Weight grid and photometric gain of source i (Table IF-7). -/
def KIn.stitchW (k : KIn) (i x y : Nat) : Int := (k.grid (17 + 2 * i) (18 + 2 * i) 0).at_ x y
def KIn.stitchG (k : KIn) (i : Nat) : Int := (((k.par (25 + i / 2)).toNat / 2 ^ (16 * (i % 2)) % 65536 : Nat) : Int)

def stitchTrap (k : KIn) : Option Nat :=
  let n := bits (k.par 0) 2 0
  let w := bits (k.par 1) 12 0 + 1
  let h := bits (k.par 1) 28 16 + 1
  let checks : List (Nat × Bool) :=
    [(0x0C, decide (1 ≤ n ∧ n ≤ 4) && (upTo 227).all (fun i => k.par (29 + i) == 0)),
     (0x0E, (upTo n).all (fun i => (k.grid (17 + 2 * i) (18 + 2 * i) 0).ok w h))]
  (checks.find? (fun e => !e.2)).map (·.1)

/-- A stitched pixel of three U16 planes, from each source's pixel (R265). -/
def stitchU16 (k : KIn) (src : Nat → Rgb) (x y : Nat) : Rgb :=
  let ns := upTo (bits (k.par 0) 2 0)
  let one (g : Rgb → Int) (fill : Nat) : Int :=
    stitchOne 65535 (fill : Int) (ns.map (fun i => (k.stitchW i x y, g (src i), k.stitchG i)))
  ⟨one (·.r) (bits (k.par 27) 15 0), one (·.g) (bits (k.par 27) 31 16), one (·.b) (bits (k.par 28) 15 0)⟩

/-- A stitched RGBA8888 pixel: a source pixel with A = 0 has no weight; A is 255 where any has (R265). -/
def stitchRgba (k : KIn) (src : Nat → List Byte) (x y : Nat) : List Byte :=
  let ns := upTo (bits (k.par 0) 2 0)
  let wt (i : Nat) : Int := if bAt (src i) 3 = 0 then 0 else k.stitchW i x y
  if (ns.map wt).foldl (· + ·) 0 ≤ 0 then wordBytes (k.par 27) else
  (upTo 3).map (fun c => BitVec.ofNat 8 (stitchOne 255 0 (ns.map (fun i => (wt i, (bAt (src i) c : Int), k.stitchG i)))).toNat) ++ [255]

/-! ### BASIC (R276, R277) -/

/-- K of BASIC for B-bit samples (R276). -/
def basicK (b : Nat) : Int := rndI ((4096 * 65535 * 2 ^ 16 / (2 ^ b - 1 - 2 ^ (b - 4)) : Nat) : Int) 16

/-- Bits of a gamma node, from the top down: the largest v with 65535 × (k ÷ 256)^(1 ÷ 2.2) + 1/2 ≥ v, compared by
eleventh powers, as 1 ÷ 2.2 = 5 ÷ 11 (R276). -/
def gammaNodeFrom (k : Nat) : Nat → Nat → Nat
  | 0, v => v
  | n + 1, v =>
    let t := v + 2 ^ n
    gammaNodeFrom k n (if (2 * t - 1) ^ 11 * 256 ^ 5 ≤ 131070 ^ 11 * k ^ 5 then t else v)

def basicGamma (k : Nat) : Nat := gammaNodeFrom k 16 0

/-- The L24 plane of BASIC before the channel gain, where the statistics are taken (R242, R260). -/
def basicTap (b : Nat) (f : Pic) : Pic := fun x y => blackLevel (f x y) (2 ^ (b - 4)) (basicK b)

/-- Grey-world gains from a frame's statistics (R277). -/
def greyWorld (z : Zone) (g : Gains) : Gains :=
  if z.quads = 0 ∨ z.r = 0 ∨ z.b = 0 then g else
  let one (s : Nat) : Nat := (clampI 1024 16383 ((z.g * 4096 + s / 2) / s : Nat)).toNat
  ⟨one z.r, 4096, one z.b⟩

/-- The gains that a frame leaves for the next one: statistics over one zone, DARK_TH 1024, SAT_TH 61 440. -/
def basicGains (b w h : Nat) (f : Pic) (g : Gains) : Gains :=
  greyWorld ((statsOf 0 1 1 (w / 2) (h / 2) 0 (h / 2) 61440 1024 (basicTap b f)).1.getD 0 ⟨0, 0, 0, 0, 0, 0⟩) g

/-- A pixel of BASIC's RGB888 picture (R276). -/
def basicPixel (b w h : Nat) (g : Gains) (f : Pic) (x y : Int) : List Byte :=
  let gained : Pic := fun x y =>
    let wb := match chanOf false 0 x y with | 0 => g.r | 3 => g.b | _ => g.g
    chanGain (basicTap b f x y) (wb : Int)
  let p := ((demosaic false false 0 w h gained x y).map (min 65535)).map (gammaCurve (fun k => (basicGamma k : Int)))
  (outLine 1 false [p]).getD 0 []

/-- A line of a tile: BASIC's picture scaled to the tile's size with the built-in taps (R276, R487). -/
def basicTileLine (b : Nat) (g : Gains) (rows : List (List Nat)) (tw th line : Nat) : List Byte :=
  let w := (rows.getD 0 []).length
  let h := rows.length
  let f := Pic.ofRows rows
  let plane (c : Nat) : Pic := fun x y => ((basicPixel b w h g f x y).getD c 0).toNat
  (upTo tw).flatMap (fun x =>
    (upTo 3).map (fun c => BitVec.ofNat 8 (scalePlane fourTaps 255 w h (w * 65536 / tw) (h * 65536 / th) 0 0 (plane c) x line).toNat)
    ++ [0])

end Sys2Proof.Machine
end

