-- ==== Sys2Proof/Machine/Deliver.lean ====
section
/-! DEFINITION. How packets leave the groom: MSI-X messages (R373), reply rings (R88–R91), Ethernet reply and
event frames (R92, R93) and the TWT0 mailbox (R94). -/

namespace Sys2Proof.Machine

/-- Code of a device state (Table CM-6). -/
def DState.code : DState → Nat
  | .boot => 0 | .standalone => 1 | .config => 2 | .run => 3 | .degraded => 4 | .safe => 5
  | .holdEntry => 6 | .stowEntry => 7

/-! ### MSI-X (R373) -/

/-- Send the message of an MSI-X vector: nothing while the host bridge is dark; a masked vector sets its PBA
bit (the PCIe table format, log entry 9). -/
def State.sendMsix (s : State) (v : Nat) : State :=
  if s.dark 0x2F then s
  else if bit (s.reg (R.MSIX_CTRL v)) 0 then
    s.setReg (R.MSIX_PBA (v / 32)) (s.reg (R.MSIX_PBA (v / 32)) ||| w32 (2 ^ (v % 32)))
  else s.emit (.msix v (s.reg (R.MSIX_ADDR_HI v) ++ s.reg (R.MSIX_ADDR_LO v)) (s.reg (R.MSIX_DATA v)))

/-! ### Packets -/

/-- The words of a reply or event packet (Table CM-2). -/
def Reply.words (r : Reply) : List Word :=
  [w32 (r.tag.toNat + 0x10000 * r.status.toNat + 0x1000000 * r.dstate.toNat),
   w32 (r.detail.toNat + 0x10000 * (r.payload.length % 0x1000) + 0x10000000 * b01 r.fanout
     + 0x20000000 * b01 r.trunc + 0x80000000 * b01 r.unsol),
   r.tick, w32 (r.opcode.toNat + 0x10000 * r.unit.toNat)] ++ r.payload

/-- Cut a payload to a transport limit, setting TRUNC (Table CM-10). -/
def Reply.cut (r : Reply) (lim : Nat) : Reply :=
  if r.payload.length ≤ lim then r else { r with payload := r.payload.take lim, trunc := true }

/-- An unsolicited event packet with one record of four words (R80, R495). -/
def State.eventPacket (s : State) (rec : List Word) : Reply :=
  { tag := 0, status := 0, dstate := BitVec.ofNat 8 s.dstate.code, detail := 0, fanout := false, trunc := false,
    unsol := true, tick := s.tickLo, opcode := 0xFF, unit := 0, payload := rec }

/-! ### Reply rings (R88–R90) -/

/-- The groom, or in BOOT and STANDALONE the ROM, runs and takes commands (R94, R98, R107, R467). -/
def State.groomRuns (s : State) : Bool :=
  (s.groom.up && !s.groom.restarting) || ((s.dstate == .boot || s.dstate == .standalone) && s.pwr.pwrgood)

/-- LOG2_UNITS of ring pair `n`. -/
def State.ringLog2 (s : State) (n : Nat) : Nat := s.fld (R.CMD_Q_CTRL n) F.CMD_Q_CTRL_LOG2_UNITS

/-- Ring pair `n` is enabled and running: EN = 1, a legal size, no ERR, and the host bridge not dark. A pair that ERR
stopped therefore runs again once ERR is cleared while EN is still 1 (DESIGN CHOICE, log entry 73). -/
def State.ringActive (s : State) (n : Nat) : Bool :=
  s.flag (R.CMD_Q_CTRL n) F.CMD_Q_CTRL_EN && decide (8 ≤ s.ringLog2 n ∧ s.ringLog2 n ≤ 16)
    && !s.flag (R.CMD_Q_STATUS n) F.CMD_Q_STATUS_ERR && !s.dark 0x2F

/-- 16-byte units a packet of `k` words occupies (R88). -/
def ringUnits (k : Nat) : Nat := ceilDiv k 4

/-- Units in use between two ring pointers of LOG2_UNITS + 1 bits (R88). -/
def ringUsed (log2 hd tl : Nat) : Nat := (tl + 2 ^ (log2 + 1) - hd % 2 ^ (log2 + 1)) % 2 ^ (log2 + 1)

/-- Free units of the reply ring of pair `n`. -/
def State.rqRoom (s : State) (n : Nat) : Nat :=
  2 ^ s.ringLog2 n - ringUsed (s.ringLog2 n) (s.fld (R.CMD_RQ_HEAD n) F.CMD_RQ_HEAD_HEAD)
    (s.fld (R.CMD_RQ_TAIL n) F.CMD_RQ_TAIL_TAIL)

/-- A 64-bit host address from a LO/HI register pair (R531). -/
def State.hostAddr (s : State) (lo hi : Nat) : BitVec 64 := s.reg hi ++ s.reg lo

/-- Write one packet to the reply ring of pair `n`, with the tail, its write-back and the message (R89). -/
def State.rqWrite (s : State) (n : Nat) (ws : List Word) : State :=
  let l := s.ringLog2 n
  let tl := s.fld (R.CMD_RQ_TAIL n) F.CMD_RQ_TAIL_TAIL
  let padded := padTo (0 : Word) 4 ws
  let slot := tl % 2 ^ l
  let first := (2 ^ l - slot) * 4
  let base := s.hostAddr (R.CMD_RQ_BASE_LO n) (R.CMD_RQ_BASE_HI n)
  let s := s.emit (.hostWrite (base + BitVec.ofNat 64 (16 * slot)) (padded.take first))
  let s := if padded.length ≤ first then s else s.emit (.hostWrite base (padded.drop first))
  let tl' := (tl + padded.length / 4) % 2 ^ (l + 1)
  let s := s.setFld (R.CMD_RQ_TAIL n) F.CMD_RQ_TAIL_TAIL tl'
  let s := s.emit (.hostWrite (s.hostAddr (R.CMD_RQ_WB_LO n) (R.CMD_RQ_WB_HI n)) [w32 tl'])
  s.sendMsix (s.fld (R.CMD_Q_CTRL n) F.CMD_Q_CTRL_VECTOR)

/-- Write waiting replies to the reply ring while they fit; the rest keep waiting (R90). -/
def drainReplies (n : Nat) : List Reply → State → List Reply × State
  | [], s => ([], s)
  | r :: rs, s =>
    if ringUnits (4 + r.payload.length) ≤ s.rqRoom n then drainReplies n rs (s.rqWrite n r.words)
    else (r :: rs, s)

/-- Write waiting event packets to the reply ring while they fit. -/
def drainEvents (n : Nat) : List (List Word) → State → List (List Word) × State
  | [], s => ([], s)
  | e :: es, s =>
    if ringUnits 8 ≤ s.rqRoom n then drainEvents n es (s.rqWrite n (s.eventPacket e).words) else (e :: es, s)

/-- Move what waits for ring pair `n` into its reply ring as far as there is room, replies first, and show
STALL while a reply still waits (R90). -/
def State.pumpRing (s : State) (n : Nat) : State :=
  if !s.ringActive n then s else
  let (rs, s) := drainReplies n (s.port n).backlog s
  let s := s.setPort n { s.port n with backlog := rs }
  let s := s.setFlag (R.CMD_Q_STATUS n) F.CMD_Q_STATUS_STALL (!rs.isEmpty)
  if !rs.isEmpty then s else
  let (es, s) := drainEvents n (s.port n).events s
  s.setPort n { s.port n with events := es }

/-! ### Ethernet (R92, R93) -/

/-- A port's MAC address (Table NT-2). -/
def State.mac (s : State) (p : Nat) : BitVec 48 :=
  BitVec.ofNat 48 (s.fld (R.ETH_MAC_LO p) F.ETH_MAC_LO_MAC_LO + 2 ^ 32 * s.fld (R.ETH_MAC_HI p) F.ETH_MAC_HI_MAC_HI)

/-- The address of Ethernet allow entry `n`. -/
def State.allowMac (s : State) (n : Nat) : BitVec 48 :=
  BitVec.ofNat 48 (s.fld (R.CMD_ETH_ALLOW_LO n) F.CMD_ETH_ALLOW_LO_MAC_LO
    + 2 ^ 32 * s.fld (R.CMD_ETH_ALLOW_HI n) F.CMD_ETH_ALLOW_HI_MAC_HI)

/-- A port can send: it is on, not dark, and has a MAC address (R403). -/
def State.ethSends (s : State) (p : Nat) : Bool :=
  !s.dark 0x30 && s.flag (R.ETH_CTRL p) F.ETH_CTRL_EN && s.mac p != 0

/-- A port begins to send a frame. -/
def State.ethStart (s : State) (p : Nat) (f : TxFrame) : State :=
  let s := { s with ethTx := SMap.put s.ethTx EthTx.idle p { SMap.get s.ethTx EthTx.idle p with busy := true } }
  (s.emit (.eth p f.dst f.vlan f.etherType f.bytes)).incWrap (R.ETH_TX p) F.ETH_TX_FRAMES 1

/-- Send a frame on an Ethernet port that can send: at once where the port sends nothing, else it waits with its place
in the order of R404: 0 for gPTP event messages, 1 for other gPTP messages, 2 for command replies and event frames. -/
def State.ethSend (s : State) (cls p : Nat) (dst : BitVec 48) (vlan : Option (BitVec 16)) (et : BitVec 16)
    (bs : List Byte) : State :=
  let x := SMap.get s.ethTx EthTx.idle p
  if !s.ethSends p then s
  else if x.busy then { s with ethTx := SMap.put s.ethTx EthTx.idle p { x with queue := x.queue ++ [⟨cls, dst, vlan, et, bs⟩] } }
  else s.ethStart p ⟨cls, dst, vlan, et, bs⟩

/-- The frame that goes next: the first of the lowest class (R404). -/
def EthTx.next (x : EthTx) : Option TxFrame :=
  [0, 1, 2].findSome? (fun c => x.queue.find? (fun f => f.cls == c))

/-- The frame in progress on a port ends, and the next one that waits begins (R404). A port that can no longer send
drops what waits. -/
def ethNext (p : Nat) (s : State) : State :=
  let x := SMap.get s.ethTx EthTx.idle p
  let put (x : EthTx) : State := { s with ethTx := SMap.put s.ethTx EthTx.idle p x }
  if !s.ethSends p then put EthTx.idle else
  match x.next with
  | none => put EthTx.idle
  | some f => (put { x with queue := x.queue.erase f }).ethStart p f

/-- The payload of an EtherType 0x88B5 frame with one packet (Table CM-7), padded to the Ethernet minimum. -/
def cmdFrame (kind : Nat) (seq : BitVec 16) (ws : List Word) : List Byte :=
  let bs := leBytes 1 1 ++ leBytes 1 kind ++ leBytes 2 seq.toNat ++ leBytes 1 1 ++ leBytes 3 0 ++ wordsBytes ws
  bs ++ List.replicate (46 - bs.length) 0

/-- Send a reply to Ethernet sender `n` in a frame of KIND 0x02, on the port, with the VLAN tag and to the address of
the command frame and with its SEQ, and keep it among the replies to that SEQ (R93). -/
def State.ethReply (s : State) (n : Nat) (v : Via) (r : Reply) : State :=
  let p := s.port (8 + n)
  let r := r.cut 369
  let p := { p with replay := p.replay.map (fun e => if e.1 = v.seq then (e.1, e.2 ++ [r]) else e) }
  (s.setPort (8 + n) p).ethSend 2 v.eport v.mac v.vlan 0x88B5 (cmdFrame 2 v.seq r.words)

/-- Send an event packet to Ethernet sender `n` in a frame of KIND 0x03 (R80, Table CM-7). It takes the port and VLAN tag
of the sender's last accepted frame, and port 0 without a tag before any frame has come (DESIGN CHOICE, log entry 73). -/
def State.ethEvent (s : State) (n : Nat) (rec : List Word) : State :=
  let p := s.port (8 + n)
  let seq := s.groom.evSeq
  let s := { s with groom := { s.groom with evSeq := seq + 1 } }
  s.ethSend 2 p.last.eport (s.allowMac n) p.last.vlan 0x88B5 (cmdFrame 3 seq (s.eventPacket rec).words)

/-! ### TWT0 mailbox (R94) -/

/-- Write a reply to page 0x02 and set READY as BUSY clears (R94). -/
def State.twtReply (s : State) (r : Reply) : State :=
  let m := s.groom.mbox
  { s with groom := { s.groom with mbox :=
    { m with busy := false, ready := true, attn := s.flag R.TWT_CTRL F.TWT_CTRL_ATTN_OUT, rpl := writeBytes [] 0 (wordsBytes (r.cut 60).words) } } }

/-! ### Replies by source (R78, R105) -/

/-- The port record of a source: ring pairs 0–3, Ethernet senders 8–15. -/
def Source.portNo : Source → Nat
  | .sq n => n.val
  | .eth n => 8 + n.val
  | .twt => 16
  | .image => 17

/-- Send a formed reply, if any, on the source that carried the command (R78). -/
def State.sendReply (s : State) (sl : Slot) (r : Option Reply) : State :=
  match sl.src, r with
  | .sq n, some r =>
    if s.flag (R.CMD_Q_CTRL n) F.CMD_Q_CTRL_EN then
      (s.setPort n { s.port n with backlog := (s.port n).backlog ++ [r] }).pumpRing n
    else s
  | .eth n, some r => s.ethReply n sl.via r
  | .twt, some r => s.twtReply r
  | .twt, none => { s with groom := { s.groom with mbox := { s.groom.mbox with busy := false } } }
  | _, _ => s

/-- Send, in the order taken, the formed replies of each source up to its first unformed one (R105). -/
def flushSlots : List Source → List Slot → State → List Slot × State
  | _, [], s => ([], s)
  | blocked, sl :: rest, s =>
    match sl.done with
    | some r =>
      if blocked.contains sl.src then
        let (ls, s) := flushSlots blocked rest s
        (sl :: ls, s)
      else flushSlots blocked rest (s.sendReply sl r)
    | none =>
      let (ls, s) := flushSlots (sl.src :: blocked) rest s
      (sl :: ls, s)

/-- Let every reply that may leave do so. -/
def State.flush (s : State) : State :=
  let (ls, s) := flushSlots [] s.groom.slots s
  { s with groom := { s.groom with slots := ls } }

/-! ### Forming replies -/

/-- Result of executing a command: status, detail, payload, fan-out flag and TICK (R79, R81). -/
structure Res where
  status : Nat
  detail : Nat
  payload : List Word
  fanout : Bool
  /-- TICK where it is not the present counter (STAGED, DEFERRED). -/
  tick : Option Word
  deriving DecidableEq, Repr

/-- An OK result with a payload. -/
def Res.ok (ws : List Word) : Res := ⟨0, 0, ws, false, none⟩

/-- A result with a status, a detail and no payload. -/
def Res.err (st d : Nat) : Res := ⟨st, d, [], false, none⟩

/-- The reply packet of a command (Table CM-2, R79). -/
def State.formReply (s : State) (c : Cmd) (r : Res) : Reply :=
  { tag := c.pkt.tag, status := BitVec.ofNat 8 r.status, dstate := BitVec.ofNat 8 s.dstate.code,
    detail := BitVec.ofNat 16 r.detail, fanout := r.fanout, trunc := false, unsol := false,
    tick := if s.tg.running then r.tick.getD s.tickLo else s.tickLo, opcode := c.opcode, unit := c.pkt.unit, payload := r.payload }

/-- The reply a command gets: none when REPLY = 0 and the status is OK, STAGED or DEFERRED (Table CM-1). -/
def State.replyFor (s : State) (c : Cmd) (r : Res) : Option Reply :=
  if c.pkt.reply || decide (3 ≤ r.status) then some (s.formReply c r) else none

/-- Complete the first waiting reply of a key (R105). -/
def fillFirst (k : WaitKey) (f : Cmd → Option Reply) : List Slot → List Slot
  | [] => []
  | sl :: rest =>
    if sl.key = some k ∧ sl.done = none then { sl with done := some (f sl.cmd) } :: rest
    else sl :: fillFirst k f rest

/-- Source of the first waiting reply of a key. -/
def State.awaitSrc (s : State) (k : WaitKey) : Option Source :=
  (s.groom.slots.find? (fun sl => decide (sl.key = some k ∧ sl.done = none))).map (·.src)

/-- A chain whose command waited for key `k` goes on, broken when that command failed (R85). -/
def State.chainResult (s : State) (k : WaitKey) (failed : Bool) : State :=
  match s.awaitSrc k with
  | none => s
  | some src =>
    { s with groom := { s.groom with chains := s.groom.chains.map (fun e =>
        if e.1 = src ∧ e.2.key = some k then (e.1, { e.2 with key := none, broken := e.2.broken || failed })
        else e) } }

/-- The end of the work a reply waits for forms that reply; replies then leave in order. -/
def State.answer (s : State) (k : WaitKey) (r : Res) : State :=
  let s := s.chainResult k (decide (3 ≤ r.status))
  ({ s with groom := { s.groom with slots := fillFirst k (fun c => s.replyFor c r) s.groom.slots } }).flush

/-- A reply waits for the work of key `k`. -/
def State.awaits (s : State) (k : WaitKey) : Bool :=
  s.groom.slots.any (fun sl => decide (sl.key = some k ∧ sl.done = none))

/-- Complete every waiting reply of a key. -/
def answerAll (k : WaitKey) (r : Res) : Nat → State → State
  | 0, s => s
  | n + 1, s => if s.awaits k then answerAll k r n (s.answer k r) else s

def State.answerEvery (s : State) (k : WaitKey) (r : Res) : State := answerAll k r s.groom.slots.length s

end Sys2Proof.Machine
end

