-- ==== Sys2Proof/Machine/Events.lean ====
section
/-! DEFINITION. Raising events (R491–R498) and the transitions of the device state (R97, R499–R501). -/

namespace Sys2Proof.Machine

/-! ### Sources (Table EV-1) -/

def Ev.STATE_CHANGE : Nat := 0
def Ev.COMMIT_DONE : Nat := 1
def Ev.COMMIT_FAIL : Nat := 2
def Ev.STAGE_FULL : Nat := 3
def Ev.CMDQ_ERR : Nat := 4
def Ev.GROOM_MISCOMPARE : Nat := 5
def Ev.EV_LOST : Nat := 6
def Ev.CFG_BOOT_FAIL : Nat := 7
def Ev.TICK_LATE : Nat := 8
def Ev.TICK_SKIP : Nat := 9
def Ev.HEAD_LATE : Nat := 10
def Ev.KITE_STALE : Nat := 11
def Ev.TEMP_WARN : Nat := 12
def Ev.TEMP_CRIT : Nat := 13
def Ev.RESUME_DONE : Nat := 14
def Ev.BALLAST_RECOVERED : Nat := 15
def Ev.WITNESS_FAIL : Nat := 16
def Ev.WITNESS_CLEAR : Nat := 20
def Ev.DIRECT_NOSOURCE : Nat := 24
def Ev.LOCKSTEP_MISCOMPARE : Nat := 28
def Ev.PAIR_LINE_LATE : Nat := 29
def Ev.PAIR_HALTED : Nat := 30
def Ev.STALL_FAULT : Nat := 31
def Ev.LANE_UP : Nat := 32
def Ev.LANE_DOWN : Nat := 33
def Ev.LANE_RETRAIN : Nat := 34
def Ev.LANE_TRAIN_FAIL : Nat := 35
def Ev.LANE_EYE_LOW : Nat := 36
def Ev.LANE_PM_NAK : Nat := 37
def Ev.LANE_ROLE : Nat := 38
def Ev.REPEAT_LOST : Nat := 39
def Ev.PARTNER_NEW : Nat := 40
def Ev.PARTNER_LOST : Nat := 41
def Ev.PARTNER_REFUSED : Nat := 42
def Ev.AUTH_FAIL : Nat := 43
def Ev.TRIG_MISS : Nat := 44
def Ev.GATE_DMG : Nat := 48
def Ev.GATE_TRUNC : Nat := 49
def Ev.GATE_MISSING : Nat := 50
def Ev.GATE_EXTRA : Nat := 51
def Ev.GATE_HDR : Nat := 52
def Ev.GATE_CREDIT : Nat := 53
def Ev.GATE_OVERRUN : Nat := 54
def Ev.FS_ECC_UNCORR : Nat := 56
def Ev.FS_IMBALANCE : Nat := 57
def Ev.FS_PROTECT : Nat := 58
def Ev.MARK_LOST : Nat := 59
def Ev.PAD_HOLD_DROP : Nat := 60
def Ev.CODEC_ERR : Nat := 61
def Ev.DARK_ACCESS : Nat := 64
def Ev.PW_FAIL : Nat := 65
def Ev.HB_RESET : Nat := 66
def Ev.HB_LINK_DOWN : Nat := 67
def Ev.DMA_OVERRUN : Nat := 68
def Ev.DMA_ABORTED : Nat := 69
def Ev.DMA_ERR : Nat := 70
def Ev.TB_STEP : Nat := 72
def Ev.TB_HOLDOVER : Nat := 73
def Ev.TB_SWITCH : Nat := 74
def Ev.TB_GM_CHANGE : Nat := 75
def Ev.TS_OVERFLOW : Nat := 76
def Ev.TW_FAIL : Nat := 80
def Ev.TW_STUCK : Nat := 81
def Ev.TW_ATTN : Nat := 82
def Ev.TWT_PROTO : Nat := 83
def Ev.TWT_WAKE : Nat := 84
def Ev.SLEEP_REFUSED : Nat := 88
def Ev.PMIC_TIMEOUT : Nat := 89
def Ev.BOOT_IMAGE_FAIL : Nat := 90
def Ev.OTP_FAIL : Nat := 91
def Ev.TRNG_FAIL : Nat := 92
def Ev.TRNG_RECOVERED : Nat := 93
def Ev.DEBUG_UNLOCKED : Nat := 94
def Ev.CONFIG_WRITTEN : Nat := 95
def Ev.PATTERN_LOCK : Nat := 96
def Ev.PATTERN_LOST : Nat := 97
def Ev.EYE_SCAN_DONE : Nat := 98
def Ev.INJECT_DONE : Nat := 99
def Ev.MEMTEST_DONE : Nat := 100
def Ev.MEMTEST_FAIL : Nat := 101
def Ev.BSCAN_ACTIVE : Nat := 102

/-- A source that never raises (Table EV-1). -/
def evReserved (n : Nat) : Bool :=
  decide (128 ≤ n) || [45, 46, 47, 55, 62, 63, 71, 77, 78, 79, 85, 86, 87].contains n
    || decide (103 ≤ n)

/-- The three values of ARG (R492): the first in bits 7:0, the second in 15:8, the third in 31:16. -/
def evArg (a b c : Nat) : Word := w32 (a % 256 + 256 * (b % 256) + 65536 * (c % 65536))

/-- EV_STATUS bit of source `n`. -/
def State.evStatus (s : State) (n : Nat) : Bool := bit (s.reg (R.EV_STATUS (n / 32))) (n % 32)

/-- EN of source `n`. -/
def State.evEn (s : State) (n : Nat) : Bool := s.flag (R.EV_CTRL n) F.EV_CTRL_EN

/-- The words of a record (Table EV-2). -/
def Rec.words (r : Rec) : List Word :=
  [w32 (r.ev + 0x100 * b01 r.ovf + 0x200 * b01 r.defer + 0x10000 * r.unit.toNat), r.arg, r.tick, r.ns]

/-- The tick and nanoseconds of a record made now (Table EV-2). -/
def State.stampRec (s : State) (r : Rec) : Rec :=
  { r with tick := s.tickLo, ns := w32 (nsOf (s.tbWhole s.tickSrc)) }

/-! ### Log and streams (R495, R90) -/

/-- Write a record into the log ring of 256 (R495). -/
def State.logRec (s : State) (r : Rec) : State :=
  if s.ev.log.length < 256 then { s with ev := { s.ev with log := s.ev.log ++ [r] } }
  else ({ s with ev := { s.ev with log := s.ev.log.drop 1 ++ [r] } }).incSat R.EV_LOG F.EV_LOG_OVERWRITTEN 1

/-- Queue a record for ring pair `n`; false when the 64-packet buffer is full and the packet is dropped. -/
def State.ringEvent (s : State) (n : Nat) (ws : List Word) : Bool × State :=
  if !s.ringActive n then (true, s)
  else if 64 ≤ (s.port n).events.length then
    (false, s.incSat (R.CMD_Q_STATUS n) F.CMD_Q_STATUS_EV_DROP 1)
  else (true, (s.setPort n { s.port n with events := (s.port n).events ++ [ws] }).pumpRing n)

/-- Send a record on the command sources of its route (R495); the sources whose packet was dropped, coded
as EV_LOST codes them (R492). -/
def State.streamRec (s : State) (r : Rec) : List Nat × State :=
  let w := s.reg (R.EV_CTRL r.ev)
  let sq := F.EV_CTRL_SQ.get w
  let eth := F.EV_CTRL_ETH.get w
  let (lost, s) := (onesOf sq 4).foldl (fun (acc : List Nat × State) n =>
    let (ok, t) := acc.2.ringEvent n r.words
    (if ok then acc.1 else acc.1 ++ [n + 1], t)) ([], s)
  (lost, (onesOf eth 8).foldl (fun t n =>
    if t.flag (R.CMD_ETH_ALLOW_HI n) F.CMD_ETH_ALLOW_HI_VALID then t.ethEvent n r.words else t) s)

/-- A sleep entry has passed its stop instant (R445). -/
def State.sleepStopped (s : State) : Bool := match s.pwr.entry with | some e => e.stopped | none => false

/-- Record a raise within the 16 records of its period (R496), written as `write` does; deferred while the groom does not
run and after a stop instant (R497). -/
def State.recordBy (write : Rec → State → State) (s : State) (n : Nat) (unit : Nat) (arg : Word) : State :=
  let cnt := SMap.get s.ev.written 0 n
  if 16 ≤ cnt then
    if s.ev.suppressed.contains n then s else { s with ev := { s.ev with suppressed := n :: s.ev.suppressed } }
  else
    let ovf := s.ev.suppressed.contains n
    let s := { s with ev := { s.ev with written := SMap.put s.ev.written 0 n (cnt + 1),
                                        suppressed := s.ev.suppressed.filter (· ≠ n) } }
    let r := s.stampRec ⟨n, ovf, false, BitVec.ofNat 16 unit, arg, 0, 0⟩
    if (s.groom.up && !s.sleepStopped) || s.dstate == .boot || s.dstate == .standalone then write r s
    else { s with ev := { s.ev with deferred := s.ev.deferred ++ [{ r with defer := true }] } }

/-- Start a new record period (R496). -/
def State.newRecordPeriod (s : State) : State := { s with ev := { s.ev with written := [] } }

/-- Everything a raise does but the SAFE route: status, COUNT, message, record and streams (R493–R496). -/
def State.raiseBy (write : Rec → State → State) (s : State) (n : Nat) (unit : Nat) (arg : Word) : State :=
  if evReserved n then s else
  let was := s.evStatus n
  let s := s.setReg (R.EV_STATUS (n / 32)) (s.reg (R.EV_STATUS (n / 32)) ||| w32 (2 ^ (n % 32)))
  let s := s.incSat (R.EV_CTRL n) F.EV_CTRL_COUNT 1
  if !s.evEn n then s else
  let s := if !was && s.flag (R.EV_CTRL n) F.EV_CTRL_MSI && n ≠ Ev.GROOM_MISCOMPARE
    then s.sendMsix (s.fld (R.EV_CTRL n) F.EV_CTRL_VECTOR) else s
  s.recordBy write n unit arg

/-- Write a record and stream it; each packet that is dropped raises EV_LOST in turn (R491). EV_LOST enters at most 16
records in a period (R496), which bounds the depth. -/
def writeRecTo : Nat → Rec → State → State
  | 0, r, s => ((s.logRec r).streamRec r).2
  | k + 1, r, s =>
    let (lost, s) := (s.logRec r).streamRec r
    lost.foldl (fun t src =>
      let t := t.raiseBy (writeRecTo k) Ev.EV_LOST 0 (w32 src)
      if t.evEn Ev.EV_LOST && t.flag (R.EV_CTRL Ev.EV_LOST) F.EV_CTRL_SAFE then { t with ev := { t.ev with lostSafe := true } } else t) s

/-- Write a record and stream it. -/
def State.writeRec (s : State) (r : Rec) : State := writeRecTo 17 r s

/-- A raise but for its SAFE route. -/
def State.raiseBase (s : State) (n : Nat) (unit : Nat) (arg : Word) : State := s.raiseBy (fun r t => t.writeRec r) n unit arg

/-- Write the deferred records once the groom runs, stamped at its start but for GROOM_MISCOMPARE, whose
message follows here (R497). -/
def State.deliverDeferred (s : State) : State :=
  let d := s.ev.deferred
  let s := { s with ev := { s.ev with deferred := [] } }
  d.foldl (fun t r =>
    if r.ev = Ev.GROOM_MISCOMPARE then
      let t := t.writeRec r
      if t.flag (R.EV_CTRL r.ev) F.EV_CTRL_MSI then t.sendMsix (t.fld (R.EV_CTRL r.ev) F.EV_CTRL_VECTOR) else t
    else t.writeRec { t.stampRec r with defer := true }) s

/-! ### Device states -/

/-- Tenths of a millisecond since the start of this boot (TOP_BOOT_TIME). -/
def State.bootTime (s : State) : Nat := (s.clk.localNs - s.pwr.startNs) / 100000

/-- Record the boot times on a first entry into CONFIG, STANDALONE or RUN (TOP_BOOT_TIME). -/
def State.noteBootTime (s : State) (new : DState) : State :=
  match new with
  | .config | .standalone =>
    if s.dstate = .boot then
      s.setFld R.TOP_BOOT_TIME F.TOP_BOOT_TIME_CONFIG_T (satAdd 0 s.bootTime 0xFFFF) else s
  | .run =>
    if s.pwr.ranOnce then s else
      ({ s with pwr := { s.pwr with ranOnce := true } }).setFld R.TOP_BOOT_TIME F.TOP_BOOT_TIME_RUN_T
        (satAdd 0 s.bootTime 0xFFFF)
  | _ => s

/-- Move to a device state with a cause, raising STATE_CHANGE without its SAFE route (R97, R492). -/
def State.moveTo (s : State) (new : DState) (cause : Nat) : State :=
  let old := s.dstate
  let s := s.noteBootTime new
  ({ s with dstate := new, cause := BitVec.ofNat 16 cause }).raiseBase Ev.STATE_CHANGE 0
    (evArg old.code new.code cause)

/-- Re-anchor the tick schedule at the tick source's reading now (R45). -/
def State.reanchor (s : State) : State :=
  { s with tg := { s.tg with anchor := s.tbWhole s.tickSrc, since := 0 } }

/-- A faulted stall that no automatic restore will restart: a TICK-mode stall, or a halted pair (Table EV-3). -/
def Stall.stuck (x : Stall) : Bool := x.state == .fault && (!(x.lock && x.mode == 2) || x.halted)

/-- A DEGRADED condition of Table EV-3 stands. -/
def State.degradedCond (s : State) : Bool :=
  s.groom.restarted || !s.pwr.rebuild.isEmpty || s.stalls.any (fun e => e.2.stuck)

/-- In RUN with a DEGRADED condition standing the hub is in DEGRADED, with the condition's cause (R499). -/
def State.degrade (s : State) (cause : Nat) : State :=
  if s.dstate = .run ∧ s.degradedCond then s.moveTo .degraded cause else s

/-- The cause of the standing DEGRADED condition (Table CM-11). -/
def State.degradeCause (s : State) : Nat :=
  if s.groom.restarted then Ev.GROOM_MISCOMPARE else if s.pwr.rebuild.isEmpty then Ev.STALL_FAULT else 0xF003

/-- End a sleep entry with the result refused (1) or aborted (2): the work held is released, the hub returns
to the state held before it, SLEEP_REFUSED is raised and SLEEP_ENTER answered (R447). -/
def State.endEntry (s : State) (result domain reason sources : Nat) : State :=
  match s.pwr.entry with
  | none => s
  | some e =>
    let s := ((s.setFld R.PWR_ENTRY F.PWR_ENTRY_RESULT result).setFld R.PWR_ENTRY F.PWR_ENTRY_DOMAIN domain).setFld
      R.PWR_ENTRY F.PWR_ENTRY_REASON reason
    let s := s.incSat R.PWR_CNT F.PWR_CNT_REFUSALS 1
    let ticked := s.pwr.before = .run ∨ s.pwr.before = .degraded
      ∨ (s.pwr.before = .safe ∧ s.flag R.TICK_CTRL F.TICK_CTRL_RUN)
    let s := { s with pwr := { s.pwr with entry := none } }
    let s := if ticked then ({ s with tg := { s.tg with running := true } }).reanchor else s
    let s := s.deliverDeferred
    let s := s.moveTo s.pwr.before Ev.SLEEP_REFUSED
    let s := s.degrade s.degradeCause
    let s := s.raiseBase Ev.SLEEP_REFUSED 0xC000 (evArg domain reason sources)
    s.answer .sleepEnter (Res.ok [s.reg R.PWR_ENTRY, if e.stopped then e.stopTick else s.tickLo])

/-- Every shed without a running lockstep pair goes to P3, as a committed level change takes it there: the clocks of a shed
that was at another level stop (R72, R500). -/
def State.forceSheds (s : State) : State :=
  (upTo 16).foldl (fun t h =>
    let f : Fld := ⟨2 * h + 1, 2 * h⟩
    if f.get (t.reg R.PWR_LEVEL) = 3 then t
    else if (upTo 16).any (fun i => (t.stall (16 * h + i)).lock && decide ((t.stall (16 * h + i)).mode ≠ 0)) then t
    else
      let stop := !t.pwr.stoppedSheds.contains h
      let t := t.setReg R.PWR_LEVEL (f.put 3 (t.reg R.PWR_LEVEL))
      if stop then { t with pwr := { t.pwr with stoppedSheds := t.pwr.stoppedSheds ++ [h] } } else t) s

/-- Discard the set being filled and the future entries; an open window's set will apply nothing (R107, R500). -/
def State.discardStaged (s : State) : State :=
  { s with groom := { s.groom with staging := ⟨[], [], s.groom.staging.frozen.map fun (f : Frozen) =>
    { f with void := true }⟩ } }

/-- Enter SAFE from CONFIG, RUN or DEGRADED; from a sleep entry by aborting it first; no change in other
states (R499, R500). -/
def State.enterSafe (s : State) (cause : Nat) : State :=
  let go (s : State) : State :=
    let s := s.discardStaged
    let s := s.moveTo .safe cause
    if s.ev.critHot then
      if s.tg.running then { s with ev := { s.ev with forceP3 := true } } else s.forceSheds
    else s
  match s.dstate with
  | .config | .run | .degraded => go s
  | .holdEntry | .stowEntry =>
    let s := s.endEntry 2 0xFF 0 0
    match s.dstate with
    | .config | .run | .degraded => go s
    | _ => s
  | _ => s

/-- The SAFE route of an EV_LOST that was raised (R493). -/
def State.settleLost (s : State) : State :=
  if s.ev.lostSafe then ({ s with ev := { s.ev with lostSafe := false } }).enterSafe Ev.EV_LOST else s

/-- Raise an event: status, delivery, and the SAFE route with EN = 1, fixed for TEMP_CRIT (R493, R499). -/
def State.raise (s : State) (n : Nat) (unit : Nat) (arg : Word) : State :=
  if evReserved n then s else
  let s := s.raiseBase n unit arg
  (if n = Ev.TEMP_CRIT ∨ (s.evEn n ∧ s.flag (R.EV_CTRL n) F.EV_CTRL_SAFE) then s.enterSafe n else s).settleLost

/-- A SAFE condition of Table EV-3 stands. -/
def State.safeCond (s : State) : Bool := s.ev.critHot || s.ev.trngBoot

/-- A transition into a state, with the conditions that apply on arrival: a standing SAFE condition on entry
into CONFIG, a standing DEGRADED condition on entry into RUN (R499), and STATE_CHANGE's own SAFE route. -/
def State.goTo (s : State) (new : DState) (cause : Nat) : State :=
  let s := s.moveTo new cause
  let s := if new = .config ∧ s.safeCond then s.enterSafe (if s.ev.critHot then Ev.TEMP_CRIT else Ev.TRNG_FAIL) else s
  let s := s.degrade s.degradeCause
  (if s.evEn Ev.STATE_CHANGE ∧ s.flag (R.EV_CTRL Ev.STATE_CHANGE) F.EV_CTRL_SAFE then s.enterSafe Ev.STATE_CHANGE
  else s).settleLost

/-! ### Pins (R494) -/

/-- The open-drain IRQ# pin is driven low. -/
def State.irqLow (s : State) : Bool :=
  SMap.get s.pwr.padLatch 0 3 / 4 % 2 == 1 ||
  (upTo 128).any (fun n => s.evStatus n && s.evEn n && s.flag (R.EV_CTRL n) F.EV_CTRL_IRQ)

/-- The open-drain FAULT# pin is driven low. -/
def State.faultLow (s : State) : Bool :=
  SMap.get s.pwr.padLatch 0 3 / 2 % 2 == 1 ||
  (upTo 128).any (fun n => s.evStatus n &&
    ((s.evEn n && s.flag (R.EV_CTRL n) F.EV_CTRL_FAULT) || n == Ev.GROOM_MISCOMPARE || n == Ev.TEMP_CRIT))
  || s.dstate == .safe || s.sec.bootFault

end Sys2Proof.Machine
end

