-- ==== Sys2Proof/Machine/Operands.lean ====
section
/-! DEFINITION. Operand forms of the command packets: status codes (Table CM-3), receipt checks that name an
offending parameter word, KIND words, and packets as rings, frames and the mailbox carry them (Table CM-1). -/

namespace Sys2Proof.Machine

/-! ### Status codes (Table CM-3) -/

def St.OK : Nat := 0
def St.STAGED : Nat := 1
def St.DEFERRED : Nat := 2
def St.BUSY : Nat := 3
def St.STATE : Nat := 4
def St.RANGE : Nat := 5
def St.CHECK : Nat := 6
def St.AUTH : Nat := 7
def St.UNKNOWN : Nat := 8
def St.ABSENT : Nat := 9
def St.DARK : Nat := 10
def St.LATE : Nat := 11
def St.FAULT : Nat := 12

/-- The rank of a status; 1 is the worst (Table CM-3). -/
def stRank : Nat → Nat
  | 0 => 13 | 1 => 12 | 2 => 11 | 3 => 8 | 4 => 3 | 5 => 7 | 6 => 9 | 7 => 5 | 8 => 6 | 9 => 4 | 10 => 2
  | 11 => 10 | _ => 1

/-- The outcome of a receipt check: none where it passes, else status and detail. -/
abbrev Chk := Option (Nat × Nat)

/-- RANGE with the index of a parameter word unless `b`. -/
def inRange (b : Bool) (i : Nat) : Chk := if b then none else some (St.RANGE, i)

/-- A status and detail unless `b`. -/
def need (b : Bool) (st d : Nat) : Chk := if b then none else some (st, d)

/-- The first check that fails. -/
def firstOf (l : List Chk) : Chk := l.findSome? id

/-- How an executed command answers: at once, or when work ends (R105). -/
inductive Done where
  | now (r : Res)
  | wait (k : WaitKey)
  deriving DecidableEq, Repr

def Done.ok (ws : List Word) : Done := .now (Res.ok ws)
def Done.err (st d : Nat) : Done := .now (Res.err st d)

/-! ### Packets (Table CM-1) -/

/-- The command at the head of a word list, with the number of words it takes; none where the words are too
few for its header and LEN. -/
def parsePacket (src : Source) (ws : List Word) : Option (Cmd × Nat) :=
  match ws with
  | w0 :: w1 :: w2 :: w3 :: rest =>
    let len := bits w1 27 16
    if rest.length < len then none
    else some (⟨w0.extractLsb' 0 16,
      { src := src, unit := w0.extractLsb' 16 16, tag := w1.extractLsb' 0 16, stage := bit w1 28, reply := bit w1 29,
        chain := bit w1 30, urgent := bit w1 31, applyTick := w2, cred := w3, params := rest.take len }⟩, 4 + len)
  | _ => none

/-- Words that a packet of `k` words occupies in a ring of 16-byte units (R88). -/
def unitWords (k : Nat) : Nat := 4 * ringUnits k

/-- The packets of a ring stretch, each padded to whole units (R88), with the words each occupies; `n` bounds
their number. -/
def ringPackets (src : Source) : Nat → List Word → List (Cmd × Nat)
  | 0, _ => []
  | n + 1, ws =>
    match parsePacket src ws with
    | none => []
    | some (c, k) =>
      if ws.length < unitWords k then [] else (c, unitWords k) :: ringPackets src n (ws.drop (unitWords k))

/-- `n` packets back to back, with the words left after them (R92); none where they do not fit. -/
def framePackets (src : Source) : Nat → List Word → Option (List Cmd × List Word)
  | 0, ws => some ([], ws)
  | n + 1, ws =>
    match parsePacket src ws with
    | none => none
    | some (c, k) => (framePackets src n (ws.drop k)).map (fun r => (c :: r.1, r.2))

/-- A packet whose KIND bits of word 0, from bit `lo`, hold `kind`: the form a KIND row stands for. -/
def kindPacket (p : Packet) (hi lo kind : Nat) : Packet :=
  { p with params := match p.params with
    | w :: ws => Fld.put ⟨hi, lo⟩ kind w :: ws
    | [] => [] }

/-- One of many staged images: word `i` of the parameters put into register `a i`. -/
def imageList (first : Nat) (addr : Nat → Nat) (ws : List Word) : List (Nat × Word) :=
  (upTo ws.length).map (fun i => (addr (first + i), wAt ws i))

end Sys2Proof.Machine
end

