-- ==== Sys2Proof/Machine/Msg.lean ====
section
/-! DEFINITION. Sending link messages (R147–R151) and what is known of a lane's partner (R155, R156). -/

namespace Sys2Proof.Machine

/-- Lane states (Table LP-4). -/
def Ls.off : Nat := 0
def Ls.detect : Nat := 1
def Ls.train : Nat := 2
def Ls.align : Nat := 3
def Ls.up : Nat := 4
def Ls.doze : Nat := 5
def Ls.deep : Nat := 6
def Ls.test : Nat := 7

def State.laneState (s : State) (x : Nat) : Nat := s.fld (R.LANE_STATUS x) F.LANE_STATUS_STATE
def State.setLaneState (s : State) (x v : Nat) : State := s.setFld (R.LANE_STATUS x) F.LANE_STATUS_STATE v

/-- Message types (Table LK-4). -/
def Mt.TRAIN : Nat := 1
def Mt.EYE : Nat := 2
def Mt.PM : Nat := 3
def Mt.KEEPALIVE : Nat := 4
def Mt.CAL_REQ : Nat := 5
def Mt.CAL_RESP : Nat := 6
def Mt.TRIGGER : Nat := 7
def Mt.TRIG_ACK : Nat := 8
def Mt.I2C_REQ : Nat := 9
def Mt.I2C_RESP : Nat := 10
def Mt.GPIO : Nat := 11
def Mt.ROLL_CALL : Nat := 12
def Mt.IDENT : Nat := 13
def Mt.AUTH_CHAL : Nat := 14
def Mt.AUTH_RESP : Nat := 15
def Mt.ECHO : Nat := 16
def Mt.FRAME_STATUS : Nat := 17
def Mt.NAK : Nat := 18

/-- Partner states (Table LK-6). -/
def Ps.none : Nat := 0
def Ps.identWait : Nat := 1
def Ps.authPending : Nat := 2
def Ps.ready : Nat := 3
def Ps.refused : Nat := 4

def State.partner (s : State) (x : Nat) : Nat := s.fld (R.LINK_PARTNER x) F.LINK_PARTNER_STATE
def State.setPartner (s : State) (x v : Nat) : State := s.setFld (R.LINK_PARTNER x) F.LINK_PARTNER_STATE v
def State.partnerClass (s : State) (x : Nat) : Nat := s.fld (R.LINK_PARTNER x) F.LINK_PARTNER_CLASS

/-- A CAPS bit of the partner: 0 AUTH, 1 TRIGGER, 2 I2C, 3 ECHO, 4 BOND, 5 FRAME_STATUS (Table LK-5). -/
def State.partnerCap (s : State) (x i : Nat) : Bool := s.fld (R.LINK_PARTNER x) F.LINK_PARTNER_CAPS / 2 ^ i % 2 == 1

/-! ### Bonds (R128, R143) -/

/-- The even lane of a pair. -/
def evenLane (x : Nat) : Nat := x / 2 * 2
/-- The other lane of a pair. -/
def mate (x : Nat) : Nat := if x % 2 = 0 then x + 1 else x - 1

def State.bonded (s : State) (x : Nat) : Bool := s.flag (R.LANE_CTRL (evenLane x)) F.LANE_CTRL_BOND

/-- The lane whose cells a lane's codewords carry: the even lane of a bond (R143). -/
def State.cellHome (s : State) (x : Nat) : Nat := if s.bonded x then evenLane x else x

/-- The lane's codewords carry cells: those of a bond only while the pair is up (R128). -/
def State.carriesCells (s : State) (x : Nat) : Bool :=
  !s.bonded x || s.flag (R.LANE_STATUS (evenLane x)) F.LANE_STATUS_BOND_UP

/-! ### Messages (R147) -/

/-- One bit of CRC-16-CCITT, most significant first. -/
def crc16Bit (c : BitVec 16) (b : Bool) : BitVec 16 :=
  if c.msb != b then (c <<< 1) ^^^ 0x1021 else c <<< 1

/-- CRC-16-CCITT: polynomial 0x1021, initial value 0xFFFF, no final XOR (R147). -/
def crc16 (bs : List Byte) : BitVec 16 :=
  bs.foldl (fun c b => (List.range 8).foldl (fun c i => crc16Bit c (b.getMsbD i)) c) 0xFFFF

/-- A link message byte for byte: header MTYPE, LEN, SEQ, PORT, payload and CRC (R147). -/
def OutMsg.bytes (m : OutMsg) : List Byte :=
  let body := [m.mtype, m.payload.length, m.seq, m.port].map (BitVec.ofNat 8) ++ m.payload
  body ++ beBytes 2 (crc16 body).toNat

/-- Place of a message type in the order of sending: TRIGGER, ECHO, PM, every other (R149). -/
def msgRank (mtype : Nat) : Nat :=
  if mtype = Mt.TRIGGER then 0 else if mtype = Mt.ECHO then 1 else if mtype = Mt.PM then 2 else 3

/-- Place in a queue of the message sent next: the first of the least rank (R149). -/
def firstOut (ms : List OutMsg) : Nat :=
  (List.range ms.length).foldl (fun b i =>
    match ms[i]?, ms[b]? with
    | some m, some k => if msgRank m.mtype < msgRank k.mtype then i else b
    | _, _ => b) 0

/-- A message is queued on lane `x` (R149); a lane that is dark, or neither trains nor carries messages, sends
nothing. -/
def State.queueMsg (s : State) (x : Nat) (m : OutMsg) : State :=
  if s.dark (laneDomain x) || s.laneState x < Ls.train || s.laneState x == Ls.test then s
  else s.setLane x { s.lane x with msgs := (s.lane x).msgs ++ [m] }

/-- A message with a given SEQ. -/
def State.sendMsg (s : State) (x mtype seq port : Nat) (payload : List Byte) : State :=
  s.queueMsg x ⟨mtype, seq, port, payload, none⟩

/-- A request of the hub takes the lane's next SEQ (R147). -/
def State.nextSeq (s : State) (x : Nat) : Nat × State :=
  let l := s.link x
  (l.seq, s.setLink x { l with seq := (l.seq + 1) % 256 })

/-- A request of the hub. -/
def State.sendReq (s : State) (x mtype port : Nat) (payload : List Byte) : Nat × State :=
  let (q, s) := s.nextSeq x
  (q, s.sendMsg x mtype q port payload)

/-- A PM message of the lane still waits to leave. -/
def State.pmWaits (s : State) (x : Nat) : Bool :=
  (s.lane x).msgs.any (fun m => m.mtype == Mt.PM) || !(s.lane (s.cellHome x)).msgCells.isEmpty

/-! ### Cells (R141, R142) -/

/-- The cells of one packet or message: 30 bytes a cell behind the header of Table LK-1, the last one filled with zeros. -/
def cellsFor (type stream : Nat) (bs : List Byte) : List (List Byte) :=
  let n := ceilDiv bs.length 30
  (List.range n).map (fun i =>
    let part := (bs.drop (30 * i)).take 30
    beBytes 2 (4096 * type + 64 * stream + 32 * b01 (i == 0) + 16 * b01 (i + 1 == n)) ++ part
      ++ List.replicate (30 - part.length) 0)

/-- A CSI-2 packet byte for byte (R145): the header with virtual channel, data type, data field or WC and ECC, and for a
long packet the payload and its CRC. The layout within the header, the ECC and the CRC are CSI-2's, not the spec's (log
entry 13). -/
def csi2Bytes (vc dt field : Nat) (payload : Option (List Byte)) : List Byte :=
  let di := vc % 4 * 64 + dt
  let ecc := Config.csi2Ecc (di + 256 * field + 2 ^ 24 * (vc / 4))
  let head := [BitVec.ofNat 8 di] ++ leBytes 2 field ++ [BitVec.ofNat 2 (vc / 4) ++ ecc]
  match payload with
  | none => head
  | some bs => head ++ bs ++ leBytes 2 (Config.csi2Crc bs).toNat

/-- A CSI-2 packet of stream `id` is handed to a transmit lane's cells (R142, R145): a short packet with its data field, or
a long one with its payload. -/
def State.sendPacket (s : State) (x id dt field : Nat) (payload : Option (List Byte)) : State :=
  let y := s.cellHome x
  s.setLane y { s.lane y with cells := (s.lane y).cells ++ cellsFor 1 id (csi2Bytes (id % 16) dt field payload) }

end Sys2Proof.Machine
end

