-- ==== Sys2Proof/Machine/Codec.lean ====
section
/-! DEFINITION. The line codec (chapter 09): encoder and decoder over the samples of one line, the coding
profiles, and the counters of the codec units. -/

namespace Sys2Proof.Machine

/-- A coding profile: the fields of CODEC_PROF (Table CD-9). -/
structure Prof where
  mode : Nat
  bw : Nat
  layout : Nat
  param : Nat
  cont : Nat
  deriving DecidableEq, Repr

def profOf (w : Word) : Prof :=
  ⟨F.CODEC_PROF_MODE.get w, F.CODEC_PROF_BW_M1.get w + 1, F.CODEC_PROF_LAYOUT.get w, F.CODEC_PROF_PARAM.get w,
   F.CODEC_PROF_CONT.get w⟩

/-- PARAM in range for MODE (Table CD-3). -/
def paramOk (mode param : Nat) : Bool :=
  match mode with
  | 1 => param == 0
  | 2 => decide (1 ≤ param ∧ param ≤ 8)
  | 3 => decide (4 ≤ param ∧ param ≤ 10)
  | _ => false

/-- A profile that may be used (R300). -/
def Prof.ok (p : Prof) : Bool :=
  p.mode != 0 && decide (8 ≤ p.bw) && decide (p.layout ≤ 4) && paramOk p.mode p.param
    && (p.cont == 0 || p.bw == 8) && !(p.layout == 2 && p.cont == 0)

/-- A CODEC_PROF image within the field ranges of Table CD-9; MODE 0b00 is unset. -/
def profImageOk (w : Word) : Bool :=
  let p := profOf w
  decide (8 ≤ p.bw) && decide (p.layout ≤ 4) && (p.mode == 0 || paramOk p.mode p.param)

/-- E of an E code (Table CD-4). -/
def eTab (c : Nat) : Nat := [0, 1, 2, 3, 4, 6, 8, 12, 16, 24, 32, 48, 64, 128, 256, 512].getD c 0

/-- The fixed-rate bound (R287). -/
def efr (bw rate : Nat) : Nat := if rate ≤ bw then 2 ^ (bw - rate) else 0

/-- Colour of sample `i` (Table CD-2). -/
def colOf (layout i : Nat) : Nat :=
  match layout with
  | 1 => i % 2
  | 2 => i % 3
  | 3 => if i % 4 = 0 then 0 else if i % 4 = 2 then 2 else 1
  | 4 => i % 4
  | _ => 0

/-- What the coder keeps of one colour: samples reconstructed, the last and the one before (R289). -/
structure CState where
  cnt : Nat
  a : Nat
  b : Nat
  deriving DecidableEq, Repr

/-- The four colours' states. -/
abbrev CStates := List CState

def CStates.start : CStates := List.replicate 4 ⟨0, 0, 0⟩

def CStates.at_ (st : CStates) (c : Nat) : CState := st.getD c ⟨0, 0, 0⟩

/-- Update after a reconstructed sample (R289). -/
def CStates.emit (st : CStates) (c r : Nat) : CStates :=
  st.set c ⟨(st.at_ c).cnt + 1, r, (st.at_ c).a⟩

/-- The prediction of a sample (R289). -/
def predict (bw : Nat) (st : CStates) (c pm : Nat) : Int :=
  let k := st.at_ c
  if k.cnt = 0 then (2 ^ (bw - 1) : Nat)
  else if k.cnt = 1 ∨ pm = 0 then k.a
  else clampI 0 ((2 ^ bw - 1 : Nat) : Int) (2 * (k.a : Int) - k.b)

/-- The quantised residual (R290). -/
def quantise (e : Int) (bound : Nat) : Int :=
  let q : Int := ((e.natAbs + bound) / (2 * bound + 1) : Nat)
  if e < 0 then -q else q

/-- Reconstruction of a quantised residual (R290). -/
def reconstruct (bw : Nat) (p q : Int) (bound : Nat) : Nat :=
  (clampI 0 ((2 ^ bw - 1 : Nat) : Int) (p + q * (2 * (bound : Int) + 1))).toNat

/-- Code number of a quantised residual (R292). -/
def codeNumber (q : Int) : Nat := if 0 ≤ q then (2 * q).toNat else (-2 * q - 1).toNat

/-- Residual of a code number (R296). -/
def residual (u : Nat) : Int := if u % 2 = 1 then -(((u + 1) / 2 : Nat) : Int) else ((u / 2 : Nat) : Int)

/-- The low `w` bits of `v`, most significant first (R293). -/
def bitsOf (w v : Nat) : List Bool := (upTo w).map (fun i => v / 2 ^ (w - 1 - i) % 2 == 1)

/-- The code of a code number (R292). -/
def codeBits (bw k u : Nat) : List Bool :=
  let hi := u / 2 ^ k
  if hi < 24 then List.replicate hi true ++ [false] ++ bitsOf k u else List.replicate 24 true ++ bitsOf (bw + 1) u

/-- Code one block's samples under PM, k and E: bits, states after, reconstructed samples (R290–R292). -/
def codeSamples (pr : Prof) (bound pm k : Nat) : Nat → List Nat → CStates → List Bool × CStates × List Nat
  | _, [], st => ([], st, [])
  | i, x :: xs, st =>
    let c := colOf pr.layout i
    let p := predict pr.bw st c pm
    let q := quantise ((x : Int) - p) bound
    let r := reconstruct pr.bw p q bound
    let (bs, st', rs) := codeSamples pr bound pm k (i + 1) xs (st.emit c r)
    (codeBits pr.bw k (codeNumber q) ++ bs, st', r :: rs)

/-- Bits an escaped sample keeps (R291). -/
def escBits (pr : Prof) : Nat := if pr.mode = 3 then Nat.min pr.bw (pr.param - 1) else pr.bw

/-- Reconstruction of an escaped sample (R291). -/
def escRecon (t v cnt : Nat) : Nat := if t = 0 then v else v * 2 ^ t + 2 ^ (t - 1) - cnt % 2

/-- Code one block's samples as an escape block's (R291). -/
def escSamples (pr : Prof) : Nat → List Nat → CStates → List Bool × CStates × List Nat
  | _, [], st => ([], st, [])
  | i, x :: xs, st =>
    let c := colOf pr.layout i
    let m := escBits pr
    let t := pr.bw - m
    let v := x / 2 ^ t
    let r := escRecon t v (st.at_ c).cnt
    let (bs, st', rs) := escSamples pr (i + 1) xs (st.emit c r)
    (bitsOf m v ++ bs, st', r :: rs)

/-- A coded block: its bits with header, states after, samples, and whether it is an escape block. -/
structure Block where
  bits : List Bool
  st : CStates
  recon : List Nat
  esc : Bool
  deriving DecidableEq, Repr

/-- A coded block under one choice (Table CD-7). -/
def codedBlock (pr : Prof) (i : Nat) (xs : List Nat) (st : CStates) (ecode : Option Nat) (bound pm k : Nat) : Block :=
  let (bs, st', rs) := codeSamples pr bound pm k i xs st
  ⟨[false, pm == 1] ++ (match ecode with | some e => bitsOf 4 e | none => []) ++ bitsOf 4 k ++ bs, st', rs, false⟩

/-- The escape block of the samples (Table CD-7). -/
def escBlock (pr : Prof) (i : Nat) (xs : List Nat) (st : CStates) : Block :=
  let (bs, st', rs) := escSamples pr i xs st
  ⟨true :: bs, st', rs, true⟩

/-- The shortest coding over PM and k, the first in the order of R298 among equals. -/
def shortest (pr : Prof) (i : Nat) (xs : List Nat) (st : CStates) (ecode : Option Nat) (bound : Nat) : Block :=
  let try_ (pm k : Nat) := codedBlock pr i xs st ecode bound pm k
  ((upTo 2).flatMap (fun pm => (upTo 16).map (fun k => (pm, k)))).foldl
    (fun best c => let b := try_ c.1 c.2; if b.bits.length < best.bits.length then b else best) (try_ 0 0)

/-- Encode one block (R298). -/
def encodeBlock (pr : Prof) (i : Nat) (xs : List Nat) (st : CStates) : Block :=
  let n := xs.length
  if pr.mode = 3 then
    let fit := (upTo 16).findSome? (fun e =>
      if eTab e ≤ efr pr.bw pr.param then
        let b := shortest pr i xs st (some e) (eTab e)
        if b.bits.length ≤ n * pr.param then some b else none
      else none)
    let b := fit.getD (escBlock pr i xs st)
    { b with bits := b.bits ++ List.replicate (n * pr.param - b.bits.length) false }
  else
    let b := shortest pr i xs st none (if pr.mode = 2 then eTab pr.param else 0)
    if 1 + n * pr.bw < b.bits.length then escBlock pr i xs st else b

/-- Encode the blocks of a line; `fuel` bounds their number. -/
def encodeBlocks (pr : Prof) : Nat → Nat → List Nat → CStates → List Bool × List Nat × Nat
  | 0, _, _, _ => ([], [], 0)
  | fuel + 1, i, xs, st =>
    if xs.isEmpty then ([], [], 0) else
    let b := encodeBlock pr i (xs.take 32) st
    let (bs, rs, e) := encodeBlocks pr fuel (i + 32) (xs.drop 32) b.st
    (b.bits ++ bs, b.recon ++ rs, e + b01 b.esc)

/-- Bits as bytes, most significant first, the last byte filled with zeros (R293); `fuel` bounds their number. -/
def packBits : Nat → List Bool → List Byte
  | 0, _ => []
  | fuel + 1, bs =>
    if bs.isEmpty then [] else
    let h := bs.take 8
    BitVec.ofNat 8 ((h ++ List.replicate (8 - h.length) false).foldl (fun a b => 2 * a + b01 b) 0)
      :: packBits fuel (bs.drop 8)

/-- The bits of bytes, most significant first. -/
def unpackBits (bs : List Byte) : List Bool := bs.flatMap (fun b => bitsOf 8 b.toNat)

/-- An encoded line: coded bits, bytes, reconstructed samples, escape blocks, clamped input samples. -/
structure Coded where
  nbits : Nat
  bytes : List Byte
  recon : List Nat
  esc : Nat
  clip : Nat
  deriving DecidableEq, Repr

/-- Encode a line (R282, R293, R298). -/
def encodeLine (pr : Prof) (samples : List Nat) : Coded :=
  let maxv := 2 ^ pr.bw - 1
  let xs := samples.map (fun x => Nat.min x maxv)
  let n := xs.length
  let head := bitsOf 4 1 ++ bitsOf 2 pr.mode ++ bitsOf 4 (pr.bw - 1) ++ bitsOf 3 pr.layout ++ bitsOf 4 pr.param
    ++ bitsOf 15 (n - 1)
  let (bs, rs, e) := encodeBlocks pr (ceilDiv n 32) 0 xs CStates.start
  let all := head ++ bs
  ⟨all.length, packBits (ceilDiv all.length 8) all, rs, e, (samples.filter (fun x => maxv < x)).length⟩

/-- Worst-case coded line size in bytes (R295). -/
def worstLine (pr : Prof) (n : Nat) : Nat :=
  if pr.mode = 3 then ceilDiv (32 + n * pr.param) 8 else ceilDiv (32 + n * pr.bw + ceilDiv n 32) 8

/-! ### Decoder (R296) -/

/-- Take the next `w` bits as a number; none past the end. -/
def readBits (w : Nat) (bs : List Bool) : Option (Nat × List Bool) :=
  if bs.length < w then none else some ((bs.take w).foldl (fun a b => 2 * a + b01 b) 0, bs.drop w)

/-- Count one-bits up to `fuel`, eating the zero-bit that ends a shorter run. -/
def readRun : Nat → List Bool → Option (Nat × List Bool)
  | 0, bs => some (0, bs)
  | fuel + 1, true :: bs => (readRun fuel bs).map (fun r => (r.1 + 1, r.2))
  | _ + 1, false :: bs => some (0, bs)
  | _ + 1, [] => none

/-- Decode `n` samples of a coded block from sample `i`. -/
def decodeCoded (bw layout bound pm k : Nat) : Nat → Nat → List Bool → CStates → Option (List Nat × List Bool × CStates)
  | 0, _, bs, st => some ([], bs, st)
  | n + 1, i, bs, st =>
    match readRun 24 bs with
    | none => none
    | some (hi, bs) =>
      match readBits (if hi = 24 then bw + 1 else k) bs with
      | none => none
      | some (v, bs) =>
        let u := if hi = 24 then v else hi * 2 ^ k + v
        let c := colOf layout i
        let r := reconstruct bw (predict bw st c pm) (residual u) bound
        (decodeCoded bw layout bound pm k n (i + 1) bs (st.emit c r)).map (fun x => (r :: x.1, x.2))

/-- Decode `n` samples of an escape block from sample `i`. -/
def decodeEsc (bw layout m : Nat) : Nat → Nat → List Bool → CStates → Option (List Nat × List Bool × CStates)
  | 0, _, bs, st => some ([], bs, st)
  | n + 1, i, bs, st =>
    match readBits m bs with
    | none => none
    | some (v, bs) =>
      let c := colOf layout i
      let r := escRecon (bw - m) v (st.at_ c).cnt
      (decodeEsc bw layout m n (i + 1) bs (st.emit c r)).map (fun x => (r :: x.1, x.2))

/-- Decode the blocks of a line: the samples, the escape blocks and the bits used, or the error of Table CD-8; `fuel` bounds
the blocks. -/
def decodeBlocks (mode bw layout param : Nat) : Nat → Nat → Nat → List Bool → CStates → Except Nat (List Nat × Nat × Nat)
  | 0, _, _, _, _ => .ok ([], 0, 0)
  | fuel + 1, i, left, bs, st =>
    if left = 0 then .ok ([], 0, 0) else
    let n := Nat.min 32 left
    let start := bs.length
    let body : Except Nat (List Nat × List Bool × CStates × Nat) :=
      match bs with
      | [] => .error 6
      | true :: bs =>
        match decodeEsc bw layout (if mode = 3 then Nat.min bw (param - 1) else bw) n i bs st with
        | some (rs, bs, st) => .ok (rs, bs, st, 1)
        | none => .error 6
      | false :: bs =>
        match readBits 1 bs with
        | none => .error 6
        | some (pm, bs) =>
          match (if mode = 3 then readBits 4 bs else some (param, bs)) with
          | none => .error 6
          | some (e, bs) =>
            let bound := if mode = 1 then 0 else eTab e
            if mode = 3 ∧ efr bw param < bound then .error 5 else
            match readBits 4 bs with
            | none => .error 6
            | some (k, bs) =>
              match decodeCoded bw layout bound pm k n i bs st with
              | some (rs, bs, st) => .ok (rs, bs, st, 0)
              | none => .error 6
    match body with
    | .error e => .error e
    | .ok (rs, rest, st, e) =>
      let used := start - rest.length
      if mode = 3 ∧ n * param < used then .error 6
      else if mode = 3 ∧ rest.length < n * param - used then .error 6
      else
        let rest := if mode = 3 then rest.drop (n * param - used) else rest
        match decodeBlocks mode bw layout param fuel (i + 32) (left - n) rest st with
        | .error e => .error e
        | .ok (rs', e', b') => .ok (rs ++ rs', e + e', (if mode = 3 then n * param else used) + b')

/-- A conforming decoder (R296): the samples, the escape blocks and the coded bits, or the error code of Table CD-8. -/
def decodeWhole (line : List Byte) (expectN expectBW expectLayout : Nat) : Except Nat (List Nat × Nat × Nat) :=
  let bs := unpackBits line
  match readBits 32 bs with
  | none => .error 6
  | some (h, bs) =>
    let mode := h / 2 ^ 26 % 4
    let bw := h / 2 ^ 22 % 16 + 1
    let layout := h / 2 ^ 19 % 8
    let param := h / 2 ^ 15 % 16
    let n := h % 2 ^ 15 + 1
    if h / 2 ^ 28 % 16 ≠ 1 then .error 1
    else if mode = 0 ∨ bw < 8 ∨ 4 < layout ∨ !paramOk mode param then .error 2
    else if bw ≠ expectBW ∨ layout ≠ expectLayout then .error 3
    else if n ≠ expectN then .error 4
    else (decodeBlocks mode bw layout param (ceilDiv n 32) 0 n bs CStates.start).map (fun r => (r.1, r.2.1, 32 + r.2.2))

/-- The samples and the escape blocks of a coded line (R296). -/
def decodeLine (line : List Byte) (expectN expectBW expectLayout : Nat) : Except Nat (List Nat × Nat) :=
  (decodeWhole line expectN expectBW expectLayout).map (fun r => (r.1, r.2.1))

/-! ### Containers (R282) and unit counters (Table CD-9) -/

/-- Samples of a line in containers: bytes, two-byte words, or the three colours of RGB in four bytes. -/
def samplesOf (pr : Prof) (bs : List Byte) : List Nat :=
  if pr.layout = 2 then
    ((upTo (bs.length / 4)).flatMap (fun i => [bAt bs (4 * i), bAt bs (4 * i + 1), bAt bs (4 * i + 2)]))
  else if pr.cont = 1 then bs.map (·.toNat)
  else (upTo (bs.length / 2)).map (fun i => bAt bs (2 * i) + 256 * bAt bs (2 * i + 1))

/-- Samples put back into containers. -/
def containersOf (pr : Prof) (xs : List Nat) : List Byte :=
  if pr.layout = 2 then
    (upTo (xs.length / 3)).flatMap (fun i =>
      [BitVec.ofNat 8 (xs.getD (3 * i) 0), BitVec.ofNat 8 (xs.getD (3 * i + 1) 0), BitVec.ofNat 8 (xs.getD (3 * i + 2) 0), 0])
  else if pr.cont = 1 then xs.map (BitVec.ofNat 8)
  else xs.flatMap (leBytes 2)

/-- Samples in `n` bytes of containers. -/
def sampleCount (pr : Prof) (n : Nat) : Nat :=
  if pr.layout = 2 then n / 4 * 3 else if pr.cont = 1 then n else n / 2

/-- Bytes of containers that hold `n` samples. -/
def containerBytes (pr : Prof) (n : Nat) : Nat :=
  if pr.layout = 2 then n / 3 * 4 else if pr.cont = 1 then n else 2 * n

/-- Set number of a codec unit index (R302). -/
def codecSet (i : Nat) : Nat := if i < 0x100 then i else if i < 0x200 then 4 + (i - 0x100) else 12 + (i - 0x200)

/-- Unit address of codec set `k`. -/
def codecUnit (k : Nat) : Nat := if k < 4 then 0x6000 + k else if k < 12 then 0x6100 + (k - 4) else 0x6200 + (k - 12)

/-- Count a coded or decoded line on set `k`: bits and samples toward RATIO, escape blocks, clamped samples. -/
def codecCount (k nbits samples esc clip : Nat) (s : State) : State :=
  let (b, n) := SMap.get s.codecAcc (0, 0) k
  let s := { s with codecAcc := SMap.put s.codecAcc (0, 0) k (b + nbits, n + samples) }
  let s := s.incWrap (R.CODEC_LINES k) F.CODEC_LINES_LINES 1
  let s := s.incSat (R.CODEC_ESC k) F.CODEC_ESC_ESC esc
  s.incSat (R.CODEC_BITS k) F.CODEC_BITS_CLIP clip

/-- Encode a line on a unit. -/
def codecEncode (k : Nat) (pr : Prof) (samples : List Nat) (s : State) : Coded × State :=
  let c := encodeLine pr samples
  (c, codecCount k c.nbits samples.length c.esc c.clip s)

/-- Decode a line of `n` samples on a unit: an error gives a line of zeros, is counted and raised (R297). -/
def codecDecode (k : Nat) (pr : Prof) (n : Nat) (line : List Byte) (s : State) : List Nat × Bool × State :=
  match decodeWhole line n pr.bw pr.layout with
  | .ok (xs, esc, bits) => (xs, true, codecCount k bits n esc 0 s)
  | .error e =>
    let s := s.incSat (R.CODEC_STATUS k) F.CODEC_STATUS_ERRORS 1
    let s := s.setFld (R.CODEC_STATUS k) F.CODEC_STATUS_LAST_ERR e
    (List.replicate n 0, false, (codecCount k 0 n 0 0 s).raise Ev.CODEC_ERR (codecUnit k) 0)

/-- Profile `p` of the live table. -/
def State.prof (s : State) (p : Nat) : Prof := profOf (s.reg (R.CODEC_PROF p))

/-- At a tick: RATIO over the tick that ends (Table CD-9). -/
def codecTick (s : State) : State :=
  let s := (upTo 16).foldl (fun t k =>
    let (b, n) := SMap.get t.codecAcc (0, 0) k
    t.setFld (R.CODEC_BITS k) F.CODEC_BITS_RATIO (if n = 0 then 0 else satAdd 0 (b * 256 / n) 0xFFFF)) s
  { s with codecAcc := [] }

/-- A CODEC_HEADn_SEL image in range (Table CD-9); DT is left to the consistency check. -/
def selOk (w : Word) : Bool := decide (0x30 ≤ F.CODEC_HEAD_SEL_DT.get w ∧ F.CODEC_HEAD_SEL_DT.get w ≤ 0x37)

/-- The registers CODEC_SET writes (Table CD-10). -/
def codecSetRegs (i : Nat) (p : List Word) : List (Nat × Word) :=
  if i = 0x300 then imageList (bits (wAt p 0) 4 0) R.CODEC_PROF (p.drop 1)
  else imageList (bits (wAt p 0) 3 0) (R.CODEC_HEAD_SEL i) (p.drop 1)

/-- CODEC_SET's parameters (Table CD-10). -/
def codecSetLegal (i : Nat) (p : List Word) : Chk :=
  let n := p.length - 1
  if i = 0x300 then
    firstOf (inRange (decide (bits (wAt p 0) 4 0 + n ≤ 32)) 0
      :: (upTo n).map (fun j => inRange (profImageOk (wAt p (1 + j))) (1 + j)))
  else if i < 4 then
    firstOf (inRange (decide (bits (wAt p 0) 3 0 + n ≤ 16)) 0
      :: (upTo n).map (fun j => inRange (selOk (wAt p (1 + j))) (1 + j)))
  else some (St.RANGE, 0)

/-- Registers that CODEC_STATUS reports. -/
def codecStatusRegs (i : Nat) : List Nat :=
  if i = 0x300 then (upTo 32).map R.CODEC_PROF
  else let k := codecSet i; [R.CODEC_STATUS k, R.CODEC_LINES k, R.CODEC_ESC k, R.CODEC_BITS k]

end Sys2Proof.Machine
end

