-- ==== Sys2Proof/Machine/Library.lean ====
section
/-! DEFINITION. The kernels of the library as they run on a stall (R232–R240, R247, R250, R251, R260–R265): their surfaces
and windows, the frames that their rings hand them, the checks of a launch, and what a tick's work or a line's leaves in
the hayloft. The bundles of a library image are data; whatever they are, they compute these values (R233, log entry
26). -/

namespace Sys2Proof.Machine

/-- First byte of the parameter block (R210). -/
def paramBase : Nat := 0x1FC00

/-- Library kernels whose parameter words chapter 08 gives (Table IF-1). -/
inductive LibKernel where
  | ispT | ispL | scaleT | stitchT
  deriving DecidableEq, Repr

/-- The library kernel a stall is bound to. A reserved KERNEL_ID names no other object (R232). -/
def Stall.library (x : Stall) : Option LibKernel :=
  if x.mode = 0 then none else
  match x.kernel with
  | some k => (match k.id.toNat with
    | 0x110 => some .ispT | 0x111 => some .ispL | 0x120 => some .scaleT | 0x130 => some .stitchT | _ => none)
  | none => none

/-- A parameter word as GETP reads it (R210). -/
def Stall.par (x : Stall) (i : Nat) : Word := w32 (leNat (readBytes x.store (paramBase + 4 * i) 4))

/-- Byte address and size of window i; none where the binding has no such window. -/
def Stall.window (x : Stall) (i : Nat) : Option (Nat × Nat) :=
  (x.wins.find? (fun w => w.no = i)).map (fun w => (64 * w.base, 64 * w.size))

/-- What a kernel reads: parameter words and the tables of window 0 (R236). -/
def State.kin (s : State) (x : Stall) : KIn :=
  ⟨x.par, fun a => match x.window 0 with | some (b, _) => SMap.get s.hay 0 (b + a) | none => 0⟩

/-! ### Surfaces (R236) -/

/-- A surface: its window, byte offset, LOG2_DEPTH and pitch in bytes. -/
structure Surface where
  win : Nat
  at_ : Nat
  log2 : Nat
  pitch : Nat
  deriving DecidableEq, Repr

def surfaceOf (win : Nat) (w : Word) : Surface := ⟨win, 64 * bits w 15 0, bits w 19 16, 64 * bits w 31 20⟩

/-- LOG2_DEPTH is 0 for a whole frame or that of a ring (R236). -/
def Surface.depthOk (u : Surface) : Bool := decide (u.log2 = 0 ∨ 2 ≤ u.log2 ∧ u.log2 ≤ 7)

/-- Offset of line `v` in its window. -/
def Surface.line (u : Surface) (v : Nat) : Nat := u.at_ + (if u.log2 = 0 then v else v % 2 ^ u.log2) * u.pitch

/-- Hayloft byte address of a surface. -/
def Stall.surfaceAt (x : Stall) (u : Surface) : Option Nat := (x.window u.win).map (fun e => e.1 + u.at_)

/-- Parameter words that hold the input surfaces in use, in the order of exposures, planes or sources (R260, R264, R265).
The direct-path kernel reads its ring instead (R261). -/
def inputWords (l : LibKernel) (k : KIn) : List Nat :=
  match l with
  | .ispT => (upTo k.nexp).map (2 + ·)
  | .ispL => []
  | .scaleT => (upTo (bits (k.par 0) 2 0)).map (8 + ·)
  | .stitchT => (upTo (bits (k.par 0) 2 0)).flatMap (fun i => if bit (k.par 0) 4 then [2 + 3 * i] else [2 + 3 * i, 3 + 3 * i, 4 + 3 * i])

/-- Parameter words that hold the output surfaces in use. -/
def outputWords (l : LibKernel) (k : KIn) : List Nat :=
  match l with
  | .ispT => [6]
  | .ispL => []
  | .scaleT => (upTo (bits (k.par 0) 2 0)).map (12 + ·)
  | .stitchT => if bit (k.par 0) 4 then [14] else [14, 15, 16]

/-- Width and height of the output (R237). -/
def outSize (l : LibKernel) (k : KIn) : Nat × Nat :=
  let w := match l with | .scaleT => k.par 2 | _ => k.par 1
  (bits w 12 0 + 1, bits w 28 16 + 1)

/-- Bytes of an input sample or pixel: gate containers of RAW8–RAW16 are 16 bits (Table GT-2). -/
def inputBytes (l : LibKernel) (k : KIn) : Nat :=
  match l with
  | .scaleT => if bit (k.par 0) 4 then 1 else 2
  | .stitchT => if bit (k.par 0) 4 then 4 else 2
  | _ => 2

/-! ### Frames of rings (R188, R191, R236) -/

/-- Slot of `Stall.inputs` that holds the frames of a pair's direct-path ring. -/
def directInput : Nat := 2

/-- Change the last frame of a list. -/
def onLast {α : Type} (f : α → α) : List α → List α
  | [] => []
  | [a] => [f a]
  | a :: l => a :: onLast f l

/-- Stalls and input slots that a ring at a hayloft address feeds. -/
def State.ringReaders (s : State) (at_ : Nat) : List (Nat × Nat) :=
  s.stalls.flatMap (fun e =>
    match e.2.library with
    | some l =>
      let k := s.kin e.2
      (inputWords l k).filterMap (fun i =>
        let u := surfaceOf 1 (k.par i)
        if u.log2 ≠ 0 ∧ e.2.surfaceAt u = some at_ then some (e.1, i) else none)
    | none => [])

/-- Both stalls of a pair that runs the direct-path kernel, with the slot of its ring. -/
def State.pairReaders (s : State) (n : Nat) : List (Nat × Nat) :=
  if (s.stall n).library = some .ispL then [(n, directInput)] else []

/-- Change the frames in an input slot of each reader. -/
def feed (rs : List (Nat × Nat)) (f : List InFrame → List InFrame) (s : State) : State :=
  rs.foldl (fun t r =>
    let x := t.stall r.1
    t.setStall r.1 { x with inputs := SMap.put x.inputs [] r.2 (f (SMap.get x.inputs [] r.2)) }) s

/-- A record reaches the readers: OPEN begins a frame, CLOSE ends it (R188). -/
def feedRecord (rs : List (Nat × Nat)) (tag : List Word) (s : State) : State :=
  feed rs (fun l => if bits (wAt tag 7) 25 24 = 1 then l ++ [⟨tag, [], false, false⟩]
    else onLast (fun f => { f with tag := tag, closed := true }) l) s

/-- A line reaches the readers; `ok` is false for one that did not decode (R297). -/
def feedLine (rs : List (Nat × Nat)) (bs : List Byte) (ok : Bool) (s : State) : State :=
  feed rs (onLast (fun f => { f with lines := f.lines ++ [bs], bad := f.bad || !ok })) s

/-- A flush takes what has not been read (R192). -/
def feedFlush (rs : List (Nat × Nat)) (s : State) : State := feed rs (fun _ => []) s

/-! ### The stream behind a surface (R235, R240) -/

/-- Pixel data type and CFA of the gate stream, or of the paddock frames a fill delivers, whose ring is at an address. -/
def State.streamOf (s : State) (at_ : Nat) : Option (Nat × Bool) :=
  let gates := (upTo 8).flatMap (fun g => (upTo 16).map (fun c => s.gwords g c))
  let pad := s.store.pads.find? (fun e => (upTo 2).any (fun k => match SMap.get e.2.fills none k with
    | some f => 64 * f.ring == at_
    | none => false))
  let feeds (w : GWords) : Bool := (w.kind == 2 && w.ringAt == at_)
    || (match pad with | some e => w.kind == 1 && F.GATE_TARGET_PADDOCK.get w.target == e.1 | none => false)
  (gates.find? (fun w => F.GATE_CTRL_OPEN.get w.ctrl == 1 && feeds w)).map (fun w => (w.dt, w.cfa))

/-- The frame a kernel processes from an input slot: the oldest. -/
def Stall.frameIn (x : Stall) (i : Nat) : Option InFrame := (SMap.get x.inputs [] i).head?

/-- The data type and CFA a kernel works under: those of the frame in hand, of the stream that feeds its first surface or
its direct path, or, for a surface that no stream feeds, none and a free CFA (R240, log entry 26). -/
def State.kernelStream (s : State) (l : LibKernel) (x : Stall) : Option Nat × Bool :=
  let at_ := (x.surfaceAt (surfaceOf 1 (x.par 2))).getD 0
  match x.frameIn 2 with
  | some f => if f.closed then (some (bits (wAt f.tag 0) 29 24), bit (wAt f.tag 11) 15) else byStream at_
  | none => byStream at_
where
  /-- What the configured stream says. -/
  byStream (at_ : Nat) : Option Nat × Bool :=
    let w := match l with
      | .ispL => (upTo 4).findSome? (fun h =>
          if (SMap.get s.heads Head.rest h).direct ∧ (s.stall (s.fld (R.HEAD_DIR_SRC h) F.HEAD_DIR_SRC_PAIR)) = x then
            let w := s.gwords (s.fld (R.HEAD_DIR_SRC h) F.HEAD_DIR_SRC_GATE) (s.fld (R.HEAD_DIR_SRC h) F.HEAD_DIR_SRC_CTX)
            some (w.dt, w.cfa)
          else none)
      | _ => s.streamOf at_
    match w with
    | some (dt, cfa) => (some dt, cfa)
    | none => (none, Config.surfaceCfa at_)

/-! ### The checks of a launch (R235, R238, R239) -/

/-- Lines a stage of the ISP reaches beyond its own (R239, R252, R253). -/
def ispReach (mono : Bool) (k : KIn) : Nat :=
  Nat.max (if k.stage 1 || k.stage 2 || k.stage 8 then 2 else 0)
    (if k.stage 7 && !mono then (if bit (k.par 0) 20 then 3 else 1) else 0)

/-- The stage code a library kernel traps with at launch; none where its parameters are good (Table IF-3). -/
def libTrap (l : LibKernel) (s : State) (x : Stall) : Option Nat :=
  let k := s.kin x
  let (dt, cfa) := s.kernelStream l x
  let depths := ((inputWords l k).all (fun i => (surfaceOf 1 (k.par i)).depthOk))
    && ((outputWords l k).all (fun i => (surfaceOf 2 (k.par i)).depthOk && (l != .ispT || (surfaceOf 2 (k.par i)).log2 == 0)))
  let isp (line : Bool) : Option Nat :=
    if dt = some 0x2F ∨ dt = some 0x27 ∨ k.height ≤ ispReach (!cfa) k ∨ !depths then some 0x0C else ispTrap line (!cfa) k
  match l with
  | .ispT => isp false
  | .ispL => isp true
  | .scaleT => if depths then scaleTrap k else some 0x0C
  | .stitchT => if depths then stitchTrap k else some 0x0C

/-! ### Windows (R212, R236) -/

/-- Lines of input above and below an output line that a kernel reads. -/
def support (l : LibKernel) (k : KIn) : Nat :=
  match l with
  | .ispT | .ispL => ispSupport k / 2
  | _ => 0

/-- The stripe of a stall at position `p` of `n`, and the input lines it reads: first line and line after the last. -/
def stripeIn (l : LibKernel) (k : KIn) (p n : Nat) : (Nat × Nat) × (Nat × Nat) :=
  let (lo, hi) := stripeOf p n (outSize l k).2
  match l with
  | .scaleT =>
    let h := bits (k.par 1) 28 16 + 1
    let row (v : Nat) : Int := (scalePos (bits (k.par 4) 19 0) (sext 32 (k.par 6).toNat) v).1
    ((lo, hi), ((clampI 0 (h - 1 : Nat) (row lo - 3)).toNat, (clampI 0 (h - 1 : Nat) (row (hi - 1) + 4)).toNat + 1))
  | _ => ((lo, hi), (lo - support l k, Nat.min (outSize l k).2 (hi + support l k)))

/-- A surface's bytes from line `lo` to before line `hi`, `n` bytes a line: window, offset and length. -/
def Surface.span (u : Surface) (lo hi n : Nat) : Nat × Nat × Nat :=
  if hi ≤ lo then (u.win, 0, 0)
  else if u.log2 = 0 then (u.win, u.line lo, (hi - 1 - lo) * u.pitch + n)
  else (u.win, u.at_, (2 ^ u.log2 - 1) * u.pitch + n)

/-- Tables of window 0 that a kernel reads. -/
def tableSpans (l : LibKernel) (k : KIn) : List (Nat × Nat × Nat) :=
  let tab (on : Bool) (off len : Nat) : List (Nat × Nat × Nat) := if on then [(0, 64 * off, len)] else []
  let grid (on : Bool) (wa wb n : Nat) : List (Nat × Nat × Nat) :=
    tab on (bits (k.par wb) 15 0) ((n - 1) * gridBytes (k.grid wa wb 0) + 2 * (k.grid wa wb 0).gw * (k.grid wa wb 0).gh)
  match l with
  | .ispT | .ispL => tab (k.stage 1) (bits (k.par 17) 31 16) (4 * bits (k.par 17) 13 0) ++ grid (k.stage 4) 25 26 4
      ++ tab (k.stage 9) (bits (k.par 55) 15 0) 194 ++ grid (k.stage 10) 56 57 1 ++ tab (k.stage 12) (bits (k.par 65) 15 0) 514
  | .scaleT => tab (bit (k.par 0) 5) (bits (k.par 7) 15 0) 1024
  | .stitchT => (upTo (bits (k.par 0) 2 0)).flatMap (fun i => grid true (17 + 2 * i) (18 + 2 * i) 1)

/-- Bytes of an output line, plane by plane of its surface. -/
def outBytes (l : LibKernel) (k : KIn) : Nat :=
  let w := (outSize l k).1
  match l with
  | .ispT | .ispL => (match (if k.stage 13 then bits (k.par 7) 3 0 else 0) with | 1 | 3 => 4 * w | 4 => w | _ => 2 * w)
  | .scaleT => w * inputBytes l k
  | .stitchT => w * inputBytes l k

/-- Planes that stand one after another on one output surface (R259, R316). -/
def outPlanes (l : LibKernel) (k : KIn) : Nat :=
  match l with
  | .ispT => if k.stage 13 && bits (k.par 7) 3 0 != 0 then 1 else 3
  | _ => 1

/-- Width of an input line in samples or pixels. -/
def inWidth (k : KIn) : Nat := bits (k.par 1) 12 0 + 1

/-- What a kernel reads, and what it writes, as spans of its windows. -/
def readSpans (l : LibKernel) (k : KIn) (p n : Nat) : List (Nat × Nat × Nat) :=
  let r := (stripeIn l k p n).2
  tableSpans l k ++ (inputWords l k).map (fun i => (surfaceOf 1 (k.par i)).span r.1 r.2 (inWidth k * inputBytes l k))

def writeSpans (l : LibKernel) (k : KIn) (p n : Nat) : List (Nat × Nat × Nat) :=
  let r := (stripeIn l k p n).1
  let h := (outSize l k).2
  (outputWords l k).flatMap (fun i => (upTo (outPlanes l k)).map (fun j =>
    let u := surfaceOf 2 (k.par i)
    { u with at_ := u.at_ + j * h * u.pitch }.span r.1 r.2 (outBytes l k)))
  ++ (if l = .ispT ∧ k.stage 6 then
      let zx := bits (k.par 31) 5 0
      let zy := bits (k.par 31) 13 8
      [(3, statsAt (bits (k.par 31) 31 16) p zx zy, 64 + 32 * zx * zy + 768)] else [])

/-- A span lies in its window, which is writable where the kernel writes it (R212). -/
def Stall.spanOk (x : Stall) (write : Bool) (e : Nat × Nat × Nat) : Bool :=
  e.2.2 == 0 || x.wins.any (fun w => w.no == e.1 && (w.writable || !write) && decide (e.2.1 + e.2.2 ≤ 64 * w.size))

/-- Every access of a kernel stays in its windows. -/
def libReaches (l : LibKernel) (s : State) (x : Stall) (p n : Nat) : Bool :=
  let k := s.kin x
  (readSpans l k p n).all (x.spanOk false) && (writeSpans l k p n).all (x.spanOk true)

/-- A kernel has read data with an uncorrectable error (R207, R297). -/
def libPoor (l : LibKernel) (s : State) (x : Stall) (p n : Nat) : Bool :=
  let k := s.kin x
  (readSpans l k p n).any (fun e => match x.window e.1 with | some (b, _) => e.2.2 != 0 && s.hayPoor (b + e.2.1) e.2.2 | none => false)
  || (inputWords l k).any (fun i => match x.frameIn i with | some f => f.bad | none => false)

/-! ### Inputs of a tick's work -/

/-- Input slots that are rings. -/
def ringInputs (l : LibKernel) (k : KIn) : List Nat := (inputWords l k).filter (fun i => (surfaceOf 1 (k.par i)).log2 ≠ 0)

/-- GSEQ of the group instance whose frames a kernel takes next: the oldest with a closed frame in hand (R186, R247). -/
def nextGroup (fs : List InFrame) : Option Word :=
  (fs.filter (·.closed)).foldl (fun b f =>
    match b with
    | none => some (wAt f.tag 12)
    | some q => if (q - wAt f.tag 12).toNat < 2 ^ 31 then some (wAt f.tag 12) else some q) none

/-- The frame in hand at an input slot: for exposures of a group only one of the instance taken. -/
def Stall.taken (x : Stall) (l : LibKernel) (k : KIn) (i : Nat) : Option InFrame :=
  match x.frameIn i with
  | none => none
  | some f =>
    if !f.closed then none
    else if l = .ispT ∧ 1 < k.nexp then
      (if nextGroup ((ringInputs l k).filterMap x.frameIn) = some (wAt f.tag 12) then some f else none)
    else some f

/-- The inputs of a tick's work are there: every ring has delivered its frame, a group's at least one exposure. -/
def libReady (l : LibKernel) (s : State) (x : Stall) : Bool :=
  let k := s.kin x
  let rings := ringInputs l k
  rings.isEmpty || (if l = .ispT then rings.any (fun i => (x.taken l k i).isSome) else rings.all (fun i => (x.taken l k i).isSome))

/-- The bytes of an input line: of a whole-frame surface, or of the frame that a ring delivered; none for a line that
never came. -/
def State.inLine (s : State) (l : LibKernel) (x : Stall) (i v : Nat) : Option (List Byte) :=
  let k := s.kin x
  let u := surfaceOf 1 (k.par i)
  if u.log2 = 0 then
    (x.window 1).map (fun e => s.hayRead (e.1 + u.line v) (inWidth k * inputBytes l k))
  else (x.taken l k i).bind (fun f => f.lines[v]?)

/-- The inputs of a kernel with the lines fetched once: input slot, line. -/
def State.inLines (s : State) (l : LibKernel) (x : Stall) (i : Nat) : List (Option (List Byte)) :=
  (upTo (bits (x.par 1) 28 16 + 1)).map (s.inLine l x i)

def u16At (bs : List Byte) (i : Nat) : Nat := bAt bs (2 * i) + 256 * bAt bs (2 * i + 1)

/-- Exposures from fetched lines (R247). -/
def exposuresOf (ls : List (List (Option (List Byte)))) : Exposures :=
  fun e xx y => ((ls.getD e []).getD y none).map (fun bs => u16At bs xx)

/-- A plane from fetched lines; a line that never came holds free samples. -/
def planeOf (one : Bool) (tag : Nat) (ls : List (Option (List Byte))) : Pic := fun xx y =>
  match ls.getD y.toNat none with
  | some bs => ((if one then bAt bs xx.toNat else u16At bs xx.toNat : Nat) : Int)
  | none => ((Config.lostSample tag xx.toNat y.toNat % (if one then 256 else 65536) : Nat) : Int)

/-! ### What the work leaves -/

/-- Write a line of an output surface. -/
def putLine (x : Stall) (i h plane v : Nat) (bs : List Byte) (s : State) : State :=
  let u := surfaceOf 2 (x.par i)
  match x.window 2 with
  | some (b, _) => s.hayWrite (b + plane * h * u.pitch + u.line v) bs
  | none => s

/-- Lines of the stripe of stall `p` of `n`. -/
def stripeLines (l : LibKernel) (k : KIn) (p n : Nat) : List Nat :=
  let r := (stripeIn l k p n).1
  (upTo (r.2 - r.1)).map (r.1 + ·)

/-- The statistics block of a stripe (R250, R251); a monochrome stream has no colour statistics (R240). The tag of a
surface that no ring feeds is a value the spec does not state. -/
def statsEffect (x : Stall) (k : KIn) (src : Exposures) (p n : Nat) (s : State) : State :=
  let zx := bits (k.par 31) 5 0
  let zy := bits (k.par 31) 13 8
  let r := (stripeIn .ispT k p n).1
  let tag := match x.taken .ispT k 2 with
    | some f => f.tag
    | none => (upTo 8).map (fun i => Config.freeWord (s.fresh + i))
  let st := statsOf k.phase zx zy (k.width / 2) (k.height / 2) ((r.1 + 1) / 2) ((r.2 + 1) / 2)
    (bits (k.par 33) 23 0 : Nat) (bits (k.par 32) 23 0 : Nat) (ispTap false k src)
  match x.window 3 with
  | some (b, _) => { s with fresh := s.fresh + 8 }.hayWrite (b + statsAt (bits (k.par 31) 31 16) p zx zy) (statsBlock tag st)
  | none => s

/-- The output of a tick's work of stall position `p` of `n` (R237, R251, R259, R264, R265). -/
def libOutput (l : LibKernel) (x : Stall) (p n : Nat) (s : State) : State :=
  let k := s.kin x
  let h := (outSize l k).2
  let w := (outSize l k).1
  let ins := (inputWords l k).map (s.inLines l x)
  let vs := stripeLines l k p n
  match l with
  | .ispT =>
    let mono := !(s.kernelStream l x).2
    let src := exposuresOf ins
    let s := vs.foldl (fun t v =>
      ((upTo 3).zip (ispLine false mono k src v)).foldl (fun t e => putLine x 6 h e.1 v e.2 t) t) s
    if k.stage 6 && !mono then statsEffect x k src p n s else s
  | .ispL => s
  | .scaleT =>
    let one := bit (k.par 0) 4
    (upTo (bits (k.par 0) 2 0)).foldl (fun t j =>
      let f := planeOf one s.fresh (ins.getD j [])
      vs.foldl (fun t v => putLine x (12 + j) h 0 v
        ((upTo w).flatMap (fun xx => leBytes (if one then 1 else 2) (scaleT k f xx v).toNat)) t) t) s
  | .stitchT =>
    if bit (k.par 0) 4 then
      let px (xx v i : Nat) : List Byte := match (ins.getD i []).getD v none with
        | some bs => (bs.drop (4 * xx)).take 4
        | none => wordBytes (w32 (Config.lostSample s.fresh xx v))
      vs.foldl (fun t v => putLine x 14 h 0 v ((upTo w).flatMap (fun xx => stitchRgba k (px xx v) xx v)) t) s
    else
      let pl (i j : Nat) : Pic := planeOf false s.fresh (ins.getD (3 * i + j) [])
      let px (xx v i : Nat) : Rgb := ⟨pl i 0 (xx : Int) (v : Int), pl i 1 (xx : Int) (v : Int), pl i 2 (xx : Int) (v : Int)⟩
      let line (g : Rgb → Int) (v : Nat) : List Byte :=
        (upTo w).flatMap (fun (xx : Nat) => leBytes 2 (g (stitchU16 k (px xx v) xx v)).toNat)
      vs.foldl (fun t v => putLine x 16 h 0 v (line (·.b) v) (putLine x 15 h 0 v (line (·.g) v)
        (putLine x 14 h 0 v (line (·.r) v) t))) s

/-- An exposure of the group instance in hand is absent, or a frame in hand lacks one (R187, R247). -/
def hdrLack (l : LibKernel) (s : State) (x : Stall) : Bool :=
  let k := s.kin x
  l == .ispT && (ringInputs l k).any (fun i => match x.taken l k i with
    | some f => bit (wAt f.tag 10) 7
    | none => true)

/-- The frames in hand are done with: each ring goes on to its next. -/
def Stall.release (x : Stall) (l : LibKernel) (k : KIn) : Stall :=
  { x with inputs := (ringInputs l k).foldl (fun m i =>
      if (x.taken l k i).isSome then SMap.put m [] i ((SMap.get m [] i).drop 1) else m) x.inputs }

/-- A tick's work of a library kernel ends: its outputs stand in the hayloft. -/
def libWork (n : Nat) (p cnt : Nat) (s : State) : State :=
  let x := s.stall n
  match x.library with
  | none => s
  | some l =>
    let lack := hdrLack l s x
    let t := libOutput l x p cnt s
    let y := (t.stall n).release l (s.kin x)
    t.setStall n { y with hdrLack := lack }

/-! ### The direct path (R261) -/

/-- Output lines that end with input line `v`: the newest whose support has come, and with the last input line the rest
(log entry 26). -/
def linesDue (k : KIn) (v : Nat) : List Nat :=
  let r := ispSupport k / 2
  let from_ := if v < r then v + 1 else v - r
  if v + 1 = k.height then (upTo (k.height - from_)).map (from_ + ·) else if r ≤ v then [v - r] else []

/-- The frame a pair works on, by the SEQ of its tag. -/
def Stall.directFrame (x : Stall) : Option InFrame :=
  (SMap.get x.inputs [] directInput).find? (fun f => wAt f.tag 2 = x.frameSeq)

/-- Output lines of the current frame that are in the output ring once the present line has ended: one by each ENDL, and
of the library's kernel those it writes (R223, R261). -/
def State.linesEnded (s : State) (n : Nat) : Nat :=
  let x := s.stall n
  match x.library with
  | some .ispL => match (linesDue (s.kin x) x.line).getLast? with | some v => v + 1 | none => x.outEnd
  | _ => x.line + 1

/-- A line of the direct-path kernel ends: the output lines due reach the output rings of the heads it serves. -/
def libLine (n : Nat) (s : State) : State :=
  let x := s.stall n
  match x.library, x.directFrame with
  | some .ispL, some f =>
    let k := s.kin x
    let mono := !(s.kernelStream .ispL x).2
    let src := exposuresOf [f.lines.map some]
    let t := (s.pairHeads n).foldl (fun t h =>
      let (base, log2, pitch) := t.dirOut h
      (linesDue k x.line).foldl (fun t v =>
        t.hayWrite (base + v % 2 ^ log2 * pitch) ((ispLine true mono k src v).flatten.take pitch)) t) s
    let y := t.stall n
    let left := (SMap.get y.inputs [] directInput).dropWhile (fun g => wAt g.tag 2 ≠ x.frameSeq)
    t.setStall n { y with inputs := SMap.put y.inputs [] directInput left }
  | _, _ => s

end Sys2Proof.Machine
end

