-- ==== Sys2Proof/Machine/Store.lean ====
section
/-! DEFINITION. The frame store and the paddocks (chapter 10): addressed reads and writes with their error
handling, slots, marks, fills and drains. -/

namespace Sys2Proof.Machine

/-! ### The address hash (R307) -/

/-- Parity of the ones of a number below 2^n. -/
def parity (n v : Nat) : Bool := (onesOf v n).length % 2 == 1

/-- Pseudo-channel of a physical address under six masks (R307). -/
def pseudoChannel (masks : List (BitVec 18)) (a : Nat) : Nat :=
  let hi := a / 2 ^ 14
  let h := maskOf ((upTo 6).filter (fun b => parity 18 (hi &&& ((masks.getD b 0).toNat))))
  (a / 256 % 64) ^^^ h

/-- Channel-local address of a physical address (R307). -/
def localAddr (a : Nat) : Nat := (a / 2 ^ 14) * 256 + a % 256

/-! ### Checked accesses (R310) -/

/-- Record one uncorrectable read of granule `g` (R310). -/
def noteUncorr (g : Nat) (s : State) : State :=
  let pc := pseudoChannel s.store.masks (g * 256)
  let s := s.incSat (R.FS_CH_ECC pc) F.FS_CH_ECC_UNCORR 1
  let s := s.incSat R.FS_ECC_TOTAL F.FS_ECC_TOTAL_UNCORR 1
  (s.setFld R.FS_LAST_ERR F.FS_LAST_ERR_GRANULE g).raise Ev.FS_ECC_UNCORR 0 0

/-- Record one correction in granule `g` (R310). -/
def noteCorr (g : Nat) (s : State) : State :=
  let pc := pseudoChannel s.store.masks (g * 256)
  (s.incSat (R.FS_CH_ECC pc) F.FS_CH_ECC_CORR 1).incSat R.FS_ECC_TOTAL F.FS_ECC_TOTAL_CORR 1

/-- The poisoned granules a byte range touches. -/
def State.poisonIn (s : State) (a n : Nat) : List Nat :=
  s.store.poison.filter (fun g => decide (g * 256 < a + n ∧ a < (g + 1) * 256))

/-- Read bytes, with the errors met recorded; false where the data is poisoned (R310) or the frame store is dark, which no
unit reaches (R304). -/
def State.fsLoad (s : State) (a n : Nat) : List Byte × Bool × State :=
  if s.fsDark then (List.replicate n 0, false, s) else
  let bad := s.poisonIn a n
  (s.fsRead a n, bad.isEmpty, bad.foldl (fun t g => noteUncorr g t) s)

/-- Write bytes. A granule written whole is good again. A partial write of a 128-bit word of a poisoned granule
needs a read-modify-write that fails: those bytes are not written, and the answer is then false (Table FS-2). No write
reaches a dark frame store (R304). -/
def State.fsStore (s : State) (a : Nat) (bs : List Byte) : Bool × State :=
  if s.fsDark then (true, s) else
  let n := bs.length
  let bad := s.poisonIn a n
  let whole (g : Nat) : Bool := decide (a ≤ g * 256 ∧ (g + 1) * 256 ≤ a + n)
  let torn (w : Nat) : Bool := decide (w * 16 < a ∨ a + n < (w + 1) * 16) && bad.contains (w / 16)
  let s := { s with store := { s.store with poison := s.store.poison.filter (fun g => !(bad.contains g && whole g)) } }
  if !torn (a / 16) && !torn ((a + n - 1) / 16) then (true, s.fsWrite a bs)
  else (false, (upTo n).foldl (fun t i => if torn ((a + i) / 16) then t else t.fsWrite (a + i) [bs.getD i 0]) s)

/-! ### Geometry of a paddock (R312) -/

/-- Pitch in bytes. -/
def Paddock.pitchB (p : Paddock) : Nat := p.pitch * 256

/-- Bytes of one slot, padded to 4 KiB. -/
def Paddock.slotBytes (p : Paddock) : Nat := ceilDiv (4096 + p.planes * (p.pitchB * p.lines)) 4096 * 4096

def Paddock.slotAddr (p : Paddock) (i : Nat) : Nat := p.base * 4096 + i * p.slotBytes

/-- Address of line `v` of a plane of a slot. -/
def Paddock.lineAddr (p : Paddock) (slot plane v : Nat) : Nat :=
  p.slotAddr slot + 4096 + plane * (p.pitchB * p.lines) + v * p.pitchB

/-- End of the paddock's heap range. -/
def Paddock.endAddr (p : Paddock) : Nat := p.slotAddr p.slots

/-! ### Sequence numbers (R313) -/

/-- The SEQ after `q`. -/
def seqNext (q : Word) : Word := if q = 0xFFFFFFFE then 1 else q + 1

/-- Frames from `q'` to `q`, modulo 2^32 − 2. -/
def seqDist (q q' : Word) : Nat := (q.toNat + (2 ^ 32 - 2) - q'.toNat % (2 ^ 32 - 2)) % (2 ^ 32 - 2)

/-- `q` is newer than `q'`. -/
def seqNewer (q q' : Word) : Bool := decide (1 ≤ seqDist q q' ∧ seqDist q q' ≤ 2 ^ 31 - 1)

def PSlot.none : PSlot := ⟨.empty, 0, 0, Option.none, 0⟩

def Paddock.slot (p : Paddock) (i : Nat) : PSlot := SMap.get p.ring PSlot.none i
def Paddock.setSlot (p : Paddock) (i : Nat) (x : PSlot) : Paddock := { p with ring := SMap.put p.ring PSlot.none i x }

/-- The slot that holds frame `q` COMPLETE. -/
def Paddock.slotOf (p : Paddock) (q : Word) : Option Nat :=
  (upTo p.slots).find? (fun i => (p.slot i).state == .complete && (p.slot i).seq == q)

/-- The newest COMPLETE slot that is not newer than frame `lim` (R335): its number and SEQ. -/
def Paddock.newestBy (p : Paddock) (lim : Word) : Option (Nat × Word) :=
  (upTo p.slots).foldl (fun best i =>
    let q := (p.slot i).seq
    if (p.slot i).state ≠ .complete ∨ lim = 0 ∨ seqNewer q lim then best
    else match best with
    | some (_, r) => if seqNewer q r then some (i, q) else best
    | none => some (i, q)) Option.none

def Paddock.mark (p : Paddock) (m : Nat) : Option Mark := SMap.get p.marks none m
def Paddock.fill (p : Paddock) (k : Nat) : Option Fill := SMap.get p.fills none k

/-- Unit address of a paddock. -/
def padUnit (p : Nat) : Nat := 0x7000 + p

/-! ### Readers' implicit marks (R317) -/

/-- Readers of slots: fills 0 and 1, DMA channels, remap engines, head layers. -/
def readerFill (k : Nat) : Nat := k
def readerDma (c : Nat) : Nat := 16 + c
def readerRemap (n : Nat) : Nat := 32 + n
def readerHead (h l : Nat) : Nat := 64 + 32 * h + l

def holdMark (p slot reader : Nat) (s : State) : State :=
  match s.pad? p with
  | some x => s.setPad p { x with readers := (slot, reader) :: x.readers }
  | none => s

def dropMark (p slot reader : Nat) (s : State) : State :=
  match s.pad? p with
  | some x => s.setPad p { x with readers := x.readers.filter (· ≠ (slot, reader)) }
  | none => s

/-- The reader's implicit mark on the slot still stands. -/
def State.markHeld (s : State) (p slot reader : Nat) : Bool :=
  match s.pad? p with
  | some x => x.readers.contains (slot, reader)
  | none => false

/-! ### The writer (R313, R318) -/

/-- Count and raise one lost mark (R318). -/
def markLost (p m : Nat) (q : Word) (s : State) : State :=
  let a := R.PAD_STATUS p
  (s.setReg a (Fld.put ⟨23, 20⟩ (satAdd (bits (s.reg a) 23 20) 1 15) (s.reg a))).raise Ev.MARK_LOST (padUnit p)
    (evArg m 0 q.toNat)

/-- The writer's frame start asks for the next slot, with the samples of a line it will write: none where a mark holds
the slot under hold (R318). Where the frame before it still waits for its tag (R187, R189), it takes the slot after that
frame's (R313). -/
def claimSlot (p samples : Nat) (s : State) : Option Nat × State :=
  match s.pad? p with
  | none => (none, s)
  | some x =>
    let x := { x with hold := x.holdNext }
    let i := if (x.slot x.nextSlot).state = .writing then (x.nextSlot + 1) % x.slots else x.nextSlot
    let sl := x.slot i
    let q := sl.seq
    let live := sl.state == .complete
    let explicit := (upTo 4).filter (fun m => match x.mark m with | some k => !k.lost && live && k.seq == q | none => false)
    let implicit := x.readers.filter (fun r => r.1 = i)
    if (explicit.isEmpty && implicit.isEmpty) || !x.hold then
      let marks := explicit.foldl (fun ms m => SMap.put ms none m (some ⟨q, true⟩)) x.marks
      let prof := if x.coded then s.reg (R.CODEC_PROF x.prof) else 0
      let x := { x with marks := marks, readers := x.readers.filter (fun r => r.1 ≠ i) }
      let s := s.setPad p (x.setSlot i ⟨.writing, q, prof, none, samples⟩)
      let s := explicit.foldl (fun t m => markLost p m q t) s
      (some i, implicit.foldl (fun t _ => markLost p 0xF q t) s)
    else
      let s := s.setPad p x
      let a := R.PAD_STATUS p
      let s := s.setReg a (Fld.put ⟨19, 16⟩ (satAdd (bits (s.reg a) 19 16) 1 15) (s.reg a))
      (none, s.raise Ev.PAD_HOLD_DROP (padUnit p) 0)

/-- The paddock that holds the slot a writer is writing: the one of that index, or one deleted since the frame
began (R320). -/
def State.padFor (s : State) (p slot : Nat) : Option Paddock :=
  let old := (s.store.gone.find? (fun e => e.1 = p)).map (·.2)
  match s.pad? p with
  | some x => if (x.slot slot).state = .writing then some x else old
  | none => old

/-- The frame of a deleted paddock ends: nobody is notified (R320). -/
def forgetGone (p : Nat) (s : State) : State := { s with store := { s.store with gone := SMap.erase s.store.gone p } }

/-- The writer's tag completes its slot (R313). -/
def completeSlot (p i : Nat) (s : State) : State :=
  match s.pad? p with
  | none => forgetGone p s
  | some x =>
    if (x.slot i).state ≠ .writing then forgetGone p s else
    let q := x.nextSeq
    s.setPad p { x.setSlot i { x.slot i with state := .complete, seq := q } with
      nextSlot := (i + 1) % x.slots, nextSeq := seqNext q, newest := q, completed := x.completed + 1 }

/-- The slot is returned unwritten: it consumes no SEQ (R313). -/
def returnSlot (p i : Nat) (s : State) : State :=
  match s.pad? p with
  | none => forgetGone p s
  | some x => if (x.slot i).state = .writing then s.setPad p (x.setSlot i PSlot.none) else forgetGone p s

/-- A yard or remap engine writes into the slot the report of the tick's work (R67, R337). -/
def stampSlot (p i : Nat) (d : DoneRec) (s : State) : State :=
  match s.pad? p with
  | some x => if (x.slot i).state = .writing then s.setPad p (x.setSlot i { x.slot i with from_ := some d }) else s
  | none => s

/-- Samples of a coded line at most (R283). -/
def maxSamples : Nat := 32768

/-- Write a line of containers into a slot, coded where the paddock is (R280). An uncoded line stands at the writer's own
pitch (R190), and none of it outside the slot. -/
def padWriteAt (p slot plane v pitch : Nat) (bs : List Byte) (s : State) : State :=
  match s.padFor p slot with
  | none => s
  | some x =>
    if x.coded then
      let pr := profOf (x.slot slot).prof
      let (c, s) := codecEncode (4 + x.fsc) pr ((samplesOf pr bs).take maxSamples) s
      (s.fsStore (x.lineAddr slot plane v) (c.bytes.take x.pitchB)).2
    else
      let a := x.lineAddr slot plane 0 + v * pitch
      (s.fsStore a (bs.take (x.slotAddr (slot + 1) - a))).2

/-- Write a line at the paddock's pitch: a drain's or a remap engine's (R316). -/
def padWriteLine (p slot plane v : Nat) (bs : List Byte) (s : State) : State :=
  match s.padFor p slot with
  | none => s
  | some x => padWriteAt p slot plane v x.pitchB (bs.take x.pitchB) s

/-- Read a line of a slot in containers; false where it is poisoned or does not decode (R280, R297, R310). The decoder
expects the samples a line that the slot's writer delivered. -/
def padReadLine (p slot plane v : Nat) (s : State) : List Byte × Bool × State :=
  match s.pad? p with
  | none => ([], false, s)
  | some x =>
    let (bs, ok, s) := s.fsLoad (x.lineAddr slot plane v) x.pitchB
    if !x.coded then (bs, ok, s) else
    let pr := profOf (x.slot slot).prof
    let n := (x.slot slot).samples
    if ok then
      let (xs, ok', s) := codecDecode (4 + x.fsc) pr n bs s
      (containersOf pr xs, ok', s)
    else (List.replicate (containerBytes pr n) 0, false, s)

/-- The tag of a slot: sixteen words. -/
def State.slotTag (s : State) (p slot : Nat) : List Word :=
  match s.pad? p with
  | none => []
  | some x => bytesWords (s.fsRead (x.slotAddr slot) 64)

/-! ### Frame tags (Table GT-4) -/

def tagSeq (t : List Word) : Word := wAt t 2
def tagWidth (t : List Word) : Nat := bits (wAt t 9) 13 0
def tagLines (t : List Word) : Nat := bits (wAt t 9) 29 16
def tagTrunc (t : List Word) : Bool := bit (wAt t 10) 0
def tagDamaged (t : List Word) : Bool := bit (wAt t 10) 4

/-- Words 0–7 of a tag as an OPEN record. -/
def openRecord (t : List Word) : List Word :=
  (t.take 7) ++ [Fld.put ⟨25, 24⟩ 1 (wAt t 7)] ++ List.replicate 8 0

/-- A tag as a CLOSE record. -/
def closeRecord (t : List Word) : List Word :=
  (t.take 7) ++ [Fld.put ⟨25, 24⟩ 2 (wAt t 7)] ++ t.drop 8

/-! ### Fills (R315) -/

def setFill (p k : Nat) (f : Fill) (s : State) : State :=
  match s.pad? p with
  | some x => s.setPad p { x with fills := SMap.put x.fills none k (some f) }
  | none => s

/-- A fill's consumer is notified of a line or a record (R191, R315). -/
def fillNotify (p k : Nat) (record : Bool) (s : State) : State :=
  s.emit (.ringNotify (.fill (Fin.ofNat 256 p) (Fin.ofNat 2 k)) record)

/-- A fill writes a record into its tag ring of 16 records, for its consumer to read. -/
def tagRingWrite (p k : Nat) (f : Fill) (ws : List Word) (s : State) : State :=
  fillNotify p k true (feedRecord (s.ringReaders (f.ring * 64)) ws (s.hayWrite (f.tags * 64 + (f.recAt % 16) * 64) (wordsBytes ws)))

/-- A truncated frame closes in the ring at a hayloft address: the stalls one of whose windows holds it have had a
truncated input frame (R66; log entry 17). -/
def noteTrunc (at_ : Nat) (s : State) : State :=
  { s with stalls := s.stalls.map (fun e =>
      if e.2.wins.any (fun w => decide (w.base * 64 ≤ at_ ∧ at_ < (w.base + w.size) * 64)) then (e.1, { e.2 with truncIn := true })
      else e) }

/-- The fill writes its CLOSE record and ends the frame. -/
def fillClose (p k : Nat) (f : Fill) (slot : Nat) (q : Word) (tag : List Word) (s : State) : State :=
  let s := tagRingWrite p k f (closeRecord tag) s
  let s := if tagTrunc tag then noteTrunc (f.ring * 64) s else s
  setFill p k { f with reading := none, dmg := 0, delivered := q, recAt := f.recAt + 1 }
    (dropMark p slot (readerFill k) s)

/-- A ring line that did not decode: a stall that reads it meets an uncorrectable error (R297). -/
def State.hayPoison (s : State) (a n : Nat) : State :=
  { s with hayBad := ((upTo (ceilDiv n 64)).map (fun i => a / 64 + i)).filter (fun g => !s.hayBad.contains g) ++ s.hayBad }

/-- Move a fill on until it waits for credit or has nothing to do; `fuel` bounds the lines and records. -/
def pumpFill (p k : Nat) : Nat → State → State
  | 0, s => s
  | fuel + 1, s =>
    match s.pad? p with
    | none => s
    | some x =>
      match x.fill k with
      | none => s
      | some f =>
        match f.reading with
        | none =>
          if !f.due || f.recCred < 2 then s
          else if x.newest = 0 || !(f.delivered == 0 || seqNewer x.newest f.delivered) then
            setFill p k { f with due := false } s
          else match x.slotOf x.newest with
          | none => setFill p k { f with due := false } s
          | some slot =>
            let passed := if f.delivered = 0 then seqDist x.newest 1 else seqDist x.newest f.delivered - 1
            let a := R.PAD_STATUS p
            let s := s.setReg a (Fld.put ⟨31, 24⟩ (satAdd (bits (s.reg a) 31 24) passed 255) (s.reg a))
            let s := tagRingWrite p k f (openRecord (s.slotTag p slot)) s
            let s := holdMark p slot (readerFill k) s
            pumpFill p k fuel (setFill p k { f with due := false, reading := some (slot, x.newest, 0), dmg := 0,
                                                    recCred := f.recCred - 2, recAt := f.recAt + 1 } s)
        | some (slot, q, v) =>
          let tag := s.slotTag p slot
          if !s.markHeld p slot (readerFill k) then
            pumpFill p k fuel (fillClose p k f slot q
              (tag.set 10 (Fld.put ⟨3, 0⟩ 0xF (wAt tag 10))) s)
          else if v < tagLines tag then
            if f.lineCred = 0 then s else
            let (bs, ok, s) := padReadLine p slot f.plane v s
            let pitch := ceilDiv (Nat.max bs.length 1) 256 * 256
            let bs := if ok then bs else bs.map (fun _ => 0)
            let at_ := f.ring * 64 + f.lineAt % 2 ^ f.log2Depth * pitch
            let s := fillNotify p k false (feedLine (s.ringReaders (f.ring * 64)) bs (ok || !x.coded) (s.hayWrite at_ bs))
            let s := if ok || !x.coded then s else s.hayPoison at_ bs.length
            pumpFill p k fuel (setFill p k { f with reading := some (slot, q, v + 1), lineCred := f.lineCred - 1,
                                                    lineAt := f.lineAt + 1, dmg := f.dmg + b01 (!ok) } s)
          else
            let w10 := wAt tag 10
            let w10 := if f.dmg = 0 then w10
              else Fld.put ⟨31, 16⟩ (satAdd (bits w10 31 16) f.dmg 0xFFFF) (Fld.put ⟨4, 4⟩ 1 w10)
            pumpFill p k fuel (fillClose p k f slot q (tag.set 10 w10) s)

/-- Steps that bound one pumping of a fill: a frame of at most 8192 lines, twice, and their records. -/
def fillFuel : Nat := 16400

/-- At a tick instant every fill is due the newest slot (R315). -/
def tickFills (s : State) : State :=
  s.store.pads.foldl (fun t e =>
    (upTo 2).foldl (fun t k =>
      match (t.pad? e.1).bind (fun x => x.fill k) with
      | some f => pumpFill e.1 k fillFuel (setFill e.1 k { f with due := true } t)
      | none => t) t) s

/-- The consumer of a fill's ring returns credits (R191). -/
def fillCredit (p k lines recs : Nat) (s : State) : State :=
  match (s.pad? p).bind (fun x => x.fill k) with
  | some f =>
    pumpFill p k fillFuel (setFill p k { f with lineCred := satAdd f.lineCred lines (2 ^ f.log2Depth),
                                                recCred := satAdd f.recCred recs 16 } s)
  | none => s

/-! ### Drains (R316) -/

/-- Samples of a line that a drain delivers: the containers of one line of the surface (log entry 11). -/
def drainSamples (x : Paddock) (d : Drain) (s : State) : Nat := sampleCount (s.prof x.prof) (d.pitch * 64)

/-- Copy a yard's surface into a new slot, which carries the yard's report of the tick; true where hold dropped it. The
WIDTH of the tag is a value the spec does not state (log entry 11); HDR_INCOMPLETE is that of a library kernel's output
(R247). -/
def runDrain (p : Nat) (d : Drain) (rec : DoneRec) (lacks : Bool) (s : State) : Bool × State :=
  match claimSlot p (match s.pad? p with | some x => drainSamples x d s | none => 0) s with
  | (none, s) => (true, s)
  | (some slot, s) =>
    match s.pad? p with
    | none => (false, s)
    | some x =>
      let s := (upTo x.planes).foldl (fun t pl => (upTo x.lines).foldl (fun t v =>
        let bs := t.hayRead (d.surface * 64 + (pl * x.lines + v) * (d.pitch * 64)) (d.pitch * 64)
        padWriteLine p slot pl v bs t) t) s
      let (k, s) := s.draw
      let tag : List Word := [1, 0, 0, rec.tick, 0, 0, 0, 0, 0,
        w32 ((Config.freeWord k).toNat % 2 ^ 14 + 65536 * x.lines), w32 (128 * b01 lacks), 0, 0, 0, 0, 0]
      let s := (s.fsStore (x.slotAddr slot) (wordsBytes tag ++ List.replicate 4032 0)).2
      (false, completeSlot p slot (stampSlot p slot rec s))

/-! ### Commands (R323) -/

def padCreateLegal (p : List Word) : Chk :=
  let w := wAt p 0
  let ok0 := decide (2 ≤ bits w 6 0 ∧ bits w 6 0 ≤ 64 ∧ 1 ≤ bits w 10 9)
  let ok2 := decide (1 ≤ bits (wAt p 2) 11 0 ∧ bits (wAt p 2) 11 0 ≤ 256)
  firstOf [inRange ok0 0, inRange ok2 2]

/-- PADDOCK_CREATE's paddock (Table FS-4). -/
def padOf (p : List Word) : Paddock :=
  let w := wAt p 0
  { slots := bits w 6 0, planes := bits w 10 9, base := bits (wAt p 1) 19 0, pitch := bits (wAt p 2) 11 0,
    lines := bits (wAt p 2) 28 16 + 1, coded := bit w 11, fsc := bits w 14 12, prof := bits w 20 16,
    hold := bit w 8, holdNext := bit w 8, ring := [], nextSlot := 0, nextSeq := 1, marks := [], fills := [],
    drain := none, newest := 0, atTick := 0, completed := 0, readers := [] }

/-- The paddocks in order of index. -/
def addPad (i : Nat) (x : Paddock) (l : List (Nat × Paddock)) : List (Nat × Paddock) := SMap.insert l i x

def applyPadCreate (i : Nat) (p : List Word) (s : State) : State :=
  ({ s with store := { s.store with pads := addPad i (padOf p) s.store.pads } }).setReg (R.PAD_STATUS i) 0

/-- PADDOCK_DELETE: marks, sequences and slots cease; a frame being written completes into its slot (R320). -/
def applyPadDelete (i : Nat) (s : State) : State :=
  let gone := match s.pad? i with
    | some x => if x.ring.any (fun e => e.2.state == .writing) then SMap.insert s.store.gone i x else s.store.gone
    | none => s.store.gone
  { s with store := { s.store with pads := SMap.erase s.store.pads i, gone := gone } }

/-- At a tick instant the frames complete so far are those that heads may show in the tick (R335). -/
def padsTick (s : State) : State :=
  { s with store := { s.store with pads := s.store.pads.map (fun e => (e.1, { e.2 with atTick := e.2.newest })) } }

/-- A fill word pair (Table FS-4). -/
def fillOf (a b : Word) : Option Fill :=
  if bit a 31 then
    some { plane := bits a 29 28, log2Depth := bits a 27 24, ring := bits a 19 0, tags := bits b 19 0, delivered := 0,
           due := false, reading := none, dmg := 0, lineCred := 2 ^ bits a 27 24, recCred := 16, lineAt := 0, recAt := 0 }
  else none

def fillLegal (p : List Word) (i : Nat) : Chk :=
  let a := wAt p i
  inRange (!bit a 31 || decide (2 ≤ bits a 27 24 ∧ bits a 27 24 ≤ 7)) i

def padPolicyLegal (p : List Word) : Chk := firstOf [fillLegal p 1, fillLegal p 3]

/-- A new fill keeps the place of an unchanged one. -/
def keepFill (old new : Option Fill) : Option Fill :=
  match old, new with
  | some o, some n =>
    if o.plane = n.plane ∧ o.log2Depth = n.log2Depth ∧ o.ring = n.ring ∧ o.tags = n.tags then some o else some n
  | _, n => n

def applyPadPolicy (i : Nat) (p : List Word) (s : State) : State :=
  match s.pad? i with
  | none => s
  | some x =>
    let f k := keepFill (x.fill k) (fillOf (wAt p (1 + 2 * k)) (wAt p (2 + 2 * k)))
    let d := if bit (wAt p 5) 31 then some ⟨bits (wAt p 5) 23 16, bits (wAt p 5) 19 0, bits (wAt p 6) 11 0⟩ else none
    s.setPad i { x with holdNext := bit (wAt p 0) 0, drain := d,
                        fills := SMap.put (SMap.put x.fills none 0 (f 0)) none 1 (f 1) }

/-- MARK_SET (R319). -/
def markSet (i : Nat) (p : List Word) (s : State) : Done × State :=
  match s.pad? i with
  | none => (.err St.RANGE 1, s)
  | some x =>
    let q := if wAt p 1 = 0xFFFFFFFF then x.newest else wAt p 1
    match x.slotOf q with
    | none => (.err St.RANGE 1, s)
    | some _ =>
      (.ok [q], s.setPad i { x with marks := SMap.put x.marks none (bits (wAt p 0) 1 0) (some ⟨q, false⟩) })

/-- MARK_CLEAR (R319). -/
def markClear (i : Nat) (p : List Word) (s : State) : Done × State :=
  match s.pad? i with
  | none => (.ok [], s)
  | some x =>
    let ms := if wAt p 0 = 0xFF then [] else SMap.put x.marks none (bits (wAt p 0) 1 0) none
    (.ok [], s.setPad i { x with marks := ms })

/-- PAD_p_STATUS as it reads (Table FS-3): the counters that are stored, and the paddock's own state. -/
def State.padStatus (s : State) (i : Nat) : Word :=
  let kept := (s.reg (R.PAD_STATUS i)).toNat / 2 ^ 16 * 2 ^ 16
  match s.pad? i with
  | none => w32 kept
  | some x =>
    let marks := maskOf ((upTo 4).filter (fun m => match x.mark m with | some k => !k.lost | none => false))
    w32 (kept + 1 + 2 * b01 x.hold + 4 * b01 x.coded + 8 * b01 (x.ring.any (fun e => e.2.state == .writing))
      + 16 * marks + 256 * x.slots)

def State.padSeq (s : State) (i : Nat) : Word := match s.pad? i with | some x => x.newest | none => 0

/-- PADDOCK_STATUS's payload. -/
def State.padReport (s : State) (i : Nat) : List Word :=
  let mk (m : Nat) : Word := match (s.pad? i).bind (fun x => x.mark m) with | some k => k.seq | none => 0
  [s.padStatus i, s.padSeq i, mk 0, mk 1, mk 2, mk 3, match s.pad? i with | some x => x.completed | none => 0]

end Sys2Proof.Machine
end

