-- ==== Sys2Proof/Machine/Head.lean ====
section
/-! DEFINITION. Output heads (chapter 11): composition of canvas lines, output streams, region signatures,
echoes and the witness alarm. -/

namespace Sys2Proof.Machine

def State.head (s : State) (n : Nat) : Head := SMap.get s.heads Head.rest n
def State.setHead (s : State) (n : Nat) (h : Head) : State := { s with heads := SMap.put s.heads Head.rest n h }
def State.region (s : State) (n r : Nat) : RegionDyn := SMap.get (s.head n).regions RegionDyn.none r
def State.setRegion (s : State) (n r : Nat) (d : RegionDyn) : State :=
  s.setHead n { s.head n with regions := SMap.put (s.head n).regions RegionDyn.none r d }

def headUnit (n : Nat) : Nat := 0x5000 + n

/-! ### Formats (Tables CW-1 and CW-2) -/

def headFmt (s : State) (n : Nat) : Nat := s.fld (R.HEAD_CTRL n) F.HEAD_CTRL_FMT
def isYuv (fmt : Nat) : Bool := fmt == 1 || fmt == 2

/-- Sample width. -/
def fmtWidth (fmt : Nat) : Nat := if fmt = 2 then 10 else if fmt = 4 then 16 else 8

/-- Data type of an uncoded line. -/
def fmtDt (fmt : Nat) : Nat := match fmt with | 0 => 0x24 | 1 => 0x1E | 2 => 0x1F | 3 => 0x2A | _ => 0x2E

/-- LAYOUT and CONT that a profile must have for the head's samples. -/
def fmtLayout (fmt : Nat) : Nat × Nat := match fmt with | 0 => (2, 1) | 1 => (3, 1) | 2 => (3, 0) | 3 => (0, 1) | _ => (0, 0)

/-- Source format accepted by the head's format. -/
def sfmtOk (fmt sfmt : Nat) : Bool :=
  match fmt with
  | 0 => [0, 1, 4].contains sfmt
  | 1 | 2 => [2, 3, 4].contains sfmt
  | _ => [5, 6].contains sfmt

/-- Samples of `w` pixels in sample order. -/
def samplesOfWidth (fmt w : Nat) : Nat := match fmt with | 0 => 3 * w | 1 | 2 => 2 * w | _ => w

/-- Bytes of an uncoded line of `w` pixels (R330). -/
def lineBytes (fmt w : Nat) : Nat :=
  match fmt with | 0 => 3 * w | 1 => 2 * w | 2 => ceilDiv (5 * w) 2 | 3 => w | _ => 2 * w

/-- The source format in which an output-ring line holds the head's format (R339, log entry 12). -/
def fmtSfmt (fmt : Nat) : Nat := match fmt with | 0 => 1 | 1 => 2 | 2 => 3 | 3 => 5 | _ => 6

/-- Widening to 16 bits (R333). -/
def widen8 (x : Nat) : Nat := 257 * (x % 256)
def widen10 (x : Nat) : Nat := x % 1024 * 64 + x % 1024 / 16

/-- Narrowing of a composed component (R333). -/
def narrow (fmt w : Nat) : Nat :=
  match fmtWidth fmt with
  | 8 => (w * 255 + 32767) / 65535
  | 10 => (w * 1023 + 32767) / 65535
  | _ => w

/-! ### Reading a layer (R331, R332, R335) -/

def layerAddr (n l : Nat) : Nat := R.KCTRL n l

/-- Bytes of a pixel in one plane of a source format (Table CW-2). -/
def sfmtBytes (sfmt : Nat) : Nat := match sfmt with | 0 | 1 | 3 => 4 | 5 => 1 | _ => 2

/-- Bytes of one line of one plane of a layer's source, `cols` pixels of it, and whether they are good. -/
def layerBytes (f : OutFrame) (u : LayUse) (plane line cols : Nat) (s : State) : List Byte × Bool × State :=
  let off := line * (bits u.pitch 15 0 * 64) + plane * (bits u.pitch 31 16 * 4096)
  let len := cols * sfmtBytes (bits u.ctrl 6 4)
  match u.from_ with
  | .slot p slot => padReadLine p slot plane line s
  | .surface =>
    let a := bits u.src 19 0 * 64 + off
    (s.hayRead a len, !s.hayPoor a len, s)
  | .still => s.fsLoad (bits u.src 25 0 * 64 + off) len
  | .camera x =>
    match (SMap.get s.stand.cams Cam.rest x).shown with
    | some (f, g) => (basicTileLine f.bits g f.rows (bits u.size 12 0 + 1) (bits u.size 28 16 + 1) line, true, s)
    | none => ([], true, s)
  | .rom => ((upTo len).map (fun i => Config.romStill (off + i)), true, s)
  | .direct =>
    let p := canvasPitch f.fmt f.w
    let a := F.HEAD_DIR_OUT_BASE.get f.dirOut * 64 + line % 2 ^ F.HEAD_DIR_OUT_LOG2_DEPTH.get f.dirOut * p
    (s.hayRead a p, !s.hayPoor a p, s)
  | _ => ([], true, s)

def le16At (bs : List Byte) (i : Nat) : Nat := bAt bs (2 * i) + 256 * bAt bs (2 * i + 1)

/-- The pixel in column `x` of a line in one of the single-plane formats of Table CW-2. -/
def pixelAt (sfmt : Nat) (bs : List Byte) (x : Nat) : Px :=
  let m := x / 2 * 2
  match sfmt with
  | 0 => ⟨widen8 (bAt bs (4 * x)), widen8 (bAt bs (4 * x + 1)), widen8 (bAt bs (4 * x + 2)), bAt bs (4 * x + 3)⟩
  | 1 => ⟨widen8 (bAt bs (4 * x)), widen8 (bAt bs (4 * x + 1)), widen8 (bAt bs (4 * x + 2)), 255⟩
  | 2 => ⟨widen8 (bAt bs (2 * x + 1)), widen8 (bAt bs (2 * m)), widen8 (bAt bs (2 * m + 2)), 255⟩
  | 3 => ⟨widen10 (le16At bs (2 * x + 1)), widen10 (le16At bs (2 * m)), widen10 (le16At bs (2 * m + 2)), 255⟩
  | 5 => ⟨widen8 (bAt bs x), 0, 0, 255⟩
  | _ => ⟨le16At bs x, 0, 0, 255⟩

/-- The pixels of one line of a layer from column `x0`, `w` of them. -/
def layerPixels (f : OutFrame) (u : LayUse) (line x0 w : Nat) (s : State) : List Px × Bool × State :=
  let fmt := f.fmt
  let sfmt := if u.from_ = .direct then fmtSfmt fmt else bits u.ctrl 6 4
  if sfmt = 4 then
    let (b0, k0, s) := layerBytes f u 0 line (x0 + w) s
    let (b1, k1, s) := layerBytes f u 1 line (x0 + w) s
    let (b2, k2, s) := layerBytes f u 2 line (x0 + w) s
    let px (x : Nat) : Px :=
      if isYuv fmt then
        let m := x / 2 * 2
        ⟨le16At b0 x, (le16At b1 m + le16At b1 (m + 1) + 1) / 2, (le16At b2 m + le16At b2 (m + 1) + 1) / 2, 255⟩
      else ⟨le16At b0 x, le16At b1 x, le16At b2 x, 255⟩
    ((upTo w).map (fun i => px (x0 + i)), k0 && k1 && k2, s)
  else
    let (b, k, s) := layerBytes f u 0 line (x0 + w) s
    ((upTo w).map (fun i => pixelAt sfmt b (x0 + i)), k, s)

/-- One component blended (R334). -/
def blend1 (alpha src dst : Nat) : Nat := (alpha * src + (255 - alpha) * dst + 127) / 255

/-- A layer's pixels drawn over the line from column `x0` (R334). -/
def drawOver (fmt : Nat) (blend : Bool) (ga x0 : Nat) (src line : List Px) : List Px :=
  (upTo line.length).map (fun x =>
    let d := line.getD x ⟨0, 0, 0, 255⟩
    if x < x0 ∨ x0 + src.length ≤ x then d else
    let p := src.getD (x - x0) ⟨0, 0, 0, 255⟩
    if !blend then p else
    let al (q : Px) : Nat := (q.a * ga + 127) / 255
    let a := al p
    let ac := if isYuv fmt then
        let m := x / 2 * 2
        (al (src.getD (m - x0) p) + al (src.getD (m + 1 - x0) p) + 1) / 2
      else a
    ⟨blend1 a p.c0 d.c0, blend1 ac p.c1 d.c1, blend1 ac p.c2 d.c2, 255⟩)

/-- The rectangle of a layer on the canvas. -/
def LayUse.rect (u : LayUse) : Nat × Nat × Nat × Nat :=
  (bits u.dst 12 0, bits u.dst 28 16, bits u.size 12 0 + 1, bits u.size 28 16 + 1)

/-- Draw one layer on canvas line `v`, keeping the source line it took; none where its source fails (R338). -/
def drawLayer (f : OutFrame) (v : Nat) (u : LayUse) (line : List Px) (s : State) : List Px × Option LayUse × State :=
  let (x0, y0, w, h) := u.rect
  let color : Px := ⟨widen8 (bits u.color 7 0), widen8 (bits u.color 15 8), widen8 (bits u.color 23 16), bits u.color 31 24⟩
  let go (src : List Px) : List Px := drawOver f.fmt (bit u.ctrl 7) (bits u.ctrl 15 8) x0 src line
  if v < y0 ∨ y0 + h ≤ v then (line, some u, s) else
  match u.from_ with
  | .none | .fill | .awaited => (line, some u, s)
  | .solid => (go (List.replicate w color), some u, s)
  | .kept => (go (SMap.get u.lines [] (v - y0)), some u, s)
  | _ =>
    let (src, ok, s) := layerPixels f u (bits u.soff 28 16 + (v - y0)) (bits u.soff 12 0) w s
    if ok then (go src, some { u with lines := SMap.insert u.lines (v - y0) src }, s) else (line, none, s)

/-- Reader number and place of a layer's slot. -/
def releaseLayer (n l : Nat) (u : LayUse) (s : State) : State :=
  match u.from_ with
  | .slot p i => dropMark p i (readerHead n l) s
  | _ => s

/-- A layer's source still stands (R318, R338). -/
def State.layerHeld (s : State) (n l : Nat) (u : LayUse) : Bool :=
  match u.from_ with
  | .slot p i => s.markHeld p i (readerHead n l)
  | _ => true

/-- The drawing order: background (16), then kites 0–15 (R331). -/
def layerOrder : List Nat := 16 :: upTo 16

/-- Compose canvas line `v`: the pixels and the layers, a failed one coded late and drawn no further (R338). -/
def composeLine (n v : Nat) (f : OutFrame) (s : State) : List Px × List LayUse × State :=
  let fill : Px := ⟨F.HEAD_FILL_A_C0.get f.fillA, F.HEAD_FILL_A_C1.get f.fillA, F.HEAD_FILL_B_C2.get f.fillB, 255⟩
  layerOrder.foldl (fun (acc : List Px × List LayUse × State) l =>
    let (line, us, t) := acc
    match us[l]? with
    | none => acc
    | some u =>
      if t.layerHeld n l u then
        match drawLayer f v u line t with
        | (line, some y, t) => (line, us.set l y, t)
        | (line, none, t) => (line, us.set l { u with from_ := .none, code := 3 }, releaseLayer n l u t)
      else (line, us.set l { u with from_ := .none, code := 3 }, t))
    (List.replicate f.w fill, f.layers, s)

/-- The samples of a line in sample order, narrowed (Table CW-1, R333). -/
def lineSamples (fmt : Nat) (px : List Px) : List Nat :=
  let nr := narrow fmt
  match fmt with
  | 0 => px.flatMap (fun p => [nr p.c0, nr p.c1, nr p.c2])
  | 1 | 2 => (upTo (px.length / 2)).flatMap (fun m =>
      let p := px.getD (2 * m) ⟨0, 0, 0, 255⟩
      let q := px.getD (2 * m + 1) ⟨0, 0, 0, 255⟩
      [nr p.c1, nr p.c0, nr p.c2, nr q.c0])
  | _ => px.map (fun p => nr p.c0)

/-- An uncoded line on the wire, as CSI-2 packs its data type (log entry 13). -/
def packLine (fmt : Nat) (xs : List Nat) : List Byte :=
  match fmt with
  | 0 => (upTo (xs.length / 3)).flatMap (fun i =>
      [BitVec.ofNat 8 (xs.getD (3 * i + 2) 0), BitVec.ofNat 8 (xs.getD (3 * i + 1) 0), BitVec.ofNat 8 (xs.getD (3 * i) 0)])
  | 2 => (upTo (ceilDiv xs.length 4)).flatMap (fun i =>
      let g := (upTo 4).map (fun j => xs.getD (4 * i + j) 0)
      let k := Nat.min 4 (xs.length - 4 * i)
      (g.take k).map (fun v => BitVec.ofNat 8 (v / 4))
        ++ [BitVec.ofNat 8 ((upTo k).foldl (fun a j => a + g.getD j 0 % 4 * 4 ^ j) 0)])
  | 4 => xs.flatMap (beBytes 2)
  | _ => xs.map (BitVec.ofNat 8)

/-! ### CRC-32C (R344) -/

/-- One bit step of the reflected polynomial. -/
def crcStep (c : BitVec 32) : BitVec 32 :=
  if c.getLsbD 0 then (c >>> 1) ^^^ 0x82F63B78 else c >>> 1

/-- One byte entered, least significant bit first. -/
def crcByte (c : BitVec 32) (b : Byte) : BitVec 32 :=
  crcStep (crcStep (crcStep (crcStep (crcStep (crcStep (crcStep (crcStep (c ^^^ b.setWidth 32))))))))

def crcBytes (c : BitVec 32) (bs : List Byte) : BitVec 32 := bs.foldl crcByte c

/-- CRC-32C of a byte string. -/
def crc32c (bs : List Byte) : BitVec 32 := crcBytes 0xFFFFFFFF bs ^^^ 0xFFFFFFFF

/-- Samples as the CRC takes them. -/
def crcSamples (fmt : Nat) (xs : List Nat) : List Byte :=
  if fmtWidth fmt = 8 then xs.map (BitVec.ofNat 8) else xs.flatMap (leBytes 2)

/-- Columns `x` to `x + w` of a line's samples. -/
def cutSamples (fmt x w : Nat) (xs : List Nat) : List Nat :=
  (xs.drop (samplesOfWidth fmt x)).take (samplesOfWidth fmt w)

/-! ### The alarm (R352–R356) -/

/-- Causes of Table CW-6. -/
def Wc.LOCAL : Nat := 1
def Wc.MISMATCH : Nat := 2
def Wc.MISSING : Nat := 3
def Wc.REPEAT : Nat := 4
def Wc.FREEZE : Nat := 5
def Wc.STALE : Nat := 6
def Wc.LOCKSTEP : Nat := 7
def Wc.NOSOURCE : Nat := 8
def Wc.STOPPED : Nat := 9
def Wc.LINK : Nat := 10

/-- A condition cause is held. -/
def Head.held (h : Head) : Bool := h.nosource || h.stopped || h.link

/-- Record a cause: the alarm, the failing spans and WITNESS_FAIL (R352, R353). -/
def recordCause (n r cause : Nat) (s : State) : State :=
  let h := s.head n
  let a := s.reg (R.HEAD_ALARM n)
  let active := F.HEAD_ALARM_ACTIVE.get a == 1
  let a := Fld.put F.HEAD_ALARM_CAUSES (F.HEAD_ALARM_CAUSES.get a ||| 2 ^ (cause - 1)) (Fld.put F.HEAD_ALARM_ACTIVE 1 a)
  let a := Fld.put F.HEAD_ALARM_LAST_CAUSE cause (Fld.put F.HEAD_ALARM_LAST_REGION r a)
  let s := s.setReg (R.HEAD_ALARM n) a
  let s := if active then s else s.incSat (R.HEAD_WFAIL n) F.HEAD_WFAIL_ALARMS 1
  let s := s.setHead n { h with spans := h.spans.map (fun p => { p with failed := true }), passing := 0 }
  s.raise (Ev.WITNESS_FAIL + n) (headUnit n) (evArg r 0 cause)

/-- The head stops under its fault policy and holds STOPPED (R356). -/
def haltHead (n : Nat) (s : State) : State :=
  recordCause n 0xF Wc.STOPPED (s.setHead n { s.head n with halting := false, halted := true, stopped := true })

/-- Record a cause, and act on it under the fault policy: STOP ends the sending with the frame in progress, or at once
where there is none (R356). -/
def witnessFail (n r cause : Nat) (s : State) : State :=
  let s := recordCause n r cause s
  if !s.flag (R.HEAD_WIT n) F.HEAD_WIT_POLICY || (s.head n).halted then s
  else if (s.head n).frame.isSome then s.setHead n { s.head n with halting := true }
  else haltHead n s

/-- A region's check fails: its status word too (Table CW-8). -/
def regionFail (n r cause : Nat) (s : State) : State :=
  let s := (s.setFld (R.HEAD_TSTAT n r) F.HEAD_TSTAT_LAST_CAUSE cause).incSat (R.HEAD_TSTAT n r) F.HEAD_TSTAT_FAIL 1
  witnessFail n r cause s

/-- Begin to hold a condition cause. -/
def holdCond (n cause : Nat) (s : State) : State :=
  let h := s.head n
  let s := s.setHead n (match cause with
    | 8 => { h with nosource := true } | 9 => { h with stopped := true } | _ => { h with link := true })
  witnessFail n 0xF cause s

def dropCond (n cause : Nat) (s : State) : State :=
  let h := s.head n
  s.setHead n (match cause with
    | 8 => { h with nosource := false } | 9 => { h with stopped := false } | _ => { h with link := false })

/-- The alarm clears (R353). -/
def witnessClear (n : Nat) (s : State) : State :=
  let s := s.setFlag (R.HEAD_ALARM n) F.HEAD_ALARM_ACTIVE false
  (s.setHead n { s.head n with passing := 0 }).raise (Ev.WITNESS_CLEAR + n) (headUnit n) 0

/-- Count the spans that are complete: handed over, with every echo deadline passed (R353). -/
def countSpans (n : Nat) (s : State) : State :=
  let h := s.head n
  let (doneS, open_) := (h.spans.filter (fun p => p.handed && p.waiting == 0), h.spans.filter (fun p => !(p.handed && p.waiting == 0)))
  let s := s.setHead n { h with spans := open_ }
  doneS.foldl (fun t p =>
    let h := t.head n
    let t := t.setHead n { h with passing := if p.failed || h.held then 0 else h.passing + 1 }
    let c := t.fld (R.HEAD_WIT n) F.HEAD_WIT_CLEAR_N
    if t.flag (R.HEAD_ALARM n) F.HEAD_ALARM_ACTIVE && c ≠ 0 && decide (c ≤ (t.head n).passing) then witnessClear n t
    else t) s

/-- ALARM_ACK of a latched alarm (R353). -/
def alarmAck (n : Nat) (s : State) : State :=
  if s.fld (R.HEAD_WIT n) F.HEAD_WIT_CLEAR_N = 0 && s.flag (R.HEAD_ALARM n) F.HEAD_ALARM_ACTIVE && !(s.head n).held then
    witnessClear n s
  else s

/-- WITNESS_FAIL# is driven low (R354). -/
def State.witnessLow (s : State) : Bool :=
  s.dstate == .boot || s.pwr.resume != .awake || !s.pwr.pwrgood || s.sec.bootFault || s.sleepStopped
    || SMap.get s.pwr.padLatch 0 3 % 2 == 1
    || (upTo 4).any (fun n => s.flag (R.HEAD_ALARM n) F.HEAD_ALARM_ACTIVE && s.flag (R.HEAD_WIT n) F.HEAD_WIT_PIN_EN)

/-! ### Streams (R325–R330) -/

/-- Payload of a lane at a rate in kbit/s (Table LP-1). -/
def ratePayload (rate : Nat) : Nat := [3080000, 6150000, 12300000, 24610000].getD rate 0

/-- The bond that a transmit lane heads is in force in its configuration. -/
def State.txBond (s : State) (lane : Nat) : Bool := s.flag (R.LANE_CTRL (32 + lane / 2 * 2)) F.LANE_CTRL_BOND

/-- Output frames in 10^9 seconds: F · 10^9 as a fraction num ÷ den. -/
def headRate (s : State) (n : Nat) : Nat × Nat :=
  if (s.head n).direct then
    (1000000000, s.fld (R.HEAD_DIR_LINE n) F.HEAD_DIR_LINE_T_LINE_NS * (s.fld (R.HEAD_SIZE n) F.HEAD_SIZE_H_M1 + 1))
  else (1000000000, s.fld R.TICK_PERIOD F.TICK_PERIOD_PERIOD_NS)

/-- Enabled tethers of stream `k`. -/
def State.tethersOf (s : State) (n k : Nat) : List Nat :=
  (upTo 16).filter (fun r => s.flag (R.TCTRL n r) F.TCTRL_EN && s.fld (R.TCTRL n r) F.TCTRL_STREAM == k)

/-- Profile of a coded stream (R325). -/
def State.streamProf (s : State) (n k : Nat) : Option (Word × Nat) :=
  let w := s.reg (R.CODEC_HEAD_SEL n k)
  if F.CODEC_HEAD_SEL_EN.get w = 1 then some (s.reg (R.CODEC_PROF (F.CODEC_HEAD_SEL_PROF.get w)), F.CODEC_HEAD_SEL_DT.get w)
  else none

/-- Cells of one frame of stream `k` (R330). -/
def streamCells (s : State) (n k : Nat) : Nat :=
  let w := F.SRECT_X_W_M1.get (s.reg (R.SRECT_X n k)) + 1
  let h := F.SRECT_Y_H_M1.get (s.reg (R.SRECT_Y n k)) + 1
  let b := match s.streamProf n k with
    | some (p, _) => worstLine (profOf p) (samplesOfWidth (headFmt s n) w)
    | none => lineBytes (headFmt s n) w
  h * ceilDiv (b + 6) 30 + 3
    + (if s.flag (R.SCTRL n k) F.SCTRL_EMB then ceilDiv (14 + 12 * (s.tethersOf n k).length) 30 else 0)

/-- Cells of all enabled streams of head `n` on a transmit lane. -/
def laneCells (s : State) (n lane : Nat) : Nat :=
  ((upTo 16).filter (fun k => s.flag (R.SCTRL n k) F.SCTRL_EN && s.fld (R.SCTRL n k) F.SCTRL_LANE == lane)).foldl
    (fun a k => a + streamCells s n k) 0

/-- The lane's demand fits a payload at a rate (R330). -/
def demandFits (s : State) (n lane rate : Nat) : Bool :=
  let (num, den) := headRate s n
  let pay := ratePayload rate * (if s.txBond lane then 2 else 1)
  decide (laneCells s n lane * 256 * num ≤ pay * 1000 * Nat.max den 1)

/-- The lowest rate code whose payload covers a lane's demand; 4 where none does (R328, R330). -/
def State.needRate (s : State) (n lane : Nat) : Nat := ((upTo 4).find? (demandFits s n lane)).getD 4

/-- A transmit lane can carry a stream that needs a rate: up at such a rate, with its partner READY (R328). -/
def State.laneCarries (s : State) (lane need : Nat) : Bool :=
  let x := 32 + lane
  s.laneState x == Ls.up && s.carriesCells x && s.partner x == Ps.ready && !s.dark (laneDomain x)
    && decide (need ≤ s.fld (R.LANE_STATUS x) F.LANE_STATUS_RATE)

/-- A stream can send now (R328). -/
def State.streamCan (s : State) (n k : Nat) : Bool :=
  let lane := s.fld (R.SCTRL n k) F.SCTRL_LANE
  s.laneCarries lane (s.needRate n lane)

/-- A stream of the frame in progress still sends: once it has left sending it stays silent to the frame's end (R328). -/
def State.sends (s : State) (st : OutStream) : Bool := !st.lost && s.laneCarries st.lane st.need

/-- Some enabled stream with an enabled tether is not sending: the cause LINK is held (R328, Table CW-6). -/
def State.linkCond (s : State) (n : Nat) : Bool :=
  (upTo 16).any (fun k => s.flag (R.SCTRL n k) F.SCTRL_EN && !(s.tethersOf n k).isEmpty && !s.streamCan n k)

/-- Streams of the frame in progress whose lane no longer carries them are lost for that frame (R328). -/
def dropStreams (n : Nat) (s : State) : State :=
  match (s.head n).frame with
  | some f => s.setHead n { s.head n with frame := some { f with
      streams := f.streams.map (fun st => { st with lost := !s.sends st }) } }
  | none => s

/-- Hold LINK and silence streams as the lanes stand. -/
def checkLink (n : Nat) (s : State) : State :=
  if !s.flag (R.HEAD_CTRL n) F.HEAD_CTRL_EN then s else
  let s := dropStreams n s
  if s.linkCond n then (if (s.head n).link then s else holdCond n Wc.LINK s) else s

/-- Every head looks at its lanes again. -/
def checkLinks (s : State) : State := (upTo 4).foldl (fun t n => checkLink n t) s

/-- A counter's next value (R327). -/
def counterNext (c : Word) : Word := if c = 0xFFFFFFFF then 1 else c + 1

/-- `c` is later than `c'` (R327). -/
def counterLater (c c' : Word) : Bool := decide (1 ≤ (c - c').toNat ∧ (c - c').toNat ≤ 2 ^ 31 - 1)

/-! ### Tethers (R343–R348) -/

/-- The rectangle of tether `r` in canvas coordinates. -/
def State.tetherRect (s : State) (n r : Nat) : Nat × Nat × Nat × Nat :=
  let l := s.fld (R.TCTRL n r) F.TCTRL_LAYER
  let (x, y) := if s.flag (R.TCTRL n r) F.TCTRL_ON_KITE then
      if l = 16 then (Fld.put ⟨28, 16⟩ (s.fld (R.HEAD_SIZE n) F.HEAD_SIZE_W_M1) 0, Fld.put ⟨28, 16⟩ (s.fld (R.HEAD_SIZE n) F.HEAD_SIZE_H_M1) 0)
      else
        let d := s.reg (R.KDST n l)
        let z := s.reg (R.KSIZE n l)
        (w32 (bits d 12 0 + 65536 * bits z 12 0), w32 (bits d 28 16 + 65536 * bits z 28 16))
    else (s.reg (R.TRECT_X n r), s.reg (R.TRECT_Y n r))
  (bits x 12 0, bits y 12 0, bits x 28 16 + 1, bits y 28 16 + 1)

/-- The tether as a frame checks it. -/
def tetherRun (n r : Nat) (s : State) : TetherRun :=
  let w := s.reg (R.TCTRL n r)
  let (x, y, cw, ch) := s.tetherRect n r
  ⟨r, F.TCTRL_STREAM.get w, F.TCTRL_MODE.get w == 1, F.TCTRL_LIVE_REQ.get w == 1, F.TCTRL_FREEZE_N.get w,
   s.reg (R.TEXPECT n r), x, y, cw, ch, 0xFFFFFFFF, false⟩

/-- The tether descriptor of a frame of a stream (Table CW-5). -/
def descriptor (st : OutStream) (ts : List TetherRun) : List Byte :=
  let mine := ts.filter (fun t => t.stream = st.k)
  [1, BitVec.ofNat 8 mine.length, 0, 0] ++ beBytes 4 st.counter.toNat
    ++ mine.flatMap (fun t =>
      [BitVec.ofNat 8 t.r, BitVec.ofNat 8 (b01 t.fixed + 2 * b01 t.liveReq), 0, 0]
        ++ beBytes 2 (t.x0 - st.x0) ++ beBytes 2 (t.y0 - st.y0) ++ beBytes 2 t.w ++ beBytes 2 t.h)

/-- Two rectangles share a pixel. -/
def rectsMeet (a b : Nat × Nat × Nat × Nat) : Bool :=
  decide (a.1 < b.1 + b.2.2.1 ∧ b.1 < a.1 + a.2.2.1 ∧ a.2.1 < b.2.1 + b.2.2.2 ∧ b.2.1 < a.2.1 + a.2.2.2)

/-- The region is live: the background and every kite over it are coded live (R347). -/
def regionLive (t : TetherRun) (us : List LayUse) : Bool :=
  (upTo 17).all (fun l =>
    match us[l]? with
    | none => true
    | some u => u.code == 0 || (l ≠ 16 && !rectsMeet u.rect (t.x0, t.y0, t.w, t.h)))

/-- The last sample of a region is handed over: its signature, kept and checked (R345, R347, R348, R350). -/
def regionDone (n : Nat) (f : OutFrame) (t : TetherRun) (counter : Word) (s : State) : State :=
  let sig := t.crc ^^^ 0xFFFFFFFF
  let s := s.setReg (R.HEAD_TCRC n t.r) sig
  let d := s.region n t.r
  let live := regionLive t f.layers
  let run := if live then (if d.lastSig = some sig then d.run + 1 else 1) else d.run
  let frozen := (live && decide (2 ≤ t.freezeN) && decide (t.freezeN ≤ run)) || f.stale
  let bad := (t.fixed && sig ≠ t.expect) || (t.liveReq && !live) || frozen
  let aw : Await := ⟨counter, sig, f.serial, false, !bad⟩
  let s := s.setRegion n t.r { d with awaits := d.awaits ++ [aw], lastSig := if live then some sig else d.lastSig, run := run }
  let s := s.setFld (R.HEAD_TSTAT n t.r) F.HEAD_TSTAT_RUN (satAdd 0 run 15)
  let s := if t.fixed && sig ≠ t.expect then regionFail n t.r Wc.LOCAL s else s
  let s := if frozen then regionFail n t.r Wc.FREEZE s else s
  if t.liveReq && !live then regionFail n t.r Wc.STALE s else s

/-! ### Echoes (R349–R351) -/

/-- The tether an echo on a transmit lane names by STREAM and REGION. -/
def State.echoTether (s : State) (lane stream r : Nat) : Option Nat :=
  (upTo 4).find? (fun n =>
    let k := s.fld (R.TCTRL n r) F.TCTRL_STREAM
    s.flag (R.HEAD_CTRL n) F.HEAD_CTRL_EN && s.flag (R.TCTRL n r) F.TCTRL_EN && s.fld (R.SCTRL n k) F.SCTRL_LANE == lane
      && s.fld (R.SCTRL n k) F.SCTRL_PORT * 16 + s.fld (R.SCTRL n k) F.SCTRL_VC == stream)

/-- The frames of a region whose signature is kept: the last four whose echo is awaited (R345). -/
def RegionDyn.kept (d : RegionDyn) : List Await :=
  let l := d.awaits.filter (fun a => !a.echoed)
  l.drop (l.length - 4)

/-- An echo can serve a tether: its stream carries the descriptor and the partner declares CAPS.ECHO (R351). -/
def State.echoes (s : State) (n lane r : Nat) : Bool :=
  s.flag (R.SCTRL n (s.fld (R.TCTRL n r) F.TCTRL_STREAM)) F.SCTRL_EMB && s.partnerCap (32 + lane) 3

/-- An echo received (R350). -/
def rxEcho (lane stream r : Nat) (counter crc : Word) (s : State) : State :=
  match s.echoTether lane stream r with
  | none =>
    match (upTo 4).find? (fun n => (s.head n).lanes.toNat / 2 ^ lane % 2 == 1) with
    | some n => s.incSat (R.HEAD_WFAIL n) F.HEAD_WFAIL_STRAY 1
    | none => s
  | some n =>
    let d := s.region n r
    if !s.echoes n lane r then s.incSat (R.HEAD_WFAIL n) F.HEAD_WFAIL_STRAY 1 else
    match d.kept.find? (fun a => a.counter = counter) with
    | some a =>
      let good := a.crc = crc
      let s := s.setRegion n r { d with
        awaits := d.awaits.map (fun b => if b = a then { b with echoed := true, ok := b.ok && good } else b),
        lastEcho := some counter }
      if good then s else regionFail n r Wc.MISMATCH s
    | none =>
      match d.lastEcho with
      | some l => if counterLater counter l then s.incSat (R.HEAD_WFAIL n) F.HEAD_WFAIL_STRAY 1
          else regionFail n r Wc.REPEAT s
      | none => s.incSat (R.HEAD_WFAIL n) F.HEAD_WFAIL_STRAY 1

/-- The deadline of a region's frame (R350, R353). -/
def echoDeadline (n r : Nat) (counter : Word) (s : State) : State :=
  let d := s.region n r
  match d.awaits.find? (fun a => a.counter = counter) with
  | none => s
  | some a =>
    let s := s.setRegion n r { d with awaits := d.awaits.filter (fun b => b ≠ a) }
    let s :=
      if !a.echoed then regionFail n r Wc.MISSING s
      else if a.ok then
        (s.setFld (R.HEAD_TSTAT n r) F.HEAD_TSTAT_LAST_CAUSE 0).incSat (R.HEAD_TSTAT n r) F.HEAD_TSTAT_PASS 1
      else s
    let h := s.head n
    countSpans n (s.setHead n { h with
      spans := h.spans.map (fun p => if p.serial = a.serial then { p with waiting := p.waiting - 1 } else p) })

/-! ### Output frames -/

/-- A layer's registers. -/
def layUse (n l : Nat) (s : State) (fr : LaySrc) (code seq : Nat) : LayUse :=
  let u : LayUse := ⟨s.reg (R.KCTRL n l), s.reg (R.KDST n l), s.reg (R.KSIZE n l), s.reg (R.KSRC n l), s.reg (R.KSOFF n l),
    s.reg (R.KPITCH n l), s.reg (R.KCOLOR n l), fr, code, seq, false, s.reg (R.KPROD n l), []⟩
  if l = 16 then
    { u with dst := 0, size := w32 (s.fld (R.HEAD_SIZE n) F.HEAD_SIZE_W_M1 + 65536 * s.fld (R.HEAD_SIZE n) F.HEAD_SIZE_H_M1) }
  else u

/-- POLICY of a layer: its own, or the head's (R69, R337): 0 REPEAT, 1 BLANK, 2 PASS. -/
def State.layPolicy (s : State) (n l : Nat) : Nat :=
  let p := s.fld (R.KCTRL n l) F.KCTRL_POLICY
  if p = 3 then s.fld (R.HEAD_LATE_POLICY n) F.HEAD_LATE_POLICY_POLICY else p

/-- A report is good: OK, and sent before the next tick instant (R30, R335). -/
def DoneRec.good (d : DoneRec) : Bool := d.status == 0 && !d.late

/-- The report of a KIND 3 layer's producer, a yard or a remap engine named by KPROD, for tick `t` (R335). -/
def State.producerDone (s : State) (prod t : Word) : Option DoneRec :=
  let l := if bits prod 1 0 = 2 then (SMap.get s.remaps Remap.unbound (bits prod 15 8)).dones
    else (match s.yard? (bits prod 15 8) with | some y => y.dones | none => [])
  l.find? (fun d => d.tick = t)

/-- Two uses of a layer take the same rectangle of the same source. -/
def LayUse.sameSource (a b : LayUse) : Bool :=
  bits a.ctrl 6 0 == bits b.ctrl 6 0 && a.size == b.size && a.src == b.src && a.prod == b.prod && a.soff == b.soff
    && a.pitch == b.pitch

/-- The layer drawn again from the lines kept of an earlier frame of its source, where there is one. -/
def keptUse (n l : Nat) (from_ : SMap LayUse) (code : Nat) (s : State) : Option LayUse :=
  let now := layUse n l s .kept code 0
  match SMap.find from_ l with
  | some u => if u.sameSource now then some { now with seq := u.seq, lines := u.lines } else none
  | none => none

/-- What a late policy shows in place of a missing or bad frame; `bad` is that frame where there is one, and whether it
was truncated. A frame whose producer reported FAULT is composed under PASS like a truncated one, and coded late (R337).
R69 names no unit and no value for KITE_STALE, so UNIT and ARG are 0 (R492). -/
def latePolicy (n l : Nat) (bad : Option (LaySrc × Nat × Bool)) (s : State) : LayUse × State :=
  let blank (s : State) : LayUse × State := (layUse n l s (if l = 16 then .fill else .none) 2 0, s)
  let h := s.head n
  let reps := SMap.get h.repeats 0 l
  match s.layPolicy n l with
  | 0 =>
    if h.stale.contains l then blank s else
    match keptUse n l h.shown 1 s with
    | none => blank s
    | some u =>
      if reps < s.fld (R.HEAD_LATE_POLICY n) F.HEAD_LATE_POLICY_REPEAT_LIMIT then
        (u, s.setHead n { h with repeats := SMap.put h.repeats 0 l (reps + 1) })
      else blank ((s.setHead n { h with stale := l :: h.stale }).raise Ev.KITE_STALE 0 0)
  | 1 => blank s
  | _ =>
    match bad with
    | some (fr, q, cut) => ({ layUse n l s fr 3 q with trunc := cut },
        match fr with | .slot p i => holdMark p i (readerHead n l) s | _ => s)
    | none => (layUse n l s .awaited 3 0, s)

/-- A fresh whole frame is shown live; the run of repeats ends (R69). -/
def showLive (n l : Nat) (fr : LaySrc) (q : Nat) (s : State) : LayUse × State :=
  let h := s.head n
  let s := s.setHead n { h with repeats := SMap.put h.repeats 0 l 0, stale := h.stale.filter (· ≠ l) }
  (layUse n l s fr 0 q, match fr with | .slot p i => holdMark p i (readerHead n l) s | _ => s)

/-- A slot's frame is bad: its tag carries TRUNC or DAMAGED, or the yard or engine that wrote it reported TRUNCATED,
LATE or FAULT (R67, R337). -/
def State.slotBad (s : State) (p i : Nat) : Bool :=
  let tag := s.slotTag p i
  tagTrunc tag || tagDamaged tag || (match (s.pad? p).bind (fun x => (x.slot i).from_) with
    | some d => !d.good
    | none => false)

/-- The frame in a slot was marked truncated. -/
def State.slotTrunc (s : State) (p i : Nat) : Bool :=
  tagTrunc (s.slotTag p i) || (match (s.pad? p).bind (fun x => (x.slot i).from_) with
    | some d => d.status == 1
    | none => false)

/-- A paddock's frame at a due tick: live, or under the late policy where it is bad (R337). -/
def showSlot (n l p i : Nat) (q : Word) (s : State) : LayUse × State :=
  if s.slotBad p i then latePolicy n l (some (.slot p i, q.toNat, s.slotTrunc p i)) s
  else showLive n l (.slot p i) q.toNat s

/-- A layer at a tick at which no new frame is due: the frame it composed last, coded live, and blanked where it has
composed none (R336). -/
def showAgain (n l : Nat) (s : State) : LayUse :=
  match keptUse n l (s.head n).last 0 s with
  | some u => u
  | none => layUse n l s (if l = 16 then .fill else .none) 2 0

/-- Choose what layer `l` shows in a frame (R335–R337); `prev` is the tick whose surfaces count. -/
def chooseLayer (n l : Nat) (prev : Word) (filler : Bool) (s : State) : LayUse × State :=
  let kind := s.fld (R.KCTRL n l) F.KCTRL_KIND
  let div := s.fld (R.KCTRL n l) F.KCTRL_DIV_M1 + 1
  let due := s.tg.count.toNat % div = 0
  if l = 16 && filler && kind = 5 then (layUse n l s .fill 2 0, s) else
  if s.dstate = .standalone then
    match kind, SMap.get s.stand.tiles none l with
    | 4, _ => (layUse n l s .rom 0 0, s)
    | 1, some x => if (SMap.get s.stand.cams Cam.rest x).fresh then showLive n l (.camera x) (prev.toNat % 65536) s else latePolicy n l none s
    | 1, none => (layUse n l s .solid 0 0, s)
    | _, _ => (layUse n l s (if l = 16 then .fill else .none) 0 0, s)
  else
  match kind with
  | 1 => (layUse n l s .solid 0 0, s)
  | 4 => (layUse n l s .still 0 0, s)
  | 5 => (layUse n l s .direct 0 0, s)
  | 2 =>
    if !due then (showAgain n l s, s) else
    let p := bits (s.reg (R.KSRC n l)) 7 0
    match (s.pad? p).bind (fun x => x.newestBy x.atTick) with
    | none => latePolicy n l none s
    | some (i, q) => showSlot n l p i q s
  | 3 =>
    if !due then (showAgain n l s, s) else
    match s.producerDone (s.reg (R.KPROD n l)) prev with
    | some d => if d.good then showLive n l .surface (prev.toNat % 65536) s
        else latePolicy n l (some (.surface, prev.toNat % 65536, d.status == 1)) s
    | none => latePolicy n l none s
  | _ => (layUse n l s (if l = 16 then .fill else .none) 0 0, s)

/-- Choose every layer, in index order. -/
def chooseLayers (n : Nat) (prev : Word) (filler : Bool) (s : State) : List LayUse × State :=
  (upTo 17).foldl (fun (acc : List LayUse × State) l =>
    let (u, t) := chooseLayer n l prev filler acc.2
    (acc.1 ++ [u], t)) ([], s)

/-- A CSI-2 short packet on a stream's lane, under its STREAM id: its data type and data field (R325, R326). -/
def shortPacket (st : OutStream) (dt : Nat) (s : State) : State :=
  s.sendPacket (32 + st.lane) st.id dt (st.counter.toNat % 65536) none

/-- A CSI-2 long packet on a stream's lane, under its STREAM id (R325, R326, R299). -/
def sendLong (st : OutStream) (dt : Nat) (bs : List Byte) (s : State) : State :=
  s.sendPacket (32 + st.lane) st.id dt bs.length (some bs)

/-- STATE of HEADn_STATUS, LATE, DIRECT and LINE (Table CW-8). -/
def showHead (n : Nat) (s : State) : State :=
  let h := s.head n
  let st := if !s.flag (R.HEAD_CTRL n) F.HEAD_CTRL_EN then 0
    else match h.frame with
    | some f => if f.filler then 3 else 1
    | none => if h.halted || h.stopped then 4 else if h.direct then 2 else 1
  let line := match h.frame with | some f => f.line | none => 0
  let late := match h.frame with | some f => f.late | none => false
  s.setReg (R.HEAD_STATUS n) (w32 (st + 8 * b01 late + 16 * b01 h.direct + 65536 * (line % 8192)))

/-- Domains that a head's direct path needs beside the groom's: its gate's quad, the pair's shed and hayloft slice,
compositor/witness and the quads of its lanes (R38). -/
def State.directDomains (s : State) (n : Nat) : List Nat :=
  let src := s.reg (R.HEAD_DIR_SRC n)
  let shed := F.HEAD_DIR_SRC_PAIR.get src / 16
  [0x20 + F.HEAD_DIR_SRC_GATE.get src, shed, 0x10 + shed, 0x2D] ++ (onesOf (s.head n).lanes.toNat 16).map (fun l => 0x28 + l / 4)

/-- Why a head's direct path cannot run, as STOP of HEADn_DIR_STATUS codes it: 1 domain off, 2 reconfiguration after a
failed ballast check, 3 pair halted; 0 where it can (R38, R342). -/
def State.directWhy (s : State) (n : Nat) : Nat :=
  let ds := s.directDomains n
  if ds.any (fun d => !s.domainOn d || s.pwr.coming.contains d) then 1
  else if ds.any s.dark then 2
  else if (s.stall (F.HEAD_DIR_SRC_PAIR.get (s.reg (R.HEAD_DIR_SRC n)))).halted then 3 else 0

/-- Start an output frame: streams, counters, descriptors, layers and the frame's span (R326, R327, R353). STOPPED ends
where the head runs again: not at a fill frame. -/
def startFrame (n : Nat) (filler : Bool) (s : State) : State :=
  let s := if (s.head n).halted || filler then s else dropCond n Wc.STOPPED s
  let ks := (upTo 16).filter (fun k => s.flag (R.SCTRL n k) F.SCTRL_EN && s.streamCan n k)
  let s := if s.linkCond n then s else dropCond n Wc.LINK s
  let mk (k : Nat) : OutStream :=
    let w := s.reg (R.SCTRL n k)
    let x := s.reg (R.SRECT_X n k)
    let y := s.reg (R.SRECT_Y n k)
    ⟨k, F.SCTRL_LANE.get w, F.SCTRL_PORT.get w * 16 + F.SCTRL_VC.get w, F.SCTRL_EMB.get w == 1, bits x 12 0, bits y 12 0,
     bits x 28 16 + 1, bits y 28 16 + 1, counterNext (s.reg (R.SCOUNT n k)), s.streamProf n k, s.needRate n (F.SCTRL_LANE.get w), false⟩
  let sts := ks.map mk
  let rs := (upTo 16).filter (fun r => s.flag (R.TCTRL n r) F.TCTRL_EN)
  let sent := rs.filter (fun r => ks.contains (s.fld (R.TCTRL n r) F.TCTRL_STREAM))
  let ts := sent.map (fun r => tetherRun n r s)
  let s := sts.foldl (fun t st => t.setReg (R.SCOUNT n st.k) st.counter) s
  let (us, s) := chooseLayers n (s.tickLo - 1) filler s
  let h := s.head n
  let f : OutFrame := ⟨h.serial, s.tickLo, headFmt s n, s.fld (R.HEAD_SIZE n) F.HEAD_SIZE_W_M1 + 1,
    s.fld (R.HEAD_SIZE n) F.HEAD_SIZE_H_M1 + 1, 0, sts, us, ts, filler, false, h.direct && !filler, s.reg (R.HEAD_FILL_A n),
    s.reg (R.HEAD_FILL_B n), s.reg (R.HEAD_DIR_OUT n), false⟩
  let span : Span := ⟨h.serial, ts.length, false, h.held || ts.length ≠ rs.length⟩
  let s := s.setHead n { h with frame := some f, serial := h.serial + 1, spans := h.spans ++ [span], suppressed := false }
  showHead n (sts.foldl (fun t st =>
    let t := shortPacket st 0 t
    if st.emb then sendLong st 0x12 (descriptor st ts) t else t) s)

/-- The FRAME_STATUS of a stream (Table LK-5). -/
def frameStatus (f : OutFrame) (st : OutStream) : List Byte :=
  let code (l : Nat) : Nat := match f.layers[l]? with | some u => u.code | none => 0
  let kites := (upTo 16).foldl (fun a i => a + code i * 4 ^ i) 0
  let regs := maskOf ((f.tethers.filter (fun t => t.stream = st.k)).map (·.r))
  [BitVec.ofNat 8 st.id, BitVec.ofNat 8 (code 16), 0, 0] ++ beBytes 4 st.counter.toNat ++ beBytes 4 kites ++ beBytes 2 regs
    ++ [0, 0]

/-- The frame ends: frame-end packets, FRAME_STATUS, layer status, done report, the fault policy (R326, R356). A frame of
a direct-path head, a fill frame too, owes no done report (R66, R68). -/
def endFrame (n : Nat) (f : OutFrame) (s : State) : State :=
  let s := f.streams.foldl (fun t st =>
    if t.sends st then
      let t := shortPacket st 1 t
      (t.sendReq (32 + st.lane) Mt.FRAME_STATUS 0 (frameStatus f st)).2
    else t) s
  let s := (upTo 17).foldl (fun t l =>
    match f.layers[l]? with
    | some u =>
      let t := releaseLayer n l u t
      let t := t.setReg (R.HEAD_KSTAT n l) (w32 (u.code + 4 * (Nat.min (SMap.get (t.head n).repeats 0 l) 15) + 65536 * (u.seq % 65536)))
      let h := t.head n
      if u.from_ = .none ∨ u.from_ = .awaited then t else
      t.setHead n { h with last := SMap.insert h.last l u, shown := if u.code = 0 then SMap.insert h.shown l u else h.shown }
    | none => t) s
  let s := s.incWrap (R.HEAD_FRAMES n) F.HEAD_FRAMES_FRAMES 1
  let h := s.head n
  let undone := (f.tethers.filter (fun t => !t.ended)).length
  let spans := h.spans.map (fun p => if p.serial = f.serial then
    { p with handed := true, waiting := p.waiting - undone, failed := p.failed || undone ≠ 0 } else p)
  let s := s.setHead n { h with frame := none, spans := spans, late := f.late }
  let s := if (s.head n).halting then haltHead n s else s
  let cut := f.layers.any (fun u => u.trunc && u.code == 3)
  let s := if f.direct || f.filler then s else s.setHead n { s.head n with owes := some ⟨f.tick, b01 cut, f.late⟩ }
  showHead n (countSpans n s)

/-- The done report of a head's last frame leaves (R66): TRUNCATED where it composed a truncated frame. -/
def headReport (n : Nat) (s : State) : State :=
  match (s.head n).owes with
  | some d =>
    (s.setHead n { s.head n with owes := none }).emit (.doneReport (BitVec.ofNat 16 (headUnit n)) d.tick d.status 0 d.late)
  | none => s

/-- The frame in progress is cut: the background is coded late (R340, R355). -/
def cutFrame (n : Nat) (s : State) : State :=
  match (s.head n).frame with
  | none => s
  | some f =>
    let us := match f.layers[16]? with
      | some u => f.layers.set 16 { u with code := 3 }
      | none => f.layers
    endFrame n { f with layers := us } s

/-- Send one line on a stream and feed its tethers (R325, R326, R344). -/
def sendLine (n v : Nat) (xs : List Nat) (acc : OutFrame × State) (st : OutStream) : OutFrame × State :=
  let (f, s) := acc
  if v < st.y0 ∨ st.y0 + st.h ≤ v ∨ !s.sends st then acc else
  let mine := cutSamples f.fmt st.x0 st.w xs
  let (bytes, recon, dt, s) := match st.coded with
    | some (p, dt) => let (c, s) := codecEncode n (profOf p) mine s; (c.bytes, c.recon, dt, s)
    | none => (packLine f.fmt mine, mine, fmtDt f.fmt, s)
  let s := sendLong st dt bytes s
  let feed (t : TetherRun) : TetherRun :=
    if t.stream = st.k ∧ t.y0 ≤ v ∧ v < t.y0 + t.h then
      { t with crc := crcBytes t.crc (crcSamples f.fmt (cutSamples f.fmt (t.x0 - st.x0) t.w recon)) }
    else t
  let last (t : TetherRun) : Bool := decide (t.stream = st.k ∧ v + 1 = t.y0 + t.h)
  let f := { f with tethers := (f.tethers.map feed).map (fun t => { t with ended := t.ended || last t }) }
  (f, (f.tethers.filter last).foldl (fun t r => regionDone n f r st.counter t) s)

/-- What a PASS layer whose frame was missing takes once that frame is done: a paddock's first frame, or the surface
of the producer's late report (R69). -/
def arrived (n l : Nat) (f : OutFrame) (u : LayUse) (s : State) : LayUse × State :=
  if bits u.ctrl 2 0 = 2 then
    let p := bits u.src 7 0
    match (s.pad? p).bind (fun x => x.newestBy x.newest) with
    | some (i, q) => ({ u with from_ := .slot p i, seq := q.toNat, trunc := s.slotTrunc p i }, holdMark p i (readerHead n l) s)
    | none => (u, s)
  else
    match s.producerDone (s.reg (R.KPROD n l)) (f.tick - 1) with
    | some d => ({ u with from_ := .surface, seq := d.tick.toNat % 65536, trunc := d.status == 1 }, s)
    | none => (u, s)

/-- A PASS layer whose frame was missing is composed as soon as it is done (R69). -/
def latecomers (n : Nat) (f : OutFrame) (s : State) : OutFrame × State :=
  (upTo 17).foldl (fun (acc : OutFrame × State) l =>
    match acc.1.layers[l]? with
    | some u =>
      if u.from_ = .awaited then
        let (u, t) := arrived n l acc.1 u acc.2
        ({ acc.1 with layers := acc.1.layers.set l u }, t)
      else acc
    | none => acc) (f, s)

/-- Output line `v` of the frame whose SOF the head saw last is in the output ring of its direct path (R340). -/
def State.inRing (s : State) (n v : Nat) : Bool :=
  let x := s.stall (F.HEAD_DIR_SRC_PAIR.get (s.reg (R.HEAD_DIR_SRC n)))
  some x.frameSeq == (s.head n).lastSeq && decide (v < x.outEnd)

/-- Hand over the next canvas line (R329, R340): a line of a direct path that is not in the output ring waits; a direct
path that is stopped or has no source sends nothing (R341, R342). -/
def handLine (n : Nat) (s : State) : State :=
  match (s.head n).frame with
  | none => s
  | some f =>
    let silent := f.direct && ((s.head n).nosource || s.directWhy n != 0)
    if (s.head n).suppressed || s.dark 0x2D || silent || (f.direct && !s.inRing n f.line) then s else
    let (f, s) := latecomers n f s
    let (px, us, s) := composeLine n f.line f s
    let f := { f with layers := us }
    let xs := lineSamples f.fmt px
    let (f, s) := f.streams.foldl (sendLine n f.line xs) (f, s)
    let f := { f with line := f.line + 1 }
    if f.line < f.h then showHead n (s.setHead n { s.head n with frame := some f }) else endFrame n f s

/-- The direct path of a head is stopped: off, under reconfiguration or with its pair halted (R342). -/
def stopDirect (n why : Nat) (s : State) : State :=
  if !(s.head n).direct then s else
  let s := s.setReg (R.HEAD_DIR_STATUS n) (w32 (2 * why + (s.reg (R.HEAD_DIR_STATUS n)).toNat / 256 % 256 * 256))
  if (s.head n).stopped then s else holdCond n Wc.STOPPED s

/-- Hold STOPPED while the direct path of a head is stopped; a cause that has passed leaves STOP, and the path waits for
its next SOF (R38, R342). -/
def checkDirect (n : Nat) (s : State) : State :=
  if !s.flag (R.HEAD_CTRL n) F.HEAD_CTRL_EN || !(s.head n).direct then s else
  let shown := s.fld (R.HEAD_DIR_STATUS n) F.HEAD_DIR_STATUS_STOP
  match s.directWhy n with
  | 0 => if shown = 0 ∨ shown = 4 then s else s.setFld (R.HEAD_DIR_STATUS n) F.HEAD_DIR_STATUS_STOP 0
  | why => if shown = why ∧ (s.head n).stopped then s else stopDirect n why s

/-- Every direct path looks at its domains and its pair again. -/
def checkDirects (s : State) : State := (upTo 4).foldl (fun t n => checkDirect n t) s

/-- A SOF on the source stream of a direct-path head (R339–R341). It starts no frame while the path is stopped (R38). -/
def headSof (n : Nat) (seq : Word) (s : State) : State :=
  if !s.flag (R.HEAD_CTRL n) F.HEAD_CTRL_EN || !(s.head n).direct || (s.head n).halted || s.dark 0x2D || s.sleepStopped then s else
  let s := dropCond n Wc.NOSOURCE (cutFrame n s)
  if s.directWhy n ≠ 0 then stopDirect n (s.directWhy n) s else
  let s := s.setReg (R.HEAD_DIR_STATUS n) (w32 (1 + (s.reg (R.HEAD_DIR_STATUS n)).toNat / 256 % 256 * 256))
  let s := startFrame n false s
  let h := s.head n
  let again := match h.lastSeq with | some q => !counterLater seq q | none => false
  s.setHead n { h with lastSeq := some seq, dirLive := true, frame := h.frame.map (fun f => { f with stale := again }) }

/-- No SOF within FRAME_TIMEOUT_US (R341). -/
def directTimeout (n : Nat) (s : State) : State :=
  if !(s.head n).direct || !s.flag (R.HEAD_CTRL n) F.HEAD_CTRL_EN || (s.head n).nosource || s.sleepStopped then s else
  let s := s.setReg (R.HEAD_DIR_STATUS n) (w32 (8 + (s.reg (R.HEAD_DIR_STATUS n)).toNat / 256 % 256 * 256))
  (holdCond n Wc.NOSOURCE s).raise (Ev.DIRECT_NOSOURCE + n) (headUnit n) 0

/-- A lockstep miscompare of the pair of a direct path (R355); a fill frame takes no line of the pair's and goes on. -/
def headLockstep (n : Nat) (s : State) : State :=
  let direct := match (s.head n).frame with | some f => f.direct | none => false
  let s := if direct then cutFrame n s else s
  witnessFail n 0xF Wc.LOCKSTEP (s.setHead n { s.head n with suppressed := direct })

/-- A head is late at a tick instant (R67). -/
def headIsLate (n : Nat) (s : State) : State :=
  let s := (s.setHead n { s.head n with late := true, skipped := 1 }).incSat R.LATE_COUNT F.LATE_COUNT_LATE 1
  showHead n ((s.raise Ev.TICK_LATE (headUnit n) 0).raise Ev.HEAD_LATE (headUnit n) 0)

/-- A tick instant at a direct-path head: a fill frame where the source is gone or the path stopped (R341, R342). The
frame that the source left open is cut as a next SOF would cut it. -/
def directTick (n : Nat) (s : State) : State :=
  let h := s.head n
  let gone := h.nosource || (h.stopped && h.dirLive) || s.directWhy n != 0
  if h.halted || !gone || !s.flag (R.HEAD_WIT n) F.HEAD_WIT_NOSRC_FILL then s
  else match h.frame with
  | some f => if f.filler then s else startFrame n true (cutFrame n s)
  | none => startFrame n true s

/-- A head that has been stopped by policy has no work at a tick instant (R66, R356). -/
def State.headIdle (s : State) (n : Nat) : Bool :=
  let h := s.head n
  s.flag (R.HEAD_CTRL n) F.HEAD_CTRL_EN && !s.dark 0x2D && !h.direct && h.halted && h.frame.isNone && h.owes.isNone

/-- A tick instant at one head: late heads, new frames, fill frames (R64, R67, R329, R341). A head that has been stopped
by policy has no work and reports done at once (R66); R67 gives TICK_SKIP to yards only. -/
def headTick (n : Nat) (s : State) : State :=
  if !s.flag (R.HEAD_CTRL n) F.HEAD_CTRL_EN || s.dark 0x2D then s else
  let h := s.head n
  if h.direct then directTick n s
  else match h.frame with
  | some f =>
    if f.late then s.setHead n { h with skipped := h.skipped + 1 }
    else headIsLate n (s.setHead n { h with frame := some { f with late := true } })
  | none =>
    match h.owes with
    | some d =>
      if d.late then s.setHead n { h with skipped := h.skipped + 1 }
      else headIsLate n (s.setHead n { h with owes := some { d with late := true } })
    | none =>
      if s.headIdle n then s.emit (.doneReport (BitVec.ofNat 16 (headUnit n)) s.tickLo 0 0 false)
      else startFrame n false (s.setHead n { h with skipped := 0 })

def headsTick (s : State) : State := (upTo 4).foldl (fun t n => headTick n t) s

/-! ### Commands (R359) -/

def headSetRegs (n : Nat) (p : List Word) : List (Nat × Word) :=
  [(R.HEAD_CTRL n, wAt p 0), (R.HEAD_SIZE n, wAt p 1), (R.HEAD_LINE n, wAt p 2), (R.HEAD_FILL_A n, wAt p 3),
   (R.HEAD_FILL_B n, wAt p 4), (R.HEAD_WIT n, wAt p 5)]

def headLineOk (w : Word) : Bool := decide (500 ≤ F.HEAD_LINE_LINE_NS.get w ∧ F.HEAD_LINE_LINE_NS.get w ≤ 1000000)
def headWitOk (w : Word) : Bool := decide (1 ≤ F.HEAD_WIT_ECHO_LINES.get w)
def headCtrlOk (w : Word) : Bool := decide (F.HEAD_CTRL_FMT.get w ≤ 4)

def headSetLegal (p : List Word) : Chk :=
  firstOf [inRange (headCtrlOk (wAt p 0)) 0, inRange (headLineOk (wAt p 2)) 2, inRange (headWitOk (wAt p 5)) 5]

/-- HEAD_SET: the images, and a head stopped by policy resumes (R356). -/
def applyHeadSet (n : Nat) (p : List Word) (s : State) : State :=
  let s := s.putSTs (headSetRegs n p)
  s.setHead n { s.head n with halted := false, halting := false }

def headLanesLegal (p : List Word) : Chk :=
  let cnt := (p.length - 2) / 3
  firstOf [inRange (decide (bits (wAt p 1) 3 0 + cnt ≤ 16)) 1]

def applyHeadLanes (n : Nat) (p : List Word) (s : State) : State :=
  let first := bits (wAt p 1) 3 0
  let cnt := (p.length - 2) / 3
  let s := s.setHead n { s.head n with lanes := (wAt p 0).extractLsb' 0 16 }
  (upTo cnt).foldl (fun t j =>
    t.putSTs [(R.SCTRL n (first + j), wAt p (2 + 3 * j)), (R.SRECT_X n (first + j), wAt p (3 + 3 * j)),
      (R.SRECT_Y n (first + j), wAt p (4 + 3 * j))]) s

def kiteRegs (n l : Nat) (p : List Word) : List (Nat × Word) :=
  [(R.KCTRL n l, wAt p 1), (R.KDST n l, wAt p 2), (R.KSIZE n l, wAt p 3), (R.KSRC n l, wAt p 4), (R.KPROD n l, wAt p 5),
   (R.KSOFF n l, wAt p 6), (R.KPITCH n l, wAt p 7), (R.KCOLOR n l, wAt p 8)]

/-- The lines of a still image lie within the heap (R332). -/
def stillInHeap (ctrl src prod pitch : Word) : Bool :=
  let p := bits pitch 15 0 * 64
  let planes := if bits ctrl 6 4 = 4 then 3 else 1
  inHeap (bits src 25 0 * 64) (bits prod 28 16 * p + (bits prod 12 0 + 1) * sfmtBytes (bits ctrl 6 4)
    + (planes - 1) * (bits pitch 31 16 * 4096))

/-- KITE_SET's parameters (R332, Table CW-9) on a canvas of HEAD_SIZE `size`; the background's rectangle is the whole
canvas, whatever its words hold. -/
def kiteSetLegal (size : Word) (p : List Word) : Chk :=
  let l := bits (wAt p 0) 4 0
  let kind := bits (wAt p 1) 2 0
  let w := F.HEAD_SIZE_W_M1.get size + 1
  let h := F.HEAD_SIZE_H_M1.get size + 1
  let x := if l = 16 then 0 else bits (wAt p 2) 12 0
  let y := if l = 16 then 0 else bits (wAt p 2) 28 16
  let kw := if l = 16 then w else bits (wAt p 3) 12 0 + 1
  let kh := if l = 16 then h else bits (wAt p 3) 28 16 + 1
  let used := kind ≠ 0
  firstOf [
    inRange (decide (l ≤ 16)) 0,
    inRange (decide (kind ≤ 4) && decide (bits (wAt p 1) 6 4 ≤ 6)) 1,
    inRange (!used || decide (x < w ∧ y < h)) 2,
    inRange (!used || decide (x + kw ≤ w ∧ y + kh ≤ h)) 3,
    inRange (kind ≠ 4 || stillInHeap (wAt p 1) (wAt p 4) (wAt p 5) (wAt p 7)) 4,
    inRange (kind ≠ 4 || decide (bits (wAt p 6) 12 0 + kw ≤ bits (wAt p 5) 12 0 + 1
      ∧ bits (wAt p 6) 28 16 + kh ≤ bits (wAt p 5) 28 16 + 1)) 6]

def applyKiteSet (n : Nat) (p : List Word) (s : State) : State :=
  s.putSTs (kiteRegs n (bits (wAt p 0) 4 0) p)

def applyKiteClear (n : Nat) (p : List Word) (s : State) : State :=
  s.setFld (R.KCTRL n (bits (wAt p 0) 4 0)) F.KCTRL_KIND 0

def tetherOk (w : Word) : Bool :=
  let n := F.TCTRL_FREEZE_N.get w
  n ≠ 1 && !(F.TCTRL_MODE.get w == 1 && n ≠ 0) && decide (F.TCTRL_LAYER.get w ≤ 16)

def applyTetherSet (n : Nat) (p : List Word) (s : State) : State :=
  let r := bits (wAt p 0) 3 0
  s.putSTs [(R.TCTRL n r, wAt p 1), (R.TRECT_X n r, wAt p 2), (R.TRECT_Y n r, wAt p 3), (R.TEXPECT n r, wAt p 4)]

def applyTetherClear (n : Nat) (p : List Word) (s : State) : State :=
  (onesOf (bits (wAt p 0) 15 0) 16).foldl (fun t r => t.setFlag (R.TCTRL n r) F.TCTRL_EN false) s

def dirLineOk (w : Word) : Bool :=
  let t := F.HEAD_DIR_LINE_T_LINE_NS.get w
  decide (1000 ≤ t ∧ t ≤ 1000000 ∧ 1 ≤ F.HEAD_DIR_LINE_DELAY_LINES.get w)
def dirInOk (w : Word) : Bool := decide (3 ≤ F.HEAD_DIR_IN_LOG2_DEPTH.get w ∧ F.HEAD_DIR_IN_LOG2_DEPTH.get w ≤ 7)
def dirOutOk (w : Word) : Bool := decide (2 ≤ F.HEAD_DIR_OUT_LOG2_DEPTH.get w ∧ F.HEAD_DIR_OUT_LOG2_DEPTH.get w ≤ 6)
def dirTimeoutOk (w : Word) : Bool := decide (1000 ≤ F.HEAD_DIR_TIMEOUT_FRAME_TIMEOUT_US.get w)

def directSetLegal (p : List Word) : Chk :=
  firstOf [inRange (dirInOk (wAt p 1)) 1, inRange (dirOutOk (wAt p 2)) 2, inRange (dirLineOk (wAt p 3)) 3,
    inRange (dirTimeoutOk (wAt p 4)) 4]

/-- DIRECT_SET: the path, and a background of KIND 5 (R339). -/
def applyDirectSet (n : Nat) (p : List Word) (s : State) : State :=
  let s := s.putSTs [(R.HEAD_DIR_SRC n, wAt p 0), (R.HEAD_DIR_IN n, wAt p 1), (R.HEAD_DIR_OUT n, wAt p 2),
    (R.HEAD_DIR_LINE n, wAt p 3), (R.HEAD_DIR_TIMEOUT n, wAt p 4)]
  let s := s.setFld (R.KCTRL n 16) F.KCTRL_KIND 5
  s.setHead n { s.head n with direct := true, dirLive := false, lastSeq := none }

/-- DIRECT_CLEAR: the background returns to KIND 0 (R339). -/
def applyDirectClear (n : Nat) (s : State) : State :=
  let s := s.setFld (R.KCTRL n 16) F.KCTRL_KIND 0
  let s := dropCond n Wc.NOSOURCE (s.setReg (R.HEAD_DIR_STATUS n) 0)
  s.setHead n { s.head n with direct := false, dirLive := false }

/-- HEAD_STATUS and WITNESS_STATUS payloads (Table CW-9). -/
def headStatusRegs (n : Nat) : List Nat :=
  [R.HEAD_CTRL n, R.HEAD_SIZE n, R.HEAD_LINE n, R.HEAD_FILL_A n, R.HEAD_FILL_B n, R.HEAD_WIT n, R.HEAD_STATUS n,
   R.HEAD_ALARM n, R.HEAD_FRAMES n, R.HEAD_WFAIL n] ++ (upTo 17).map (R.HEAD_KSTAT n) ++ (upTo 16).map (R.SCOUNT n)

def witnessRegs (n : Nat) : List Nat :=
  [R.HEAD_ALARM n, R.HEAD_WFAIL n] ++ (upTo 16).flatMap (fun r => [R.HEAD_TCRC n r, R.HEAD_TSTAT n r])

/-- What committed head changes do at once: enabling, stream counters, tethers begun afresh (R327, Table CW-6). -/
def reactHead (old s : State) : State :=
  (upTo 4).foldl (fun t n =>
    let en (u : State) := u.flag (R.HEAD_CTRL n) F.HEAD_CTRL_EN
    let t := (upTo 16).foldl (fun t k =>
      let on (u : State) := u.flag (R.SCTRL n k) F.SCTRL_EN
      let t := if on t && !on old then t.setReg (R.SCOUNT n k) 0 else t
      let tether (u : State) := [u.reg (R.TCTRL n k), u.reg (R.TRECT_X n k), u.reg (R.TRECT_Y n k), u.reg (R.TEXPECT n k)]
      if tether t = tether old then t else
        let d := t.region n k
        t.setRegion n k { d with lastSig := none, run := 0 }) t
    let t := if en t && !en old then
        let t := t.setHead n { t.head n with halted := false, halting := false, passing := 0 }
        let t := if t.flag (R.HEAD_WIT n) F.HEAD_WIT_PIN_EN then holdCond n Wc.STOPPED t else t
        t.setHead n { t.head n with halted := false }
      else t
    let t := if headFmt t n = headFmt old n then t else t.setHead n { t.head n with shown := [], last := [] }
    let t := if !en t && en old then
        let t := match (t.head n).frame with
          | some f => (upTo 17).foldl (fun u l => match f.layers[l]? with | some y => releaseLayer n l y u | none => u) t
          | none => t
        t.setHead n { t.head n with frame := none, spans := [], regions := [], nosource := false, stopped := false, link := false }
      else t
    if en t then showHead n (checkLink n t) else if en old then showHead n t else t) s

/-! ### Consistency conditions (Table CW-7) -/

def State.headOn (s : State) (n : Nat) : Bool := s.flag (R.HEAD_CTRL n) F.HEAD_CTRL_EN
def State.onHeads (s : State) : List Nat := (upTo 4).filter s.headOn
def State.onStreams (s : State) (n : Nat) : List Nat := (upTo 16).filter (fun k => s.flag (R.SCTRL n k) F.SCTRL_EN)

def streamRect (s : State) (n k : Nat) : Nat × Nat × Nat × Nat :=
  let x := s.reg (R.SRECT_X n k)
  let y := s.reg (R.SRECT_Y n k)
  (bits x 12 0, bits y 12 0, bits x 28 16 + 1, bits y 28 16 + 1)

/-- Rectangle `a` lies within `b`. -/
def rectIn (a b : Nat × Nat × Nat × Nat) : Bool :=
  decide (b.1 ≤ a.1 ∧ b.2.1 ≤ a.2.1 ∧ a.1 + a.2.2.1 ≤ b.1 + b.2.2.1 ∧ a.2.1 + a.2.2.2 ≤ b.2.1 + b.2.2.2)

/-- RESOURCE of one enabled head; yards and stalls are looked at where the direct path names them. -/
def headResource (s : State) (n : Nat) : Bool :=
  let ids := s.onStreams n
  let lane k := s.fld (R.SCTRL n k) F.SCTRL_LANE
  let id k := s.fld (R.SCTRL n k) F.SCTRL_PORT * 16 + s.fld (R.SCTRL n k) F.SCTRL_VC
  ids.all (fun k => (s.head n).lanes.toNat / 2 ^ lane k % 2 == 1 && !(lane k % 2 == 1 && s.txBond (lane k)))
  && ids.all (fun k => ids.all (fun j => decide (j ≤ k) || !(lane j == lane k && id j == id k)))
  && ids.all (fun k => rectIn (streamRect s n k) (0, 0, s.fld (R.HEAD_SIZE n) F.HEAD_SIZE_W_M1 + 1, s.fld (R.HEAD_SIZE n) F.HEAD_SIZE_H_M1 + 1))
  && ids.all (fun k => match s.streamProf n k with
      | some (p, _) => let pr := profOf p; (pr.layout, pr.cont) == fmtLayout (headFmt s n) && pr.bw == fmtWidth (headFmt s n)
      | none => true)
  && (upTo 17).all (fun l =>
      let kind := s.fld (R.KCTRL n l) F.KCTRL_KIND
      (!([2, 3, 4].contains kind) || sfmtOk (headFmt s n) (s.fld (R.KCTRL n l) F.KCTRL_SFMT))
      && (kind ≠ 3 || (let w := s.reg (R.KPROD n l)
          match bits w 1 0 with
          | 1 => (s.yard? (bits w 15 8)).isSome
          | 2 => decide (bits w 15 8 < 16)
          | _ => false)))
  && (upTo 16).all (fun r => !s.flag (R.TCTRL n r) F.TCTRL_EN ||
      (let k := s.fld (R.TCTRL n r) F.TCTRL_STREAM
       let l := s.fld (R.TCTRL n r) F.TCTRL_LAYER
       ids.contains k && s.flag (R.SCTRL n k) F.SCTRL_EMB && rectIn (s.tetherRect n r) (streamRect s n k)
         && !(s.flag (R.TCTRL n r) F.TCTRL_ON_KITE && decide (l < 16) && s.fld (R.KCTRL n l) F.KCTRL_KIND == 0)))
  && (s.fld (R.KCTRL n 16) F.KCTRL_KIND ≠ 5 || (s.head n).direct)

/-- The direct path of a head stands on a context with TARGET.KIND 0b11 and a lockstep pair bound in LINE mode. -/
def directResource (s : State) (n : Nat) : Bool :=
  !(s.head n).direct ||
    (let src := s.reg (R.HEAD_DIR_SRC n)
     let g := F.HEAD_DIR_SRC_GATE.get src
     let c := F.HEAD_DIR_SRC_CTX.get src
     let a := s.stall (F.HEAD_DIR_SRC_PAIR.get src)
     s.fld (R.GATE_TARGET g c) F.GATE_TARGET_KIND == 3 && a.lock && a.mode == 2 && F.HEAD_DIR_SRC_PAIR.get src % 2 == 0)

/-- Two direct paths share neither a stream context nor a pair (Table TK-2, R32). -/
def directsApart (s : State) (a b : Nat) : Bool :=
  let sa := s.reg (R.HEAD_DIR_SRC a)
  let sb := s.reg (R.HEAD_DIR_SRC b)
  !(s.head a).direct || !(s.head b).direct || (bits sa 7 0 != bits sb 7 0 && bits sa 15 8 != bits sb 15 8)

def headsResourceOk (s : State) : Bool :=
  s.onHeads.all (headResource s) && (upTo 4).all (directResource s)
  && (upTo 4).all (fun a => (upTo 4).all (fun b => decide (b ≤ a) || directsApart s a b))
  && s.onHeads.all (fun a => s.onHeads.all (fun b => decide (b ≤ a) || (s.head a).lanes &&& (s.head b).lanes == 0))

def headsPowerOk (s : State) : Bool :=
  s.onHeads.all (fun n => s.domainOn 0x2D && (onesOf (s.head n).lanes.toNat 16).all (fun l => s.domainOn (0x28 + l / 4)))

def headsBandwidthOk (s : State) : Bool :=
  s.onHeads.all (fun n =>
    let (num, den) := headRate s n
    let w := s.fld (R.HEAD_SIZE n) F.HEAD_SIZE_W_M1 + 1
    let h := s.fld (R.HEAD_SIZE n) F.HEAD_SIZE_H_M1 + 1
    let area := (s.onStreams n).foldl (fun a k => let r := streamRect s n k; a + r.2.2.1 * r.2.2.2) 0
    decide (w * h * num ≤ 1990000000 * Nat.max den 1) && decide (area * num ≤ 1990000000 * Nat.max den 1)
    && ((s.head n).direct || decide (h * s.fld (R.HEAD_LINE n) F.HEAD_LINE_LINE_NS + 1000 * s.fld R.TICK_SEAL F.TICK_SEAL_SEAL_US
          ≤ s.fld R.TICK_PERIOD F.TICK_PERIOD_PERIOD_NS))
    && (upTo 16).all (fun l => laneCells s n l == 0 || demandFits s n l (s.fld (R.LANE_STATUS (32 + l)) F.LANE_STATUS_RATE)))

def headsRangeOk (s : State) : Bool :=
  (upTo 4).all (fun n =>
    headCtrlOk (s.reg (R.HEAD_CTRL n)) && headLineOk (s.reg (R.HEAD_LINE n)) && headWitOk (s.reg (R.HEAD_WIT n))
    && (upTo 17).all (fun l => decide (s.fld (R.KCTRL n l) F.KCTRL_KIND ≤ (if l = 16 then 5 else 4) ∧ s.fld (R.KCTRL n l) F.KCTRL_SFMT ≤ 6))
    && (upTo 16).all (fun r => tetherOk (s.reg (R.TCTRL n r)))
    && (upTo 16).all (fun k => selOk (s.reg (R.CODEC_HEAD_SEL n k)))
    && (!(s.head n).direct || (dirLineOk (s.reg (R.HEAD_DIR_LINE n)) && dirInOk (s.reg (R.HEAD_DIR_IN n))
          && dirOutOk (s.reg (R.HEAD_DIR_OUT n)) && dirTimeoutOk (s.reg (R.HEAD_DIR_TIMEOUT n))))
    && (!(s.headOn n && isYuv (headFmt s n)) ||
        (s.fld (R.HEAD_SIZE n) F.HEAD_SIZE_W_M1 % 2 == 1
         && (s.onStreams n).all (fun k => (streamRect s n k).1 % 2 == 0 && (streamRect s n k).2.2.1 % 2 == 0)
         && (upTo 16).all (fun l => s.fld (R.KCTRL n l) F.KCTRL_KIND == 0 ||
              (bits (s.reg (R.KDST n l)) 12 0 % 2 == 0 && bits (s.reg (R.KSIZE n l)) 12 0 % 2 == 1
                && bits (s.reg (R.KSOFF n l)) 12 0 % 2 == 0))
         && (upTo 16).all (fun r => !s.flag (R.TCTRL n r) F.TCTRL_EN ||
              ((s.tetherRect n r).1 % 2 == 0 && (s.tetherRect n r).2.2.1 % 2 == 0)))))

end Sys2Proof.Machine
end

