-- ==== Sys2Proof/Machine/StallIsa.lean ====
section
/-! DEFINITION. The stall machine (chapter 07): bundles (Table ST-3), the operations of Table ST-4 as functions
on scalars, lanes and accumulators, and what one bundle does to a stall's registers. -/

namespace Sys2Proof.Machine

/-! ### Bundles (R202, Table ST-3) -/

/-- Bits hi:lo of a bundle. -/
def bf (raw : BitVec 128) (hi lo : Nat) : Nat := raw.toNat / 2 ^ lo % 2 ^ (hi + 1 - lo)

def bFormat (raw : BitVec 128) : Nat := bf raw 1 0
def bLong (raw : BitVec 128) : Bool := bFormat raw == 1

/-- The scalar opcode. -/
def bS (raw : BitVec 128) : Nat := bf raw 9 2
def bSD (raw : BitVec 128) : Nat := bf raw 14 10
def bSA (raw : BitVec 128) : Nat := bf raw 19 15
def bSB (raw : BitVec 128) : Nat := bf raw 24 20
/-- IMM20, sign-extended. -/
def bImm (raw : BitVec 128) : Int := sext 20 (bf raw 39 20)
def bImm32 (raw : BitVec 128) : Word := w32 (bf raw 119 88)

/-- The vector opcode. -/
def bV (raw : BitVec 128) : Nat := bf raw 48 40
def bVD (raw : BitVec 128) : Nat := bf raw 54 49
def bVA (raw : BitVec 128) : Nat := bf raw 60 55
def bVB (raw : BitVec 128) : Nat := bf raw 66 61
def bVC (raw : BitVec 128) : Nat := bf raw 72 67
def bPR (raw : BitVec 128) : Nat := bf raw 75 73
def bPRZ (raw : BitVec 128) : Bool := bf raw 76 76 == 1
def bSH (raw : BitVec 128) : Nat := bf raw 82 77
def bRND (raw : BitVec 128) : Nat := bf raw 84 83
def bSAT (raw : BitVec 128) : Bool := bf raw 85 85 == 1
def bP12 (raw : BitVec 128) : Bool := bf raw 86 86 == 1
def bU (raw : BitVec 128) : Bool := bf raw 87 87 == 1

/-- The load/store opcode; absent, as NOP, in a long-immediate bundle. -/
def bM (raw : BitVec 128) : Nat := if bLong raw then 0 else bf raw 93 88
def bVT (raw : BitVec 128) : Nat := bf raw 99 94
def bBASE (raw : BitVec 128) : Nat := bf raw 104 100
def bOFF (raw : BitVec 128) : Nat := bf raw 120 105
def bMPR (raw : BitVec 128) : Nat := bf raw 123 121
def bSPACE (raw : BitVec 128) : Nat := bf raw 125 124

/-- Fault codes (Table ST-6). -/
def Sf.ILLEGAL : Nat := 1
def Sf.ALIGN : Nat := 2
def Sf.ADDRESS : Nat := 3
def Sf.ECC : Nat := 4
def Sf.NOCREDIT : Nat := 5
def Sf.LOCKSTEP : Nat := 6
def Sf.RUNAWAY : Nat := 7
def Sf.TRAP : Nat := 8
def Sf.PACKET : Nat := 9

/-- Scalar opcodes of Table ST-4. -/
def sOps : List Nat :=
  [0, 1, 2, 3, 4, 5, 6, 7, 8, 9, 0xA, 0xB, 0xC, 0xD, 0x10, 0x11, 0x12, 0x13, 0x14, 0x15, 0x16, 0x20, 0x21, 0x22, 0x23, 0x24,
   0x25, 0x26, 0x30, 0x31, 0x38, 0x39, 0x3A, 0x3B]

/-- Vector opcodes of Table ST-4. -/
def vOps : List Nat :=
  [0, 1, 2, 3, 4, 5, 6, 7, 8, 9, 0xA, 0xC, 0xD, 0x10, 0x20, 0x21, 0x22, 0x23, 0x24, 0x25, 0x30, 0x31, 0x32, 0x40, 0x41,
   0x42, 0x43, 0x44, 0x45, 0x46]

/-- Load/store opcodes of Table ST-4. -/
def mOps : List Nat := [0, 1, 2, 3, 4, 5, 6, 7, 8, 9, 0xA, 0xB, 0xC, 0xD, 0x10, 0x11, 0x12]

/-- A scalar operation with a register operand B: its bits 39:25 must be 0 (R202; log entry 14). -/
def sRegForm (op : Nat) : Bool := decide (1 ≤ op ∧ op ≤ 0xD)

/-- The bundle's form is legal: FORMAT, reserved bits, opcodes, MOVI with FORMAT 0b01 alone (R202, R204). -/
def bundleFormOk (raw : BitVec 128) : Bool :=
  (if bFormat raw = 0 then bf raw 127 126 == 0 && decide (bSPACE raw ≤ 1) && bS raw != 0x16
   else if bFormat raw = 1 then bf raw 127 120 == 0 && bS raw == 0x16 else false)
  && sOps.contains (bS raw) && vOps.contains (bV raw) && mOps.contains (bM raw)
  && (!sRegForm (bS raw) || bf raw 39 25 == 0)

/-! ### Registers (Table ST-1) -/

/-- A scalar register; s0 reads 0. -/
def Regs.sget (r : Regs) (i : Nat) : Word := if i = 0 then 0 else SMap.get r.s 0 i

/-- Write a scalar register; a write to s0 is discarded. -/
def Regs.sput (r : Regs) (i : Nat) (w : Word) : Regs := if i = 0 then r else { r with s := SMap.put r.s 0 i w }

def Regs.vget (r : Regs) (i : Nat) : BitVec 512 := SMap.get r.v 0 i
def Regs.vput (r : Regs) (i : Nat) (w : BitVec 512) : Regs := { r with v := SMap.put r.v 0 i w }
def Regs.aget (r : Regs) (i : Nat) : BitVec 1280 := SMap.get r.a 0 i
def Regs.aput (r : Regs) (i : Nat) (w : BitVec 1280) : Regs := { r with a := SMap.put r.a 0 i w }

/-- A predicate register; pr0 reads all ones. -/
def Regs.pget (r : Regs) (i : Nat) : Word := if i = 0 then 0xFFFFFFFF else SMap.get r.pr 0 i
def Regs.pput (r : Regs) (i : Nat) (w : Word) : Regs := if i = 0 then r else { r with pr := SMap.put r.pr 0 i w }

/-- The 32 lanes of a vector, 16 bits each. -/
def lanes16 (v : BitVec 512) : List Nat := (upTo 32).map (fun i => v.toNat / 2 ^ (16 * i) % 65536)

/-- A number packed from lanes of `w` bits, lane 0 in the low bits. -/
def packLanes (w : Nat) : List Nat → Nat
  | [] => 0
  | x :: xs => x % 2 ^ w + 2 ^ w * packLanes w xs

def ofLanes (l : List Nat) : BitVec 512 := BitVec.ofNat 512 (packLanes 16 l)

/-- The 32 lanes of an accumulator, 40 bits each, signed. -/
def lanes40 (a : BitVec 1280) : List Int := (upTo 32).map (fun i => sext 40 (a.toNat / 2 ^ (40 * i)))

/-- An accumulator from lanes, wrapping modulo 2^40. -/
def ofLanes40 (l : List Int) : BitVec 1280 := BitVec.ofNat 1280 (packLanes 40 (l.map (fun x => (x % 2 ^ 40).toNat)))

/-- The raw lanes of a vector operand: 32, or the 64 of a register pair in a paired operation (R200). -/
def Regs.raw (r : Regs) (p12 : Bool) (i : Nat) : List Nat :=
  if p12 then lanes16 (r.vget i) ++ lanes16 (r.vget (i + 1)) else lanes16 (r.vget i)

/-- A lane as an operand sample: 16 bits, or bits 11:0 in a paired operation; signed unless U (R200). -/
def sample (p12 u : Bool) (x : Nat) : Int :=
  let w := if p12 then 12 else 16
  if u then ((x % 2 ^ w : Nat) : Int) else sext w x

/-- The operand samples of a vector operand. -/
def Regs.operand (r : Regs) (p12 u : Bool) (i : Nat) : List Int := (r.raw p12 i).map (sample p12 u)

/-- The lanes of an accumulator operand, of a pair in a paired operation (R200). -/
def Regs.acc (r : Regs) (p12 : Bool) (i : Nat) : List Int :=
  if p12 then lanes40 (r.aget i) ++ lanes40 (r.aget (i + 1)) else lanes40 (r.aget i)

/-! ### Narrowing (R201) -/

/-- The function narrow of R201, before its result is cut to 16 bits. -/
def narrowInt (x : Int) (sh rnd : Nat) (sat u : Bool) : Int :=
  let r : Int := if sh = 0 then 0
    else if rnd = 1 then 2 ^ (sh - 1)
    else if rnd = 2 then 2 ^ (sh - 1) - 1 + x / 2 ^ sh % 2
    else 0
  let y := (x + r) / 2 ^ sh
  if !sat then y else if u then clampI 0 65535 y else clampI (-32768) 32767 y

/-- The low 16 bits of an integer. -/
def low16 (y : Int) : Nat := (y % 65536).toNat

def narrow16 (x : Int) (sh rnd : Nat) (sat u : Bool) : Nat := low16 (narrowInt x sh rnd sat u)

/-- Saturation of VADD and VSUB (R201). -/
def satLane (sat u : Bool) (y : Int) : Nat := narrow16 y 0 0 sat u

/-! ### The scalar slot -/

/-- Result of a scalar operation on two words, for the register forms of Table ST-4. -/
def scalarOp (op : Nat) (a b : Word) : Word :=
  let sh := b.toNat % 32
  match op with
  | 0x01 => a + b
  | 0x02 => a - b
  | 0x03 => a &&& b
  | 0x04 => a ||| b
  | 0x05 => a ^^^ b
  | 0x06 => a <<< sh
  | 0x07 => a >>> sh
  | 0x08 => a.sshiftRight sh
  | 0x09 => a * b
  | 0x0A => if a.toInt ≤ b.toInt then a else b
  | 0x0B => if b.toInt ≤ a.toInt then a else b
  | 0x0C => if a.toInt < b.toInt then 1 else 0
  | _ => if a.toNat < b.toNat then 1 else 0

/-- The register form whose operation an immediate form shares (Table ST-4). -/
def immForm (op : Nat) : Nat :=
  match op with | 0x10 => 0x01 | 0x11 => 0x03 | 0x12 => 0x04 | 0x13 => 0x06 | 0x14 => 0x07 | _ => 0x08

/-- What a bundle's scalar slot does. -/
structure SEff where
  /-- The register written. -/
  wr : Option (Nat × Word)
  /-- A taken branch or skip: the new program counter. -/
  jump : Option (BitVec 12)
  /-- A LOOP: its iterations, 0 to skip the body. -/
  loop : Option Nat
  deriving DecidableEq, Repr

def SEff.none : SEff := ⟨Option.none, Option.none, Option.none⟩

/-- The program counter moved by an offset, modulo 2^12. -/
def pcAdd (pc : BitVec 12) (d : Int) : BitVec 12 := pc + BitVec.ofInt 12 d

/-- The effect of the scalar slot; GETP and GETID values are supplied. -/
def scalarSlot (raw : BitVec 128) (r : Regs) (getp : Word) (getid : Word) : SEff :=
  let op := bS raw
  let a := r.sget (bSA raw)
  let imm := wordImm raw
  let dest := pcAdd r.pc (bImm raw)
  if sRegForm op then { SEff.none with wr := some (bSD raw, scalarOp op a (r.sget (bSB raw))) }
  else if 0x10 ≤ op ∧ op ≤ 0x15 then { SEff.none with wr := some (bSD raw, scalarOp (immForm op) a imm) }
  else match op with
  | 0x16 => { SEff.none with wr := some (bSD raw, bImm32 raw) }
  | 0x20 => if a = 0 then { SEff.none with jump := some dest } else SEff.none
  | 0x21 => if a = 0 then SEff.none else { SEff.none with jump := some dest }
  | 0x22 => if a.msb then { SEff.none with jump := some dest } else SEff.none
  | 0x23 => { SEff.none with jump := some dest }
  | 0x24 => { SEff.none with wr := some (bSD raw, w32 (r.pc + 1).toNat), jump := some dest }
  | 0x25 => { SEff.none with jump := some (a.extractLsb' 0 12) }
  | 0x26 => { SEff.none with loop := some a.toNat }
  | 0x30 => { SEff.none with wr := some (bSD raw, getp) }
  | 0x31 => { SEff.none with wr := some (bSD raw, getid) }
  | _ => SEff.none
where
  /-- IMM20 sign-extended to a word. -/
  wordImm (raw : BitVec 128) : Word := BitVec.ofInt 32 (bImm raw)

/-- Where execution goes after a bundle without a taken branch: the end of a loop body goes back to its first
bundle until its iterations are used up; two loops may end at one bundle (Table ST-4, LOOP). -/
def loopNext (pc : BitVec 12) : List (BitVec 12 × BitVec 12 × Nat) → BitVec 12 × List (BitVec 12 × BitVec 12 × Nat)
  | [] => (pc + 1, [])
  | (first, last, left) :: rest =>
    if pc = last then
      if 1 < left then (first, (first, last, left - 1) :: rest) else loopNext pc rest
    else (pc + 1, (first, last, left) :: rest)

/-- Last bundle of a LOOP's body; the LOOP's own where PC + 1 to PC + IMM20 names no bundle. -/
def loopLast (raw : BitVec 128) (r : Regs) : BitVec 12 := if bImm raw ≤ 0 then r.pc else pcAdd r.pc (bImm raw)

/-- The program counter and loop stack after a bundle. A LOOP whose body runs no time goes on as after the body's last
bundle, which may end an enclosing loop's body too (Table ST-4). -/
def advance (raw : BitVec 128) (e : SEff) (r : Regs) : Regs :=
  match e.loop, e.jump with
  | some n, _ =>
    if n = 0 ∨ bImm raw ≤ 0 then
      let (pc, loops) := loopNext (loopLast raw r) r.loops
      { r with pc := pc, loops := loops }
    else { r with pc := r.pc + 1, loops := (r.pc + 1, loopLast raw r, n) :: r.loops }
  | none, some t => { r with pc := t }
  | none, none =>
    let (pc, loops) := loopNext r.pc r.loops
    { r with pc := pc, loops := loops }

/-! ### The vector slot -/

/-- Lane-wise result of the element-wise operations of Table ST-4 on operand samples. -/
def laneOp (op : Nat) (sat u : Bool) (sh rnd : Nat) (a b c : Int) : Nat :=
  match op with
  | 0x001 => satLane sat u (a + b)
  | 0x002 => satLane sat u (a - b)
  | 0x003 => low16 (if a ≤ b then a else b)
  | 0x004 => low16 (if b ≤ a then a else b)
  | 0x005 => low16 (if a ≤ b then b - a else a - b)
  | 0x006 => low16 a &&& low16 b
  | 0x007 => low16 a ||| low16 b
  | 0x008 => low16 a ^^^ low16 b
  | 0x009 => low16 (a * 2 ^ sh)
  | 0x00A => narrow16 a sh rnd sat u
  | 0x00C =>
    let m := if b ≤ a then a else b
    low16 (if c ≤ m then c else m)
  | _ => narrow16 (a * b) sh rnd sat u

/-- Three lists walked together; the shortest ends the walk. -/
def zip3 {α β : Type} (f : α → α → α → β) : List α → List α → List α → List β
  | x :: xs, y :: ys, z :: zs => f x y z :: zip3 f xs ys zs
  | _, _, _ => []

/-- The predicate bit that governs lane i: lanes i and i + 32 share one (R204). -/
def prBit (p : Word) (i : Nat) : Bool := bit p (i % 32)

/-- Lanes written under a predicate: masked lanes keep their old value, or read zero with PRZ (Table ST-3). -/
def masked {α : Type} (z : α) (p : Word) (prz : Bool) (old new : List α) : List α :=
  (upTo new.length).map (fun i =>
    if prBit p i then new.getD i z else if prz then z else old.getD i z)

/-- What a bundle's vector slot writes. -/
inductive VEff where
  | none
  /-- Vector registers, as lanes: 32 for one register, 64 for a pair. -/
  | vec (d : Nat) (l : List Nat)
  | acc (d : Nat) (l : List Int)
  | pred (d : Nat) (w : Word)
  deriving DecidableEq, Repr

/-- Vector opcodes that write a vector register. -/
def vWritesVec (op : Nat) : Bool :=
  [1, 2, 3, 4, 5, 6, 7, 8, 9, 0xA, 0xC, 0xD, 0x10, 0x24, 0x30, 0x31, 0x46].contains op

/-- Vector opcodes that write an accumulator, and a predicate. -/
def vWritesAcc (op : Nat) : Bool := [0x20, 0x21, 0x22, 0x23, 0x25, 0x32].contains op
def vWritesPred (op : Nat) : Bool := decide (0x40 ≤ op ∧ op ≤ 0x45)

/-- Vector opcodes that read VA, VB and VC as vector registers. -/
def vReadsA (op : Nat) : Bool :=
  [1, 2, 3, 4, 5, 6, 7, 8, 9, 0xA, 0xC, 0x10, 0x20, 0x21, 0x22, 0x25, 0x30, 0x31, 0x32, 0x40, 0x41, 0x42, 0x46].contains op
def vReadsB (op : Nat) : Bool :=
  [1, 2, 3, 4, 5, 6, 7, 8, 0xC, 0x10, 0x20, 0x22, 0x30, 0x31, 0x40, 0x41, 0x42, 0x46].contains op
def vReadsC (op : Nat) : Bool := op == 0xC || op == 0x31

/-- The vector slot is legal: shift ranges, RND of a narrowing operation, even registers in a paired operation,
no write to pr0 (R198, R200, R201). -/
def vectorOk (raw : BitVec 128) : Bool :=
  let op := bV raw
  let sh := bSH raw
  let even (i : Nat) : Bool := i % 2 == 0
  (match op with
    | 0x009 | 0x00A | 0x010 => decide (sh ≤ 15)
    | 0x024 => decide (sh ≤ 39)
    | _ => true)
  && (!(op == 0x00A || op == 0x010 || op == 0x024) || bRND raw != 3)
  && (!vWritesPred op || bVD raw % 8 != 0)
  && (!bP12 raw ||
    ((!vWritesVec op || even (bVD raw)) && (!vReadsA op || even (bVA raw)) && (!vReadsB op || even (bVB raw))
      && (!vReadsC op || even (bVC raw)) && (!vWritesAcc op || even (bVD raw % 8))
      && (op != 0x24 || even (bVA raw % 8))))

/-- An operand's samples as 16-bit lanes; the lanes themselves in 16-bit mode. -/
def Regs.samples (r : Regs) (p12 u : Bool) (i : Nat) : List Nat := (r.operand p12 u i).map low16

/-- The lanes of two operands side by side (VSLIDE, VPERM). -/
def Regs.joined (r : Regs) (p12 u : Bool) (a b : Nat) : List Nat := r.samples p12 u a ++ r.samples p12 u b

/-- The effect of the vector slot. `free` gives the lanes the spec leaves open: those a slide takes from beyond
both operands, and the predicate bits of a paired compare, whose 64 outcomes the spec does not place (log entry
15). -/
def vectorSlot (raw : BitVec 128) (r : Regs) (free : Word) : VEff :=
  let op := bV raw
  let p12 := bP12 raw
  let u := bU raw
  let p := r.pget (bPR raw)
  let prz := bPRZ raw
  let n := if p12 then 64 else 32
  let a := r.operand p12 u (bVA raw)
  let b := r.operand p12 u (bVB raw)
  let vec (l : List Nat) : VEff := .vec (bVD raw) (masked 0 p prz (r.raw p12 (bVD raw)) l)
  let accD := bVD raw % 8
  let accOld := r.acc p12 accD
  let acc (l : List Int) : VEff := .acc accD (masked 0 p prz accOld l)
  let prD := bVD raw % 8
  let pred (l : List Nat) : VEff := .pred prD (w32 (packLanes 1 (masked 0 p prz
    ((upTo 32).map (fun i => b01 (bit (r.pget prD) i))) l)))
  let cmp (f : Int → Int → Bool) : VEff :=
    if p12 then pred ((upTo 32).map (fun i => b01 (bit free i)))
    else pred (zip3 (fun x y _ => b01 (f x y)) a b a)
  let pbits (i : Nat) : List Nat := (upTo 32).map (fun j => b01 (bit (r.pget (i % 8)) j))
  if op = 0 then .none
  else if op ≤ 0x0C ∨ op = 0x10 then
    vec (zip3 (laneOp op (bSAT raw) u (bSH raw) (bRND raw)) a b
      (if op = 0x0C then r.operand p12 u (bVC raw) else a))
  else match op with
  | 0x00D => vec (List.replicate n ((r.sget (bVA raw % 32)).toNat % 65536))
  | 0x020 => acc (zip3 (fun z x y => z + x * y) accOld a b)
  | 0x021 =>
    let k := sample p12 u (r.sget (bVB raw % 32)).toNat
    acc (zip3 (fun z x _ => z + x * k) accOld a a)
  | 0x022 => acc (zip3 (fun z x y => z - x * y) accOld a b)
  | 0x023 => acc (List.replicate n 0)
  | 0x024 => vec ((r.acc p12 (bVA raw % 8)).map (fun x => narrow16 x (bSH raw) (bRND raw) (bSAT raw) u))
  | 0x025 => acc (a.map (fun x => x * 2 ^ bSH raw))
  | 0x030 =>
    let j := r.joined p12 u (bVA raw) (bVB raw)
    vec ((upTo n).map (fun i => j.getD (i + bSH raw) (free.toNat / 2 ^ (i % 16))))
  | 0x031 =>
    let j := r.joined p12 u (bVA raw) (bVB raw)
    vec ((r.raw p12 (bVC raw)).map (fun c => j.getD (c % 64) 0))
  | 0x032 => acc (a.foldl (· + ·) 0 :: List.replicate (n - 1) 0)
  | 0x040 => cmp (fun x y => x == y)
  | 0x041 => cmp (fun x y => decide (x < y))
  | 0x042 => cmp (fun x y => decide (x ≤ y))
  | 0x043 => pred (zip3 (fun x y _ => x * y) (pbits (bVA raw)) (pbits (bVB raw)) (pbits 0))
  | 0x044 => pred (zip3 (fun x y _ => Nat.min 1 (x + y)) (pbits (bVA raw)) (pbits (bVB raw)) (pbits 0))
  | 0x045 => pred ((pbits (bVA raw)).map (fun x => 1 - x))
  | _ =>
    let sel := r.pget (bVC raw % 8)
    let la := r.samples p12 u (bVA raw)
    let lb := r.samples p12 u (bVB raw)
    vec ((upTo n).map (fun i => if prBit sel i then la.getD i 0 else lb.getD i 0))

/-- Write a vector slot's result. -/
def Regs.putV (r : Regs) : VEff → Regs
  | .none => r
  | .vec d l => if l.length ≤ 32 then r.vput d (ofLanes l) else (r.vput d (ofLanes (l.take 32))).vput (d + 1) (ofLanes (l.drop 32))
  | .acc d l => if l.length ≤ 32 then r.aput d (ofLanes40 l) else (r.aput d (ofLanes40 (l.take 32))).aput (d + 1) (ofLanes40 (l.drop 32))
  | .pred d w => r.pput d w

/-! ### Write conflicts (R203) -/

/-- The scalar register the scalar slot writes; a discarded write to s0 writes none. -/
def sWrites (raw : BitVec 128) : Option Nat :=
  let op := bS raw
  if bSD raw ≠ 0 ∧ (sRegForm op ∨ (0x10 ≤ op ∧ op ≤ 0x16) ∨ op = 0x24 ∨ op = 0x30 ∨ op = 0x31) then some (bSD raw) else none

/-- The scalar register the load/store slot writes. -/
def mWritesS (raw : BitVec 128) : Option Nat :=
  let op := bM raw
  if bVT raw % 32 ≠ 0 ∧ (op = 0x06 ∨ op = 0x0A ∨ op = 0x0B) then some (bVT raw % 32) else none

/-- The vector registers each slot writes. -/
def vWritesV (raw : BitVec 128) : List Nat :=
  if vWritesVec (bV raw) then (if bP12 raw then [bVD raw, bVD raw + 1] else [bVD raw]) else []
def mWritesV (raw : BitVec 128) : List Nat :=
  if [1, 3, 5, 0xC].contains (bM raw) then [bVT raw] else []

/-- No two slots of the bundle write one register (R203). -/
def noWriteClash (raw : BitVec 128) : Bool :=
  (match sWrites raw, mWritesS raw with | some x, some y => x != y | _, _ => true)
  && (mWritesV raw).all (fun x => !(vWritesV raw).contains x)

/-- The bundle is legal apart from what the stall's mode, loops and identity make ILLEGAL. -/
def bundleOk (raw : BitVec 128) : Bool := bundleFormOk raw && vectorOk raw && noWriteClash raw

/-- The 16-bit lanes of 64 bytes, and the bytes of a vector. -/
def vecOfBytes (bs : List Byte) : BitVec 512 := BitVec.ofNat 512 (leNat bs)
def vecBytes (v : BitVec 512) : List Byte := leBytes 64 v.toNat

end Sys2Proof.Machine
end

