-- ==== Sys2Proof/Machine/Stall.lean ====
section
/-! DEFINITION. Stalls, yards and queues (chapter 07): kernels loaded and bound, launches, bundles issued,
faults, done reports, lockstep pairs, and the checks of R226, R59 and R223. -/

namespace Sys2Proof.Machine

def stallUnit (n : Nat) : Nat := 0x2000 + n

/-! ### Yards (R225–R227) -/

/-- Stalls reached from member addresses, depth-first in descriptor order (R102); the fuel bounds the depth. -/
def reach (yards : List Yard) : Nat → List (BitVec 16) → List Nat
  | 0, _ => []
  | k + 1, ms => ms.flatMap (fun m =>
      if uClass m = 2 then [uIndex m]
      else match yards.find? (fun y => y.index = uIndex m) with
        | some y => reach yards k y.members
        | none => [])

/-- Yard indices from a yard down, itself first. -/
def reachYards (yards : List Yard) : Nat → Nat → List Nat
  | 0, _ => []
  | k + 1, i =>
    match yards.find? (fun y => y.index = i) with
    | some y => i :: y.members.flatMap (fun m => if uClass m = 3 then reachYards yards k (uIndex m) else [])
    | none => []

/-- Depth bound of the nesting: at most 255 yards (R104). -/
def yardFuel : Nat := 256

def State.yardStalls (s : State) (i : Nat) : List Nat := reach s.yards yardFuel [BitVec.ofNat 16 (0x3000 + i)]

/-- The yard of which an address is a direct member. -/
def parentOf (yards : List Yard) (u : Nat) : Option Nat :=
  (yards.find? (fun y => y.members.any (fun m => m.toNat = u))).map (·.index)

/-- The outermost yard above an address. -/
def outermost (yards : List Yard) : Nat → Nat → Option Nat
  | 0, _ => none
  | k + 1, u =>
    match parentOf yards u with
    | none => none
    | some i => (match outermost yards k (0x3000 + i) with | some j => some j | none => some i)

def State.outerYard (s : State) (n : Nat) : Option Nat := outermost s.yards yardFuel (stallUnit n)

/-- Position of a stall in the fan-out order of its outermost yard, and that yard's stall count; 0 and 1 outside yards
(R237, Table ST-5). -/
def State.place (s : State) (n : Nat) : Nat × Nat :=
  match s.outerYard n with
  | some i => ((s.yardStalls i).findIdx (fun m => m = n), (s.yardStalls i).length)
  | none => (0, 1)

/-- YARD of STALL_n_STATUS: 0xFF outside yards (Table ST-8). -/
def State.stallYard (s : State) (n : Nat) : Nat := (parentOf s.yards (stallUnit n)).getD 0xFF

/-- Yard levels from a yard down (YARD_QUERY word 17). -/
def yardDepth (yards : List Yard) : Nat → Nat → Nat
  | 0, _ => 0
  | k + 1, i =>
    match yards.find? (fun y => y.index = i) with
    | some y => 1 + (y.members.map (fun m => if uClass m = 3 then yardDepth yards k (uIndex m) else 0)).foldl Nat.max 0
    | none => 0

/-! ### Sheds -/

/-- Stall clock in MHz by level (Table HA-2, GETID selector 3). -/
def levelMHz (l : Nat) : Nat := match l with | 0 => 1200 | 1 => 1000 | 2 => 800 | _ => 400

/-- The level shed h runs at. -/
def State.shedLevel (s : State) (h : Nat) : Nat := (s.reg R.PWR_LEVEL).toNat / 4 ^ h % 4

/-- The primary of a stall's pair; the stall itself outside pairs. -/
def primaryOf (n : Nat) (x : Stall) : Nat := if x.lock then n / 2 * 2 else n

/-- Stall n is the checker of a pair. -/
def State.isChecker (s : State) (n : Nat) : Bool := (s.stall n).lock && n % 2 == 1

/-! ### Kernel objects (R216, R217, Table ST-7) -/

/-- Word `i` of an object's header. -/
def hdrWord (bs : List Byte) (i : Nat) : Nat := leNat ((bs.drop (4 * i)).take 4)

/-- What an object's header declares. -/
def kernelInfo (o : KObj) : KInfo :=
  let w1 := w32 (hdrWord o.bytes 1)
  { id := o.kernelId, kver := o.kver, key := o.key, tickMode := bit w1 8, lineMode := bit w1 9, p12 := bit w1 10,
    lockstep := bit w1 11, entry := BitVec.ofNat 12 (hdrWord o.bytes 7) }

/-- The object's header keeps the rules of Table ST-7 and R217. -/
def objectOk (bs : List Byte) : Bool :=
  let w := hdrWord bs
  let w1 := w32 (w 1)
  decide (64 ≤ bs.length ∧ w 0 = 0x4F4B584B ∧ bits w1 7 0 = 1 ∧ bits w1 31 12 = 0)
  && !(bit w1 8 && bit w1 9)
  && decide (w 2 / 65536 ≤ 0xFFFE ∧ w 3 % 16 = 0 ∧ 16 ≤ w 3 ∧ w 3 ≤ 65536 ∧ w 4 % 64 = 0 ∧ w 5 % 64 = 0 ∧ w 6 % 64 = 0
      ∧ w 7 < 4096 ∧ w 8 ≤ 256 ∧ w 6 + w 4 + w 5 ≤ paramBase ∧ w 9 < 256)
  && (upTo 5).all (fun i => w (11 + i) == 0)
  && decide (64 + w 3 + w 4 ≤ bs.length)

/-- The cached object of an identity; KVER 0xFFFF takes the newest (R218). -/
def State.findKernel (s : State) (id kver : Nat) : Option KObj :=
  let l := s.sec.cache.filter (fun o => o.kernelId.toNat = id)
  if kver = 0xFFFF then
    l.foldl (fun b o => match b with
      | none => some o
      | some p => if p.kver.toNat < o.kver.toNat then some o else some p) none
  else l.find? (fun o => o.kver.toNat = kver)

/-- An object of the cache holds a granule with an uncorrectable error (Table FS-2). -/
def State.kernelPoor (s : State) (o : KObj) : Bool :=
  !(s.poisonIn (Config.cacheAt o.kernelId.toNat o.kver.toNat % 0x2000000) o.bytes.length).isEmpty

/-- Bundles from code bytes, 16 bytes each, bundle 0 first; bundles of all zeros stay unlisted. -/
def loadBundles (i : Nat) : Nat → List Byte → SMap (BitVec 128)
  | 0, _ => []
  | k + 1, bs =>
    let w := BitVec.ofNat 128 (leNat (bs.take 16))
    let rest := loadBundles (i + 1) k (bs.drop 16)
    if w = 0 then rest else (i, w) :: rest

/-- Keep bundles beyond the copied code. -/
def keepAbove (lim : Nat) (m : SMap (BitVec 128)) : SMap (BitVec 128) := m.filter (fun e => lim ≤ e.1)

/-- Copy an object into a stall: code from bundle 0, data, zeroed bss and parameter block (R218). -/
def loadObject (o : KObj) (x : Stall) : Stall :=
  let w := hdrWord o.bytes
  let code := (o.bytes.drop 64).take (w 3)
  let data := (o.bytes.drop (64 + w 3)).take (w 4)
  let st := writeBytes x.store (w 6) data
  let st := st.filter (fun e => !(decide (w 6 + w 4 ≤ e.1 ∧ e.1 < w 6 + w 4 + w 5) || decide (paramBase ≤ e.1)))
  { x with imem := loadBundles 0 (w 3 / 16) code ++ keepAbove (w 3 / 16) x.imem, store := st,
           badBundles := x.badBundles.filter (fun b => w 3 / 16 ≤ b),
           badWords := x.badWords.filter (fun b => !(decide (w 6 ≤ 8 * b ∧ 8 * b < w 6 + w 4 + w 5) || decide (paramBase ≤ 8 * b))),
           kernel := some (kernelInfo o), loadingObj := none }

/-- Both stalls of a pair, or the stall alone: what a command to the even stall acts on (R221). -/
def State.pairOf (s : State) (n : Nat) : List Nat := if (s.stall n).lock then [n / 2 * 2, n / 2 * 2 + 1] else [n]

/-- Change a stall and its checker alike. -/
def State.onPair (s : State) (n : Nat) (f : Stall → Stall) : State :=
  (s.pairOf n).foldl (fun t i => t.setStall i (f (t.stall i))) s

/-! ### Queues (R214, R215) -/

def Stall.out (x : Stall) (p : Nat) : Option OutPort := SMap.get x.outs none p
def Stall.setOut (x : Stall) (p : Nat) (o : OutPort) : Stall := { x with outs := SMap.put x.outs none p (some o) }
def InPort.empty : InPort := ⟨[], 0, false, 0⟩
def Stall.inp (x : Stall) (p : Nat) : InPort := SMap.get x.ins InPort.empty p
def Stall.setIn (x : Stall) (p : Nat) (i : InPort) : Stall := { x with ins := SMap.put x.ins InPort.empty p i }

/-- Every queue: its producer, outbound port and port record. -/
def State.queues (s : State) : List (Nat × Nat × OutPort) :=
  s.stalls.flatMap (fun e => (upTo 4).filterMap (fun p => (e.2.out p).map (fun o => (e.1, p, o))))

/-- The producer of a stall's inbound port. -/
def State.producerOf (s : State) (n port : Nat) : Option (Nat × Nat × OutPort) :=
  s.queues.find? (fun q => q.2.2.consumer = n ∧ q.2.2.inPort = port)

/-- Flush one queue (R215): packets are discarded, both pointers start again at 0 and the credits at the full depth. -/
def flushQueue (producer port : Nat) (s : State) : State :=
  match (s.stall producer).out port with
  | none => s
  | some o =>
    let s := s.setStall producer ((s.stall producer).setOut port
      { o with credits := 2 ^ o.log2Depth, wr := 0, cur := 0, returning := [], flushPending := true, flushed := false })
    s.setStall o.consumer ((s.stall o.consumer).setIn o.inPort InPort.empty)

/-- Flush every queue with an end at stall n (R215). -/
def flushQueuesOf (n : Nat) (s : State) : State :=
  (s.queues.filter (fun q => q.1 = n ∨ q.2.2.consumer = n)).foldl (fun t q => flushQueue q.1 q.2.1 t) s

/-- A packet limit: min(64, depth ÷ 2) vectors (R214). -/
def OutPort.limit (o : OutPort) : Nat := Nat.min 64 (2 ^ o.log2Depth / 2)

/-! ### Done reports of yards and stalls (R66, R67, R227) -/

/-- A yard's work once stall `n` has ended its part. -/
def Yard.settle (n : Nat) (fault trunc : Bool) (cycles : Word) (y : Yard) : Yard :=
  if y.awaiting.contains n then
    { y with awaiting := y.awaiting.filter (· ≠ n), fault := y.fault || fault, trunc := y.trunc || trunc,
             usedCycles := if y.usedCycles.toNat < cycles.toNat then cycles else y.usedCycles }
  else y

/-- A stall's part in the work its yards owe ends, those dissolved since among them (R227). -/
def settleStall (n : Nat) (fault trunc : Bool) (cycles : Word) (s : State) : State :=
  { s with yards := s.yards.map (Yard.settle n fault trunc cycles),
           dissolved := s.dissolved.map (Yard.settle n fault trunc cycles) }

/-- Status of a done report: 0 OK, 1 TRUNCATED, 2 FAULT (R66). -/
def doneStatus (fault trunc : Bool) : Nat := if fault then 2 else if trunc then 1 else 0

/-- A stall of the yard has written its output without an exposure of the group (R247). -/
def State.yardLacks (s : State) (i : Nat) : Bool := (s.yardStalls i).any (fun n => (s.stall n).hdrLack)

/-- Run the drains of a yard, each slot carrying the report; true where one was dropped under hold (R316, R318). -/
def drainsOf (i : Nat) (rec : DoneRec) (s : State) : Bool × State :=
  s.store.pads.foldl (fun acc e =>
    match e.2.drain with
    | some d => if d.yard = i then (acc.1 || (runDrain e.1 d rec (s.yardLacks i) acc.2).1, (runDrain e.1 d rec (s.yardLacks i) acc.2).2) else acc
    | none => acc) (false, s)

/-- The yard's done report leaves (R66): TRUNCATED too where a drain was dropped under hold (R318). -/
def yardReport (y : Yard) (tick : Word) (s : State) : State :=
  let (dropped, s) := drainsOf y.index ⟨tick, doneStatus y.fault y.trunc, y.late⟩ s
  let status := doneStatus y.fault (y.trunc || dropped)
  let s := s.setYard { y with owes := none, dones := ⟨tick, status, y.late⟩ :: y.dones.take 1, fault := false, trunc := false,
                              lastCycles := y.usedCycles, late := false }
  s.emit (.doneReport (BitVec.ofNat 16 (0x3000 + y.index)) tick status y.usedCycles y.late)

/-- A yard's work is done: no stall of it is awaited and no member yard owes a report. -/
def State.yardReady (s : State) (y : Yard) : Bool :=
  y.awaiting.isEmpty && y.members.all (fun m => uClass m ≠ 3 ||
    (match s.yard? (uIndex m) with | some z => z.owes.isNone | none => true))

/-- A stall outside yards sends its own done report (R220). -/
def stallReport (n : Nat) (s : State) : State :=
  let x := s.stall n
  if !x.owesDone then s else
  let s := s.setStall n { x with owesDone := false, late := false, truncIn := false }
  s.emit (.doneReport (BitVec.ofNat 16 (stallUnit n)) x.launchTick (doneStatus (x.state == .fault) x.truncIn) x.usedCycles x.late)

/-- DONE_REPORT for a stall or a yard: the report leaves once the work is done and its writes acknowledged (R26). -/
def reportStall (n : Nat) (s : State) : State :=
  let x := s.stall n
  if x.state = .running ∨ x.xfers ≠ [] ∨ x.launchOnRestart then s else stallReport n s

/-- The report of a yard dissolved since its tick launched (R227). -/
def reportGone (i : Nat) (s : State) : State :=
  match s.dissolved.find? (fun y => y.index = i && y.awaiting.isEmpty) with
  | some y =>
    ({ s with dissolved := s.dissolved.filter (· ≠ y) }).emit (.doneReport (BitVec.ofNat 16 (0x3000 + i)) (y.owes.getD 0)
      (doneStatus y.fault y.trunc) y.usedCycles y.late)
  | none => s

def reportYard (i : Nat) (s : State) : State :=
  match s.yard? i with
  | none => reportGone i s
  | some y =>
    match y.owes with
    | some tick => if s.yardReady y then yardReport y tick s else reportGone i s
    | none => reportGone i s

/-- Every yard whose last awaited stall a set has just abandoned reports at once, late (R219). -/
def reportAbandoned (old s : State) : State :=
  s.yards.foldl (fun t y =>
    let waited := match old.yard? y.index with | some z => !z.awaiting.isEmpty | none => false
    match y.owes with
    | some tick => if waited && t.yardReady y then yardReport { y with late := true } tick t else t
    | none => t) s

/-! ### Faults (R207, R208, R222, R224) -/

/-- Restarts of a pair kept within the last 1000 ms. -/
def recentRestarts (now : Nat) (l : List Nat) : List Nat := l.filter (fun t => decide (now < t + 1000000000))

/-- Uncorrectable words of the stall store touched by a range. -/
def Stall.bad (x : Stall) (a len : Nat) : Bool := x.badWords.any (fun b => decide (8 * b < a + len ∧ a < 8 * b + 8))

/-- A fault that R224 restores: LOCKSTEP, ECC or RUNAWAY. -/
def restorable (code : Nat) : Bool := [Sf.LOCKSTEP, Sf.ECC, Sf.RUNAWAY].contains code

/-- The outstanding HPUTs of a stall that stops are acknowledged: their data reaches the hayloft whole, but for words
with an uncorrectable error and for granules that a pair's checker does not confirm (R207, R222). -/
def ackPuts (n : Nat) (s : State) : State :=
  let x := s.stall n
  let y := s.stall (n + 1)
  x.xfers.foldl (fun t p =>
    let data := readBytes x.store p.loc p.bytes
    let confirmed := !x.lock || (y.xfers.contains p && readBytes y.store p.loc p.bytes == data)
    if p.put && !x.bad p.loc p.bytes && confirmed then t.hayWrite p.hay data else t) s

/-- A pair halts: it stays in FAULT, and the direct paths it serves stop (R224). -/
def haltPair (n : Nat) (s : State) : State :=
  let s := s.onPair n (fun y => { y with halted := true })
  ((s.pairHeads n).foldl (fun t h => stopDirect h 3 t) (s.raise Ev.PAIR_HALTED (stallUnit n) 0)).degrade Ev.PAIR_HALTED

/-- A stall stops with a fault; both stalls of a pair stop together. -/
def stallFault (n code : Nat) (s : State) : State :=
  let s := ackPuts n s
  let x := s.stall n
  let now := s.clk.localNs
  let recent := recentRestarts now x.restarts
  let pair := x.lock && x.mode == 2
  let halt := pair && (!restorable code || decide (3 ≤ recent.length))
  let s := s.onPair n (fun y => { y with state := .fault, lastFault := code, xfers := [], waitLine := false, halted := false })
  let s := settleStall n true x.truncIn x.usedCycles s
  let s := if code = Sf.RUNAWAY then s.incSat (R.SHED_CMP (n / 16)) F.SHED_CMP_RUNAWAY 1 else s
  let s := if code = Sf.ECC then s.incSat (R.SHED_STATUS (n / 16)) F.SHED_STATUS_ECC_UNCORR 1 else s
  let s := s.raise Ev.STALL_FAULT (stallUnit n) (evArg code 0 0)
  let s := if code = Sf.LOCKSTEP then
      (s.pairHeads n).foldl (fun t h => headLockstep h t)
        ((s.incSat (R.SHED_CMP (n / 16)) F.SHED_CMP_MISCOMPARE 1).raise Ev.LOCKSTEP_MISCOMPARE (stallUnit n) 0)
    else s
  if halt then haltPair n s else s.degrade Ev.STALL_FAULT

/-! ### Launches (R199, R64, R72, R223) -/

/-- Committed parameter words become visible to GETP (R211). -/
def showParams (x : Stall) : Stall :=
  { x with params := [], store := x.params.foldl (fun m e => writeBytes m (paramBase + 4 * e.1) (wordBytes e.2)) x.store }

/-- Registers and program counter as a launch sets them (R199). -/
def launched (tick : Word) (x : Stall) : Stall :=
  let x := showParams x
  { x with state := if x.state = .checker then .checker else .running,
           regs := { Regs.zero with pc := match x.kernel with | some k => k.entry | none => 0 },
           xfers := [], launchTick := tick, ticksRunning := 0, waitLine := false, armed := false, launchOnRestart := false,
           late := false, boundNow := false }

/-- A TICK-mode stall can launch: bound and not still running an earlier tick's work. -/
def Stall.launchable (x : Stall) : Bool := x.mode == 1 && (x.state == .bound || x.state == .done)

/-- Launch a TICK-mode stall's kernel for the present tick; a shed whose clocks stand launches it on restart (R72). -/
def launchStall (n : Nat) (stopped : Bool) (s : State) : State :=
  if stopped then s.setStall n { s.stall n with launchOnRestart := true, launchTick := s.tickLo, state := .bound }
  else s.onPair n (launched s.tickLo)

/-- A shed's clocks restart and its stalls launch (R72). -/
def shedRestart (h : Nat) (s : State) : State :=
  let s := { s with pwr := { s.pwr with stoppedSheds := s.pwr.stoppedSheds.filter (· ≠ h) } }
  (upTo 16).foldl (fun t i =>
    let n := 16 * h + i
    if (t.stall n).launchOnRestart then t.onPair n (launched (t.stall n).launchTick) else t) s

/-- Stalls among `ns` that a set has bound at this tick launch, late yard or not (R219). -/
def launchBound (ns : List Nat) (stopped : Nat → Bool) (s : State) : State :=
  (ns.filter (fun n => (s.stall n).boundNow && (s.stall n).launchable)).foldl (fun t n => launchStall n (stopped (n / 16)) t) s

/-- One yard at a tick instant: late, or its work for the tick starts. Its stalls launch only when its outermost
yard has reported (R64, R66, R67); a yard that its outermost yard holds back launches nothing, is not late itself and
counts no skipped tick (DEDUCED from R67, log entry 37). -/
def yardTick (i : Nat) (stopped : Nat → Bool) (s : State) : State :=
  match s.yard? i with
  | none => s
  | some y =>
    if y.owes.isSome then
      let mine := y.members.filterMap (fun m => if uClass m = 2 then some (uIndex m) else none)
      if y.late then launchBound mine stopped (s.setYard { y with skipped := y.skipped + 1 }) else
      let s := launchBound mine stopped (s.setYard { y with late := true, skipped := 1 })
      (s.incSat R.LATE_COUNT F.LATE_COUNT_LATE 1).raise Ev.TICK_LATE (0x3000 + i) 0
    else
      let blocked := match outermost s.yards yardFuel (0x3000 + i) with
        | some o => (match s.yard? o with | some z => z.owes.isSome && o ≠ i && z.late | none => false)
        | none => false
      if blocked then s else
      let s := if 2 ≤ y.skipped then s.raise Ev.TICK_SKIP (0x3000 + i) (evArg 0 0 y.skipped) else s
      let mine := y.members.filterMap (fun m => if uClass m = 2 then some (uIndex m) else none)
      let all := s.yardStalls i
      let bad := all.any (fun n => (s.stall n).state == .fault && (s.stall n).mode != 2)
      let go := mine.filter (fun n => (s.stall n).launchable)
      let work := all.filter (fun n => (s.stall n).launchable || (s.stall n).mode == 1 && ((s.stall n).state == .running || (s.stall n).launchOnRestart))
      let s := go.foldl (fun t n => launchStall n (stopped (n / 16)) t) s
      let y' := { y with skipped := 0, usedCycles := 0, fault := bad, trunc := false, awaiting := work, late := false }
      if bad || work.isEmpty then
        yardReport { y' with awaiting := [] } s.tickLo (s.setYard { y' with awaiting := [] })
      else s.setYard { y' with owes := some s.tickLo }

/-- A stall outside yards at a tick instant (R67, R208, R209, R220). -/
def stallTick (n : Nat) (stopped : Nat → Bool) (s : State) : State :=
  let x := s.stall n
  if x.mode = 2 || s.isChecker n then s else
  if x.state = .fault ∧ !x.owesDone then
    s.emit (.doneReport (BitVec.ofNat 16 (stallUnit n)) s.tickLo 2 0 false)
  else if x.owesDone then
    if x.late then s.setStall n { x with skipped := x.skipped + 1 } else
    let s := s.setStall n { x with late := true, skipped := 1 }
    (s.incSat R.LATE_COUNT F.LATE_COUNT_LATE 1).raise Ev.TICK_LATE (stallUnit n) 0
  else if x.launchable then
    let s := if 2 ≤ x.skipped then s.raise Ev.TICK_SKIP (stallUnit n) (evArg 0 0 x.skipped) else s
    let s := s.setStall n { x with skipped := 0, owesDone := true }
    launchStall n (stopped (n / 16)) s
  else s

/-- Running TICK-mode stalls count tick instants: RUNAWAY at the fourth after the launch (R209), LATE before. A stall
outside yards, which owes its own DONE, is marked late by `stallTick` (R67, R68). -/
def stallAges (s : State) : State :=
  s.stalls.foldl (fun t e =>
    let x := t.stall e.1
    if x.mode = 1 ∧ x.state = .running then
      if 4 ≤ x.ticksRunning + 1 then stallFault e.1 Sf.RUNAWAY t
      else t.setStall e.1 { x with ticksRunning := x.ticksRunning + 1, late := x.late || !x.owesDone }
    else t) s

/-- A yard dissolved with a tick's report owed is late at the next tick instant like any other (R67, R227). -/
def goneTick (s : State) : State :=
  s.dissolved.foldl (fun t y =>
    if y.late then t else
    let t := { t with dissolved := t.dissolved.map (fun z => if z = y then { z with late := true } else z) }
    (t.incSat R.LATE_COUNT F.LATE_COUNT_LATE 1).raise Ev.TICK_LATE (0x3000 + y.index) 0) s

/-- LINE-mode stalls show the largest cycles of a line in the tick that ends (Table ST-9). -/
def linesTick (s : State) : State :=
  { s with stalls := s.stalls.map (fun e =>
      if e.2.mode = 2 then (e.1, { e.2 with usedCycles := e.2.lineMax, lineMax := 0 }) else e) }

/-- Launches at a tick instant: inner yards before the yards that hold them, then stalls outside yards. -/
def stallsTick (stopped : Nat → Bool) (s : State) : State :=
  let s := goneTick (linesTick (stallAges s))
  let order := (s.yards.filter (fun y => (parentOf s.yards (0x3000 + y.index)).isNone)).flatMap
    (fun y => (reachYards s.yards yardFuel y.index).reverse)
  let late := order.filter (fun i => match s.yard? i with | some y => y.owes.isSome | none => false)
  let rest := order.filter (fun i => !late.contains i)
  let s := (late ++ rest).foldl (fun t i => yardTick i stopped t) s
  s.stalls.foldl (fun t e => if (parentOf t.yards (stallUnit e.1)).isNone then stallTick e.1 stopped t else t) s

/-! ### LINE-mode pairs (R222–R224) -/

/-- Line credits return to the gate context that feeds a pair's input ring (R191). -/
def lineCredit (n lines : Nat) (s : State) : State :=
  (s.pairHeads n).foldl (fun t h =>
    let g := t.fld (R.HEAD_DIR_SRC h) F.HEAD_DIR_SRC_GATE
    let c := t.fld (R.HEAD_DIR_SRC h) F.HEAD_DIR_SRC_CTX
    t.setCtx g c { t.ctx g c with lineCred := satAdd (t.ctx g c).lineCred lines (2 ^ (t.dirIn h).2.1) }) s

/-- The pair takes the oldest input line present and goes on with it. -/
def takeLine (n : Nat) (s : State) : State :=
  match (s.stall n).ready with
  | [] => s
  | (line, seq, tick) :: rest =>
    s.onPair n (fun y => { y with outEnd := if y.frameSeq = seq then y.outEnd else 0, ready := rest, line := line, frameSeq := seq, launchTick := tick, haveLine := true, waitLine := false,
                                  state := if y.state = .checker then .checker else .running })

/-- A SOF on the stream of a pair's direct path: parameters become visible, an armed pair launches, a faulted one
is restored from the kernel cache and restarts (R211, R223, R224). -/
def pairSof (n : Nat) (seq : Word) (s : State) : State :=
  let x := s.stall n
  if !x.lock || x.mode ≠ 2 || x.halted then s else
  let start (s : State) : State :=
    let s := lineCredit n (2 ^ 7) s
    s.onPair n (fun y => { launched s.tickLo y with frameSeq := seq, line := 0, ready := [], haveLine := false, outEnd := 0 })
  if x.state = .fault then
    match x.kernel.bind (fun k => s.findKernel k.id.toNat k.kver.toNat) with
    | none => s
    | some o =>
      if s.kernelPoor o then haltPair n s else
      let s := s.onPair n (loadObject o)
      let s := s.setStall (n + 1) { s.stall (n + 1) with state := .checker }
      let s := s.setStall n { s.stall n with restarts := recentRestarts s.clk.localNs x.restarts ++ [s.clk.localNs] }
      let s := (s.pairHeads n).foldl (fun t h => t.incSat (R.HEAD_DIR_STATUS h) F.HEAD_DIR_STATUS_RESTARTS 1) s
      start s
  else if x.armed then start s
  else s.onPair n showParams

/-- An input line has reached a direct path's ring: a waiting pair continues; a pair that has not finished its
line is late (R223, R224). -/
def inputLine (h : Nat) (s : State) : State :=
  if !(s.head h).direct then s else
  let n := s.fld (R.HEAD_DIR_SRC h) F.HEAD_DIR_SRC_PAIR
  let x := s.stall n
  if !x.lock || x.mode ≠ 2 || x.ready.isEmpty then s
  else if x.state = .running then
    if x.haveLine then s.raise Ev.PAIR_LINE_LATE (stallUnit n) 0 else takeLine n s
  else if x.waitLine then takeLine n s
  else s

/-- A LINE-mode stall has run 4 × T_LINE_NS without ENDL (R209). -/
def lineRunaway (n : Nat) (s : State) : State :=
  if (s.stall n).mode = 2 ∧ (s.stall n).state = .running then stallFault n Sf.RUNAWAY s else s

/-! ### Memory accesses of a kernel (R210, R212) -/

/-- A byte range lies in one window of the binding that allows the access, or in the pair's own rings (R212). -/
def State.hayAllowed (s : State) (n : Nat) (write : Bool) (a len : Nat) : Bool :=
  let x := s.stall n
  x.wins.any (fun w => (w.writable || !write) && decide (w.base * 64 ≤ a ∧ a + len ≤ (w.base + w.size) * 64))
  || (s.pairHeads n).any (fun h =>
      (s.dirRanges h).any (fun r => decide (r.1 ≤ a ∧ a + len ≤ r.1 + r.2)))

/-- Bytes a kernel loads, or the fault its access meets: ALIGN, then ADDRESS, then ECC (R207; log entry 16). -/
def kLoad (n : Nat) (x : Stall) (space a len align : Nat) (s : State) : Except Nat (List Byte) :=
  if a % align ≠ 0 then .error Sf.ALIGN
  else if space = 0 then
    if 0x20000 < a + len then .error Sf.ADDRESS
    else if x.bad a len then .error Sf.ECC
    else .ok (readBytes x.store a len)
  else if !s.hayAllowed n false a len then .error Sf.ADDRESS
  else if s.hayPoor a len then .error Sf.ECC
  else .ok (s.hayRead a len)

/-- A kernel's store may go to a range. -/
def kStore (n : Nat) (space a len align : Nat) (s : State) : Except Nat Unit :=
  if a % align ≠ 0 then .error Sf.ALIGN
  else if space = 0 then (if paramBase < a + len then .error Sf.ADDRESS else .ok ())
  else if s.hayAllowed n true a len then .ok () else .error Sf.ADDRESS

/-! ### The load/store slot -/

/-- What a bundle's load/store slot does. -/
inductive MEff where
  | none
  | sreg (d : Nat) (w : Word)
  | vreg (d : Nat) (v : BitVec 512)
  | local_ (ws : List (Nat × Byte))
  | hay (ws : List (Nat × Byte))
  | push (p : Nat) (v : BitVec 512)
  | qend (p : Nat)
  | qtake (p d : Nat) (w : Word)
  | qpop (p d : Nat) (v : BitVec 512)
  | qrel (p : Nat)
  | xfer (x : Xfer)
  deriving DecidableEq, Repr

/-- Bytes at rising addresses, those whose lane of `w` bytes the predicate selects. -/
def laneBytes (p : Word) (w a : Nat) (bs : List Byte) : List (Nat × Byte) :=
  ((upTo bs.length).filter (fun i => prBit p (i / w))).map (fun i => (a + i, bs.getD i 0))

/-- Lane i under a predicate, the old lane where it is masked. -/
def underPred (p : Word) (old new : BitVec 512) : BitVec 512 :=
  ofLanes (masked 0 p false (lanes16 old) (lanes16 new))

/-- The load/store slot; none when the bundle waits. `free` is the vector of a pop beyond the current packet, a
value the spec does not state (log entry 15). -/
def memSlot (n : Nat) (x : Stall) (raw : BitVec 128) (free : BitVec 512) (s : State) : Except Nat (Option MEff) :=
  let op := bM raw
  let r := x.regs
  let q := s.stall n
  let p := bOFF raw % 4
  let vt := bVT raw
  let pr := r.pget (bMPR raw)
  let sp := bSPACE raw
  let addr (size : Nat) : Nat := ((r.sget (bBASE raw)) + BitVec.ofInt 32 (sext 16 (bOFF raw) * size)).toNat
  let lenU := bOFF raw * 64
  match op with
  | 0x00 => .ok (some .none)
  | 0x01 => do
    let bs ← kLoad n x sp (addr 64) 64 64 s
    .ok (some (.vreg vt (underPred pr (r.vget vt) (vecOfBytes bs))))
  | 0x02 => do
    kStore n sp (addr 64) 64 64 s
    let ws := laneBytes pr 2 (addr 64) (vecBytes (r.vget vt))
    .ok (some (if sp = 0 then .local_ ws else .hay ws))
  | 0x03 => do
    let bs ← kLoad n x sp (addr 32) 32 32 s
    .ok (some (.vreg vt (underPred pr (r.vget vt) (ofLanes (bs.map (·.toNat))))))
  | 0x04 => do
    kStore n sp (addr 32) 32 32 s
    let bs := (lanes16 (r.vget vt)).map (fun v => BitVec.ofNat 8 (clampI 0 255 (sext 16 v)).toNat)
    let ws := laneBytes pr 1 (addr 32) bs
    .ok (some (if sp = 0 then .local_ ws else .hay ws))
  | 0x05 =>
    if sp ≠ 0 then .error Sf.ILLEGAL else do
    let ls ← (lanes16 (r.vget vt)).mapM (fun i => do
      let bs ← kLoad n x 0 ((addr 64 + 2 * i) % 2 ^ 32) 2 2 s
      .ok (leNat bs))
    .ok (some (.vreg vt (ofLanes ls)))
  | 0x06 => do
    let bs ← kLoad n x sp (addr 4) 4 4 s
    .ok (some (.sreg (vt % 32) (w32 (leNat bs))))
  | 0x07 => do
    kStore n sp (addr 4) 4 4 s
    let ws := laneBytes 0xFFFFFFFF 4 (addr 4) (wordBytes (r.sget (vt % 32)))
    .ok (some (if sp = 0 then .local_ ws else .hay ws))
  | 0x08 =>
    match q.out p with
    | none => .error Sf.NOCREDIT
    | some o =>
      if o.flushPending || o.flushed then .ok (some (.push p (r.vget vt)))
      else if o.limit < o.cur + 1 then .error Sf.PACKET
      else if o.credits = 0 then .error Sf.NOCREDIT
      else .ok (some (.push p (r.vget vt)))
  | 0x09 => .ok (some (.qend p))
  | 0x0A =>
    let w := match q.out p with | some o => w32 (o.credits + 2 ^ 31 * b01 o.flushed) | none => 0
    .ok (some (.sreg (vt % 32) w))
  | 0x0B =>
    let i := q.inp p
    match i.packets with
    | len :: _ => if i.current then .ok none else .ok (some (.qtake p (vt % 32) (w32 len)))
    | [] => .ok none
  | 0x0C =>
    let i := q.inp p
    match s.producerOf n p, i.packets with
    | some (_, _, o), len :: _ =>
      let at_ := o.base * 64 + (i.rd + i.popped) % 2 ^ o.log2Depth * 64
      if i.current && decide (i.popped < len) then
        if s.hayPoor at_ 64 then .error Sf.ECC else .ok (some (.qpop p vt (vecOfBytes (s.hayRead at_ 64))))
      else .ok (some (.vreg vt free))
    | _, _ => .ok (some (.vreg vt free))
  | 0x0D => .ok (some (.qrel p))
  | 0x10 => do
    let h := (r.sget (bBASE raw)).toNat
    let l := (r.sget (vt % 32)).toNat
    let _ ← kLoad n x 1 h lenU 64 { s with hayBad := [] }
    kStore n 0 l lenU 64 s
    .ok (some (.xfer ⟨false, h, l, lenU⟩))
  | 0x11 => do
    let h := (r.sget (bBASE raw)).toNat
    let l := (r.sget (vt % 32)).toNat
    kStore n 1 h lenU 64 s
    let _ ← kLoad n x 0 l lenU 64 s
    .ok (some (.xfer ⟨true, h, l, lenU⟩))
  | _ => if bOFF raw < x.xfers.length then .ok none else .ok (some .none)

/-! ### Issuing a bundle (R203) -/

/-- How a bundle ends the kernel's present work. -/
inductive EndKind where
  | none
  | endt
  | endl
  deriving DecidableEq, Repr

/-- What issuing a bundle on one stall of a pair, or on a single stall, gives. -/
structure Issue where
  regs : Regs
  mem : MEff
  fin : EndKind
  deriving DecidableEq, Repr

/-- GETID (Table ST-5); none for a selector outside the table. Selector 6 is a free value (log entry 5). -/
def State.getid (s : State) (n : Nat) (sel : Int) : Option Word :=
  let x := s.stall n
  let outer := s.outerYard n
  match sel with
  | 0 => some (w32 (stallUnit n))
  | 1 => some x.launchTick
  | 2 => some (if x.mode = 2 then w32 x.line else 0)
  | 3 => some (w32 (levelMHz (s.shedLevel (n / 16))))
  | 4 => some (if outer.isSome then w32 (s.place n).1 else 0xFFFFFFFF)
  | 5 => some (w32 (s.place n).2)
  | 6 => some (Config.cycles n s.fresh)
  | 7 => some (if x.mode = 2 then x.frameSeq else 0)
  | _ => none

/-- A library kernel ends its tick's work only once its rings have delivered the frame (R236). -/
def State.libDone (s : State) (x : Stall) : Bool := match x.library with | some l => libReady l s x | none => true

/-- What stops a library kernel at its entry, as fault and TRAP code: a parameter out of range, or an access outside its
windows; and at its ENDT data with an uncorrectable error (R207, R212, R238). -/
def State.libStop (s : State) (n : Nat) (raw : BitVec 128) : Option (Nat × Nat) :=
  let x := s.stall n
  match x.library with
  | none => none
  | some l =>
    let (p, c) := s.place n
    if x.kernel.any (fun k => k.entry = x.regs.pc) then
      match libTrap l s x with
      | some t => some (Sf.TRAP, t)
      | none => if libReaches l s x p c then none else some (Sf.ADDRESS, 0)
    else if bS raw = 0x38 ∧ libReady l s x ∧ libPoor l s x p c then some (Sf.ECC, 0)
    else none

/-- Issue the bundle at the program counter on the registers and memories of `x`, a stall of the pair or single
stall whose primary is `n`; none when the bundle waits (R203). -/
def issueOn (n : Nat) (x : Stall) (raw : BitVec 128) (s : State) : Except Nat (Option Issue) :=
  if x.badBundles.contains x.regs.pc.toNat then .error Sf.ECC
  else if !bundleOk raw then .error Sf.ILLEGAL
  else
    let op := bS raw
    let id := s.getid n (bImm raw)
    let line := x.mode == 2
    if op = 0x31 ∧ id = none then .error Sf.ILLEGAL
    else if (op = 0x38 ∧ line) ∨ (op = 0x39 ∧ !line) then .error Sf.ILLEGAL
    else if op = 0x26 ∧ x.regs.sget (bSA raw) ≠ 0 ∧ 2 ≤ x.regs.loops.length then .error Sf.ILLEGAL
    else if op = 0x3A then .error Sf.TRAP
    else if (op = 0x38 ∨ op = 0x39 ∨ op = 0x3B) ∧ x.xfers ≠ [] then .ok none
    else if op = 0x38 ∧ !s.libDone x then .ok none
    else
      let pa := paramBase + 4 * bf raw 27 20
      if op = 0x30 ∧ x.bad pa 4 then .error Sf.ECC else
      match memSlot n x raw (vecOfBytes ((upTo 16).flatMap (fun i => wordBytes (Config.freeWord (s.fresh + i))))) s with
      | .error c => .error c
      | .ok none => .ok none
      | .ok (some m) =>
        let se := scalarSlot raw x.regs (w32 (leNat (readBytes x.store pa 4))) (id.getD 0)
        let ve := vectorSlot raw x.regs (Config.freeWord s.fresh)
        let r := advance raw se x.regs
        let r := (match se.wr with | some (d, w) => r.sput d w | none => r).putV ve
        let r := match m with
          | .sreg d w => r.sput d w
          | .vreg d v => r.vput d v
          | .qtake _ d w => r.sput d w
          | .qpop _ d v => r.vput d v
          | _ => r
        .ok (some ⟨r, m, if op = 0x38 then .endt else if op = 0x39 then .endl else .none⟩)

/-- Write bytes listed with their addresses. -/
def putBytes (m : SMap Byte) (ws : List (Nat × Byte)) : SMap Byte := ws.foldl (fun m e => SMap.put m 0 e.1 e.2) m

/-- The effect of an issued bundle inside a stall: registers, stall store, transfers, queue pointers. -/
def applyLocal (i : Issue) (x : Stall) : Stall :=
  let x := { x with regs := i.regs }
  match i.mem with
  | .local_ ws => { x with store := putBytes x.store ws }
  | .xfer t => { x with xfers := x.xfers ++ [t] }
  | _ => x

/-- The effect of an issued bundle outside its stall: hayloft stores and queues (R213–R215). -/
def applyOutside (n : Nat) (m : MEff) (s : State) : State :=
  let x := s.stall n
  match m with
  | .hay ws => { s with hay := putBytes s.hay ws }
  | .push p v =>
    (match x.out p with
    | none => s
    | some o =>
      if o.flushPending then s.setStall n (x.setOut p { o with flushPending := false, flushed := true })
      else if o.flushed then s
      else
        let s := s.hayWrite (o.base * 64 + o.wr % 2 ^ o.log2Depth * 64) (vecBytes v)
        s.setStall n (x.setOut p { o with credits := o.credits - 1, cur := o.cur + 1, wr := (o.wr + 1) % 2 ^ (o.log2Depth + 1) }))
  | .qend p =>
    (match x.out p with
    | none => s
    | some o =>
      if o.flushPending then s.setStall n (x.setOut p { o with flushPending := false, flushed := true })
      else if o.flushed then s.setStall n (x.setOut p { o with flushed := false, cur := 0 })
      else
        let s := s.setStall n (x.setOut p { o with cur := 0 })
        let c := s.stall o.consumer
        let i := c.inp o.inPort
        s.setStall o.consumer (c.setIn o.inPort { i with packets := i.packets ++ [o.cur] }))
  | .qtake p _ _ => s.setStall n (x.setIn p { x.inp p with current := true, popped := 0 })
  | .qpop p _ _ => s.setStall n (x.setIn p { x.inp p with popped := (x.inp p).popped + 1 })
  | .qrel p =>
    let i := x.inp p
    (match i.packets, s.producerOf n p with
    | len :: rest, some (pn, pp, o) =>
      if !i.current then s else
      let s := s.setStall n (x.setIn p ⟨rest, (i.rd + len) % 2 ^ (o.log2Depth + 1), false, 0⟩)
      (match (s.stall pn).out pp with
      | some o => s.setStall pn ((s.stall pn).setOut pp { o with returning := o.returning ++ [len] })
      | none => s)
    | _, _ => s)
  | _ => s

/-- ENDT: the cycles used are recorded and the stall is DONE (R206); they are a free value (log entry 5). A library
kernel's outputs stand in the hayloft by then (R233). -/
def endTick (n : Nat) (s : State) : State :=
  let (k, s) := (libWork n (s.place n).1 (s.place n).2 s).draw
  let used := Config.cycles n k
  let x := s.stall n
  let s := s.onPair n (fun y => { y with
    state := if y.state = .checker then .checker else .done, usedCycles := used,
    maxCycles := if y.maxCycles.toNat < used.toNat then used else y.maxCycles })
  let s := settleStall n false x.truncIn used s
  if (parentOf s.yards (stallUnit n)).isSome then s.setStall n { s.stall n with truncIn := false } else s

/-- ENDL: one output line ends; the pair takes the next input line or waits for it (R223). -/
def endLine (n : Nat) (s : State) : State :=
  let (k, s) := (libLine n s).draw
  let used := Config.cycles n k
  let had := (s.stall n).haveLine
  let out := s.linesEnded n
  let s := s.onPair n (fun y => { y with haveLine := false, outEnd := out, lineMax := if y.lineMax.toNat < used.toNat then used else y.lineMax,
                                         maxCycles := if y.maxCycles.toNat < used.toNat then used else y.maxCycles })
  let s := if had then lineCredit n 1 s else s
  if (s.stall n).ready.isEmpty then
    s.onPair n (fun y => { y with waitLine := true, state := if y.state = .checker then .checker else .bound })
  else takeLine n s

/-- What the compare unit sees of a bundle: a store or a push, and an end with s1–s31 under a CRC-32C (R222). -/
def compared (i : Issue) : MEff × EndKind × Word :=
  let m := match i.mem with
    | .hay ws => .hay ws
    | .push p v => .push p v
    | _ => .none
  (m, i.fin, if i.fin = .none then 0 else crc32c ((upTo 31).flatMap (fun j => wordBytes (i.regs.sget (j + 1)))))

/-- A stall's execution stops on a fault; TRAP's code is kept (Table ST-4). -/
def stopExec (n code trap : Nat) (s : State) : State :=
  stallFault n code (if code = Sf.TRAP then s.onPair n (fun y => { y with trapCode := trap }) else s)

/-- Issue the bundle at the program counter of a running stall; its checker executes it too, and a difference
suppresses what would leave the primary (R203, R222). -/
def issueStall (n : Nat) (raw : BitVec 128) (s : State) : State :=
  let x := s.stall n
  match s.libStop n raw with
  | some (c, t) => stopExec n c t s
  | none =>
  match issueOn n x raw s with
  | .error c => stopExec n c (bf raw 27 20) s
  | .ok none => s
  | .ok (some i) =>
    let commit (s : State) : State :=
      let s := { s with fresh := s.fresh + 16 }
      let s := applyOutside n i.mem (s.setStall n (applyLocal i x))
      match i.fin with
      | .none => s
      | .endt => endTick n s
      | .endl => endLine n s
    if !x.lock then commit s else
    let y := s.stall (n + 1)
    match issueOn n y (SMap.get y.imem 0 y.regs.pc.toNat) s with
    | .error c => stallFault n c s
    | .ok none => stallFault n Sf.LOCKSTEP s
    | .ok (some j) =>
      if compared i ≠ compared j then stallFault n Sf.LOCKSTEP s
      else commit (s.setStall (n + 1) (applyLocal j y))

/-- Which slot an opcode row of Table ST-4 names. -/
inductive SlotName where
  | s | v | m
  deriving DecidableEq, Repr

/-- The opcode in a slot of a bundle. -/
def slotOp (raw : BitVec 128) : SlotName → Nat
  | .s => bS raw
  | .v => bV raw
  | .m => bM raw

/-- The stall executes bundle `raw`: it is running, its shed's clocks run (R72), it holds that bundle at its program
counter, and is no checker, whose execution goes with its primary's. -/
def State.executes (s : State) (n : Nat) (raw : BitVec 128) : Bool :=
  let x := s.stall n
  x.state == .running && !s.isChecker n && SMap.get x.imem 0 x.regs.pc.toNat == raw && !s.dark (n / 16)
    && !s.pwr.stoppedSheds.contains (n / 16)

/-- A row of Table ST-4: the bundle that holds its opcode in its slot issues whole (R203). -/
def opRow (sl : SlotName) (op : Nat) (n : Nat) (raw : BitVec 128) (s : State) : State :=
  if s.executes n raw && slotOp raw sl == op then issueStall n raw s else s

/-- The NOP row issues a bundle with NOP in a slot, and one whose opcodes are in no row (ILLEGAL). -/
def nopRow (n : Nat) (raw : BitVec 128) (s : State) : State :=
  if s.executes n raw && (bS raw == 0 || bV raw == 0 || bM raw == 0
    || !(sOps.contains (bS raw) || vOps.contains (bV raw) || mOps.contains (bM raw)))
  then issueStall n raw s else s

/-- Released credits reach the producer (R214). -/
def creditReturn (n p : Nat) (s : State) : State :=
  match (s.stall n).out p with
  | some o =>
    (match o.returning with
    | len :: rest => s.setStall n ((s.stall n).setOut p
        { o with credits := satAdd o.credits len (2 ^ o.log2Depth), returning := rest })
    | [] => s)
  | none => s

/-- Move the data of a transfer for one stall of a pair; an uncorrectable word of the stall store or hayloft it reads
is a fault ECC (R207). -/
def xferData (t : Xfer) (x : Stall) (s : State) : Option (List Byte) :=
  if t.put then (if x.bad t.loc t.bytes then none else some (readBytes x.store t.loc t.bytes))
  else if s.hayPoor t.hay t.bytes then none else some (s.hayRead t.hay t.bytes)

/-- The oldest transfer of a stall completes; a pair compares each HPUT granule (R222). -/
def xferDone (n : Nat) (s : State) : State :=
  let x := s.stall n
  match x.xfers with
  | [] => s
  | t :: rest =>
    let s' := s.onPair n (fun y => { y with xfers := rest })
    match xferData t x s with
    | none => stallFault n Sf.ECC s'
    | some bs =>
      if t.put then
        let y := s.stall (n + 1)
        if x.lock && (y.xfers.head? != some t || xferData t y s != some bs) then stallFault n Sf.LOCKSTEP s'
        else s'.hayWrite t.hay bs
      else s'.onPair n (fun y => { y with store := writeBytes y.store t.loc bs })

/-- A kernel copy completes and the stall is LOADED (R218). -/
def loadComplete (n : Nat) (s : State) : State :=
  match (s.stall n).loadingObj with
  | some o =>
    let s := s.onPair n (fun y => { loadObject o y with state := .loaded })
    if (s.stall n).lock then s.setStall (n / 2 * 2 + 1) { s.stall (n / 2 * 2 + 1) with state := .checker } else s
  | none => s

/-! ### Commands (R218–R221, R227) -/

/-- Work still running is abandoned; a stall outside yards reports FAULT and LATE at once (R219). -/
def abandonWork (n : Nat) (s : State) : State :=
  let x := s.stall n
  if x.mode = 1 ∧ (x.state = .running ∨ x.launchOnRestart) then
    let s := settleStall n true x.truncIn x.usedCycles s
    if x.owesDone then
      (s.setStall n { x with owesDone := false, late := false, launchOnRestart := false }).emit
        (.doneReport (BitVec.ofNat 16 (stallUnit n)) x.launchTick 2 x.usedCycles true)
    else s.setStall n { x with launchOnRestart := false }
  else stallReport n s

/-- The state of an unbound stall. -/
def restState (x : Stall) : StallState := if x.kernel.isSome then .loaded else .empty

/-- LOAD_KERNEL applies at stall n: the copy starts, and no kernel is resident until it ends (R218, R219). -/
def applyLoad (id kver : Nat) (n : Nat) (s : State) : State :=
  match s.findKernel id kver with
  | none => s
  | some o =>
    let s := flushQueuesOf n s
    s.onPair n (fun y => { y with state := if y.state = .checker then .checker else .loading, kernel := none, loadingObj := some o,
                                  params := [], halted := false })

/-- Window `i` of a BIND (Table ST-9); none with VALID = 0. -/
def winOf (i : Nat) (a b : Word) : Option Win := if bit a 31 then some ⟨i, bit a 30, bits a 19 0, bits b 16 0⟩ else none

/-- An outbound port of a BIND (Table ST-9). -/
def outOf (a b : Word) : Option OutPort :=
  if bit a 31 then
    some { log2Depth := bits a 27 24, consumer := bits a 15 0 % 0x1000, inPort := bits a 17 16, base := bits b 19 0,
           credits := 2 ^ bits a 27 24, wr := 0, cur := 0, flushPending := false, flushed := false, returning := [] }
  else none

/-- BIND applies at stall n (R219): the fit estimate, windows and outbound queues; queues of either end are flushed, and
so is an outbound port that held a queue, the same or another, before the set (R215). -/
def applyBind (old : State) (p : List Word) (n : Nat) (s : State) : State :=
  let s := flushQueuesOf n (abandonWork n s)
  let outs := (upTo 4).foldl (fun m i =>
    match outOf (wAt p (10 + 2 * i)) (wAt p (11 + 2 * i)) with
    | some o => SMap.put m none i (some { o with flushPending := ((old.stall n).out i).isSome })
    | none => m) ([] : SMap (Option OutPort))
  let wins := (upTo 4).filterMap (fun i => winOf i (wAt p (2 + 2 * i)) (wAt p (3 + 2 * i)))
  let mode := bits (wAt p 1) 1 0
  let s := s.onPair n (fun y => { y with
    state := if y.state = .checker then .checker else .bound, mode := mode, est := (wAt p 0).toNat, wins := wins, outs := [],
    xfers := [], waitLine := false, armed := mode == 2, restarts := [], halted := false, usedCycles := 0, maxCycles := 0, owesDone := false,
    late := false, skipped := 0, ready := [], haveLine := false, truncIn := false, launchOnRestart := false,
    boundNow := mode == 1, lineMax := 0, inputs := [], hdrLack := false })
  let s := if (s.stall n).lock then s.setStall (n + 1) { s.stall (n + 1) with state := .checker } else s
  let s := s.setStall n { s.stall n with outs := outs }
  outs.foldl (fun t e => match e.2 with
    | some o => t.setStall o.consumer ((t.stall o.consumer).setIn o.inPort InPort.empty)
    | none => t) s

/-- SET_PARAM applies at stall n: the words become visible at the next launch or SOF (R211). -/
def applySetParam (p : List Word) (n : Nat) (s : State) : State :=
  let first := bits (wAt p 0) 7 0
  let ws := (upTo (p.length - 1)).map (fun i => (first + i, wAt p (1 + i)))
  s.onPair n (fun y => { y with params := y.params ++ ws })

/-- UNBIND applies at stall n; its kernel stays resident (R219), and a faulted stall stays in FAULT (R208). -/
def applyUnbind (n : Nat) (s : State) : State :=
  let s := flushQueuesOf n (abandonWork n s)
  let s := s.onPair n (fun y => { y with
    state := if y.state = .fault then .fault else restState y, mode := 0, est := 0, wins := [], outs := [], xfers := [],
    waitLine := false, armed := false, halted := false, boundNow := false, owesDone := false, late := false, skipped := 0, ready := [], haveLine := false, truncIn := false, launchOnRestart := false })
  if (s.stall n).lock then s.setStall (n / 2 * 2 + 1) { s.stall (n / 2 * 2 + 1) with state := .checker } else s

/-- LOCKSTEP_PAIR applies to the pair of an even stall (R221). A binding that the odd stall has stays: the check
compares it with the even stall's. -/
def applyLockstep (en : Bool) (n : Nat) (s : State) : State :=
  let a := s.stall n
  let b := s.stall (n + 1)
  if en then
    (s.setStall n { a with lock := true }).setStall (n + 1)
      { b with lock := true, state := .checker, wins := a.wins, outs := [] }
  else
    (s.setStall n { a with lock := false }).setStall (n + 1)
      { b with lock := false, state := restState b, mode := 0, est := 0, wins := [], outs := [] }

/-- Member addresses of a YARD_DEFINE descriptor (R225). -/
def descMembers (p : List Word) : List (BitVec 16) :=
  let n := bits (wAt p 0) 5 0
  (upTo n).map (fun i => BitVec.ofNat 16 (bits (wAt p (1 + i / 2)) (16 * (i % 2) + 15) (16 * (i % 2))))

/-- The descriptor's own rules (R225). -/
def descLegal (p : List Word) : Chk :=
  let w := wAt p 0
  let n := bits w 5 0
  let member (h : Nat) : Bool := h / 0x1000 == 2 || h / 0x1000 == 3
  firstOf ([inRange (decide (1 ≤ n ∧ n ≤ 32 ∧ bits w 31 6 = 0)) 0]
    ++ (upTo (ceilDiv n 2)).map (fun i =>
      let v := wAt p (1 + i)
      inRange (member (bits v 15 0) && (if 2 * i + 1 < n then member (bits v 31 16) else bits v 31 16 == 0)) (1 + i)))

def Yard.fresh (i : Nat) (ms : List (BitVec 16)) : Yard :=
  ⟨i, ms, none, false, 0, [], 0, [], false, false, 0⟩

/-- A yard set with YARD_DEFINE applied to it. -/
def defineYard (yards : List Yard) (i : Nat) (ms : List (BitVec 16)) : List Yard :=
  if yards.any (fun y => y.index = i) then yards.map (fun y => if y.index = i then { y with members := ms } else y)
  else yards ++ [Yard.fresh i ms]

/-- A yard set with YARD_DISSOLVE applied: the yard also drops out of its parent's members (R227). -/
def dissolveYard (yards : List Yard) (i : Nat) : List Yard :=
  (yards.filter (fun y => y.index ≠ i)).map (fun y => { y with members := y.members.filter (fun m => m.toNat ≠ 0x3000 + i) })

def applyYardDefine (i : Nat) (p : List Word) (s : State) : State := { s with yards := defineYard s.yards i (descMembers p) }
/-- YARD_DISSOLVE: a report still owed goes on without the yard (R227). -/
def applyYardDissolve (i : Nat) (s : State) : State :=
  let owing := match s.yard? i with | some y => if y.owes.isSome then [y] else [] | none => []
  { s with yards := dissolveYard s.yards i, dissolved := s.dissolved ++ owing }

/-- A descriptor would close a cycle: the yard is reached from its own members (R104). -/
def closesCycle (yards : List Yard) (i : Nat) (ms : List (BitVec 16)) : Bool :=
  ms.any (fun m => uClass m == 3 && (uIndex m == i ||
    (reachYards (defineYard yards i ms) yardFuel (uIndex m)).contains i))

/-! ### Checks -/

/-- R226: each member in one yard, no stall reached twice, no pair member, every member exists and is enabled. -/
def yardsOk (s : State) : Bool :=
  let ms := s.yards.flatMap (·.members)
  decide ms.Nodup
  && ms.all (fun m => s.unitOk m && (uClass m ≠ 3 || s.yards.any (fun y => y.index = uIndex m))
      && (uClass m ≠ 2 || !(s.stall (uIndex m)).lock))
  && s.yards.all (fun y => decide (reach s.yards yardFuel y.members).Nodup)

/-- A bound or joined stall is consistent: its kernel is resident and of its mode, a pair's kernel carries LOCKSTEP and
the pair is outside yards (R219, R221). -/
def stallOk (s : State) (n : Nat) (x : Stall) : Bool :=
  (x.mode == 0 || (match x.kernel with
    | some k => (if x.mode = 1 then k.tickMode else k.lineMode) && x.state != .loading && (!x.lock || k.lockstep)
    | none => false))
  && (!x.lock || (parentOf s.yards (stallUnit n)).isNone)
  && (!x.lock || n % 2 == 1 || ((s.stall (n + 1)).lock && (s.stall (n + 1)).mode == x.mode
      && (x.mode == 0 || (s.stall (n + 1)).kernel == x.kernel)))

/-- Queues: the consumer is bound and no inbound port has two producers (R231). -/
def queuesOk (s : State) : Bool :=
  s.queues.all (fun q => (s.stall q.2.2.consumer).mode != 0)
  && decide (s.queues.map (fun q => (q.2.2.consumer, q.2.2.inPort))).Nodup

def stallsResourceOk (s : State) : Bool := yardsOk s && s.stalls.all (fun e => stallOk s e.1 e.2) && queuesOk s

/-- The cycle budget of a stall (R59, R223): `restart` is 40 µs at a level change. -/
def stallFits (s : State) (levelChange : Nat → Bool) (n : Nat) (x : Stall) : Bool :=
  if x.mode = 0 ∨ s.isChecker n then true else
  let mhz := levelMHz (bits (s.reg R.PWR_LEVEL) (2 * (n / 16) + 1) (2 * (n / 16)))
  let pct := s.fld R.TICK_SEAL F.TICK_SEAL_FIT_PCT
  if x.mode = 1 then
    let span := (s.reg R.TICK_PERIOD).toNat - (if levelChange (n / 16) then 40000 else 0)
    decide (x.est * 100 * 1000 ≤ pct * span * mhz)
  else
    (s.pairHeads n).all (fun h =>
      decide (x.est * 100 * 1000 ≤ pct * s.fld (R.HEAD_DIR_LINE h) F.HEAD_DIR_LINE_T_LINE_NS * mhz))

def stallsFitOk (s : State) (levelChange : Nat → Bool) : Bool :=
  s.stalls.all (fun e => stallFits s levelChange e.1 e.2)

/-! ### Register views (Table ST-8) and STALL_STATUS -/

def StallState.code : StallState → Nat
  | .empty => 0 | .loading => 1 | .loaded => 2 | .bound => 3 | .running => 4 | .done => 5 | .fault => 6 | .checker => 7

def State.stallStatus (s : State) (n : Nat) : Word :=
  let x := s.stall n
  w32 (x.state.code + 8 * b01 x.lock + 16 * x.mode + 64 * b01 (x.late && x.state == .running) + 256 * x.lastFault
    + 65536 * s.stallYard n)

def State.stallPc (s : State) (n : Nat) : Word :=
  let x := s.stall n
  w32 (x.regs.pc.toNat + 65536 * (match x.kernel with | some k => k.id.toNat | none => 0))

/-- The four words of a stall in STALL_STATUS (Table ST-9). -/
def State.stallReportWords (s : State) (n : Nat) : List Word :=
  [s.stallStatus n, s.stallPc n, (s.stall n).usedCycles, (s.stall n).maxCycles]

/-- YARD_QUERY (Table ST-9). -/
def State.yardQuery (s : State) (i : Nat) : List Word :=
  match s.yard? i with
  | none => []
  | some y =>
    let hs := y.members.map (·.toNat)
    [w32 (y.members.length + 65536 * (match parentOf s.yards (0x3000 + i) with | some p => 0x3000 + p | none => 0xFFFF))]
    ++ (upTo 16).map (fun k => w32 (hs.getD (2 * k) 0 + 65536 * hs.getD (2 * k + 1) 0))
    ++ [w32 ((s.yardStalls i).length + 65536 * yardDepth s.yards yardFuel i), y.lastCycles]

end Sys2Proof.Machine
end

