-- ==== Sys2Proof/Machine/Time.lean ====
section
/-! DEFINITION. Time bases, the servo, 802.1AS, the Ethernet timestamp queues and the PPS pins (chapter 13):
the operations that the commands and steps of those units share. -/

namespace Sys2Proof.Machine

/-! ### Values (R389, R390) -/

/-- First value a time base cannot hold, in 2^−48 ns. -/
def tbTop : Nat := 2 ^ 48 * 1000000000 * 2 ^ 48

def State.rateEff (s : State) (n : Nat) : Int := F.TB_RATE_RATE_EFF.sget (s.reg (R.TB_RATE n))

/-- A number as 32 bits of two's complement. -/
def wordOfInt (v : Int) : Word := BitVec.ofInt 32 v

def State.setRateEff (s : State) (n : Nat) (v : Int) : State := s.setReg (R.TB_RATE n) (wordOfInt v)

/-- The limits of a 32-bit signed value. -/
def clamp32 (v : Int) : Int := clampI (-2147483648) 2147483647 v

def State.tbState (s : State) (n : Nat) : Nat := s.fld (R.TB_STATUS n) F.TB_STATUS_STATE
def State.setTbState (s : State) (n v : Nat) : State := s.setFld (R.TB_STATUS n) F.TB_STATUS_STATE v
def State.tbMode (s : State) (n : Nat) : Nat := s.fld (R.TB_CTRL n) F.TB_CTRL_MODE

/-- The instance acts as master: static, or made grandmaster by the BMCA (R410). -/
def State.tbMaster (s : State) (n : Nat) : Bool :=
  s.tbMode n == 1 && s.fld (R.TB_STATUS n) F.TB_STATUS_PORT_STATE == 2

/-- The time base runs at TRIM: MODE FREE, or a master (R393, R410). -/
def State.tbFree (s : State) (n : Nat) : Bool := s.tbMode n == 0 || s.tbMaster n

/-- End of a slew: RATE_EFF := F, LOCKED (R395). A time base that does not slew has none. -/
def slewDone (n : Nat) (s : State) : State :=
  if s.tbState n ≠ 3 then s else
  let s := s.setTb n { s.tb n with remain := 0 }
  (s.setRateEff n ((s.tb n).f.getD 0)).setTbState n 2

/-- One cycle of the 250 MHz time-base clock on time base `n`: its advance (R390) and its slew (R395). -/
def tbCycle (n : Nat) (s : State) : State :=
  let t := s.tb n
  let r := s.rateEff n
  let s := s.setTb n { t with val := ((t.val : Int) + (2 ^ 50 + r * 2 ^ 10)).toNat % tbTop }
  if s.tbState n = 3 then
    let rem := t.remain - 4 * (t.f.getD 0 - r) * 2 ^ 8
    let s := s.setTb n { s.tb n with remain := rem }
    if rem ≤ 0 then slewDone n s else s
  else s

/-- One 4 ns cycle of every time base and of LocalClock (R390). -/
def State.clockCycle (s : State) : State :=
  let s := (upTo 4).foldl (fun t n => tbCycle n t) s
  { s with clk := { s.clk with localNs := s.clk.localNs + 4 } }

/-! ### Steps (R396, R397) -/

/-- Unit address of time base `n`. -/
def tbUnit (n : Nat) : Nat := 0xA000 + n

/-- Hold a step of `d` · 2^−16 ns, replacing a pending one (R397). -/
def scheduleStep (n : Nat) (d : Int) (s : State) : State :=
  (s.setTb n { s.tb n with step := some d }).setFlag (R.TB_STATUS n) F.TB_STATUS_STEP_PEND true

def cancelStep (n : Nat) (s : State) : State :=
  (s.setTb n { s.tb n with step := none }).setFlag (R.TB_STATUS n) F.TB_STATUS_STEP_PEND false

/-- Apply the pending step of time base `n` (R396). -/
def applyStep (n : Nat) (s : State) : State :=
  match (s.tb n).step with
  | none => s
  | some d =>
    let t := s.tb n
    let back := decide (d < 0)
    let s := s.setTb n { t with val := ((t.val : Int) + d * 2 ^ 32).toNat % tbTop }
    let s := cancelStep n s
    let s := if back then s.setFld (R.TB_STATUS n) F.TB_STATUS_EPOCH (s.epoch n + 1) else s
    let s := if back then s.incSat (R.TB_CNT n) F.TB_CNT_BACKSTEPS 1 else s.incSat (R.TB_CNT n) F.TB_CNT_STEPS 1
    let s := if s.tg.running && s.tickSrc == n then s.reanchor else s
    s.raise Ev.TB_STEP (tbUnit n) (evArg (b01 back) (s.epoch n) 0)

/-- Apply every pending step, at a tick instant. -/
def applySteps (s : State) : State := (upTo 4).foldl (fun t n => applyStep n t) s

/-! ### Measurements and the servo (R394, R395) -/

/-- Nanoseconds in units of 2^−16 ns. -/
def fine (ns : Int) : Int := ns * 65536

/-- F and I from the last eight measurement intervals: source readings (2^−16 ns) and LocalClock (ns). -/
def rateOf (hist : List (Int × Nat)) (src : Int) (lc : Nat) : Option (Int × Int) :=
  match hist.getLast? with
  | none => none
  | some (src0, lc0) =>
    let dl : Int := (lc : Int) - lc0
    if dl ≤ 0 then none
    else some (Int.tdiv ((src - src0 - fine dl) * 2 ^ 24) dl, Int.tdiv dl hist.length)

/-- What the servo does with a measurement: offset `o` in 2^−16 ns, F and I if there are any (R395). -/
def servo (n : Nat) (o : Int) (fi : Option (Int × Int)) (s : State) : State :=
  let s := s.setReg (R.TB_OFFSET n) (wordOfInt (clamp32 (Int.tdiv o 65536)))
  let lim := s.reg (R.TB_LIMITS n)
  let maxr : Int := (F.TB_LIMITS_MAX_PPM.get lim * 2 ^ 40 / 1000000 : Nat)
  let slewr : Int := (F.TB_LIMITS_SLEW_PPM.get lim * 2 ^ 40 / 1000000 : Nat)
  let stepNs : Int := s.fld (R.TB_STEP n) F.TB_STEP_STEP_NS
  let backUs : Int := s.fld (R.TB_BACKLIM n) F.TB_BACKLIM_BACK_LIMIT_US
  let s := match fi with | some (f, _) => s.setTb n { s.tb n with f := some f } | none => s
  if o < -fine stepNs then scheduleStep n (-o) s
  else if fine stepNs < o ∧ (s.flag (R.TB_CTRL n) F.TB_CTRL_BACK ∨ (backUs ≠ 0 ∧ fine (backUs * 1000) < o)) then
    scheduleStep n (-o) s
  else match fi with
  | none => s.setTbState n 1
  | some (f, i) =>
    if fine stepNs < o then
      ((s.setTb n { s.tb n with remain := o * 2 ^ 32 }).setTbState n 3).setRateEff n (clamp32 (f - slewr))
    else
      let kp := s.fld (R.TB_CTRL n) F.TB_CTRL_KP_SH
      let corr := clampI (-maxr) maxr (-(Int.tdiv (o * 2 ^ 24) (i * 2 ^ kp)))
      (s.setTbState n 2).setRateEff n (clamp32 (f + corr))

/-- A measurement of time base `n` against its own source, whose reading is `src` in 2^−16 ns, at LocalClock
`lc` (R394). -/
def measure (n : Nat) (o src : Int) (lc : Nat) (s : State) : State :=
  if ((s.tb n).step).isSome then s else
  let hist := (s.tb n).hist
  let fi := rateOf hist src lc
  servo n o fi (s.setTb n { s.tb n with hist := ((src, lc) :: hist).take 8 })

/-! ### Pairs (R400) -/

def State.switched (s : State) (n : Nat) : Bool := s.flag (R.TB_STATUS n) F.TB_STATUS_SWITCHED

/-- Primaries paired with partner `b`. -/
def State.primariesOf (s : State) (b : Nat) : List Nat :=
  (upTo 4).filter (fun a => a ≠ b && s.flag (R.TB_PAIR a) F.TB_PAIR_EN && s.fld (R.TB_PAIR a) F.TB_PAIR_PARTNER == b)

def raiseSwitch (n : Nat) (s : State) : State :=
  (s.incSat (R.TB_CNT n) F.TB_CNT_SWITCHES 1).raise Ev.TB_SWITCH (tbUnit n) 0

/-- Switch primary `a` to its partner: Δ0 := Δ, a pending step cancelled (R400). -/
def switchOver (a : Nat) (s : State) : State :=
  let s := cancelStep a s
  let s := s.setTb a { s.tb a with delta0 := (s.tb a).delta }
  raiseSwitch a (s.setFlag (R.TB_STATUS a) F.TB_STATUS_SWITCHED true)

/-- Δ0 moved toward 0 by at most SLEW_PPM of `ns` nanoseconds (CONVERGE). -/
def converge (ppm : Nat) (ns : Int) (d : Int) : Int :=
  let m := Int.tdiv (fine ns * ppm) 1000000
  if 0 ≤ d then (if d ≤ m then 0 else d - m) else (if -m ≤ d then 0 else d + m)

/-- LocalClock between the last two measurements. -/
def lastInterval : List (Int × Nat) → Int
  | (_, l1) :: (_, l0) :: _ => (l1 : Int) - l0
  | _ => 0

/-- The mean measurement interval on LocalClock, at least 1 ns (R394). -/
def meanInterval (hist : List (Int × Nat)) : Int :=
  match hist, hist.getLast? with
  | (_, l1) :: rest, some (_, l0) =>
    let i := Int.tdiv ((l1 : Int) - l0) rest.length
    if 0 < i then i else 1
  | _, _ => 1

/-- At a measurement of `b`, with F and I: Δ of every primary is read, and switched primaries are measured
against b − Δ0 with F of b (R400). -/
def partnerMeasured (b : Nat) (s : State) : State :=
  (s.primariesOf b).foldl (fun t a =>
    let va : Int := t.tbFine a
    let vb : Int := t.tbFine b
    let t := t.setTb a { t.tb a with delta := vb - va }
    if !t.switched a then t else
    let i := lastInterval (t.tb b).hist
    let d0 := if t.flag (R.TB_PAIR a) F.TB_PAIR_CONVERGE
      then converge (t.fld (R.TB_LIMITS a) F.TB_LIMITS_SLEW_PPM) i (t.tb a).delta0 else (t.tb a).delta0
    let t := t.setTb a { t.tb a with delta0 := d0 }
    if ((t.tb a).step).isSome then t
    else servo a (va - (vb - d0)) ((t.tb b).f.map (fun f => (f, meanInterval (t.tb b).hist))) t) s

/-- A measurement from a time base's own source: a switched primary takes it only to revert (R400). -/
def ownMeasurement (n : Nat) (o src : Int) (lc : Nat) (s : State) : State :=
  let stepNs : Int := s.fld (R.TB_STEP n) F.TB_STEP_STEP_NS
  let s :=
    if s.switched n then
      if s.flag (R.TB_PAIR n) F.TB_PAIR_REVERT ∧ -fine stepNs ≤ o ∧ o ≤ fine stepNs then
        measure n o src lc (raiseSwitch n (s.setFlag (R.TB_STATUS n) F.TB_STATUS_SWITCHED false))
      else s.setTb n { s.tb n with hist := ((src, lc) :: (s.tb n).hist).take 8 }
    else measure n o src lc s
  partnerMeasured n s

/-- Enter HOLDOVER: RATE_EFF := F of the last measurement (R399). -/
def holdover (n : Nat) (s : State) : State :=
  if s.tbState n = 4 then s else
  let s := match (s.tb n).f with | some f => s.setRateEff n (clamp32 f) | none => s
  let s := s.setTb n { s.tb n with hist := [], remain := 0 }
  ((s.setTbState n 4).incSat (R.TB_CNT n) F.TB_CNT_HOLDOVERS 1).raise Ev.TB_HOLDOVER (tbUnit n) 0

/-- The own source of `n` reaches its receipt timeout (R399, R400). -/
def receiptTimeout (n : Nat) (s : State) : State :=
  if s.tbFree n then s else
  let partner := s.fld (R.TB_PAIR n) F.TB_PAIR_PARTNER
  let s :=
    if s.switched n then s
    else if s.flag (R.TB_PAIR n) F.TB_PAIR_EN && s.tbState partner != 4 then switchOver n s
    else holdover n s
  if s.tbState n = 4 then
    (s.primariesOf n).foldl (fun t a => if t.switched a then holdover a t else t) s
  else s

/-! ### 802.1AS end station (R406–R411) -/

/-- Time bases in MODE GPTP bound to a port and domain (R407, R409). -/
def State.gptpOf (s : State) (port : Nat) (domain : Nat) : Option Nat :=
  (upTo 4).find? (fun n => s.tbMode n == 1 && s.fld (R.TB_GPTP n) F.TB_GPTP_PORT == port
    && s.fld (R.TB_GPTP n) F.TB_GPTP_DOMAIN == domain)

def State.gptp (s : State) (n : Nat) : Gptp := (s.tb n).gptp
def State.setGptp (s : State) (n : Nat) (g : Gptp) : State := s.setTb n { s.tb n with gptp := g }

/-- Picoseconds in 2^−16 ns. -/
def finePs (ps : Nat) : Int := (ps * 65536 / 1000 : Nat)

/-- Receive stamp of time base `n` now (R406). -/
def State.rxStamp (s : State) (port n : Nat) : Int :=
  (s.tbFine n : Int) - finePs (s.fld (R.ETH_RX_LAT port) F.ETH_RX_LAT_LAT_PS)

/-- A PTP timestamp in 2^−16 ns. -/
def fineOf (t : PtpTime) : Int := fine ((t.s.toNat * 1000000000 + t.ns.toNat : Nat) : Int)

/-- meanLinkDelay in 2^−16 ns (R411). -/
def State.linkDelay (s : State) (n : Nat) : Int :=
  if s.flag (R.TB_GPTP n) F.TB_GPTP_PDELAY_EN then (s.gptp n).linkDelay
  else finePs (s.fld (R.TB_LINKDLY n) F.TB_LINKDLY_DELAY_PS)

def State.asCapable (s : State) (n : Nat) : Bool :=
  !s.flag (R.TB_GPTP n) F.TB_GPTP_PDELAY_EN || (s.gptp n).asCapable

/-- A port can receive: enabled, its domain ready, and the groom there to use the frame (R402). -/
def State.ethUp (s : State) (p : Nat) : Bool :=
  !s.dark 0x30 && s.flag (R.ETH_CTRL p) F.ETH_CTRL_EN && s.groom.up && !s.groom.restarting

/-- Count a frame a port discards (R403, R407). -/
def filtered (p : Nat) (s : State) : State := s.incSat (R.ETH_RX p) F.ETH_RX_FILTERED 1

/-- A gPTP message for a port: counted, and handled by the time base bound to its domain (R403). Where none is bound an
event message is discarded into FILTERED (R407), and any other is accepted and used by nothing. -/
def gptpRx (port domain : Nat) (event : Bool) (f : Nat → State → State) (s : State) : State :=
  if !s.ethUp port then s else
  match s.gptpOf port domain with
  | some n => f n (s.incWrap (R.ETH_RX port) F.ETH_RX_GOOD 1)
  | none => if event then filtered port s else s.incWrap (R.ETH_RX port) F.ETH_RX_GOOD 1

/-- The instance follows its port as a slave (R410). -/
def State.tbSlave (s : State) (n : Nat) : Bool := s.fld (R.TB_STATUS n) F.TB_STATUS_PORT_STATE == 1

/-- A complete Sync: its receive stamp and the source's time at that instant (R394). -/
def syncMeasured (n : Nat) (rx src : Int) (lc : Nat) (s : State) : State :=
  if s.tbSlave n && s.asCapable n then ownMeasurement n (rx - src) src lc s else s

def rxSync (port domain : Nat) (seq : BitVec 16) (twoStep : Bool) (origin : PtpTime) (corr : Int) (s : State) :
    State :=
  gptpRx port domain true (fun n s =>
    let rx := s.rxStamp port n
    if twoStep then s.setGptp n { s.gptp n with sync := some (seq, rx, s.clk.localNs) }
    else syncMeasured n rx (fineOf origin + corr + s.linkDelay n) s.clk.localNs s) s

def rxFollowUp (port domain : Nat) (seq : BitVec 16) (origin : PtpTime) (corr : Int) (s : State) : State :=
  gptpRx port domain false (fun n s =>
    match (s.gptp n).sync with
    | some (q, rx, lc) =>
      if q = seq then
        syncMeasured n rx (fineOf origin + corr + s.linkDelay n) lc (s.setGptp n { s.gptp n with sync := none })
      else s
    | none => s) s

/-- Destination of gPTP frames (R403). -/
def gptpDst : BitVec 48 := 0x0180C200000E

/-- Send a gPTP message of instance `n` (R404). Its bytes are IEEE 802.1AS's, a free value of each frame and of what the
message says (log entry 7). -/
def gptpSend (n type : Nat) (seq : BitVec 16) (t : Int) (s : State) : State :=
  let port := s.fld (R.TB_GPTP n) F.TB_GPTP_PORT
  let (k, s) := s.draw
  s.ethSend (if type ≤ 3 then 0 else 1) port gptpDst none 0x88F7 (Config.gptpFrame k type (s.fld (R.TB_GPTP n) F.TB_GPTP_DOMAIN) seq t)

/-- Message types of IEEE 802.1AS. -/
def ptpSync : Nat := 0
def ptpPdelayReq : Nat := 2
def ptpPdelayResp : Nat := 3
def ptpFollowUp : Nat := 8
def ptpPdelayRespFollowUp : Nat := 10
def ptpAnnounce : Nat := 11

def rxPdelayReq (port domain : Nat) (seq : BitVec 16) (sender : BitVec 80) (s : State) : State :=
  gptpRx port domain true (fun n s =>
    let s := s.setGptp n { s.gptp n with pdRespTo := some (seq, sender) }
    gptpSend n ptpPdelayResp seq (s.rxStamp port n) s) s

def rxPdelayResp (port domain : Nat) (seq : BitVec 16) (t2 : PtpTime) (s : State) : State :=
  gptpRx port domain true (fun n s =>
    match (s.gptp n).pdReq with
    | some (q, some _) =>
      if q = seq then s.setGptp n { s.gptp n with pdResp := some (seq, fineOf t2, s.rxStamp port n) } else s
    | _ => s) s

/-- The end of a Pdelay exchange: meanLinkDelay from its four stamps, scaled by neighborRateRatio (R411). -/
def rxPdelayRespFollowUp (port domain : Nat) (seq : BitVec 16) (t3' : PtpTime) (s : State) : State :=
  gptpRx port domain false (fun n s =>
    let g := s.gptp n
    match g.pdReq, g.pdResp with
    | some (q, some t1), some (q', t2, t4) =>
      if q = seq ∧ q' = seq then
        let t3 := fineOf t3'
        let turn := match g.pdLast with
          | some (a3, a4) => if t4 - a4 = 0 then t4 - t1 else Int.tdiv ((t4 - t1) * (t3 - a3)) (t4 - a4)
          | none => t4 - t1
        let d := Int.tdiv (turn - (t3 - t2)) 2
        let s := s.setGptp n { g with pdReq := none, pdResp := none, pdLast := some (t3, t4), linkDelay := d,
                                      asCapable := true, lost := 0 }
        s.setFld (R.TB_LINKMEAS n) F.TB_LINKMEAS_DELAY_PS
          (let ps := (Int.tdiv (d * 1000) 65536).toNat; if ps ≤ F.TB_LINKMEAS_DELAY_PS.max then ps else F.TB_LINKMEAS_DELAY_PS.max)
      else s
    | _, _ => s) s

/-- The dataset the BMCA compares, packed (R410). -/
def dataset (prio1 cls acc var prio2 : Nat) (gm : Nat) (steps sender : Nat) : BitVec 232 :=
  BitVec.ofNat 232 (((((((prio1 * 256 + cls) * 256 + acc) * 65536 + var) * 256 + prio2) * 2 ^ 64 + gm) * 65536 + steps)
    * 2 ^ 80 + sender)

/-- A new grandmaster identity: TB_GM_CHANGE, and the switch that SWITCH_GM asks for (R400, R409). -/
def gmChange (n : Nat) (gm : BitVec 64) (s : State) : State :=
  if s.reg (R.TB_GM_HI n) ++ s.reg (R.TB_GM_LO n) = gm then s else
  let s := (s.setReg (R.TB_GM_LO n) (gm.extractLsb' 0 32)).setReg (R.TB_GM_HI n) (gm.extractLsb' 32 32)
  let s := s.raise Ev.TB_GM_CHANGE (tbUnit n) 0
  if s.flag (R.TB_PAIR n) F.TB_PAIR_EN && s.flag (R.TB_PAIR n) F.TB_PAIR_SWITCH_GM && !s.switched n && !s.tbMaster n
    && s.tbState (s.fld (R.TB_PAIR n) F.TB_PAIR_PARTNER) != 4 then switchOver n s else s

/-- The clockIdentity of instance `n` (log entry 7). -/
def State.ownIdentity (s : State) (n : Nat) : BitVec 64 := Config.clockIdentity (s.mac (s.fld (R.TB_GPTP n) F.TB_GPTP_PORT))

/-- The instance becomes master: it runs at TRIM as under MODE FREE, and the hub is the grandmaster (R410). -/
def becomeMaster (n : Nat) (s : State) : State :=
  let s := s.setFld (R.TB_STATUS n) F.TB_STATUS_PORT_STATE 2
  gmChange n (s.ownIdentity n) ((s.setRateEff n (F.TB_TRIM_TRIM.sget (s.reg (R.TB_TRIM n)))).setTbState n 0)

/-- An Announce: the BMCA or the static role decides the port state (R410). -/
def rxAnnounce (port domain : Nat) (a : AnnounceMsg) (s : State) : State :=
  gptpRx port domain false (fun n s =>
    let role := s.fld (R.TB_GPTP n) F.TB_GPTP_ROLE
    let own := dataset (s.fld (R.TB_GPTP n) F.TB_GPTP_PRIO1) 248 0 0 (s.fld (R.TB_GPTP n) F.TB_GPTP_PRIO2)
      (s.ownIdentity n).toNat 0 0
    let theirs := dataset a.prio1.toNat a.clockClass.toNat a.accuracy.toNat a.variance.toNat a.prio2.toNat a.gm.toNat
      a.steps.toNat a.sender.toNat
    if role = 2 then s
    else if role = 1 ∨ Config.bmcaBetter theirs own then
      let s := s.setFld (R.TB_STATUS n) F.TB_STATUS_PORT_STATE 1
      gmChange n a.gm (if s.tbState n = 0 then (s.setTb n { s.tb n with hist := [] }).setTbState n 1 else s)
    else becomeMaster n s) s

/-- The message-interval request of a Signaling message is kept; the timers that it sets are commands (R409). -/
def rxSignaling (port domain : Nat) (syncLog annLog linkLog : Int) (s : State) : State :=
  gptpRx port domain false (fun n s => s.setGptp n { s.gptp n with asked := some (syncLog, annLog, linkLog) }) s

/-- Send a Sync, its transmit stamp asked for (R408, R410). -/
def syncTimer (n : Nat) (s : State) : State :=
  if !s.tbMaster n || !s.ethUp (s.fld (R.TB_GPTP n) F.TB_GPTP_PORT) then s else
  let g := s.gptp n
  gptpSend n ptpSync g.syncSeq 0 (s.setGptp n { g with syncSent := some g.syncSeq, syncSeq := g.syncSeq + 1 })

/-- Send an Announce (R410). -/
def announceTimer (n : Nat) (s : State) : State :=
  if !s.tbMaster n || !s.ethUp (s.fld (R.TB_GPTP n) F.TB_GPTP_PORT) then s else
  let g := s.gptp n
  gptpSend n ptpAnnounce g.annSeq 0 (s.setGptp n { g with annSeq := g.annSeq + 1 })

/-- Responses that may be lost in a row before asCapable falls (IEEE 802.1AS; log entry 7). -/
def allowedLost : Nat := 9

/-- Send a Pdelay_Req with PDELAY_EN = 1 (R411). -/
def pdelayTimer (n : Nat) (s : State) : State :=
  if s.tbMode n ≠ 1 ∨ !s.flag (R.TB_GPTP n) F.TB_GPTP_PDELAY_EN
    ∨ !s.ethUp (s.fld (R.TB_GPTP n) F.TB_GPTP_PORT) then s else
  let g := s.gptp n
  let lost := if g.pdReq.isSome then g.lost + 1 else g.lost
  gptpSend n ptpPdelayReq g.pdSeq 0
    (s.setGptp n { g with lost := lost, asCapable := g.asCapable && decide (lost ≤ allowedLost), pdReq := some (g.pdSeq, none), pdResp := none, pdSeq := g.pdSeq + 1 })

/-- The 802.1AS stack consumes the oldest entry of a port's transmit timestamp queue (R408): the stamp of a
Pdelay_Req is kept, that of a Pdelay_Resp or of a Sync goes out in its Follow_Up. -/
def consumeTx (port : Nat) (s : State) : State :=
  match SMap.get s.clk.txts [] port with
  | [] => s
  | e :: rest =>
    let s := { s with clk := { s.clk with txts := SMap.put s.clk.txts [] port rest } }
    let g := s.gptp e.tb
    if g.pdReq = some (e.id, none) then s.setGptp e.tb { g with pdReq := some (e.id, some (e.stamp : Int)) }
    else match g.pdRespTo with
    | some (q, _) =>
      if q = e.id then
        gptpSend e.tb ptpPdelayRespFollowUp e.id e.stamp (s.setGptp e.tb { g with pdRespTo := none })
      else if g.syncSent = some e.id then
        gptpSend e.tb ptpFollowUp e.id e.stamp (s.setGptp e.tb { g with syncSent := none })
      else s
    | none =>
      if g.syncSent = some e.id then
        gptpSend e.tb ptpFollowUp e.id e.stamp (s.setGptp e.tb { g with syncSent := none })
      else s

/-- The SFD of a stamped frame passes: an entry is stored, or dropped from a full queue (R406, R408). -/
def txTimestamp (port : Nat) (id : BitVec 16) (n : Nat) (s : State) : State :=
  if s.dark 0x30 then s else
  let q := SMap.get s.clk.txts [] port
  if 16 ≤ q.length then
    let s := s.incSat (R.ETH_TXTS port) F.ETH_TXTS_OVERFLOW 1
    let s := if (s.gptp n).syncSent = some id then s.setGptp n { s.gptp n with syncSent := none } else s
    s.raise Ev.TS_OVERFLOW 0 0
  else
    let st := (s.tbFine n : Int) + finePs (s.fld (R.ETH_TX_LAT port) F.ETH_TX_LAT_LAT_PS)
    { s with clk := { s.clk with txts := SMap.put s.clk.txts [] port (q ++ [⟨id, n, s.epoch n, st.toNat⟩]) } }

/-- The PCS status of a port changes (Table NT-2). -/
def ethLinkChange (port : Nat) (up lock anDone : Bool) (s : State) : State :=
  if s.dark 0x30 then s else
  let was := s.flag (R.ETH_STATUS port) F.ETH_STATUS_LINK
  let s := ((s.setFlag (R.ETH_STATUS port) F.ETH_STATUS_LINK up).setFlag (R.ETH_STATUS port) F.ETH_STATUS_LOCK
    lock).setFlag (R.ETH_STATUS port) F.ETH_STATUS_AN_DONE anDone
  if was && !up then s.incSat (R.ETH_LINKCNT port) F.ETH_LINKCNT_DOWNS 1 else s

/-! ### PPS (R412, R413) -/

/-- A measurement of a PPS-disciplined time base at an accepted edge (R412). -/
def ppsMeasure (n : Nat) (s : State) : State :=
  let v : Int := (s.tbFine n : Int) - fine (s.fld R.PPS_IN_CTRL F.PPS_IN_CTRL_DLY_NS)
  let frac := Int.emod v (fine 1000000000)
  let o := if frac < fine 500000000 then frac else frac - fine 1000000000
  let src := match (s.tb n).hist with
    | (p, l) :: _ => p + fine (Int.tdiv ((s.clk.localNs : Int) - l + 500000000) 1000000000 * 1000000000)
    | [] => v - o
  ownMeasurement n o src s.clk.localNs s

/-- An edge on PPS_IN (R412). -/
def ppsInEdge (s : State) : State :=
  if !s.flag R.PPS_IN_CTRL F.PPS_IN_CTRL_EN || !s.groom.up then s else
  let early := match s.clk.ppsInAt with
    | some t => decide (s.clk.localNs - t < 500000000)
    | none => false
  if early then s.incSat R.PPS_IN_CNT F.PPS_IN_CNT_GLITCHES 1 else
  let s := { s with clk := { s.clk with ppsInAt := some s.clk.localNs } }
  let s := s.incWrap R.PPS_IN_CNT F.PPS_IN_CNT_EDGES 1
  let n := s.fld R.PPS_IN_CTRL F.PPS_IN_CTRL_TB
  let v := s.tbWhole n - s.fld R.PPS_IN_CTRL F.PPS_IN_CTRL_DLY_NS
  let s := (s.setReg R.PPS_IN_NS (w32 (nsOf v))).setReg R.PPS_IN_S_LO (w32 (secOf v))
  let s := s.setReg R.PPS_IN_INFO (w32 (secOf v / 2 ^ 32 % 65536 + 65536 * s.epoch n + 2 ^ 24 * n))
  ((upTo 4).filter (fun m => s.tbMode m == 2)).foldl (fun t m => ppsMeasure m t) s

/-- SRC passes PHASE_NS (R413). -/
def ppsOutEdge (s : State) : State :=
  let n := s.fld R.PPS_OUT_CTRL F.PPS_OUT_CTRL_SRC
  if !s.flag R.PPS_OUT_CTRL F.PPS_OUT_CTRL_EN || !s.groom.up then s
  else if s.flag R.PPS_OUT_CTRL F.PPS_OUT_CTRL_GATE && s.tbState n != 2 then s
  else
    let early := match s.clk.ppsOutAt with
      | some t => decide (s.clk.localNs - t < 500000000)
      | none => false
    if early then s.incSat R.PPS_OUT_CNT F.PPS_OUT_CNT_SKIPPED 1
    else ({ s with clk := { s.clk with ppsOutAt := some s.clk.localNs, ppsOut := true } }).incWrap R.PPS_OUT_CNT
      F.PPS_OUT_CNT_PULSES 1

/-! ### Commands (R416) and committed changes -/

/-- A field of a word lies in lo … hi. -/
def fieldIn (f : Fld) (w : Word) (lo hi : Nat) : Bool := decide (lo ≤ f.get w ∧ f.get w ≤ hi)

/-- Register images of time base `n` in range, by Table NT-1. -/
def tbCtrlOk (w : Word) : Bool := fieldIn F.TB_CTRL_MODE w 0 2 && fieldIn F.TB_CTRL_RECEIPT w 2 15
def tbGptpOk (w : Word) : Bool :=
  fieldIn F.TB_GPTP_ROLE w 0 2 && decide (-5 ≤ F.TB_GPTP_SYNC_LOG.sget w ∧ F.TB_GPTP_SYNC_LOG.sget w ≤ 3)
def tbLimitsOk (w : Word) : Bool := fieldIn F.TB_LIMITS_MAX_PPM w 1 1000 && fieldIn F.TB_LIMITS_SLEW_PPM w 1 1000
def tbStepOk (w : Word) : Bool := fieldIn F.TB_STEP_STEP_NS w 100 999999999
def ppsOutOk (w : Word) : Bool := fieldIn F.PPS_OUT_CTRL_WIDTH_MS w 1 500
def ppsPhaseOk (w : Word) : Bool := fieldIn F.PPS_OUT_PHASE_PHASE_NS w 0 999999999

/-- The time block's register images are in range (RANGE_TIMING). -/
def State.timeOk (s : State) : Bool :=
  (upTo 4).all (fun n => tbCtrlOk (s.reg (R.TB_CTRL n)) && tbGptpOk (s.reg (R.TB_GPTP n))
    && tbLimitsOk (s.reg (R.TB_LIMITS n)) && tbStepOk (s.reg (R.TB_STEP n)))
  && ppsOutOk (s.reg R.PPS_OUT_CTRL) && ppsPhaseOk (s.reg R.PPS_OUT_PHASE)

/-- The registers TB_SET writes. -/
def tbSetRegs (n : Nat) (p : List Word) : List (Nat × Word) :=
  [(R.TB_CTRL n, wAt p 0), (R.TB_GPTP n, wAt p 1), (R.TB_LIMITS n, wAt p 2), (R.TB_STEP n, wAt p 3),
   (R.TB_BACKLIM n, wAt p 4), (R.TB_LINKDLY n, wAt p 5), (R.TB_TRIM n, wAt p 6)]

/-- The registers PPS_SET writes. -/
def ppsSetRegs (p : List Word) : List (Nat × Word) :=
  [(R.PPS_IN_CTRL, wAt p 0), (R.PPS_OUT_CTRL, wAt p 1), (R.PPS_OUT_PHASE, wAt p 2)]

/-- Pairs obey R400, and no two time bases share a port and domain (R409): RESOURCE. -/
def State.pairsOk (s : State) : Bool :=
  (upTo 4).all (fun a =>
    !s.flag (R.TB_PAIR a) F.TB_PAIR_EN ||
      (let b := s.fld (R.TB_PAIR a) F.TB_PAIR_PARTNER
       b != a && s.tbMode a != 0 && s.tbMode b != 0
         && !(s.tbMode a == 1 && s.tbMode b == 1
              && s.fld (R.TB_GPTP a) F.TB_GPTP_PORT == s.fld (R.TB_GPTP b) F.TB_GPTP_PORT
              && s.fld (R.TB_GPTP a) F.TB_GPTP_DOMAIN == s.fld (R.TB_GPTP b) F.TB_GPTP_DOMAIN)))
  && (upTo 4).all (fun a => (upTo 4).all (fun b => decide (b ≤ a) || !(s.tbMode a == 1 && s.tbMode b == 1
      && s.fld (R.TB_GPTP a) F.TB_GPTP_PORT == s.fld (R.TB_GPTP b) F.TB_GPTP_PORT
      && s.fld (R.TB_GPTP a) F.TB_GPTP_DOMAIN == s.fld (R.TB_GPTP b) F.TB_GPTP_DOMAIN)))

/-- What a change of the time block's registers does at once (R393, R410). -/
def reactTime (old s : State) : State :=
  (upTo 4).foldl (fun t n =>
    let role := t.fld (R.TB_GPTP n) F.TB_GPTP_ROLE
    let src (u : State) := (u.tbMode n, u.fld (R.TB_GPTP n) F.TB_GPTP_PORT, u.fld (R.TB_GPTP n) F.TB_GPTP_DOMAIN,
      u.fld (R.TB_GPTP n) F.TB_GPTP_ROLE)
    let t := if src old = src t then t else
      let t := t.setTb n { t.tb n with hist := [], gptp := Gptp.idle, remain := 0 }
      let t := t.setFld (R.TB_STATUS n) F.TB_STATUS_PORT_STATE (if t.tbMode n = 1 ∧ role ≠ 0 then role else 0)
      let t := t.setTbState n (if t.tbFree n then 0 else 1)
      if t.tbMaster n then becomeMaster n t else t
    let t := if t.switched n ∧ !t.flag (R.TB_PAIR n) F.TB_PAIR_EN then t.setFlag (R.TB_STATUS n) F.TB_STATUS_SWITCHED false
      else t
    if t.tbFree n ∧ (src old ≠ src t ∨ old.reg (R.TB_TRIM n) ≠ t.reg (R.TB_TRIM n)) then
      t.setRateEff n (F.TB_TRIM_TRIM.sget (t.reg (R.TB_TRIM n)))
    else t) s

/-- The new value a TB_ADJUST asks for, in 2^−16 ns; none where R398 calls it out of range. -/
def adjustTarget (n : Nat) (p : List Word) (s : State) : Option Int :=
  let present : Int := s.tbFine n
  let secs : Int := sext 48 ((wAt p 2).toNat + 2 ^ 32 * bits (wAt p 3) 15 0)
  let usecs : Int := ((wAt p 2).toNat + 2 ^ 32 * bits (wAt p 3) 15 0 : Nat)
  let target :=
    if bits (wAt p 0) 1 0 = 0 then
      if s.tbMode n = 2 then
        some (present + fine ((usecs - secOf (s.tbWhole n)) * 1000000000))
      else if 999999999 < (wAt p 1).toNat then none
      else some (fine (usecs * 1000000000 + (wAt p 1).toNat))
    else some (present + fine (secs * 1000000000 + sext 32 (wAt p 1).toNat))
  target.bind (fun v => if 0 ≤ v ∧ v < fine (2 ^ 48 * 1000000000) then some v else none)

/-- Resume: every time base restarts from its value at entry plus the time the RTC counted (R414). -/
def resumeClocks (elapsedNs : Nat) (s : State) : State :=
  let s := { s with clk := { s.clk with localNs := s.clk.localNs + elapsedNs } }
  (upTo 4).foldl (fun t n =>
    let t := t.setTb n { t.tb n with val := ((t.tb n).val + elapsedNs * 2 ^ 48) % tbTop, hist := [], remain := 0 }
    let t := t.setFld (R.TB_STATUS n) F.TB_STATUS_EPOCH (t.epoch n + 1)
    t.setTbState n (if t.tbFree n then 0 else 4)) s

end Sys2Proof.Machine
end

