-- ==== Sys2Proof/Machine/Gate.lean ====
section
/-! DEFINITION. Ingest gates (chapter 06): stream contexts, frames and their tags, cropping and decimation, HDR
groups, targets and credits. -/

namespace Sys2Proof.Machine

def gateUnit (g : Nat) : Nat := 0x1000 + g

/-- Context states (Table GT-1). -/
def Gs.free : Nat := 0
def Gs.wait : Nat := 1
def Gs.opened : Nat := 2
def Gs.frame : Nat := 3

def State.ctxState (s : State) (g c : Nat) : Nat := s.fld (R.GATE_STATUS g c) F.GATE_STATUS_STATE
def State.setCtxState (s : State) (g c v : Nat) : State := s.setFld (R.GATE_STATUS g c) F.GATE_STATUS_STATE v

/-- Raise a gate event: the gate's unit, the context, and a cause code (log entry 18). -/
def gateRaise (ev g c cause : Nat) (s : State) : State := s.raise ev (gateUnit g) (evArg c 0 cause)

def GSet.gw (x : GSet) : GWords := ⟨x.ctrl, x.cropX, x.cropY, x.dectag, x.target⟩
def GWords.gset (w : GWords) : GSet := ⟨w.ctrl, w.cropX, w.cropY, w.dectag, w.target⟩

/-- The settings by which packets are matched: a frame's own until it closes, else the live ones (R167). -/
def State.effective (s : State) (g c : Nat) : GWords :=
  match (s.ctx g c).frame with
  | some f => f.set.gw
  | none => s.gwords g c

/-- The lane that names a receive lane in a context: the even lane of a bond (R165). -/
def State.namedLane (s : State) (x : Nat) : Nat := if s.flag (R.LANE_CTRL (x / 2 * 2)) F.LANE_CTRL_BOND then x / 2 * 2 else x

/-- A receive lane repeats in RETIME mode: it delivers no cells to its gate (R131). -/
def State.retimed (s : State) (x : Nat) : Bool :=
  (upTo 16).any (fun t =>
    let w := s.reg (R.LANE_REPEAT (32 + t))
    F.LANE_REPEAT_EN.get w == 1 && F.LANE_REPEAT_MODE.get w == 0 && F.LANE_REPEAT_SRC.get w == x)

/-- Lane x carries cells to its gate: up, its bond up, the domain on (R128, R131, R157). -/
def State.carries (s : State) (x : Nat) : Bool :=
  !s.dark (laneDomain x) && s.fld (R.LANE_STATUS x) F.LANE_STATUS_STATE == 4
  && (!s.flag (R.LANE_CTRL (x / 2 * 2)) F.LANE_CTRL_BOND || s.flag (R.LANE_STATUS (x / 2 * 2)) F.LANE_STATUS_BOND_UP)
  && !s.retimed x

/-- The context of gate g that selects lane, port and VC (R165): one whose frame is in progress under that selection before
one to which a change has given it (R167). -/
def State.matchCtx (s : State) (x stream : Nat) : Option Nat :=
  let g := x / 4
  let lane := s.namedLane x % 4
  let takes (c : Nat) : Bool :=
    let w := s.effective g c
    s.ctxState g c ≠ Gs.free && F.GATE_CTRL_LANE.get w.ctrl == lane && F.GATE_CTRL_PORT.get w.ctrl == stream / 16
      && F.GATE_CTRL_VC.get w.ctrl == stream % 16
  ((upTo 16).find? (fun c => (s.ctx g c).frame.isSome && takes c)).or ((upTo 16).find? takes)

/-- The receive lane a context names. -/
def laneOfCtx (g : Nat) (w : GWords) : Nat := 4 * g + F.GATE_CTRL_LANE.get w.ctrl

/-! ### Rings (R190, R191) -/

/-- Depth of the line ring of a context's target; 0 where there is none. -/
def State.ringDepth (s : State) (g c : Nat) (w : GWords) : Nat :=
  match w.kind with
  | 2 => 2 ^ w.ringLog2
  | 3 => (match s.directHeads g c with | n :: _ => 2 ^ (s.dirIn n).2.1 | [] => 0)
  | _ => 0

/-- Full credits and a ring written from its start. -/
def resetRing (g c : Nat) (s : State) : State :=
  s.setCtx g c { s.ctx g c with lineCred := s.ringDepth g c (s.gwords g c), recCred := 16, lineAt := 0, recAt := 0 }

/-- The ring of a context has changed: its target, its geometry, or its direct path. -/
def ringChanged (a b : GWords) : Bool := a.target != b.target || a.pitch != b.pitch

/-- The name of a context's ring. -/
def gateRingRef (g c : Nat) : RingRef := .gate (Fin.ofNat 8 g) (Fin.ofNat 16 c)

/-- Where the tag ring of a context's target stands: behind the lines of its ring (R190); none without a ring. -/
def State.tagRing (s : State) (g c : Nat) (w : GWords) : Option Nat :=
  match w.kind with
  | 2 => some w.tagsAt
  | 3 => (s.directHeads g c).head?.map (fun n => (s.dirIn n).1 + 2 ^ (s.dirIn n).2.1 * (s.dirIn n).2.2)
  | _ => none

/-- Pairs whose direct path takes context c of gate g and runs the library's kernel. -/
def State.directReaders (s : State) (g c : Nat) : List (Nat × Nat) :=
  (s.directHeads g c).flatMap (fun n => s.pairReaders (s.fld (R.HEAD_DIR_SRC n) F.HEAD_DIR_SRC_PAIR))

/-- Write one tag record into a ring target's tag ring of 16 records, and notify the consumer (R188, R190, R191). A
direct path's pair reads each record as it comes, which returns its credit (log entry 36). -/
def writeRecord (g c : Nat) (w : GWords) (ws : List Word) (s : State) : State :=
  match s.tagRing g c w with
  | none => s
  | some at_ =>
    let x := s.ctx g c
    let s := s.hayWrite (at_ + x.recAt % 16 * 64) (wordsBytes ws)
    let x := { s.ctx g c with recAt := x.recAt + 1 }
    if w.kind = 2 then
      (feedRecord (s.ringReaders w.ringAt) ws (s.setCtx g c x)).emit (.ringNotify (gateRingRef g c) true)
    else feedRecord (s.directReaders g c) ws (s.setCtx g c { x with recCred := satAdd x.recCred 1 16 })

/-! ### SOF stamp (R182, R183) -/

/-- ONE_WAY_PS of a lane (R152). -/
def State.oneWay (s : State) (x : Nat) : Int :=
  ((s.fld (R.LANE_RTT x) F.LANE_RTT_RTT_PS / 2 : Nat) : Int) + F.LINK_TRIG_TRIM_TRIM_PS.sget (s.reg (R.LINK_TRIG_TRIM x))

/-- SOF_LAT_PS of a partner's IDENT (Table LK-5). -/
def State.sofLat (s : State) (x : Nat) : Nat := match (s.link x).ident with | some b => beNat ((b.drop 20).take 4) | none => 0

/-- A stamp and STAMP_OK: the reading less the cable's and the partner's delay, in units of 2^−16 ns. -/
def State.sofStamp (s : State) (x tb : Nat) : Nat × Bool :=
  let ok := s.fld (R.LANE_RTT x) F.LANE_RTT_RTT_PS ≠ 0 && (s.link x).ident.isSome
  let ps := if ok then ((s.oneWay x + (s.sofLat x : Int)) % 2 ^ 32).toNat else 0
  let back := ps / 1000 * 65536 + (ps % 1000 * 65536 + 500) / 1000
  let top := 2 ^ 48 * 1000000000 * 65536
  ((s.tbFine tb + top - back % top) % top, ok)

/-! ### HDR groups (R185–R187) -/

/-- Contexts whose CTRL, as `ctrl` gives it, makes them open members of group k: GROUP_EN and GROUP = k. -/
def membersBy (ctrl : Nat → Word) (k : Nat) : List Nat :=
  (upTo 16).filter (fun c =>
    F.GATE_CTRL_OPEN.get (ctrl c) == 1 && F.GATE_CTRL_GROUP_EN.get (ctrl c) == 1 && F.GATE_CTRL_GROUP.get (ctrl c) == k)

/-- Members of group k in the configuration (R185). -/
def State.members (s : State) (g k : Nat) : List Nat := membersBy (fun c => s.reg (R.GATE_CTRL g c)) k

/-- Members of group k as their frames have it: a change waits for the end of a frame in progress (R167). -/
def State.membersNow (s : State) (g k : Nat) : List Nat := membersBy (fun c => (s.effective g c).ctrl) k

def State.inst (s : State) (g k : Nat) : Option HdrInst := SMap.get (s.gate g).insts none k
def State.setInst (s : State) (g k : Nat) (i : Option HdrInst) : State :=
  s.setGate g { s.gate g with insts := SMap.put (s.gate g).insts none k i }

/-! ### Tags (Table GT-4) -/

/-- Words 0–7 of a frame's tag, RECORD as given. -/
def tagHead (g c : Nat) (f : GFrame) (bonded : Bool) (rec : Nat) : List Word :=
  let w := f.set.gw
  [w32 (1 + 16 * g + 256 * c + 4096 * laneOfCtx g w + 2 ^ 17 * F.GATE_CTRL_PORT.get w.ctrl + 2 ^ 19 * b01 bonded
     + 2 ^ 20 * F.GATE_CTRL_VC.get w.ctrl + 2 ^ 24 * w.dt),
   w32 (f.frameNum.toNat + 65536 * F.GATE_DECTAG_USER.get w.dectag), f.seq, f.w3, f.w4, f.w5, f.w6, Fld.put ⟨25, 24⟩ rec f.w7]

/-- Words 8–15 of a CLOSE record. -/
def tagTail (f : GFrame) : List Word :=
  let w := f.set.gw
  let dx := F.GATE_DECTAG_DX.get w.dectag
  let dy := F.GATE_DECTAG_DY.get w.dectag
  let grp := F.GATE_CTRL_GROUP_EN.get w.ctrl == 1
  let (c13, c14, c15) := f.fs.getD (0, 0, 0)
  [f.eofDelta, w32 (w.outW % 2 ^ 14 + 65536 * f.outLines),
   w32 (b01 f.trunc + 2 * f.cause + 16 * b01 f.damaged + 32 * b01 f.noend + 64 * b01 f.oversize + 128 * b01 f.hdrIncomplete
     + 256 * b01 f.fs.isSome + 512 * b01 f.fnumMismatch + 1024 * b01 f.embLost + 65536 * f.dmgLines),
   w32 (b01 grp + (if grp then 2 * F.GATE_CTRL_GROUP.get w.ctrl + 16 * F.GATE_CTRL_EXP.get w.ctrl + 64 * (f.nexp - 1) else 0)
     + 256 * (dx % 2) + 512 * (dy % 2) + 4096 * (dx / 2) + 8192 * (dy / 2) + 16384 * b01 w.avg + 32768 * b01 w.cfa),
   if grp then f.gseq else 0, c13, c14, Fld.put ⟨13, 2⟩ f.embBytes c15]

/-- The bond flag of a frame's lane. -/
def State.ctxBonded (s : State) (g : Nat) (f : GFrame) : Bool :=
  s.flag (R.LANE_CTRL (laneOfCtx g f.set.gw / 2 * 2)) F.LANE_CTRL_BOND

/-- The CLOSE record reaches the target and completes a paddock slot (R188, R190). -/
def writeClose (g c : Nat) (f : GFrame) (s : State) : State :=
  let w := f.set.gw
  let tag := tagHead g c f (s.ctxBonded g f) 2 ++ tagTail f
  match w.kind with
  | 1 =>
    (match f.slot, f.slot.bind (s.padFor (F.GATE_TARGET_PADDOCK.get w.target)) with
    | some i, some p =>
      let n := F.GATE_TARGET_PADDOCK.get w.target
      completeSlot n i (s.fsStore (p.slotAddr i) (wordsBytes tag)).2
    | _, _ => s)
  | 2 =>
    let s := writeRecord g c w tag s
    if f.trunc then noteTrunc w.ringAt s else s
  | _ => writeRecord g c w tag s

/-- Write a closed frame's CLOSE record unless it still waits for FRAME_STATUS or its group instance. -/
def tryClose (g c : Nat) (s : State) : State :=
  let x := s.ctx g c
  match x.closing with
  | none => s
  | some f =>
    let grp := F.GATE_CTRL_GROUP_EN.get f.set.ctrl == 1
    let held := grp && (match s.inst g (F.GATE_CTRL_GROUP.get f.set.ctrl) with
      | some i => i.gseq == f.gseq
      | none => false)
    if x.waitFs || held then s
    else writeClose g c f (s.setCtx g c { x with closing := none })

/-- A group instance closes: every member frame closed in it gets GSEQ, NEXP and HDR_INCOMPLETE (R187). -/
def closeInst (g k : Nat) (s : State) : State :=
  match s.inst g k with
  | none => s
  | some i =>
    let ms := i.members
    let bad := i.bad || ms.any (fun c => !i.closed.contains c)
    let s := s.setInst g k none
    let mark (f : GFrame) : GFrame := { f with hdrIncomplete := bad, nexp := Nat.max ms.length 1 }
    let s := i.started.foldl (fun t c =>
      let x := t.ctx g c
      let t := t.setCtx g c { x with
        closing := x.closing.map (fun f => if f.gseq = i.gseq then mark f else f),
        frame := x.frame.map (fun f => if f.gseq = i.gseq then mark f else f) }
      tryClose g c t) s
    if bad then gateRaise Ev.GATE_HDR g k 0 s else s

/-- Close an instance when every member has closed, or its window has passed, every member that started has closed
and some member never started (R187). -/
def checkInst (g k : Nat) (s : State) : State :=
  match s.inst g k with
  | none => s
  | some i =>
    let ms := i.members
    if ms.all i.closed.contains || (i.expired && i.started.all i.closed.contains && ms.any (fun c => !i.started.contains c))
    then closeInst g k s else s

/-- A member frame start joins or opens an instance; its GSEQ (R186). -/
def joinInst (g k c : Nat) (num : BitVec 16) (s : State) : Word × State :=
  let opens (s : State) : Word × State :=
    let s := closeInst g k s
    let q : Word := SMap.get (s.gate g).gseq 0 k + 1
    let s := s.setGate g { s.gate g with gseq := SMap.put (s.gate g).gseq 0 k q }
    (q, s.setInst g k (some ⟨q, num, s.clk.localNs, s.membersNow g k, [c], [], false, false⟩))
  match s.inst g k with
  | none => opens s
  | some i =>
    let same := if s.flag (R.GATE_HDR g) F.GATE_HDR_MATCH then i.frameNum == num
      else decide (s.clk.localNs ≤ i.openedNs + s.fld (R.GATE_HDR g) F.GATE_HDR_WIN_US * 1000)
    if same && !i.started.contains c then (i.gseq, s.setInst g k (some { i with started := i.started ++ [c] }))
    else opens s

/-! ### The end of a frame (R175–R177) -/

/-- A context becomes FREE with a cause; a loss also clears OPEN, so that only a new STREAM_OPEN opens it (R158). -/
def freeCtx (g c cause : Nat) (s : State) : State :=
  let x := s.ctx g c
  let s := s.setCtx g c { GCtx.free with closing := x.closing, waitFs := x.waitFs, seq := x.seq }
  let s := if cause = 1 then s else s.setFld (R.GATE_CTRL g c) F.GATE_CTRL_OPEN 0
  s.setReg (R.GATE_STATUS g c) (w32 (4 * cause))

/-- The context is between frames: a committed change takes effect, OPEN = 0 frees it (R167). -/
def betweenFrames (g c : Nat) (old : GWords) (s : State) : State :=
  if F.GATE_CTRL_OPEN.get (s.reg (R.GATE_CTRL g c)) = 0 then freeCtx g c 1 s
  else
    let s := s.setCtxState g c Gs.opened
    if ringChanged old (s.gwords g c) then resetRing g c s else s

/-- Close the frame in progress with a cause of Table GT-3. -/
def closeFrame (g c cause : Nat) (s : State) : State :=
  let x := s.ctx g c
  match x.frame with
  | none => s
  | some f =>
    let w := f.set.gw
    let trunc := [1, 4, 5, 7].contains cause || decide (f.outLines < w.outH)
    let f := { f with trunc := trunc, cause := if trunc then cause else 0, noend := f.noend || cause == 3, rows := [], last := [] }
    let s := s.setCtx g c { x with closing := none }
    let s := match x.closing with | some old => writeClose g c old s | none => s
    let lane := laneOfCtx g w
    let caps := decide (3 ≤ s.fld (R.LINK_PARTNER lane) F.LINK_PARTNER_STATE) && s.fld (R.LINK_PARTNER lane) F.LINK_PARTNER_CAPS / 32 % 2 == 1
    let s := s.setCtx g c { s.ctx g c with frame := none, closing := some f, waitFs := caps && cause != 4, dropping := cause == 1 }
    let s := if trunc then gateRaise Ev.GATE_TRUNC g c cause (s.incSat (R.GATE_CNT g c) F.GATE_CNT_TRUNC 1) else s
    let grp := F.GATE_CTRL_GROUP_EN.get w.ctrl == 1
    let k := F.GATE_CTRL_GROUP.get w.ctrl
    let s := if grp then
        (match s.inst g k with
        | some i => if i.gseq = f.gseq then s.setInst g k (some { i with closed := i.closed ++ [c], bad := i.bad || trunc }) else s
        | none => s)
      else s
    let s := tryClose g c s
    let s := if grp then checkInst g k s else s
    if cause = 4 then s else betweenFrames g c w s

/-- Close the contexts of a lost or refused partner's lane: frames in progress end with cause 0b100 (R158, R160). -/
def closeLaneCtxs (x cause : Nat) (s : State) : State :=
  if 32 ≤ x then s else
  let g := x / 4
  let lane := s.namedLane x
  (upTo 16).foldl (fun t c =>
    if t.ctxState g c ≠ Gs.free ∧ laneOfCtx g (t.effective g c) = lane then freeCtx g c cause (closeFrame g c 4 t) else t) s

/-- A partner of the lane has open contexts (R160). -/
def State.laneHasCtx (s : State) (x : Nat) : Bool :=
  decide (x < 32) && (upTo 16).any (fun c => s.ctxState (x / 4) c ≠ Gs.free && laneOfCtx (x / 4) (s.effective (x / 4) c) == s.namedLane x)

/-! ### Frame starts (R172) -/

/-- Count a frame discarded whole (R190, R191). -/
def discardFrame (g c : Nat) (s : State) : State :=
  (s.incSat (R.GATE_CREDIT g) F.GATE_CREDIT_DROPS 1).incSat (R.GATE_CNT g c) F.GATE_CNT_TRUNC 1

def noMatch (g : Nat) (s : State) : State := s.incSat (R.GATE_DROP g) F.GATE_DROP_NOMATCH 1
def dtDrop (g : Nat) (s : State) : State := s.incSat (R.GATE_DROP2 g) F.GATE_DROP2_DT_DROP 1

/-- The next write in a flushed ring answers with a flush marker (R192). -/
def flushAnswer (g c : Nat) (s : State) : State :=
  let x := s.ctx g c
  if x.flushMark then
    (s.setCtx g c { x with flushMark := false }).emit (.flushMarker (gateRingRef g c))
  else s

/-- Open a frame on context c with its slot or records granted. -/
def openFrame (x g c : Nat) (num : BitVec 16) (slot : Option Nat) (s : State) : State :=
  let w := s.gwords g c
  let tb := F.GATE_CTRL_TB.get w.ctrl
  let (stamp, ok) := s.sofStamp x tb
  let ns := stamp / 65536
  let y := s.ctx g c
  let seq := y.seq + 1
  let f : GFrame :=
    { set := w.gset, frameNum := num, seq := seq, w3 := s.tickLo, w4 := w32 (ns % 1000000000), w5 := w32 (ns / 1000000000),
      w6 := w32 (ns / 1000000000 / 2 ^ 32 % 65536 + 65536 * (stamp % 65536)),
      w7 := w32 (tb + 4 * b01 ok + 8 * b01 (s.tbState tb == 4) + 256 * s.epoch tb + 65536 * Nat.min y.missed 255),
      captured := s.clk.localNs, eofDelta := 0xFFFFFFFF, inLines := 0, outLines := 0, rows := [], last := [], trunc := false,
      cause := 0, damaged := false, dmgRaised := false, noend := false, oversize := false, fnumMismatch := false, embLost := false,
      embBytes := 0, dmgLines := 0, slot := slot, fs := none, gseq := 0, hdrIncomplete := false, nexp := 1 }
  let s := s.incWrap (R.GATE_CNT g c) F.GATE_CNT_FRAMES 1
  let s := (s.setCtx g c { y with seq := seq, missed := 0, dropping := false }).setCtxState g c Gs.frame
  let (q, s) := if F.GATE_CTRL_GROUP_EN.get w.ctrl = 1 then joinInst g (F.GATE_CTRL_GROUP.get w.ctrl) c num s else (0, s)
  let f := { f with gseq := q }
  let s := s.setCtx g c { s.ctx g c with frame := some f }
  let s := if (s.tagRing g c w).isSome then
      let s := flushAnswer g c s
      writeRecord g c w (tagHead g c f (s.ctxBonded g f) 1 ++ List.replicate 8 0)
        (s.setCtx g c { s.ctx g c with recCred := (s.ctx g c).recCred - 2 })
    else s
  if w.kind = 3 then
    (s.directHeads g c).foldl (fun t n => headSof n seq (pairSof (t.fld (R.HEAD_DIR_SRC n) F.HEAD_DIR_SRC_PAIR) seq t)) s
  else s

/-- A frame-start packet on receive lane x (R172). -/
def frameStart (x stream : Nat) (num : BitVec 16) (s : State) : State :=
  if !s.carries x then s else
  let g := x / 4
  match s.matchCtx x stream with
  | none => noMatch g s
  | some c0 =>
    let s := closeFrame g c0 3 s
    match s.matchCtx x stream with
    | none => s
    | some c =>
      if s.fld (R.LINK_PARTNER x) F.LINK_PARTNER_STATE ≠ 3 then s else
      let s := closeFrame g c 3 s
      let s := s.setCtx g c { s.ctx g c with starts := (s.ctx g c).starts + 1, dropping := false }
      let w := s.gwords g c
      match w.kind with
      | 1 =>
        (match claimSlot (F.GATE_TARGET_PADDOCK.get w.target) w.samples s with
        | (none, s) => discardFrame g c s
        | (some i, s) => openFrame x g c num (some i) s)
      | _ =>
        if (s.tagRing g c w).isSome ∧ (s.ctx g c).recCred < 2 then gateRaise Ev.GATE_CREDIT g c 0 (discardFrame g c s)
        else openFrame x g c num none s

/-! ### Pixel lines (R170, R173, R174, R179, R180) -/

/-- Split a list into pieces of `k`; the last may be short. -/
def pieces {α : Type} (k : Nat) : Nat → List α → List (List α)
  | 0, _ => []
  | fuel + 1, l => if l.isEmpty then [] else l.take k :: pieces k fuel (l.drop k)

def cutInto {α : Type} (k : Nat) (l : List α) : List (List α) := pieces k l.length l

/-- Bits hi:lo of a byte. -/
def byteBits (b : Byte) (hi lo : Nat) : Nat := b.toNat / 2 ^ lo % 2 ^ (hi + 1 - lo)

/-- Samples of one packing group of a RAW or YUV type, as CSI-2 packs it (log entry 13). -/
def unpackGroup (dt : Nat) (g : List Byte) : List Nat :=
  let b (i : Nat) : Nat := bAt g i
  match dt with
  | 0x2B | 0x1F => (upTo 4).map (fun i => 4 * b i + b 4 / 4 ^ i % 4)
  | 0x2C => [16 * b 0 + b 2 % 16, 16 * b 1 + b 2 / 16]
  | 0x2D =>
    let l := b 4 + 256 * b 5 + 65536 * b 6
    (upTo 4).map (fun i => 64 * b i + l / 64 ^ i % 64)
  | 0x2E => [256 * b 0 + b 1]
  | 0x2F =>
    let part (i : Nat) : Nat := 4 * b i + b 4 / 4 ^ i % 4
    [1024 * part 0 + part 1, 1024 * part 2 + part 3]
  | 0x27 => [65536 * b 0 + 4096 * (b 2 % 16) + 16 * b 1 + b 2 / 16]
  | 0x24 => [b 2, b 1, b 0]
  | _ => g.map (·.toNat)

/-- Bytes of a packing group and the samples in it. -/
def groupSize (dt : Nat) : Nat × Nat :=
  match dt with
  | 0x2B | 0x1F => (5, 4) | 0x2C => (3, 2) | 0x2D => (7, 4) | 0x2E => (2, 1) | 0x2F => (5, 2) | 0x27 => (3, 1) | 0x24 => (3, 3)
  | 0x1E => (2, 2) | _ => (1, 1)

/-- WC is a whole number of pixels (R170). -/
def wholePixels (dt wc : Nat) : Bool := wc % (groupSize dt).1 == 0

def unpackLine (dt : Nat) (bs : List Byte) : List Nat := (cutInto (groupSize dt).1 bs).flatMap (unpackGroup dt)

/-- Output bytes of a line's samples (Table GT-2). -/
def packOut (dt : Nat) (xs : List Nat) : List Byte :=
  match dt with
  | 0x1E => xs.map (BitVec.ofNat 8)
  | 0x24 => (cutInto 3 xs).flatMap (fun p => p.map (BitVec.ofNat 8) ++ [0])
  | 0x27 | 0x2F => xs.flatMap (leBytes 4)
  | _ => xs.flatMap (leBytes 2)

/-- Sum of lists, element by element. -/
def addLists : List Nat → List Nat → List Nat
  | x :: xs, y :: ys => (x + y) :: addLists xs ys
  | _, _ => []

def sumLists : List (List Nat) → List Nat
  | [] => []
  | [l] => l
  | l :: ls => addLists l (sumLists ls)

/-- The rows of one average decimated horizontally: cells of each group summed (R180). -/
def cellGroups (w : GWords) (row : List Nat) : List (List (List Nat)) := cutInto w.dx (cutInto (w.cw * perPixel w.dt) row)

/-- An output line from its input rows, each already cut to the window (R180). -/
def decimate (w : GWords) (rows : List (List Nat)) : List Nat :=
  if !w.avg then
    match rows with
    | row :: _ => (cellGroups w row).flatMap (fun g => g.headD [])
    | [] => []
  else
    let n := w.dx * w.dy
    let sums := rows.map (fun r => (cellGroups w r).flatMap sumLists)
    (sumLists sums).map (fun t => (t + n / 2) / n)

/-- Write output line v to the target; false when no line credit ends the frame (R190, R191). -/
def writeOutLine (g c : Nat) (f : GFrame) (v : Nat) (bs : List Byte) (s : State) : Bool × State :=
  let w := f.set.gw
  let x := s.ctx g c
  match w.kind with
  | 1 => (true, match f.slot with | some i => padWriteAt (F.GATE_TARGET_PADDOCK.get w.target) i 0 v w.pitch bs s | none => s)
  | 2 =>
    if x.lineCred = 0 then (false, s) else
    let s := flushAnswer g c s
    let s := feedLine (s.ringReaders w.ringAt) bs true (s.hayWrite (w.ringAt + x.lineAt % 2 ^ w.ringLog2 * w.pitch) bs)
    let s := s.setCtx g c { s.ctx g c with lineCred := x.lineCred - 1, lineAt := x.lineAt + 1 }
    (true, s.emit (.ringNotify (gateRingRef g c) false))
  | 3 =>
    (match s.directHeads g c with
    | [] => (true, s)
    | n :: _ =>
      if x.lineCred = 0 then (false, s) else
      let (base, log2, pitch) := s.dirIn n
      let s := feedLine (s.directReaders g c) bs true (s.hayWrite (base + x.lineAt % 2 ^ log2 * pitch) bs)
      let s := s.setCtx g c { s.ctx g c with lineCred := x.lineCred - 1, lineAt := x.lineAt + 1 }
      (true, s.onPair (s.fld (R.HEAD_DIR_SRC n) F.HEAD_DIR_SRC_PAIR) (fun y => { y with ready := y.ready ++ [(v, f.seq, f.w3)] })))
  | _ => (true, s)

/-- The frame has lost picture data: DAMAGED, and GATE_DMG once per frame (R174). -/
def markDamaged (g c : Nat) (f : GFrame) (s : State) : GFrame × State :=
  if f.dmgRaised then ({ f with damaged := true }, s)
  else ({ f with damaged := true, dmgRaised := true }, gateRaise Ev.GATE_DMG g c 0 s)

/-- Store a frame in progress. -/
def keepFrame (g c : Nat) (f : GFrame) (s : State) : State := s.setCtx g c { s.ctx g c with frame := some f }

/-- An output line falls due: its input rows, none standing for a damaged one. -/
def emitLine (g c : Nat) (f : GFrame) (rows : List (Option (List Nat))) (s : State) : State :=
  let w := f.set.gw
  let v := f.outLines
  let good := rows.filterMap id
  let whole := good.length == rows.length
  let zero := List.replicate (w.outW * perPixel w.dt) 0
  let line := if whole then decimate w good
    else if F.GATE_CTRL_DMG_FILL.get w.ctrl = 1 ∧ w.ch ≤ v then f.last.getD (w.ch - 1) zero else zero
  match writeOutLine g c f v (packOut w.dt line) s with
  | (false, s) => gateRaise Ev.GATE_CREDIT g c 0 (closeFrame g c 5 (keepFrame g c f s))
  | (true, s) =>
    let f := { f with outLines := v + 1, last := (line :: f.last).take w.ch, dmgLines := f.dmgLines + b01 (!whole) }
    let s := if whole then s else s.incSat (R.GATE_DMG g) F.GATE_DMG_LINES 1
    keepFrame g c f s

/-- The place of input line y in the window: cell row group, row a of the group, phase pj (R180). -/
def rowPlace (w : GWords) (y : Nat) : Nat × Nat :=
  let r := y - w.y0
  (r / w.ch % w.dy, r % w.ch)

/-- A pixel line of a frame: its samples, none for a damaged line. -/
def takeLineOf (g c : Nat) (f : GFrame) (samples : Option (List Nat)) (s : State) : State :=
  let w := f.set.gw
  let y := f.inLines
  let f := { f with inLines := y + 1 }
  if 8192 ≤ y then keepFrame g c { f with oversize := true } s else
  let pp := perPixel w.dt
  let long := match samples with | some l => decide (8192 * pp < l.length) | none => false
  let f := { f with oversize := f.oversize || long }
  if y < w.y0 ∨ w.y0 + w.h ≤ y then keepFrame g c f s else
  let row := samples.bind (fun l =>
    let cut := ((l.take (8192 * pp)).drop (w.x0 * pp)).take (w.w * pp)
    if cut.length = w.w * pp then some cut else none)
  let (f, s) := if row.isNone then markDamaged g c f s else (f, s)
  let (a, pj) := rowPlace w y
  if !w.avg then
    if a = 0 then emitLine g c f [row] s else keepFrame g c f s
  else
    let kept := f.rows ++ [row.getD []]
    if a + 1 < w.dy then keepFrame g c { f with rows := kept } s
    else
      let mine := (upTo w.dy).map (fun i => kept.getD (i * w.ch + pj) [])
      let rows := mine.map (fun r => if r.isEmpty then none else some r)
      emitLine g c { f with rows := if pj + 1 = w.ch then [] else kept } rows s

/-- Count damage by its cause (R168, R193). -/
def countDamage (g : Nat) (d : PktDamage) (s : State) : State :=
  match d with
  | .header => s.incSat (R.GATE_PKT g) F.GATE_PKT_HDR_UNCORR 1
  | .crc | .cut => s.incSat (R.GATE_DROP g) F.GATE_DROP_CRC_ERR 1
  | .overrun => (s.incSat (R.GATE_DROP2 g) F.GATE_DROP2_OVERRUN 1).raise Ev.GATE_OVERRUN (gateUnit g) 0
  | _ => s

/-- A packet's header had a single-bit error, which is corrected and counted (R168). -/
def headerCorrected (x : Nat) (corrected : Bool) (s : State) : State :=
  if corrected && s.carries x then s.incSat (R.GATE_PKT (x / 4)) F.GATE_PKT_HDR_CORR 1 else s

/-- Damage that is counted by its cause: of a packet of no context, in no other counter (R174). -/
def damageCounted (d : PktDamage) : Bool :=
  match d with | .good | .trunc => false | _ => true

/-- A packet that matches no open context is counted, unless its damage is (R169, R174). -/
def unmatched (g : Nat) (d : PktDamage) (s : State) : State := if damageCounted d then s else noMatch g s

/-- A packet of a data type outside Table LK-3 is counted, unless its damage is (R169, R174). -/
def unsupportedDt (g : Nat) (d : PktDamage) (s : State) : State := if damageCounted d then s else dtDrop g s

/-- A matched packet other than a pixel line finds no frame in progress: it is counted where the context's frame has
closed, and not while the context waits for its first (R169). -/
def afterFrame (g c : Nat) (s : State) : State := if s.ctxState g c = Gs.opened then noMatch g s else s

/-- A long packet of a pixel data type on receive lane x. -/
def pixelLine (x stream dt : Nat) (data : List Byte) (dmg : PktDamage) (s : State) : State :=
  if !s.carries x then s else
  let g := x / 4
  let s := countDamage g dmg s
  if dmg = .header then s
  else if !supportedDt dt then unsupportedDt g dmg s
  else match s.matchCtx x stream with
  | none => unmatched g dmg s
  | some c =>
    let y := s.ctx g c
    match y.frame with
    | none =>
      if y.dropping && y.flushMark then flushAnswer g c s
      else if dt = (s.effective g c).dt then noMatch g s else afterFrame g c s
    | some f =>
      let w := f.set.gw
      if dmg = .trunc then closeFrame g c 1 s
      else if dt ≠ w.dt then s
      else
        let n := data.length / (groupSize dt).1 * (groupSize dt).2 / perPixel dt
        let s := s.setGate g { s.gate g with pixels := (s.gate g).pixels + n }
        let bad := dmg ≠ .good || !wholePixels dt data.length
        let f := if dmg = .cut then { f with damaged := true } else f
        takeLineOf g c f (if bad then none else some (unpackLine dt data)) s

/-- An embedded-data packet (R169, R171). -/
def embeddedData (x stream : Nat) (data : List Byte) (dmg : PktDamage) (s : State) : State :=
  if !s.carries x then s else
  let g := x / 4
  let s := countDamage g dmg s
  if dmg = .header then s
  else match s.matchCtx x stream with
  | none => unmatched g dmg s
  | some c =>
    match (s.ctx g c).frame with
    | none =>
      if s.ctxState g c = Gs.wait ∧ (F.GATE_CTRL_EMB.get (s.gwords g c).ctrl ≠ 1 ∨ (s.gwords g c).kind ≠ 1) then dtDrop g s
      else afterFrame g c s
    | some f =>
      if dmg = .trunc then closeFrame g c 1 s else
      let w := f.set.gw
      if F.GATE_CTRL_EMB.get w.ctrl ≠ 1 ∨ w.kind ≠ 1 then dtDrop g s
      else match f.slot, s.pad? (F.GATE_TARGET_PADDOCK.get w.target) with
      | some i, some p =>
        let bs := data.take (4032 - f.embBytes)
        let s := (s.fsStore (p.slotAddr i + 64 + f.embBytes) bs).2
        keepFrame g c { f with embBytes := f.embBytes + bs.length, embLost := f.embLost || decide (bs.length < data.length) } s
      | _, _ => dtDrop g s

/-- A frame-end packet (R175, R177, R184). -/
def frameEnd (x stream : Nat) (num : BitVec 16) (s : State) : State :=
  if !s.carries x then s else
  let g := x / 4
  match s.matchCtx x stream with
  | none => noMatch g s
  | some c =>
    match (s.ctx g c).frame with
    | none => afterFrame g c s
    | some f =>
      let delta := s.clk.localNs - f.captured
      let f := { f with eofDelta := w32 delta, fnumMismatch := num ≠ f.frameNum }
      closeFrame g c (if f.outLines < f.set.gw.outH then 2 else 0) (keepFrame g c f s)

/-- Any other CSI-2 packet: data type, match, sender's cut (R169, R146). -/
def otherPacket (x stream dt : Nat) (dmg : PktDamage) (s : State) : State :=
  if !s.carries x then s else
  let g := x / 4
  let s := countDamage g dmg s
  if dmg = .header then s
  else if !supportedDt dt then unsupportedDt g dmg s
  else match s.matchCtx x stream with
  | none => unmatched g dmg s
  | some c =>
    if (s.ctx g c).frame.isNone then afterFrame g c s
    else if dmg = .trunc then closeFrame g c 1 s else s

/-- An uncorrectable codeword on a lane marks DAMAGED every frame in progress on it (R174). -/
def damageLane (x : Nat) (s : State) : State :=
  if 32 ≤ x then s else
  (upTo 16).foldl (fun t c =>
    match (t.ctx (x / 4) c).frame with
    | some f => if laneOfCtx (x / 4) f.set.gw = t.namedLane x then keepFrame (x / 4) c { f with damaged := true } t else t
    | none => t) s

/-- A frame open longer than OPEN_MS closes (R175). -/
def openTimeout (g c : Nat) (s : State) : State := closeFrame g c 6 s

/-- WIN_US has passed since the group's instance opened (R187). -/
def hdrExpiry (g k : Nat) (s : State) : State :=
  match s.inst g k with
  | some i => checkInst g k (s.setInst g k (some { i with expired := true }))
  | none => s

/-- A ring's consumer returns credits (R191). -/
def gateCredit (g c lines recs : Nat) (s : State) : State :=
  let x := s.ctx g c
  s.setCtx g c { x with lineCred := satAdd x.lineCred lines (s.ringDepth g c (s.effective g c)), recCred := satAdd x.recCred recs 16 }

/-- FRAME_STATUS received on a lane: written into the waiting context's CLOSE record (R189). -/
def rxFrameStatus (x : Nat) (body : List Byte) (s : State) : State :=
  if 32 ≤ x then s else
  let g := x / 4
  let stream := bAt body 0 % 64
  match (upTo 16).find? (fun c =>
    match (s.ctx g c).closing with
    | some f => (s.ctx g c).waitFs && laneOfCtx g f.set.gw == s.namedLane x
        && F.GATE_CTRL_PORT.get f.set.ctrl * 16 + F.GATE_CTRL_VC.get f.set.ctrl == stream
    | none => false) with
  | none => s
  | some c =>
    let y := s.ctx g c
    let words := (w32 (beNat ((body.drop 4).take 4)), w32 (beNat ((body.drop 8).take 4)),
      w32 (bAt body 1 % 4 + 65536 * beNat ((body.drop 12).take 2)))
    tryClose g c (s.setCtx g c { y with waitFs := false, closing := y.closing.map (fun f => { f with fs := some words }) })

/-- The wait for FRAME_STATUS ends (R189). -/
def fsWaitTimeout (g c : Nat) (s : State) : State :=
  if (s.ctx g c).waitFs then tryClose g c (s.setCtx g c { s.ctx g c with waitFs := false }) else s

/-! ### Flush (R192) -/

/-- GATE_FLUSH on one context: the ring is emptied and a frame in progress dropped without a record. A ring that remains the
context's own then has full credits and answers the next write with a marker; a change or a close that waited for the
frame takes effect instead (R167, R192). -/
def flushCtx (g c : Nat) (s : State) : State :=
  let x := s.ctx g c
  let w := s.effective g c
  let s := match x.frame with
    | none => s
    | some f =>
      let s := (s.incSat (R.GATE_CNT g c) F.GATE_CNT_TRUNC 1).setCtx g c { x with frame := none, dropping := true }
      let s := match f.slot with | some i => returnSlot (F.GATE_TARGET_PADDOCK.get w.target) i s | none => s
      let k := F.GATE_CTRL_GROUP.get w.ctrl
      let s := if F.GATE_CTRL_GROUP_EN.get w.ctrl = 1 then
          (match s.inst g k with
          | some i => if i.gseq = f.gseq then checkInst g k (s.setInst g k (some { i with closed := i.closed ++ [c], bad := true })) else s
          | none => s)
        else s
      betweenFrames g c w s
  let s := if w.kind = 2 then feedFlush (s.ringReaders w.ringAt) (s.setCtx g c { s.ctx g c with closing := none, waitFs := false }) else s
  let s := if w.kind = 2 ∧ s.ctxState g c ≠ Gs.free ∧ !ringChanged w (s.gwords g c) then
      s.setCtx g c { s.ctx g c with lineCred := 2 ^ w.ringLog2, recCred := 16, flushMark := true }
    else s
  s.incSat (R.GATE_CREDIT g) F.GATE_CREDIT_FLUSHES 1

/-- A context bound to a direct path (R192). -/
def State.ctxDirect (s : State) (g c : Nat) : Bool := !(s.directHeads g c).isEmpty || (s.effective g c).kind == 3

/-! ### Ticks (R178, R194) -/

/-- The expected frame starts of the period that ends are checked, before the set of the tick applies, and the pixel rate
measured (R178, R194). -/
def gateTick (g : Nat) (s : State) : State :=
  if s.dark (0x20 + g) then s else
  let s := (upTo 16).foldl (fun t c =>
    let x := t.ctx g c
    let live := t.ctxState g c == Gs.opened || t.ctxState g c == Gs.frame
    let t := t.setCtx g c { x with starts := 0, wholePeriod := live }
    if F.GATE_CTRL_EXPECT.get (t.effective g c).ctrl = 1 ∧ x.wholePeriod ∧ live then
      if x.starts = 0 then
        gateRaise Ev.GATE_MISSING g c 0
          ((t.setCtx g c { t.ctx g c with missed := x.missed + 1 }).incSat (R.GATE_CNT g c) F.GATE_CNT_MISSING 1)
      else if 2 ≤ x.starts then gateRaise Ev.GATE_EXTRA g c 0 t else t
    else t) s
  let period := Nat.max (s.reg R.TICK_PERIOD).toNat 1
  let rate := Nat.min ((s.gate g).pixels * 1000 / period) 0xFFF
  let s := s.setGate g { s.gate g with pixels := 0 }
  let s := s.setFld (R.GATE_LOAD g) F.GATE_LOAD_RATE rate
  s.setFld (R.GATE_LOAD g) F.GATE_LOAD_PEAK (Nat.max rate (s.fld (R.GATE_LOAD g) F.GATE_LOAD_PEAK))

def gatesTick (s : State) : State := (upTo 8).foldl (fun t g => gateTick g t) s

/-! ### Configuration (R166, R167, R196) -/

/-- The context's open, closed and changed settings after a configuration change (R166, R167). -/
def reactCtx (old : State) (g c : Nat) (s : State) : State :=
  let a := old.gwords g c
  let b := s.gwords g c
  let was := F.GATE_CTRL_OPEN.get a.ctrl == 1
  let now := F.GATE_CTRL_OPEN.get b.ctrl == 1
  if a = b ∧ old.ringDepth g c b = s.ringDepth g c b then s
  else if s.ctxState g c = Gs.frame then s
  else if now && (!was || s.ctxState g c == Gs.free) then
    resetRing g c ((s.setCtxState g c Gs.wait).setCtx g c
      { s.ctx g c with missed := 0, starts := 0, wholePeriod := false, dropping := false, flushMark := false })
  else if was && !now then freeCtx g c 1 s
  else if now && (ringChanged a b || old.ringDepth g c b ≠ s.ringDepth g c b) then resetRing g c s
  else s

def reactGates (old s : State) : State :=
  (upTo 8).foldl (fun t g => (upTo 16).foldl (fun t c => reactCtx old g c t) t) s

/-- Field ranges of a context's words (Table GT-5). -/
def gateCtrlOk (w : Word) : Bool := pixelDt (F.GATE_CTRL_DT.get w)
def gateTargetOk (w : Word) : Bool :=
  match F.GATE_TARGET_KIND.get w with
  | 1 => bits w 31 14 == 0
  | 2 => bits w 9 5 == 0 && bits w 31 28 == 0 && decide (2 ≤ F.GATE_TARGET_LOG2_DEPTH.get w)
  | _ => bits w 31 2 == 0
def gateHdrOk (w : Word) : Bool := decide (1 ≤ F.GATE_HDR_WIN_US.get w)
def gateTimeoutOk (w : Word) : Bool := decide (1 ≤ F.GATE_TIMEOUT_OPEN_MS.get w ∧ F.GATE_TIMEOUT_OPEN_MS.get w ≤ 250)

def gatesRangeOk (s : State) : Bool :=
  (upTo 8).all (fun g => gateHdrOk (s.reg (R.GATE_HDR g)) && gateTimeoutOk (s.reg (R.GATE_TIMEOUT g))
    && (upTo 16).all (fun c => gateCtrlOk (s.reg (R.GATE_CTRL g c)) && gateTargetOk (s.reg (R.GATE_TARGET g c))))

/-- The open contexts of the configuration. -/
def State.openCtxs (s : State) : List (Nat × Nat) :=
  (upTo 8).flatMap (fun g => ((upTo 16).filter (fun c => s.flag (R.GATE_CTRL g c) F.GATE_CTRL_OPEN)).map (fun c => (g, c)))

/-- Selection of a context: lane, port and VC. -/
def GWords.selection (w : GWords) : Nat := bits w.ctrl 7 0

/-- A group keeps R185: two to four members on one lane, exposures 0 to NEXP − 1 without gaps. -/
def groupOk (s : State) (g k : Nat) : Bool :=
  let ms := s.members g k
  let exps := ms.map (fun c => s.fld (R.GATE_CTRL g c) F.GATE_CTRL_EXP)
  let lanes := ms.map (fun c => s.fld (R.GATE_CTRL g c) F.GATE_CTRL_LANE)
  ms.isEmpty || (decide (2 ≤ ms.length ∧ ms.length ≤ 4) && (upTo ms.length).all exps.contains && lanes.all (fun l => some l == lanes.head?))

/-- Contexts of the resulting configuration keep R165, R179, R185 and name paddocks that exist. -/
def gatesResourceOk (s : State) : Bool :=
  (upTo 8).all (fun g =>
    let cs := (upTo 16).filter (fun c => s.flag (R.GATE_CTRL g c) F.GATE_CTRL_OPEN)
    decide (cs.map (fun c => (s.gwords g c).selection)).Nodup
    && (upTo 8).all (groupOk s g)
    && cs.all (fun c =>
        let w := s.gwords g c
        let x := laneOfCtx g w
        let carriers := (upTo 4).filter (fun n => (SMap.get s.heads Head.rest n).direct && s.fld (R.HEAD_DIR_SRC n) F.HEAD_DIR_SRC_GATE == g
          && laneOfCtx g (s.gwords g (s.fld (R.HEAD_DIR_SRC n) F.HEAD_DIR_SRC_CTX)) == x)
        w.cropOk && (x % 2 == 0 || !s.flag (R.LANE_CTRL (x / 2 * 2)) F.LANE_CTRL_BOND)
        && carriers.all (fun n => s.fld (R.HEAD_DIR_SRC n) F.HEAD_DIR_SRC_CTX == c)
        && (w.kind ≠ 1 || (s.pad? (F.GATE_TARGET_PADDOCK.get w.target)).isSome)
        && !s.retimed x))

/-- Byte range of a context's hayloft ring, lines and tags; empty for other targets (R190). -/
def State.gateRing (s : State) (g c : Nat) : Nat × Nat :=
  let w := s.gwords g c
  if w.kind = 2 then (w.ringAt, 2 ^ w.ringLog2 * w.pitch + 1024) else (0, 0)

/-- Rings lie within their slice (R190). -/
def gateRingsFit (s : State) : Bool :=
  s.openCtxs.all (fun e => let (a, n) := s.gateRing e.1 e.2; n == 0 || decide (a % 2 ^ 22 + n ≤ 2 ^ 22))

/-- Planned pixel rate of a gate in kpixel/s (R194). -/
def State.gatePlan (s : State) (g : Nat) : Nat :=
  (s.openCtxs.filter (fun e => e.1 = g)).foldl (fun a e => a + (s.ctx g e.2).plan) 0

/-! ### Commands (Table GT-6) -/

/-- Registers a STREAM_OPEN writes. -/
def streamOpenRegs (g : Nat) (p : List Word) : List (Nat × Word) :=
  let c := bits (wAt p 0) 3 0
  [(R.GATE_CTRL g c, wAt p 1), (R.GATE_CROP_X g c, wAt p 2), (R.GATE_CROP_Y g c, wAt p 3), (R.GATE_DECTAG g c, wAt p 4),
   (R.GATE_TARGET g c, wAt p 5)]

/-- STREAM_CROP keeps USER and sets the rest of DECTAG. -/
def streamCropRegs (g : Nat) (p : List Word) (s : State) : List (Nat × Word) :=
  let c := bits (wAt p 0) 3 0
  [(R.GATE_CROP_X g c, wAt p 1), (R.GATE_CROP_Y g c, wAt p 2),
   (R.GATE_DECTAG g c, Fld.put ⟨4, 0⟩ (bits (wAt p 3) 4 0) (s.reg (R.GATE_DECTAG g c)))]

def streamTagRegs (g : Nat) (p : List Word) (s : State) : List (Nat × Word) :=
  let c := bits (wAt p 0) 3 0
  [(R.GATE_DECTAG g c, F.GATE_DECTAG_USER.put (bits (wAt p 1) 15 0) (s.reg (R.GATE_DECTAG g c))),
   (R.GATE_CTRL g c, F.GATE_CTRL_EXPECT.put (bits (wAt p 1) 18 18) (F.GATE_CTRL_TB.put (bits (wAt p 1) 17 16) (s.reg (R.GATE_CTRL g c))))]

/-- HDR_GROUP: the listed contexts become the group's members, others leave it; with enable 0 all leave. -/
def hdrGroupRegs (g : Nat) (p : List Word) (s : State) : List (Nat × Word) :=
  let k := bits (wAt p 0) 2 0
  let en := bit (wAt p 0) 8
  let ctl (c : Nat) : Word := s.reg (R.GATE_CTRL g c)
  let out := ((upTo 16).filter (fun c => F.GATE_CTRL_GROUP_EN.get (ctl c) = 1 ∧ F.GATE_CTRL_GROUP.get (ctl c) = k)).map
    (fun c => (R.GATE_CTRL g c, F.GATE_CTRL_GROUP_EN.put 0 (ctl c)))
  let ins := if !en then [] else (upTo 4).filterMap (fun e =>
    let c := bits (wAt p 1) (8 * e + 7) (8 * e)
    if c < 16 then some (R.GATE_CTRL g c, F.GATE_CTRL_EXP.put e (F.GATE_CTRL_GROUP.put k (F.GATE_CTRL_GROUP_EN.put 1 (ctl c)))) else none)
  out ++ ins ++ [(R.GATE_HDR g, wAt p 2)]

def ctxLegal (p : List Word) : Chk := inRange (decide ((wAt p 0).toNat < 16)) 0

def streamOpenLegal (p : List Word) : Chk :=
  firstOf [ctxLegal p, inRange (gateCtrlOk (wAt p 1) && bit (wAt p 1) 31) 1, inRange (gateTargetOk (wAt p 5)) 5]

def streamCropLegal (p : List Word) : Chk := firstOf [ctxLegal p, inRange (bits (wAt p 3) 31 5 == 0) 3]

def streamTargetLegal (p : List Word) : Chk := firstOf [ctxLegal p, inRange (gateTargetOk (wAt p 1)) 1]
def streamTagLegal (p : List Word) : Chk := firstOf [ctxLegal p, inRange (bits (wAt p 1) 31 19 == 0) 1]

def hdrGroupLegal (p : List Word) : Chk :=
  firstOf [inRange ((wAt p 0).toNat &&& 0xFFFFFEF8 == 0) 0,
    inRange ((upTo 4).all (fun e => let c := bits (wAt p 1) (8 * e + 7) (8 * e); decide (c < 16 ∨ c = 0xFF))) 1,
    inRange (gateHdrOk (wAt p 2)) 2]

/-- STREAM_OPEN applies: its registers and its planned rate (R194). -/
def applyStreamOpen (g : Nat) (p : List Word) (s : State) : State :=
  let c := bits (wAt p 0) 3 0
  let s := s.putSTs (streamOpenRegs g p)
  s.setCtx g c { s.ctx g c with plan := (wAt p 6).toNat }

/-- A register write opened a context: its planned rate is 3.2 Gpixel/s (R194). -/
def planOfWrite (old s : State) : State :=
  (upTo 8).foldl (fun t g => (upTo 16).foldl (fun t c =>
    if !old.flag (R.GATE_CTRL g c) F.GATE_CTRL_OPEN && t.flag (R.GATE_CTRL g c) F.GATE_CTRL_OPEN then
      t.setCtx g c { t.ctx g c with plan := 3200000 }
    else t) t) s

/-- Registers GATE_STATUS reports: eight global ones, STATUS and CNT of each context. -/
def gateStatusRegs (g : Nat) : List Nat :=
  [R.GATE_TIMEOUT g, R.GATE_HDR g, R.GATE_PKT g, R.GATE_DROP g, R.GATE_DROP2 g, R.GATE_LOAD g, R.GATE_DMG g, R.GATE_CREDIT g]
  ++ (upTo 16).map (R.GATE_STATUS g) ++ (upTo 16).map (R.GATE_CNT g)

/-- GATEn_STATUS(c) with the credits held and the line being written. -/
def State.gateStatusView (s : State) (g c : Nat) : Word :=
  let x := s.ctx g c
  let w := s.reg (R.GATE_STATUS g c)
  let line := match x.frame with | some f => f.outLines | none => 0
  F.GATE_STATUS_LINE.put line (F.GATE_STATUS_CREDITS.put x.lineCred w)

end Sys2Proof.Machine
end

