-- ==== Sys2Proof/Machine/TwoWire.lean ====
section
/-! DEFINITION. Two-wire controllers, tunnels and the target TWT0 (chapter 14): the operations that its
commands and bus steps share. Controllers 0–3 are TWC0–TWC3; 32 + l is the tunnel of receive lane l. -/

namespace Sys2Proof.Machine

def State.twc (s : State) (c : Nat) : TwCtl := SMap.get s.tw TwCtl.idle c
def State.setTwc (s : State) (c : Nat) (x : TwCtl) : State := { s with tw := SMap.put s.tw TwCtl.idle c x }

/-- Unit address of controller `c`. -/
def twUnit (c : Nat) : Nat := if c < 32 then 0xB000 + c else 0xB100 + (c - 32)

/-- Results of Table TW-2. -/
def Tw.OK : Nat := 0
def Tw.ADDR_NACK : Nat := 1
def Tw.DATA_NACK : Nat := 2
def Tw.STRETCH_TIMEOUT : Nat := 3
def Tw.ARB_LOST_DATA : Nat := 4
def Tw.BUS_STUCK : Nat := 5
def Tw.ARB_LOST_COND : Nat := 6
def Tw.LINK_DOWN : Nat := 7
def Tw.NO_PARTNER : Nat := 8
def Tw.TUNNEL_TIMEOUT : Nat := 9
def Tw.DISABLED : Nat := 10

/-- The status registers follow the controller (Table TW-3). -/
def twShow (c : Nat) (s : State) : State :=
  let k := s.twc c
  let n := k.queue.length
  if c < 32 then
    let st := if k.stuck then 3 else if k.active then 1 else if n = 0 then 0 else 2
    (s.setFld (R.TWC_STATUS c) F.TWC_STATUS_STATE st).setFld (R.TWC_STATUS c) F.TWC_STATUS_QUEUED n
  else
    (s.setFlag (R.TWTUN_STATUS (c - 32)) F.TWTUN_STATUS_BUSY k.active).setFld (R.TWTUN_STATUS (c - 32))
      F.TWTUN_STATUS_QUEUED n

/-- Count an ended transfer (R422). -/
def twNote (c result : Nat) (s : State) : State :=
  if c < 32 then
    let s := (s.setFld (R.TWC_STATUS c) F.TWC_STATUS_LAST_RESULT result).incWrap (R.TWC_CNT c) F.TWC_CNT_XFERS 1
    if result = 0 then s else s.incSat (R.TWC_CNT c) F.TWC_CNT_FAILS 1
  else
    let l := c - 32
    let s := (s.setFld (R.TWTUN_STATUS l) F.TWTUN_STATUS_LAST_RESULT result).incWrap (R.TWTUN_CNT l)
      F.TWTUN_CNT_XFERS 1
    if result = 0 then s else s.incSat (R.TWTUN_CNT l) F.TWTUN_CNT_FAILS 1

/-- Count an ended transfer and raise TW_FAIL for a result other than OK (R422). -/
def twCount (c result : Nat) (s : State) : State :=
  let s := twNote c result s
  if result = 0 then s else s.raise Ev.TW_FAIL (twUnit c) (evArg result 0 0)

/-- The reply payload of TW_XFER (Table TW-4). -/
def twPayload (result nack pos : Nat) (data : List Byte) (attempts : Nat) : List Word :=
  [w32 (result + 256 * (nack % 256) + 65536 * (pos % 8192)), w32 (data.length % 256 + 256 * (attempts % 16))]
    ++ bytesWords data

/-- The transfer in progress, or the oldest queued one, ends (R421, R422). -/
def twEnd (c result nack pos : Nat) (data : List Byte) (s : State) : State :=
  let k := s.twc c
  match k.queue with
  | [] => s
  | x :: rest =>
    let s := s.setTwc c { k with queue := rest, active := false }
    let s := twShow c (twCount c result s)
    s.answer (.twXfer c x.serial) (Res.ok (twPayload result nack pos data x.attempts))

/-- End the `n` oldest transfers with one result. -/
def twEndAll (c result : Nat) : Nat → State → State
  | 0, s => s
  | n + 1, s => twEndAll c result n (twEnd c result 0 0 [] s)

/-- Settings of controller `c` now. -/
def State.twCtrl (s : State) (c : Nat) : Word := if c < 32 then s.reg (R.TWC_CTRL c) else s.reg (R.TWTUN_CTRL (c - 32))

/-- The oldest transfer starts (again) under the present settings, or those of its first run. -/
def twBegin (c : Nat) (s : State) : State :=
  let k := s.twc c
  match k.queue with
  | [] => s
  | x :: rest =>
    let ctrl := if x.attempts = 0 then s.twCtrl c else k.ctrl
    s.setTwc c { k with queue := { x with attempts := x.attempts + 1 } :: rest, active := true, ctrl := ctrl }

/-! ### Local controllers -/

/-- The bus is free: a waiting controller sends its START, address and write bytes (R419, R420). -/
def twBusFree (c : Nat) (s : State) : State :=
  let k := s.twc c
  match k.queue with
  | [] => s
  | x :: _ =>
    if k.active || k.stuck then s else
    let first := 2 * x.addr + (if x.op = 2 then 1 else 0)
    let again := if x.op = 3 then [BitVec.ofNat 8 (2 * x.addr + 1)] else []
    twShow c ((twBegin c s).emit (.twoWire c x.addr (BitVec.ofNat 8 first :: x.wdata ++ again)))

/-- The bytes read, as many as the transfer asks for. -/
def twRead (x : TwXfer) (d : List Byte) : List Byte :=
  if x.op = 1 then [] else (d ++ List.replicate x.rlen 0xFF).take x.rlen

/-- A transaction on a local bus ends (R420, R425, R426). -/
def twTransferEnd (c : Nat) (r : TwEnd) (s : State) : State :=
  let k := s.twc c
  match k.queue with
  | [] => s
  | x :: _ =>
    if !k.active then s else
    match r with
    | .ok d => twEnd c Tw.OK 0 0 (twRead x d) s
    | .addrNack => twEnd c Tw.ADDR_NACK 0 0 [] s
    | .dataNack i => twEnd c Tw.DATA_NACK i.toNat 0 [] s
    | .arbData pos =>
      let s := (s.incSat (R.TWC_ARB c) F.TWC_ARB_DATA 1).setFld (R.TWC_STATUS c) F.TWC_STATUS_BITPOS pos.toNat
      if F.TWC_CTRL_RETRIES.get k.ctrl < x.attempts then twEnd c Tw.ARB_LOST_DATA 0 pos.toNat [] s
      else twShow c (s.setTwc c { k with active := false })
    | .arbCond => twEnd c Tw.ARB_LOST_COND 0 0 [] (s.incSat (R.TWC_ARB c) F.TWC_ARB_COND 1)

/-- A stretch reaches STRETCH_MS (R423). -/
def twStretch (c : Nat) (s : State) : State := if (s.twc c).active then twEnd c Tw.STRETCH_TIMEOUT 0 0 [] s else s

/-- A line stays low for STRETCH_MS while the controller waits for a free bus (R424). -/
def twStuck (c : Nat) (s : State) : State :=
  let k := s.twc c
  if k.active || k.stuck || !s.flag (R.TWC_CTRL c) F.TWC_CTRL_EN then s else
  let s := twShow c (s.setTwc c { k with stuck := true })
  twEndAll c Tw.BUS_STUCK k.queue.length (s.raise Ev.TW_STUCK (twUnit c) 0)

/-- Both lines have been high for 10 µs (R424). -/
def twUnstick (c : Nat) (s : State) : State :=
  if (s.twc c).stuck then twShow c (s.setTwc c { s.twc c with stuck := false }) else s

/-- A target's attention request, released after `lowNs` (R427). -/
def twAttention (c lowNs : Nat) (sclFell : Bool) (s : State) : State :=
  if sclFell || decide (lowNs < 4000) || !s.flag (R.TWC_CTRL c) F.TWC_CTRL_EN
    || !s.flag (R.TWC_CTRL c) F.TWC_CTRL_ATTN_EN || (s.twc c).active || (s.twc c).stuck then s else
  ((s.setFlag (R.TWC_ATTN c) F.TWC_ATTN_PEND true).incSat (R.TWC_ATTN c) F.TWC_ATTN_COUNT 1).raise Ev.TW_ATTN
    (twUnit c) 0

/-! ### Tunnels (R428, R429) -/

/-- A tunnel of lane `l` can carry a transfer (R428). -/
def State.tunnelOk (s : State) (l : Nat) : Bool :=
  s.partner l == Ps.ready && s.partnerClass l == 1 && s.partnerCap l 2

/-- Send the I2C_REQ of the oldest transfer of tunnel `l` (Table LK-5). -/
def tunnelSend (l : Nat) (s : State) : State :=
  let c := 32 + l
  let s := twBegin c s
  let k := s.twc c
  match k.queue with
  | [] => s
  | x :: _ =>
    let op := x.op + 64 * F.TWTUN_CTRL_SPEED.get k.ctrl
    let head := [BitVec.ofNat 8 op, BitVec.ofNat 8 x.addr, BitVec.ofNat 8 x.wdata.length, BitVec.ofNat 8 x.rlen,
      BitVec.ofNat 8 (F.TWTUN_CTRL_STRETCH_MS.get k.ctrl)]
    let (q, s) := s.sendReq l Mt.I2C_REQ 0 (head ++ x.wdata)
    twShow c (s.setTwc c { k with reqSeq := q })

/-- Start what waits on tunnel `l`: transfers with no partner end at once (R428). -/
def tunnelGo (l : Nat) : Nat → State → State
  | 0, s => s
  | n + 1, s =>
    if (s.twc (32 + l)).active || (s.twc (32 + l)).queue.isEmpty then s
    else if s.tunnelOk l then tunnelSend l s
    else tunnelGo l n (twEnd (32 + l) Tw.NO_PARTNER 0 0 [] s)

/-- The outstanding transfer of tunnel `l` ends and the next one starts. -/
def tunnelEnd (l result nack : Nat) (data : List Byte) (s : State) : State :=
  tunnelGo l 8 (twEnd (32 + l) result nack 0 data s)

/-- I2C_RESP with the request's SEQ (R429): result, index and data; arbitration lost is tried again. -/
def tunnelResp (l seq status idx : Nat) (data : List Byte) (s : State) : State :=
  let k := s.twc (32 + l)
  match k.queue with
  | [] => s
  | x :: _ =>
    if !k.active || k.reqSeq != seq then s
    else if status = Tw.ARB_LOST_DATA then
      if F.TWTUN_CTRL_RETRIES.get k.ctrl < x.attempts then tunnelEnd l Tw.ARB_LOST_DATA 0 [] s else tunnelSend l s
    else tunnelEnd l status (if status = Tw.DATA_NACK then idx else 0)
      (if status = Tw.OK then twRead x data else []) s

/-- No I2C_RESP within the limit (R429). -/
def tunnelTimeout (l : Nat) (s : State) : State :=
  if (s.twc (32 + l)).active then tunnelEnd l Tw.TUNNEL_TIMEOUT 0 [] s else s

/-- The partner is lost: the outstanding and every queued transfer end (R429). -/
def tunnelDown (l : Nat) (s : State) : State := twEndAll (32 + l) Tw.LINK_DOWN (s.twc (32 + l)).queue.length s

/-! ### Commands (R439) -/

/-- Controller number of a unit index: 0–3 local, 0x100–0x11F tunnels. -/
def twCtlOf (i : Nat) : Option Nat :=
  if i < 4 then some i else if 0x100 ≤ i ∧ i < 0x120 then some (32 + (i - 0x100)) else none

/-- An image of TWCn_CTRL or TWTUN_l_CTRL in range (Table TW-3). -/
def twCtrlOk (c : Nat) (w : Word) : Bool :=
  if c < 32 then fieldIn' F.TWC_CTRL_SPEED w 2 && decide (1 ≤ F.TWC_CTRL_STRETCH_MS.get w ∧ F.TWC_CTRL_STRETCH_MS.get w ≤ 100)
  else fieldIn' F.TWTUN_CTRL_SPEED w 2
    && decide (1 ≤ F.TWTUN_CTRL_STRETCH_MS.get w ∧ F.TWTUN_CTRL_STRETCH_MS.get w ≤ 100)
where
  fieldIn' (f : Fld) (w : Word) (hi : Nat) : Bool := decide (f.get w ≤ hi)

/-- Two-wire settings in range (RANGE_TIMING). -/
def State.twOk (s : State) : Bool :=
  (upTo 4).all (fun c => twCtrlOk c (s.reg (R.TWC_CTRL c))) && (upTo 32).all (fun l => twCtrlOk (32 + l) (s.reg (R.TWTUN_CTRL l)))

/-- Parameter words of a TW_XFER (R565). -/
def twXferLen (p : List Word) : Nat := 2 + ceilDiv (bits (wAt p 0) 23 16) 4

/-- OP, WLEN and RLEN obey R420: the index of the word that breaks it. -/
def twXferLegal (p : List Word) : Chk :=
  let op := bits (wAt p 0) 9 8
  let wl := bits (wAt p 0) 23 16
  let rl := bits (wAt p 1) 7 0
  let wok := match op with
    | 1 => decide (wl ≤ 240) | 2 => wl == 0 | 3 => decide (1 ≤ wl ∧ wl ≤ 240) | _ => false
  let rok := match op with
    | 1 => rl == 0 | 2 | 3 => decide (1 ≤ rl ∧ rl ≤ 240) | _ => false
  firstOf [inRange wok 0, inRange rok 1]

/-- TW_XFER (R420–R422): queue the transfer; its reply waits for its end. -/
def twXfer (c : Nat) (p : List Word) (s : State) : Done × State :=
  let k := s.twc c
  if 8 ≤ k.queue.length then (.err St.BUSY 3, s) else
  let now (result : Nat) : Done × State := (.ok (twPayload result 0 0 [] 0), twCount c result s)
  let wdata := (wordsBytes (p.drop 2)).take (bits (wAt p 0) 23 16)
  let x : TwXfer := ⟨k.serial, bits (wAt p 0) 6 0, bits (wAt p 0) 9 8, wdata, bits (wAt p 1) 7 0, 0⟩
  let queued := twShow c (s.setTwc c { k with queue := k.queue ++ [x], serial := k.serial + 1 })
  if c < 32 then
    if !s.flag (R.TWC_CTRL c) F.TWC_CTRL_EN then now Tw.DISABLED
    else if k.stuck then now Tw.BUS_STUCK
    else (.wait (.twXfer c k.serial), queued)
  else if k.queue.isEmpty then
    if s.tunnelOk (c - 32) then (.wait (.twXfer c k.serial), tunnelSend (c - 32) queued) else now Tw.NO_PARTNER
  else (.wait (.twXfer c k.serial), queued)

/-- Registers that TW_STATUS reports (Table TW-4). -/
def twStatusRegs (i : Nat) : List Nat :=
  if i < 4 then [R.TWC_CTRL i, R.TWC_STATUS i, R.TWC_CNT i, R.TWC_ARB i, R.TWC_ATTN i]
  else if i < 0x200 then [R.TWTUN_CTRL (i - 0x100), R.TWTUN_STATUS (i - 0x100), R.TWTUN_CNT (i - 0x100)]
  else [R.TWT_CTRL, R.TWT_STATUS, R.TWT_CNT, R.TWT_XFER]

/-- TWT_SET's image is in range: an even address from 0x08 to 0x76 (R430). -/
def twtSetOk (w : Word) : Bool := decide (bits w 6 0 % 2 = 0 ∧ 8 ≤ bits w 6 0 ∧ bits w 6 0 ≤ 0x76)

/-- Committed two-wire settings: EN = 0 ends each queued transfer with DISABLED; the one in progress goes on
(R438). -/
def reactTw (old s : State) : State :=
  (upTo 4).foldl (fun t c =>
    if old.flag (R.TWC_CTRL c) F.TWC_CTRL_EN && !t.flag (R.TWC_CTRL c) F.TWC_CTRL_EN then
      let k := t.twc c
      match k.queue with
      | [] => t
      | x :: rest =>
        if k.active then
          let t := t.setTwc c { k with queue := rest, active := false }
          let t := twEndAll c Tw.DISABLED rest.length t
          twShow c (t.setTwc c { k with queue := [x] })
        else twEndAll c Tw.DISABLED k.queue.length t
    else t) s

/-! ### The target TWT0 (R430–R437) -/

/-- TWT0 has a clock: the hub is not in Hold, Stow or Off (R435). -/
def State.twtAwake (s : State) : Bool := s.pwr.resume != .asleep

/-- The RTC in units of 10^−9 of a count (R453). -/
def State.rtcFine (s : State) : Nat := s.pwr.rtc.toNat * 1000000000 + s.pwr.rtcNs

/-- The wake that an address match began is less than 50 µs old: TWT0 acknowledges nothing (R436). -/
def State.twtMuted (s : State) : Bool :=
  s.pwr.resume != .awake && (match s.pwr.matched with
    | some t => decide (s.rtcFine < t + 50000 * 32768)
    | none => false)

/-- The groom runs, so that the window has contents (R436). -/
def State.twtLive (s : State) : Bool := s.groomRuns

def State.setMbox (s : State) (m : Mbox) : State := { s with groom := { s.groom with mbox := m } }

def twtAcked (s : State) : State := s.incWrap R.TWT_XFER F.TWT_XFER_TRANS 1
def twtNacked (n : Nat) (s : State) : State := s.incSat R.TWT_XFER F.TWT_XFER_NACKS n

/-- A transaction addressed to TWT0: without its clock it answers nothing (R435), within 50 µs of the match that woke the
hub it does not acknowledge the address (R436), else it acknowledges it and goes on. -/
def twtAnswer (go : State → State) (s : State) : State :=
  if !s.twtAwake then s else if s.twtMuted then twtNacked 1 s else go (twtAcked s)

def State.twtPointer (s : State) : Nat := s.fld R.TWT_STATUS F.TWT_STATUS_POINTER
def State.twtPage (s : State) : Nat := s.fld R.TWT_STATUS F.TWT_STATUS_PAGE

/-- A write to A + 1 (R431). -/
def twtPageWrite (data : List Byte) : State → State :=
  twtAnswer (fun s => match data with
    | [] => s
    | b :: rest => twtNacked rest.length (s.setFld R.TWT_STATUS F.TWT_STATUS_PAGE b.toNat))

/-- A read of `n` bytes from A + 1 (R431). -/
def twtPageRead (n : Nat) : State → State :=
  twtAnswer (fun s => (upTo n).foldl (fun t _ => t.emit (.twtByte (BitVec.ofNat 8 t.twtPage))) s)

/-- The byte at the pointer (Table CM-8). Reading pointer 0x04 of page 0x00 latches the tick. -/
def twtByteAt (s : State) : Byte × State :=
  let p := s.twtPointer
  let m := s.groom.mbox
  if !s.twtLive then (0, s) else
  match s.twtPage with
  | 0 =>
    if p = 1 then (BitVec.ofNat 8 (b01 m.busy + 2 * b01 m.ready + 4 * b01 m.reject), s)
    else if p = 2 then (BitVec.ofNat 8 s.dstate.code, s)
    else if p = 4 then (s.tickLo.extractLsb' 0 8, s.setMbox { m with tickLatch := s.tickLo })
    else if 5 ≤ p ∧ p < 8 then ((m.tickLatch >>> (8 * (p - 4))).extractLsb' 0 8, s)
    else (0, s)
  | 1 => (SMap.get m.cmd 0 p, s)
  | 2 => (SMap.get m.rpl 0 p, s)
  | _ => (0, s)

/-- Step the pointer within its page (R431). -/
def twtStep (s : State) : State := s.setFld R.TWT_STATUS F.TWT_STATUS_POINTER (s.twtPointer + 1)

/-- A read of `n` bytes from A (R431). -/
def twtWindowRead (n : Nat) : State → State :=
  twtAnswer (fun s => (upTo n).foldl (fun t _ => twtStep ((twtByteAt t).2.emit (.twtByte (twtByteAt t).1))) s)

/-- DONE: the reply is consumed (R94). -/
def twtDone (s : State) : State :=
  if !s.twtLive then s else s.setMbox { s.groom.mbox with ready := false, rpl := [], attn := false }

/-- A misplaced START, repeated START or STOP (R432). -/
def twtProto (s : State) : State :=
  if !s.twtAwake then s else (s.incSat R.TWT_CNT F.TWT_CNT_PROTO 1).raise Ev.TWT_PROTO 0xB200 0

/-- TWT0 calls the body controller, once for each reply (R434). -/
def twtAttnOut (s : State) : State :=
  if s.twtAwake && s.twtLive && s.groom.mbox.attn then
    (s.setMbox { s.groom.mbox with attn := false }).emit .twtAttn
  else s

end Sys2Proof.Machine
end

