-- ==== Sys2Proof/Machine/Link.lean ====
section
/-! DEFINITION. Link messages, partners, calibration, triggers, GPIO, authentication and the relay of a
repeater (chapter 05): the operations its commands and arriving messages share. -/

namespace Sys2Proof.Machine

/-! ### Receiving (R147, R150) -/

/-- The lane carries messages: training to deep, its quad on. -/
def State.linkLive (s : State) (x : Nat) : Bool :=
  !s.dark (laneDomain x) && decide (Ls.train ≤ s.laneState x ∧ s.laneState x ≤ Ls.deep)

/-- The lane is in up, its quad on. -/
def State.laneUp (s : State) (x : Nat) : Bool := !s.dark (laneDomain x) && s.laneState x == Ls.up

/-- Discard and count a message that fails its CRC (R147). -/
def crcErr (x : Nat) (s : State) : State := s.incSat (R.LINK_MSG x) F.LINK_MSG_CRC_ERR 1

/-- A received message: nothing on a lane that carries none; a bad CRC is counted; else its effect. -/
def rxMsg (x : Nat) (h : MsgHdr) (f : State → State) (s : State) : State :=
  if !s.linkLive x then s else if !h.crcOk then crcErr x s else f s

/-- Answer NAK to a message type the hub does not implement on the lane (R150). -/
def sendNak (x : Nat) (h : MsgHdr) (mtype : Nat) (s : State) : State :=
  s.sendMsg x Mt.NAK h.seq.toNat h.port.toNat [BitVec.ofNat 8 mtype]

/-! ### Relay (R162) -/

/-- The lane to which a repeater passes messages that arrive on lane `x`. -/
def State.relayTo (s : State) (x : Nat) : Option Nat :=
  let on (t : Nat) : Bool := (s.lane t).repeating && s.flag (R.LANE_REPEAT t) F.LANE_REPEAT_EN
    && s.flag (R.LANE_REPEAT t) F.LANE_REPEAT_BC_RELAY
  if 32 ≤ x then (if on x then some (s.fld (R.LANE_REPEAT x) F.LANE_REPEAT_SRC) else none)
  else ((upTo 16).map (32 + ·)).find? (fun t =>
    on t && s.flag (R.LANE_REPEAT t) F.LANE_REPEAT_MODE && s.fld (R.LANE_REPEAT t) F.LANE_REPEAT_SRC == x)

/-- A message that arrives on lane `x` and is not for the hub: passed on across a repeater, else `f`. -/
def relayOr (x : Nat) (h : MsgHdr) (mtype : Nat) (payload : List Byte) (f : State → State) (s : State) : State :=
  match s.relayTo x with
  | some y => s.sendMsg y mtype h.seq.toNat h.port.toNat payload
  | none => f s

/-! ### IDENT (Table LK-5) -/

def identSerial (b : List Byte) : Nat := beNat ((b.drop 4).take 4)
/-- TRIG_LAT_PS of the stored IDENT. -/
def State.trigLat (s : State) (x : Nat) : Nat :=
  match (s.link x).ident with | some b => beNat ((b.drop 16).take 4) | none => 0

/-- The IDENT of the hub as a partner of class 0x04 (R161, Table LK-5). Bytes the spec leaves to the maker are free within
their ranges: PORTS 1–4, GPIO_N 0–8. -/
def State.hubIdent (s : State) : List Byte :=
  let free (i n : Nat) : List Byte := (upTo n).map (fun k => Config.hubIdent (i + k))
  let caps := BitVec.ofNat 8 1 ||| (Config.hubIdent 10 &&& 0x30)
  let ports := BitVec.ofNat 8 ((Config.hubIdent 11).toNat % 4 + 1)
  let gpios := BitVec.ofNat 8 ((Config.hubIdent 14).toNat % 9)
  free 0 4 ++ beBytes 4 s.sec.otp.serial.toNat ++ [4, 1, caps, ports] ++ free 12 2 ++ [gpios, 3] ++ free 16 8
    ++ List.replicate 8 0

/-- Words of a link payload as a reply carries it: four bytes a word, the first in bits 7:0. -/
def State.identWords (s : State) (x : Nat) : List Word :=
  match (s.link x).ident with
  | some b => (bytesWords b).take 8
  | none => List.replicate 8 0

/-! ### Triggers (R154) -/

/-- Raise a missed trigger, and count it on a receive lane: a transmit lane's TRIG registers read 0 (R163). -/
def trigMiss (x : Nat) (s : State) : State :=
  (if x < 32 then s.incSat (R.LINK_TRIG_CNT x) F.LINK_TRIG_CNT_MISSED 1 else s).raise Ev.TRIG_MISS (laneUnit x) 0

/-- The pulse of a lane's triggers starts so many nanoseconds after the tick (R154). -/
def State.trigFire (s : State) (x : Nat) : Int :=
  (s.fld (R.LINK_TRIG_OFFSET x) F.LINK_TRIG_OFFSET_OFFSET_NS : Int) - (s.fld (R.LINK_TRIG_LAT x) F.LINK_TRIG_LAT_SENSOR_LAT_NS : Int)

/-- `num ÷ den` rounded to the nearest integer, halves up. -/
def roundUpHalf (num den : Int) : Int := (2 * num + den).fdiv (2 * den)

/-- DELAY_NS of a trigger due `fire` nanoseconds after its tick, whose reference instant is `ref` picoseconds after it
(R154). -/
def State.trigDelay (s : State) (x : Nat) (fire : Int) (ref : Nat) : Int :=
  let ps := fire * 1000 - (ref : Int) - s.oneWay x - (s.trigLat x : Int)
  roundUpHalf (ps * 2 ^ 40) (1000 * (2 ^ 40 + s.rateEff s.tickSrc))

/-- The TRIGGER of one receive lane at a tick instant is queued, its DELAY still open; one that would fire at or after the
next tick instant is missed (R154). -/
def trigTick (x : Nat) (s : State) : State :=
  if !s.flag (R.LINK_TRIG_CTRL x) F.LINK_TRIG_CTRL_EN || s.partner x != Ps.ready || !s.laneUp x then s
  else if (s.fld R.TICK_PERIOD F.TICK_PERIOD_PERIOD_NS : Int) ≤ s.trigFire x then trigMiss x s
  else
    let body := [BitVec.ofNat 8 (s.fld (R.LINK_TRIG_CTRL x) F.LINK_TRIG_CTRL_OUT),
      BitVec.ofNat 8 (s.fld (R.LINK_TRIG_CTRL x) F.LINK_TRIG_CTRL_PULSE_US)] ++ beBytes 2 (s.tickLo.toNat % 65536)
    let (q, s) := s.nextSeq x
    s.queueMsg x ⟨Mt.TRIGGER, q, 0, body, some (s.trigFire x)⟩

/-- The transmission of a queued message starts: a TRIGGER of the hub's own takes its DELAY, is counted and waits for its
TRIG_ACK, or, less than 1000 ns ahead, is missed and not sent (R149, R154). -/
def startMsg (x : Nat) (m : OutMsg) (s : State) : Option OutMsg × State :=
  match m.fire with
  | none => (some m, s)
  | some fire =>
    let (k, s) := s.draw
    let d := s.trigDelay x fire (Config.trigRef k)
    if d < 1000 then (none, trigMiss x s)
    else
      let tick := BitVec.ofNat 16 (beNat ((m.payload.drop 2).take 2))
      let s := s.setLink x { s.link x with trigs := (s.link x).trigs ++ [tick] }
      (some { m with payload := m.payload ++ beBytes 4 (d.toNat % 2 ^ 28) },
        s.incWrap (R.LINK_TRIG_CNT x) F.LINK_TRIG_CNT_SENT 1)

/-- The next message of lane `x` in the order of R149 leaves its queue. -/
def takeMsg (x : Nat) (s : State) : Option OutMsg × State :=
  let ms := (s.lane x).msgs
  match ms[firstOut ms]? with
  | none => (none, s)
  | some m => startMsg x m (s.setLane x { s.lane x with msgs := ms.eraseIdx (firstOut ms) })

def trigsTick (s : State) : State := (upTo 32).foldl (fun t x => trigTick x t) s

/-- TRIG_ACK of a trigger still waiting (R154). -/
def trigAck (x : Nat) (tick : BitVec 16) (s : State) : State :=
  s.setLink x { s.link x with trigs := (s.link x).trigs.erase tick }

/-- No TRIG_ACK within 100 µs after fire (R154). -/
def trigAckTimeout (x : Nat) (tick : BitVec 16) (s : State) : State :=
  if (s.link x).trigs.contains tick then trigMiss x (trigAck x tick s) else s

/-! ### Round-trip calibration (R152) -/

/-- Send the CAL_REQ of an exchange; `left` more follow it. -/
def calSend (x left : Nat) (answered : List Nat) (forCmd : Bool) (s : State) : State :=
  let id := (s.link x).calId
  let s := s.setLink x { s.link x with calId := (id + 1) % 256, cal := some ⟨id, left, answered, forCmd⟩ }
  (s.sendReq x Mt.CAL_REQ 0 [BitVec.ofNat 8 id]).2

/-! ### GPIO (R163) -/

/-- Send the present levels and mask. -/
def sendGpio (x : Nat) (s : State) : State :=
  let o := s.fld (R.LINK_GPIO x) F.LINK_GPIO_OUT
  let m := s.fld (R.LINK_GPIO x) F.LINK_GPIO_MASK
  (s.setLink x { s.link x with gpioSent := some (o, m) }).sendReq x Mt.GPIO 0 [BitVec.ofNat 8 o, BitVec.ofNat 8 m] |>.2

/-- A sample finds a driven level changed since it was last sent. -/
def gpioSample (x : Nat) (s : State) : State :=
  let o := s.fld (R.LINK_GPIO x) F.LINK_GPIO_OUT
  let m := s.fld (R.LINK_GPIO x) F.LINK_GPIO_MASK
  let same := match (s.link x).gpioSent with
    | some (o', m') => m == m' && (BitVec.ofNat 8 o &&& BitVec.ofNat 8 m) == (BitVec.ofNat 8 o' &&& BitVec.ofNat 8 m')
    | none => m == 0
  if !s.laneUp x || same then s else sendGpio x s

/-- Levels last received, for the pins the message marks valid. -/
def rxGpio (x : Nat) (levels mask : Byte) (s : State) : State :=
  let old := BitVec.ofNat 8 (s.fld (R.LINK_GPIO x) F.LINK_GPIO_IN)
  s.setFld (R.LINK_GPIO x) F.LINK_GPIO_IN (((old &&& ~~~mask) ||| (levels &&& mask)).toNat)

/-! ### Loss of a partner (R158) -/

/-- A partner is known on the lane. -/
def State.partnerKnown (s : State) (x : Nat) : Bool := (s.link x).ident.isSome

/-- Abort an authentication with no result recorded (R160): CAMERA_AUTH answers RESULT 0b00 (Table LK-8). -/
def abortAuth (x : Nat) (s : State) : State :=
  match (s.link x).auth with
  | none => s
  | some _ => (s.setLink x { s.link x with auth := none }).answerEvery (.cameraAuth x)
      (Res.ok [F.LINK_AUTH_RESULT.put 0 (s.reg (R.LINK_AUTH x))])

/-- Abort a calibration: TRIGGER_CAL answers as for a lane not up (R164). -/
def abortCal (x : Nat) (s : State) : State :=
  match (s.link x).cal with
  | none => s
  | some _ => (s.setLink x { s.link x with cal := none }).answerEvery (.triggerCal x) (Res.ok [0xFFFFFFFF, 0xFFFFFFFF])

/-- Pending link messages are discarded (R158): those queued, and the triggers that wait for a TRIG_ACK. -/
def dropMsgs (x : Nat) (s : State) : State :=
  let s := s.setLane x { s.lane x with msgs := [] }
  let y := s.cellHome x
  let s := s.setLane y { s.lane y with msgCells := [] }
  s.setLink x { s.link x with trigs := [] }

/-- Forget the partner: record, authentication result and pending messages are cleared. -/
def clearPartner (x : Nat) (s : State) : State :=
  let s := (s.setReg (R.LINK_PARTNER x) 0).setReg (R.LINK_PID x) 0
  let s := s.setReg (R.LINK_PSN x) 0
  let s := (s.setFld (R.LINK_AUTH x) F.LINK_AUTH_RESULT 0).setFld (R.LINK_AUTH x) F.LINK_AUTH_ENTRY 0
  dropMsgs x (s.setLink x { s.link x with ident := none, gpioSent := none })

/-- The partner of a lane is lost (R156, R158). `keepCtx` holds where the lane's contexts are not to close:
entry into sleep (R459). -/
def losePartner (x : Nat) (keepCtx : Bool) (s : State) : State :=
  let known := s.partnerKnown x
  let s := abortCal x (abortAuth x s)
  let s := clearPartner x s
  let s := if x < 32 then tunnelDown x s else s
  let s := if known && !keepCtx then closeLaneCtxs x 2 s else s
  checkLinks (if known && !keepCtx then s.raise Ev.PARTNER_LOST (laneUnit x) 0 else s)

/-- DISCOVER on the lane answers with the PARTNER image, and the IDENT where one arrived (Table LK-8). -/
def answerDiscover (x : Nat) (arrived : Bool) (s : State) : State :=
  let s := s.setLink x { s.link x with discover := false }
  s.answerEvery (.discover x) (Res.ok (s.reg (R.LINK_PARTNER x) :: if arrived then s.identWords x else []))

/-- The lane leaves up: its partner is lost, its calls end (R156, R158). -/
def linkDrop (x : Nat) (s : State) : State :=
  let s := losePartner x false s
  let s := s.setLink x { s.link x with calling := false }
  answerDiscover x false s

/-! ### Authentication (R159, R160) -/

/-- The lane number that the signed message names. -/
def laneByte (x : Nat) : Byte := BitVec.ofNat 8 (if x < 32 then x else 0x80 + (x - 32))

/-- The partner becomes READY: what waited for it may go on (R157, R328, R459). -/
def becomeReady (x : Nat) (s : State) : State :=
  let s := s.setPartner x Ps.ready
  let s := s.setLink x { s.link x with readyNs := s.clk.localNs }
  let s := { s with pwr := { s.pwr with awaitPartner := s.pwr.awaitPartner.filter (· ≠ x) } }
  checkLinks s

/-- An authentication ends with RESULT 1 passed, 2 failed or 3 timeout. -/
def authEnd (x result entry : Nat) (s : State) : State :=
  match (s.link x).auth with
  | none => s
  | some a =>
    let s := s.setLink x { s.link x with auth := none }
    let s := (s.setFld (R.LINK_AUTH x) F.LINK_AUTH_RESULT result).setFld (R.LINK_AUTH x) F.LINK_AUTH_ENTRY entry
    let s :=
      if result = 1 then becomeReady x s
      else
        let had := s.laneHasCtx x
        let s := s.setPartner x Ps.refused
        let s := if had then tunnelDownIf x (closeLaneCtxs x 3 (dropMsgs x (abortCal x s))) else s
        let s := s.raise Ev.AUTH_FAIL (laneUnit x) 0
        checkLinks (s.raise Ev.PARTNER_REFUSED (laneUnit x) 0)
    if a.forCmd then s.answerEvery (.cameraAuth x) (Res.ok [s.reg (R.LINK_AUTH x)]) else s
where
  tunnelDownIf (x : Nat) (s : State) : State := if x < 32 then tunnelDown x s else s

/-- Start an exchange: a nonce from the DRBG and AUTH_CHAL; a failed draw sends nothing and the exchange ends
by its timeout (R159, R478). -/
def authStart (x : Nat) (forCmd : Bool) (s : State) : State :=
  if !s.sec.trngOk || s.dark 0x33 then s.setLink x { s.link x with auth := some ⟨[], forCmd⟩ } else
  let (ws, s) := State.drawWords 8 s
  let nonce := wordsBytes ws
  let s := s.setLink x { s.link x with auth := some ⟨nonce, forCmd⟩ }
  (s.sendReq x Mt.AUTH_CHAL 0 nonce).2

/-- The message an AUTH_RESP signs (R159). -/
def State.authMessage (s : State) (x : Nat) (nonce : List Byte) : List Byte :=
  nonce ++ beBytes 4 s.sec.otp.serial.toNat ++ [laneByte x] ++ ((s.link x).ident.getD [])

/-- AUTH_RESP of the exchange outstanding: allow list and signature (R159). -/
def rxAuthResp (x : Nat) (key sig : List Byte) (s : State) : State :=
  match (s.link x).auth with
  | none => s
  | some a =>
    if a.nonce.isEmpty then s else
    match s.sec.allow.findIdx? (· == Config.sha384 key) with
    | none => authEnd x 2 0 s
    | some i =>
      if Config.ecdsaVerify key (Config.sha384 (s.authMessage x a.nonce)) sig then authEnd x 1 i s else authEnd x 2 0 s

/-! ### Discovery and roll call (R155, R156) -/

/-- Send ROLL_CALL on a lane. -/
def callLane (x : Nat) (s : State) : State :=
  let s := s.setLink x { s.link x with calling := true }
  (s.sendReq x Mt.ROLL_CALL 0 []).2

/-- The lane reaches up: ROLL_CALL, whatever its enable bit (R155). -/
def linkUp (x : Nat) (s : State) : State := callLane x (s.setPartner x Ps.identWait)

/-- One boundary of the roll-call schedule (R155). -/
def rollCall (s : State) : State :=
  (upTo 48).foldl (fun t x =>
    let en := if x < 32 then bit (t.reg R.LINK_ROLL_RX_EN) x else bit (t.reg R.LINK_ROLL_TX_EN) (x - 32)
    if en && t.laneUp x then callLane x t else t) s

/-- Record a first valid IDENT and enter the state it calls for (Table LK-6). -/
def newPartner (x : Nat) (b : List Byte) (s : State) : State :=
  let s := s.setReg (R.LINK_PARTNER x) (w32 (256 * bAt b 8 + 65536 * bAt b 10))
  let s := s.setReg (R.LINK_PID x) (w32 (beNat (b.take 2) + 65536 * beNat ((b.drop 2).take 2)))
  let s := s.setReg (R.LINK_PSN x) (w32 (identSerial b))
  let s := s.setLink x { s.link x with ident := some b }
  let required := s.flag (R.LINK_AUTH x) F.LINK_AUTH_REQUIRED
  if bAt b 9 ≠ 1 ∨ (required ∧ bAt b 10 % 2 = 0) then
    (s.setPartner x Ps.refused).raise Ev.PARTNER_REFUSED (laneUnit x) 0
  else if required then authStart x false ((s.setPartner x Ps.authPending).raise Ev.PARTNER_NEW (laneUnit x) 0)
  else (becomeReady x s).raise Ev.PARTNER_NEW (laneUnit x) 0

/-- The identity recorded at sleep entry is kept or, where another partner answers, given up under R158 (R459). -/
def resumeIdent (x : Nat) (b : List Byte) (s : State) : State :=
  match SMap.find s.pwr.idents x with
  | none => s
  | some (v, p, n) =>
    let s := { s with pwr := { s.pwr with idents := SMap.erase s.pwr.idents x } }
    if v.toNat = beNat (b.take 2) ∧ p.toNat = beNat ((b.drop 2).take 2) ∧ n.toNat = identSerial b then s
    else
      let s := { s with pwr := { s.pwr with awaitPartner := s.pwr.awaitPartner.filter (· ≠ x) } }
      let s := if x < 32 then closeLaneCtxs x 2 (tunnelDown x s) else s
      s.raise Ev.PARTNER_LOST (laneUnit x) 0

/-- A roll call that no valid IDENT answered: a miss, and the loss of the partner at MISS_LIMIT (R155). A REFUSED partner is
not lost so (R160). -/
def rollMiss (x : Nat) (s : State) : State :=
  let s := s.setLink x { s.link x with calling := false }
  let m := s.fld (R.LINK_PARTNER x) F.LINK_PARTNER_MISSED
  let s := s.setFld (R.LINK_PARTNER x) F.LINK_PARTNER_MISSED (satAdd m 1 15)
  let s :=
    if s.partnerKnown x ∧ s.partner x ≠ Ps.refused ∧ s.fld R.LINK_ROLL F.LINK_ROLL_MISS_LIMIT ≤ m + 1
    then losePartner x false s else s
  answerDiscover x false s

/-- IDENT (R155): compared with the stored one; a first one, or another partner's, is recorded. A REFUSED partner stays
REFUSED, and its record stays, whoever answers (R160). -/
def rxIdent (x : Nat) (h : MsgHdr) (b : List Byte) (s : State) : State :=
  if !s.laneUp x then s
  else if !h.crcOk || b.length != 32 then
    let s := if h.crcOk then s else crcErr x s
    if (s.link x).calling then rollMiss x s else s
  else if !(s.link x).calling && s.partnerKnown x then relayOr x h Mt.IDENT b (fun t => t) s
  else
    let s := s.setLink x { s.link x with calling := false }
    let s := match (s.link x).ident with
      | some b' =>
        if b'.take 8 = b.take 8 ∨ s.partner x = Ps.refused then s.setFld (R.LINK_PARTNER x) F.LINK_PARTNER_MISSED 0
        else newPartner x b (losePartner x false s)
      | none => newPartner x b (resumeIdent x b s)
    answerDiscover x true s

/-- No IDENT within 1 ms (R155). -/
def identTimeout (x : Nat) (s : State) : State := if (s.link x).calling && s.laneUp x then rollMiss x s else s

/-- A partner recorded at sleep entry is not READY 1000 ms after the resume step (R459). -/
def partnerResumeTimeout (x : Nat) (s : State) : State :=
  if !s.pwr.awaitPartner.contains x then s else
  let s := { s with pwr := { s.pwr with awaitPartner := s.pwr.awaitPartner.filter (· ≠ x),
                                        idents := SMap.erase s.pwr.idents x } }
  if s.partnerKnown x then losePartner x false s
  else
    let s := if x < 32 then closeLaneCtxs x 2 (tunnelDown x s) else s
    checkLinks (s.raise Ev.PARTNER_LOST (laneUnit x) 0)

/-! ### The hub as a partner (R161, R162) -/

/-- ROLL_CALL received: the hub's IDENT, and GPIO with it (R161, R163). -/
def rxRollCall (x : Nat) (h : MsgHdr) (s : State) : State :=
  relayOr x h Mt.ROLL_CALL [] (fun t =>
    sendGpio x (t.sendMsg x Mt.IDENT h.seq.toNat h.port.toNat t.hubIdent)) s

/-- AUTH_CHAL received: answered with the device identity key. The challenger's lane number is not known to
the hub, so the byte signed for it is free (log entry 20). -/
def rxAuthChal (x : Nat) (h : MsgHdr) (nonce : List Byte) (s : State) : State :=
  relayOr x h Mt.AUTH_CHAL nonce (fun t =>
    let (k, t) := t.draw
    let (j, t) := t.draw
    let peer := match (t.link x).ident with
      | some b => beBytes 4 (identSerial b)
      | none => wordBytes (Config.freeWord j)
    let msg := nonce ++ peer ++ [(Config.freeWord k).extractLsb' 0 8] ++ t.hubIdent
    let key := Config.devicePublic t.sec.otp.uniqueSecret
    t.sendMsg x Mt.AUTH_RESP h.seq.toNat h.port.toNat
      (key ++ Config.deviceSign t.sec.otp.uniqueSecret (Config.sha384 msg))) s

/-- CAL_REQ received: CAL_RESP with the hub's own turnaround, a free value. -/
def rxCalReq (x : Nat) (h : MsgHdr) (id : Byte) (s : State) : State :=
  let (k, s) := s.draw
  s.sendMsg x Mt.CAL_RESP h.seq.toNat h.port.toNat ([id, 0, 0, 0] ++ beBytes 4 (Config.freeWord k).toNat)

/-- TRIGGER received: relayed with DELAY_NS rewritten, `held` being t_out − t_in in picoseconds; else NAK
(R161, R162). -/
def rxTrigger (x : Nat) (h : MsgHdr) (out pulse : Byte) (tick : BitVec 16) (delay : Word) (held : Nat) (s : State) : State :=
  match s.relayTo x with
  | none => sendNak x h Mt.TRIGGER s
  | some y =>
    let d := roundUpHalf ((delay.toNat : Int) * 1000 - (held : Int) - s.oneWay (if x < 32 then x else y)) 1000
    if d < 1000 then trigMiss y s
    else s.sendMsg y Mt.TRIGGER h.seq.toNat h.port.toNat ([out, pulse] ++ beBytes 2 tick.toNat ++ beBytes 4 (d.toNat % 2 ^ 28))

/-- NAK received (R150, R159): counted; a NAK of AUTH_CHAL fails the exchange. -/
def rxNak (x : Nat) (h : MsgHdr) (mtype : Byte) (s : State) : State :=
  let s := s.incSat (R.LINK_MSG x) F.LINK_MSG_NAK 1
  if mtype.toNat = Mt.AUTH_CHAL ∧ (s.link x).auth.isSome then authEnd x 2 0 s
  else relayOr x h Mt.NAK [mtype] (fun t => t) s

/-! ### Commands (Table LK-8) -/

def rollOk (w : Word) : Bool :=
  decide (10 ≤ F.LINK_ROLL_PERIOD_MS.get w ∧ F.LINK_ROLL_PERIOD_MS.get w ≤ 1000 ∧ 1 ≤ F.LINK_ROLL_MISS_LIMIT.get w)

/-- TRIG_CTRL, OFFSET and LAT of a receive lane in range (Table LK-7, R154). -/
def trigOk (ctrl off lat : Word) : Bool :=
  decide (1 ≤ F.LINK_TRIG_CTRL_PULSE_US.get ctrl)
    && decide (F.LINK_TRIG_LAT_SENSOR_LAT_NS.get lat + 20000 ≤ F.LINK_TRIG_OFFSET_OFFSET_NS.get off)

/-- Link settings in range (RANGE_TIMING): the schedule and every lane's trigger. -/
def State.linksOk (s : State) : Bool :=
  rollOk (s.reg R.LINK_ROLL) && (upTo 32).all (fun x =>
    trigOk (s.reg (R.LINK_TRIG_CTRL x)) (s.reg (R.LINK_TRIG_OFFSET x)) (s.reg (R.LINK_TRIG_LAT x)))

/-- TRIGGER_SET's words. -/
def trigSetRegs (x : Nat) (p : List Word) : List (Nat × Word) :=
  [(R.LINK_TRIG_CTRL x, wAt p 0), (R.LINK_TRIG_OFFSET x, wAt p 1), (R.LINK_TRIG_LAT x, wAt p 2), (R.LINK_TRIG_TRIM x, wAt p 3)]

/-- Receipt checks of TRIGGER_SET: each word in its range; a transmit lane replies RANGE (R164). -/
def trigSetLegal (x : Nat) (p : List Word) : Chk :=
  firstOf [inRange (decide (x < 32)) 0, inRange (decide (1 ≤ F.LINK_TRIG_CTRL_PULSE_US.get (wAt p 0))) 0,
    inRange (decide ((wAt p 1).toNat < 2 ^ 28)) 1, inRange (decide ((wAt p 2).toNat < 2 ^ 20)) 2,
    inRange (decide ((wAt p 3).toNat < 2 ^ 16)) 3]

/-- DISCOVER. -/
def cmdDiscover (x : Nat) (s : State) : Done × State :=
  if !s.laneUp x then (.ok [s.reg (R.LINK_PARTNER x)], s)
  else if (s.link x).discover then (.err St.BUSY 3, s)
  else (.wait (.discover x), callLane x (s.setLink x { s.link x with discover := true }))

def cmdPartnerInfo (x : Nat) (s : State) : Done × State :=
  (.ok (s.reg (R.LINK_PARTNER x) :: s.reg (R.LINK_AUTH x) :: s.identWords x), s)

/-- The lane that CAMERA_AUTH's word names (Table LK-8). -/
def authLane (w : Word) : Option Nat :=
  if w.toNat / 0x1000 = 8 then laneNo (w.toNat % 0x1000) else none

/-- CAMERA_AUTH (R164). -/
def cmdCameraAuth (x : Nat) (s : State) : Done × State :=
  let img := s.reg (R.LINK_AUTH x)
  if !s.laneUp x then (.ok [F.LINK_AUTH_RESULT.put 0 img], s)
  else if !s.partnerKnown x || !s.partnerCap x 0 then (.ok [img], s)
  else match (s.link x).auth with
    | some a =>
      if a.forCmd then (.err St.BUSY 3, s)
      else (.wait (.cameraAuth x), s.setLink x { s.link x with auth := some { a with forCmd := true } })
    | none => (.wait (.cameraAuth x), authStart x true s)

/-- LINK_GPIO sets OUT and MASK. -/
def applyLinkGpio (x : Nat) (p : List Word) (s : State) : State :=
  (s.setFld (R.LINK_GPIO x) F.LINK_GPIO_OUT (bits (wAt p 0) 7 0)).setFld (R.LINK_GPIO x) F.LINK_GPIO_MASK (bits (wAt p 0) 15 8)

end Sys2Proof.Machine
end

