-- ==== Sys2Proof/Machine/Pattern.lean ====
section
/-! DEFINITION. Test patterns (R509, R510): the generators, the checkers that compare raw bits, and error injection
(R513). -/

namespace Sys2Proof.Machine

/-- Test unit of a lane (Table TD-1). -/
def testUnit (x : Nat) : Nat := if x < 32 then 0xE000 + x else 0xE100 + (x - 32)

/-- The bits of bytes in the order sent, most significant first. -/
def sentBits (bs : List Byte) : List Bool := bs.flatMap (fun b => bitsOf 8 b.toNat)

/-- Bytes of bits in the order sent. -/
def sentBytes : List Bool → List Byte
  | a :: b :: c :: d :: e :: f :: g :: h :: rest =>
    BitVec.ofNat 8 ([a, b, c, d, e, f, g, h].foldl (fun n x => 2 * n + b01 x) 0) :: sentBytes rest
  | _ => []

/-! ### Patterns (Table TD-2) -/

/-- The polynomial of a PRBS pattern, x^n + x^m + 1. -/
def prbsPoly : Nat → Option (Nat × Nat)
  | 1 => some (7, 6) | 2 => some (9, 5) | 3 => some (15, 14) | 4 => some (23, 18) | 5 => some (31, 28) | _ => none

/-- The 64-bit user pattern of a lane. -/
def State.userPattern (s : State) (x : Nat) : Nat := (s.reg (R.TEST_USER_LO x)).toNat + 2 ^ 32 * (s.reg (R.TEST_USER_HI x)).toNat

/-- Bit `i` of the user pattern in the order sent: bit 63 first. -/
def userBit (user i : Nat) : Bool := user.testBit (63 - i % 64)

/-- The next bit of a generator: the oldest register bit (R509). -/
def Gen.next (pat user : Nat) (g : Gen) : Bool × Gen :=
  match prbsPoly pat with
  | some (n, m) => (g.reg.getD (n - 1) true, { g with reg := ((g.reg.getD (n - 1) true) != (g.reg.getD (m - 1) true)) :: g.reg.take 30 })
  | none => (userBit user g.pos, { g with pos := (g.pos + 1) % 64 })

/-- `k` bits of a generator. -/
def Gen.run (pat user : Nat) : Nat → Gen → List Bool × Gen
  | 0, g => ([], g)
  | k + 1, g =>
    let (b, g) := g.next pat user
    let (bs, g) := Gen.run pat user k g
    (b :: bs, g)

/-! ### The checker (R510) -/

/-- What a checker has done with the bits it was given. -/
structure CheckRun where
  chk : Checker
  lock : Bool
  inv : Bool
  bits : Nat
  errs : Nat
  /-- Locks (true) and losses (false) in order, with the counts up to each. -/
  events : List Bool
  deriving DecidableEq, Repr

/-- The alignment at which the last 128 bits, newest first, are the user pattern, or with `inv` its inverse. -/
def userAlign (user : Nat) (inv : Bool) (recent : List Bool) : Option Nat :=
  if recent.length < 128 then none
  else (upTo 64).find? (fun k => recent.zipIdx.all (fun e => (e.1 != inv) == userBit user (k + 128 - e.2)))

/-- A checker that searches takes a bit: it locks after 64 consecutive bits as predicted, or against it, for a PRBS, and at
128 for USER. -/
def CheckRun.search (pat user : Nat) (r : CheckRun) (b : Bool) : CheckRun :=
  let c := r.chk
  match prbsPoly pat with
  | some (n, m) =>
    if c.reg.length < n then { r with chk := { c with reg := b :: c.reg } } else
    let same := b == ((c.reg.getD (n - 1) true) != (c.reg.getD (m - 1) true))
    let c := { c with reg := b :: c.reg.take 30, agree := if same then c.agree + 1 else 0, against := if same then 0 else c.against + 1 }
    if c.agree = 64 then { r with chk := { c with recent := [] }, lock := true, inv := false, events := r.events ++ [true] }
    else if c.against = 64 then
      { r with chk := { c with reg := c.reg.map (fun b => !b), recent := [] }, lock := true, inv := true, events := r.events ++ [true] }
    else { r with chk := c }
  | none =>
    let l := (b :: c.recent).take 128
    let found (inv : Bool) : Option Nat := userAlign user inv l
    match found false, found true with
    | some k, _ => { r with chk := { c with phase := some ((k + 1) % 64), recent := [] }, lock := true, inv := false, events := r.events ++ [true] }
    | none, some k => { r with chk := { c with phase := some ((k + 1) % 64), recent := [] }, lock := true, inv := true, events := r.events ++ [true] }
    | none, none => { r with chk := { c with recent := l } }

/-- A locked checker compares a bit with what it expects; more than 16 disagreements among 64 bits break the lock. -/
def CheckRun.compare (r : CheckRun) (c : Checker) (expect b : Bool) : CheckRun :=
  let err := (b != r.inv) != expect
  let l := (err :: c.recent).take 64
  let r := { r with bits := r.bits + 1, errs := r.errs + b01 err }
  if 16 < (l.filter id).length then { r with chk := Checker.fresh, lock := false, events := r.events ++ [false] }
  else { r with chk := { c with recent := l } }

/-- A checker takes a bit. One that a row locked first takes its prediction from the bits (log entry 42). -/
def CheckRun.take (pat user : Nat) (r : CheckRun) (b : Bool) : CheckRun :=
  if !r.lock then r.search pat user b else
  let c := r.chk
  match prbsPoly pat with
  | some (n, m) =>
    if c.reg.length < n then { r with chk := { c with reg := (b != r.inv) :: c.reg } } else
    let p := (c.reg.getD (n - 1) true) != (c.reg.getD (m - 1) true)
    r.compare { c with reg := p :: c.reg.take 30 } p b
  | none =>
    match c.phase with
    | some k => r.compare { c with phase := some ((k + 1) % 64) } (userBit user k) b
    | none =>
      let l := (b :: c.recent).take 128
      match userAlign user r.inv l with
      | some k => { r with chk := { c with phase := some ((k + 1) % 64), recent := [] } }
      | none => { r with chk := { c with recent := l } }

def State.checker (s : State) (x : Nat) : Checker := SMap.get s.test.chk Checker.fresh x
def State.setCheck (s : State) (x : Nat) (c : Checker) : State :=
  { s with test := { s.test with chk := SMap.put s.test.chk Checker.fresh x c } }

/-- Zero BITS and ERRS (R510). -/
def checkerClear (x : Nat) (s : State) : State :=
  ((s.setReg (R.TEST_BITS_LO x) 0).setReg (R.TEST_BITS_HI x) 0).setReg (R.TEST_ERRS x) 0

/-- BITS, 48 bits. -/
def State.testBits (s : State) (x : Nat) : Nat := (s.reg (R.TEST_BITS_LO x)).toNat + 2 ^ 32 * s.fld (R.TEST_BITS_HI x) F.TEST_BITS_HI_BITS

/-- Count compared bits and disagreements (R510). -/
def checkerCount (x nbits errs : Nat) (s : State) : State :=
  let n := s.testBits x + nbits
  let s := (s.setReg (R.TEST_BITS_LO x) (w32 n)).setFld (R.TEST_BITS_HI x) F.TEST_BITS_HI_BITS (n / 2 ^ 32)
  s.incSat (R.TEST_ERRS x) F.TEST_ERRS_ERRS errs

/-- The checker shows what it found: counters, LOCK and INV_SEEN, its events, and RELOCKS. -/
def showCheck (x : Nat) (r : CheckRun) (s : State) : State :=
  let s := checkerCount x r.bits r.errs (s.setCheck x r.chk)
  let s := (s.setFlag (R.TEST_PCHK x) F.TEST_PCHK_LOCK r.lock).setFlag (R.TEST_PCHK x) F.TEST_PCHK_INV_SEEN r.inv
  r.events.foldl (fun t e =>
    if e then t.raise Ev.PATTERN_LOCK (testUnit x) 0
    else (t.incSat (R.TEST_CELL x) F.TEST_CELL_RELOCKS 1).raise Ev.PATTERN_LOST (testUnit x) 0) s

/-- Raw bits reach the checker of a lane in test. -/
def checkBits (x : Nat) (bits : List Bool) (s : State) : State :=
  let pat := s.fld (R.TEST_PCHK x) F.TEST_PCHK_PAT
  if pat = 0 ∨ pat = 7 then s else
  let user := s.userPattern x
  let r : CheckRun := ⟨s.checker x, s.flag (R.TEST_PCHK x) F.TEST_PCHK_LOCK, s.flag (R.TEST_PCHK x) F.TEST_PCHK_INV_SEEN, 0, 0, []⟩
  showCheck x (bits.foldl (fun r b => r.take pat user b) r) s

/-! ### Error injection (R513, Table TD-3) -/

/-- Bits from one injected error to the next. -/
def Inject.period (i : Inject) : Nat := if i.kind = 2 then 2 ^ i.exp else 1

/-- A bit passes the injection point: inverted where an error is due. -/
def Inject.pass (i : Inject) (b : Bool) : Bool × Inject :=
  if i.left = some 0 then (b, i)
  else if i.wait = 0 then (!b, { i with left := i.left.map (· - 1), wait := i.period - 1, count := i.count + 1 })
  else (b, { i with wait := i.wait - 1 })

/-- Bits pass the injection point. -/
def Inject.passAll (i : Inject) : List Bool → List Bool × Inject
  | [] => ([], i)
  | b :: bs =>
    let (c, j) := i.pass b
    let (cs, k) := j.passAll bs
    (c :: cs, k)

/-- INJECTED shows the errors injected so far. -/
def showInjected (x n : Nat) (s : State) : State := s.setFld (R.TEST_INJ x) F.TEST_INJ_INJECTED (Nat.min n (2 ^ 24 - 1))

/-- The injection on a lane ends (R513). -/
def injectEnd (x injected : Nat) (s : State) : State :=
  match SMap.get s.test.inj none x with
  | none => s
  | some _ =>
    let s := { s with test := { s.test with inj := SMap.put s.test.inj none x none } }
    (showInjected x injected (s.setFlag (R.TEST_INJ x) F.TEST_INJ_ACTIVE false)).raise Ev.INJECT_DONE (testUnit x) 0

/-- A lane that leaves test or up stops its injection, after a number of errors the spec does not state: of bits that no
row carried (R513). -/
def injectStop (x : Nat) (s : State) : State :=
  match SMap.get s.test.inj none x with
  | none => s
  | some i =>
    let (k, s) := s.draw
    let n := Config.freeNat k
    injectEnd x (i.count + match i.left with | some m => n % (m + 1) | none => n % 2 ^ 24) s

/-- Bytes pass the injection point of a lane: on a transmit lane after encoding or the generator, on a receive lane before
decoding or the checker (R513). -/
def injectBytes (x : Nat) (bs : List Byte) (s : State) : List Byte × State :=
  match SMap.get s.test.inj none x with
  | none => (bs, s)
  | some i =>
    let (bits, j) := i.passAll (sentBits bs)
    let s := { s with test := { s.test with inj := SMap.put s.test.inj none x (some j) } }
    (sentBytes bits, if j.left = some 0 then injectEnd x j.count s else showInjected x j.count s)

/-- A transmit lane sends a codeword, past its injection point. -/
def emitWord (x : Nat) (bs : List Byte) (s : State) : State :=
  let (bs, s) := injectBytes x bs s
  s.emit (.codeword x bs)

end Sys2Proof.Machine
end

