-- ==== Sys2Proof/Machine/Lane.lean ====
section
/-! DEFINITION. Lanes: their states and transitions, training, low power, bonds and repeaters (chapter 04),
codewords (R137–R144), and what a lane's test resources do as it changes state (R512–R515). -/

namespace Sys2Proof.Machine

/-! ### Test resources of a lane that changes state -/

/-- An eye scan ends with the points measured so far (R515, Table TD-6). -/
def eyeEnd (grid : List Byte) (aborted : Bool) (s : State) : State :=
  match s.test.eye with
  | none => s
  | some e =>
    let pts := e.cols * e.rows
    let got := grid.take pts
    let full := got ++ List.replicate (pts - got.length) 0xFF
    let s := { s with test := { s.test with eye := none } }
    let s := ((s.setFlag R.TEST_EYE_STATUS F.TEST_EYE_STATUS_BUSY false).setFlag R.TEST_EYE_STATUS
      F.TEST_EYE_STATUS_ABORTED aborted).setFld R.TEST_EYE_STATUS F.TEST_EYE_STATUS_DONE got.length
    let s := s.raise Ev.EYE_SCAN_DONE (testUnit e.lane) 0
    s.answerEvery .eyeScan (Res.ok (w32 (e.cols + 256 * e.rows + 65536 * b01 aborted + 2 ^ 24 * e.eyeAtStart) :: bytesWords full))

/-- A lane that leaves up, doze or test ends its scan; what was measured so far is free (R515). -/
def eyeAbort (x : Nat) (s : State) : State :=
  match s.test.eye with
  | none => s
  | some e =>
    if e.lane ≠ x then s else
    let pts := e.cols * e.rows
    let n := Config.freeNat s.fresh % pts
    let grid := (upTo n).map (fun i => (Config.freeWord (s.fresh + 1 + i)).extractLsb' 0 8)
    eyeEnd grid true { s with fresh := s.fresh + 1 + pts }

/-- A lane that leaves test ends the loopback it belongs to (R512). -/
def loopEnd (x : Nat) (s : State) : State :=
  let t := if x < 32 then 32 + x / 2 else x
  if x < 32 ∧ x % 2 = 1 then s else s.setFld (R.TEST_LOOP t) F.TEST_LOOP_KIND 0

/-! ### Bonds and repeaters (R128, R131, R132) -/

/-- Transmit lanes that repeat receive lane `x`. -/
def State.repeatersOf (s : State) (x : Nat) : List Nat :=
  ((upTo 16).map (32 + ·)).filter (fun t =>
    s.flag (R.LANE_REPEAT t) F.LANE_REPEAT_EN && s.fld (R.LANE_REPEAT t) F.LANE_REPEAT_SRC == x)

/-- At an alignment codeword of a receive lane that is up, the transmit lanes that are up and repeat it switch to its
stream (R132). -/
def repeatSwitch (x : Nat) (s : State) : State :=
  if !s.laneUp x then s else
  (s.repeatersOf x).foldl (fun a t => if a.laneUp t then a.setLane t { a.lane t with repeating := true } else a) s

/-- A lane leaves up: a repeated receive lane's transmit lane sends its own codewords, from an alignment codeword on
(R132). -/
def repeatStop (x : Nat) (s : State) : State :=
  let stop (t : Nat) (s : State) : State := s.setLane t { s.lane t with repeating := false, txIndex := 0 }
  if x < 32 then
    (s.repeatersOf x).foldl (fun a t =>
      if (a.lane t).repeating then (stop t a).raise Ev.REPEAT_LOST (laneUnit t) 0 else a) s
  else stop x s

/-! ### The eye index and the DFE (R115–R117) -/

/-- The lane is on and in one of the listed states. -/
def State.laneIn (s : State) (x : Nat) (l : List Nat) : Bool := !s.dark (laneDomain x) && l.contains (s.laneState x)

def setEye (x eye h v : Nat) (s : State) : State :=
  let s := s.setReg (R.LANE_EYE x) (w32 (eye + 256 * h + 65536 * v))
  s.setLane x { s.lane x with eyeNs := some s.clk.localNs }

/-- The index of H_STEPS × V_STEPS (R116). -/
def eyeIndex (h v : Nat) : Nat := Nat.min 255 (h * v / 8)

/-- The hub measures the eye in the background: a receive lane in up or doze, but during an eye scan (R116, R514). -/
def State.measuresEye (s : State) (x : Nat) : Bool :=
  decide (x < 32) && s.laneIn x [Ls.up, Ls.doze] && !(match s.test.eye with | some e => e.lane == x | none => false)

/-- LANE_x_EYE: the background measurement as it stands, a free value; else the last one, with its AGE (R116,
Table LP-8). -/
def State.laneEye (s : State) (x : Nat) : Word :=
  if s.measuresEye x then
    let n := Config.eyeAt x s.clk.localNs
    let h := n % 64
    let v := n / 64 % 64
    w32 (eyeIndex h v + 256 * h + 65536 * v + 2 ^ 24 * (n / 4096 % 256))
  else match (s.lane x).eyeNs with
    | none => s.reg (R.LANE_EYE x)
    | some t => F.LANE_EYE_AGE.put (Nat.min 255 ((s.clk.localNs - t) / 1000000)) (s.reg (R.LANE_EYE x))

/-- EYE_INDEX as it stands. -/
def State.eyeNow (s : State) (x : Nat) : Nat := F.LANE_EYE_EYE_INDEX.get (s.laneEye x)

/-- The last background measurement stays. -/
def keepEye (x : Nat) (s : State) : State :=
  let w := s.laneEye x
  (s.setReg (R.LANE_EYE x) w).setLane x { s.lane x with eyeNs := some (s.clk.localNs - 1000000 * F.LANE_EYE_AGE.get w) }

/-- A tap of a DFE, as a byte of two's complement: tap 1 within ±127 mV, the others within ±63 mV (R115). -/
def tapByte (i : Nat) (v : Int) : Nat :=
  let m : Int := if i = 0 then 127 else 63
  (max (-m) (min m v) % 256).toNat

/-- Four taps of a DFE word, `first` being tap 1's index 0 or tap 5's index 4, each within its range (R115, Table LP-8). -/
def tapWord (first : Nat) (v : Nat → Int) : Word :=
  w32 ((upTo 4).foldl (fun a i => a + tapByte (first + i) (v (first + i)) * 256 ^ i) 0)

/-- A DFE word of a training result, each tap within its range. -/
def tapsOf (first : Nat) (w : Word) : Word := tapWord first (fun i => (w.extractLsb' (8 * (i - first)) 8).toInt)

/-- The lane states in which the DFE adapts (R115). -/
def adaptStates : List Nat := [Ls.train, Ls.align, Ls.up, Ls.doze]

/-- The DFE of a receive lane adapts (R115). -/
def State.adaptsDfe (s : State) (x : Nat) : Bool :=
  decide (x < 32) && s.laneIn x adaptStates && !s.flag (R.LANE_RXEQ x) F.LANE_RXEQ_DFE_FREEZE

/-- LANE_x_DFE_LO or, with `hi`, LANE_x_DFE_HI: while the DFE adapts, taps the spec does not state, within their ranges
(R115). -/
def State.laneDfe (s : State) (x : Nat) (hi : Bool) : Word :=
  if s.adaptsDfe x then tapWord (if hi then 4 else 0) (fun i => (Config.dfeAt x i s.clk.localNs : Int) - 128)
  else s.reg (if hi then R.LANE_DFE_HI x else R.LANE_DFE_LO x)

/-- The DFE holds the taps it has adapted to. -/
def keepDfe (x : Nat) (s : State) : State :=
  (s.setReg (R.LANE_DFE_LO x) (s.laneDfe x false)).setReg (R.LANE_DFE_HI x) (s.laneDfe x true)

/-! ### Changing state (Table LP-5) -/

/-- A calibration of training ends with it, unanswered (R152); that of a TRIGGER_CAL runs on. -/
def dropCal (x : Nat) (s : State) : State :=
  match (s.link x).cal with
  | some c => if c.forCmd then s else s.setLink x { s.link x with cal := none }
  | none => s

/-- A lane goes from one state to another; what ends with the old one ends: what the equaliser adapted to and the eye last
measured stay as they stand. -/
def enterLane (x new : Nat) (s : State) : State :=
  let old := s.laneState x
  if old = new then s else
  let s := if s.measuresEye x && !([Ls.up, Ls.doze].contains new) then keepEye x s else s
  let s := if s.adaptsDfe x && !(adaptStates.contains new) then keepDfe x s else s
  let s := s.setLaneState x new
  let l := s.lane x
  let s := s.setLane x { l with aligned := false, alignAt := none, pmReq := none, pmNext := none, missed := 0, pmExit := l.pmExit && (new == Ls.doze || new == Ls.deep), pmAsk := false }
  let s := if old = Ls.train then dropCal x s else s
  let s := if old = Ls.up ∨ old = Ls.test then injectStop x s else s
  let s := if old = Ls.test then
      let s := { s with test := { s.test with gen := s.test.gen.filter (fun e => e.1 ≠ x), chk := s.test.chk.filter (fun e => e.1 ≠ x) } }
      loopEnd x ((s.setFlag (R.TEST_PCHK x) F.TEST_PCHK_LOCK false).setFlag (R.TEST_PCHK x) F.TEST_PCHK_INV_SEEN false)
    else s
  let s := if [Ls.up, Ls.doze, Ls.test].contains old && !([Ls.up, Ls.doze, Ls.test].contains new) then eyeAbort x s else s
  if old = Ls.up then
    let s := s.setLane x { s.lane x with parts := [], msgPart := none, cells := [] }
    let s := if s.flag (R.LANE_STATUS (evenLane x)) F.LANE_STATUS_BOND_UP then
        (s.setLane (evenLane x) { s.lane (evenLane x) with parts := [], msgPart := none, cells := [] }).setFlag
          (R.LANE_STATUS (evenLane x)) F.LANE_STATUS_BOND_UP false
      else s
    linkDrop x (repeatStop x s)
  else s

/-- Raise LANE_RETRAIN and count it. -/
def noteRetrain (x : Nat) (s : State) : State :=
  (s.incSat (R.LANE_CNT x) F.LANE_CNT_RETRAINS 1).raise Ev.LANE_RETRAIN (laneUnit x) 0

/-- The transmit lane trains to repeat: at its source's rate, without fallback (R132). -/
def State.repeats (s : State) (x : Nat) : Bool := decide (32 ≤ x) && s.flag (R.LANE_REPEAT x) F.LANE_REPEAT_EN

/-- The other lane of a bond has trained and stands at its rate (R128). -/
def State.mateSet (s : State) (x : Nat) : Bool :=
  s.bonded x && [Ls.align, Ls.up, Ls.doze, Ls.deep].contains (s.laneState (mate x))

/-- The rate at which training starts, before the partner's own limit is known (R122): MAX_RATE; for a bond one that both
lanes permit (R128); for a repeating lane STATUS.RATE of its source (R132), the value there also where the source has not
trained (log entry 73). -/
def State.startRate (s : State) (x : Nat) : Nat :=
  let top (y : Nat) : Nat := s.fld (R.LANE_CTRL y) F.LANE_CTRL_MAX_RATE
  if s.repeats x then s.fld (R.LANE_STATUS (s.fld (R.LANE_REPEAT x) F.LANE_REPEAT_SRC)) F.LANE_STATUS_RATE
  else if s.mateSet x then Nat.min (top x) (s.fld (R.LANE_STATUS (mate x)) F.LANE_STATUS_RATE)
  else if s.bonded x then Nat.min (top x) (top (mate x))
  else top x

/-- Training starts from the stored result, without a search (R122). -/
def State.fastStart (s : State) (x : Nat) : Bool :=
  s.flag (R.LANE_CTRL x) F.LANE_CTRL_FAST && (s.lane x).stored.isSome && !(s.lane x).full

/-- The preset with which training starts (R122). -/
def State.startPreset (s : State) (x : Nat) : Nat :=
  match (s.lane x).stored with
  | some (p, _) => if s.fastStart x then p else s.fld (R.LANE_TXEQ x) F.LANE_TXEQ_PRESET
  | none => s.fld (R.LANE_TXEQ x) F.LANE_TXEQ_PRESET

/-- Enter train: the first attempt of a bring-up, with a full search whatever FAST says where `full` (R126). The PRBS of
the training blocks starts anywhere: the spec states no start (Table LP-6). -/
def enterTrain (x : Nat) (full : Bool) (s : State) : State :=
  let s := dropCal x (enterLane x Ls.train s)
  let (k, s) := s.draw
  let seed := (Config.freeWord k).extractLsb' 0 31
  let s := s.setLane x { s.lane x with full := full, trained := false, peer := none, attempts := 1, prbs := if seed = 0 then 1 else seed }
  s.setLane x { s.lane x with rate := s.startRate x, sentPreset := s.startPreset x }

/-- Drop to detect. -/
def enterDetect (x : Nat) (holdoff : Bool) (s : State) : State :=
  let s := enterLane x Ls.detect s
  s.setLane x { s.lane x with ownBursts := 0, partnerBursts := 0, holdoff := holdoff, pmExit := false }

/-- Training has failed: LANE_TRAIN_FAIL, and 100 ms in detect before a tone is answered (R119). -/
def trainFail (x : Nat) (s : State) : State := enterDetect x true (s.raise Ev.LANE_TRAIN_FAIL (laneUnit x) 0)

/-- Both tones have been seen and sent twice: detect ends (Table LP-5). -/
def detectDone (x : Nat) (s : State) : State :=
  let l := s.lane x
  if s.laneState x = Ls.detect ∧ 2 ≤ l.ownBursts ∧ 2 ≤ l.partnerBursts ∧ !l.holdoff then enterTrain x false s else s

/-- A tone burst of the lane's own (R120). -/
def toneBurst (x : Nat) (s : State) : State :=
  if !s.laneIn x [Ls.detect] then s else
  detectDone x ((s.emit (.tone x)).setLane x { s.lane x with ownBursts := Nat.min 2 ((s.lane x).ownBursts + 1) })

/-- The partner's tone has been seen in 2 consecutive bursts (R119). -/
def toneSeen (x : Nat) (s : State) : State :=
  if !s.laneIn x [Ls.detect] || (s.lane x).holdoff then s else
  detectDone x (s.setLane x { s.lane x with partnerBursts := 2 })

def holdoffEnd (x : Nat) (s : State) : State :=
  if s.laneIn x [Ls.detect] then s.setLane x { s.lane x with holdoff := false } else s

/-! ### Low power (R124–R126) -/

def State.target (s : State) (x : Nat) : Nat := s.fld (R.LANE_CTRL x) F.LANE_CTRL_TARGET

/-- The state the hub wants a lane in: TARGET, or doze for an up lane in Idle (R444). -/
def State.wanted (s : State) (x : Nat) : Nat := if s.pwr.idle && s.target x == Ls.up then Ls.doze else s.target x

/-- The hub's end of the lane is LEAD (R130). -/
def State.lead (s : State) (x : Nat) : Bool :=
  !s.flag (R.LANE_CTRL x) F.LANE_CTRL_ROLE && !s.flag (R.LANE_STATUS x) F.LANE_STATUS_ROLE_YIELD

def pmSend (x code : Nat) (s : State) : State := (s.sendReq x Mt.PM 0 [BitVec.ofNat 8 code]).2

/-- The hub's exit request leaves: nothing on a transmit lane in deep, whose forward line is idle (Table LP-4). -/
def pmExitSend (x : Nat) (s : State) : State := if decide (32 ≤ x) && s.laneState x == Ls.deep then s else pmSend x 4 s

/-- The LEAD end asks for the low-power state it wants (R124). -/
def pmRequest (x : Nat) (s : State) : State :=
  let t := s.wanted x
  if s.laneUp x && (t == Ls.doze || t == Ls.deep) && s.lead x && (s.lane x).pmReq.isNone && (s.lane x).pmNext.isNone then
    pmSend x (t - 4) (s.setLane x { s.lane x with pmReq := some (t, 1) })
  else s

/-- The result of the training that led to up is stored (R122). -/
def storeResult (x : Nat) (s : State) : State :=
  let w := s.reg (R.LANE_STATUS x)
  s.setLane x { s.lane x with stored := some (F.LANE_STATUS_PRESET_USED.get w, F.LANE_STATUS_CTLE_USED.get w, s.laneDfe x false, s.laneDfe x true) }

/-- The pair is up: both lanes, at one rate (R128). -/
def bondUp (x : Nat) (s : State) : State :=
  if s.bonded x ∧ s.laneState (mate x) = Ls.up
      ∧ s.fld (R.LANE_STATUS x) F.LANE_STATUS_RATE = s.fld (R.LANE_STATUS (mate x)) F.LANE_STATUS_RATE
  then s.setFlag (R.LANE_STATUS (evenLane x)) F.LANE_STATUS_BOND_UP true else s

/-- The lane reaches up (R119, R155): LANE_UP but from doze, roll call, and what waits for it. -/
def reachUp (x : Nat) (s : State) : State :=
  let fromDoze := s.laneState x == Ls.doze
  let s := storeResult x (enterLane x Ls.up s)
  let s := s.setLane x { s.lane x with pmExit := false, parts := [], msgPart := none }
  let s := bondUp x (s.setFld (R.LANE_STATUS x) F.LANE_STATUS_ATTEMPTS (s.lane x).attempts)
  let s := if fromDoze then s else s.raise Ev.LANE_UP (laneUnit x) 0
  let s := checkLinks (linkUp x s)
  if s.target x = Ls.test then enterLane x Ls.test s else s

/-- Doze ends, at an alignment codeword. -/
def leaveDoze (x : Nat) (s : State) : State :=
  let s := reachUp x s
  if s.target x = Ls.deep then pmRequest x s else s

/-- The acknowledged state is entered (R124); an exit asked for meanwhile starts at once, the hub's own with its
message. -/
def enterLow (x new : Nat) (s : State) : State :=
  let ask := (s.lane x).pmAsk
  let exit := (s.lane x).pmExit || ask
  let s := checkLinks (enterLane x new s)
  let s := if new = Ls.deep then storeResult x s else s
  let s := if ask then pmExitSend x s else s
  s.setLane x { s.lane x with pmExit := exit && new == Ls.doze }

/-- An acknowledged entry, which both ends make at the next alignment codeword (R124). -/
def acceptLow (x new : Nat) (s : State) : State :=
  s.setLane x { s.lane x with pmReq := none, pmNext := some new }

/-- An exit from doze or deep is asked for, by the hub (`ask`) or by the partner (R124). Doze is left at the next alignment
codeword; an entry that is not complete completes first. -/
def pmLeave (x : Nat) (ask : Bool) (s : State) : State :=
  let st := s.laneState x
  if st = Ls.doze then
    let s := if ask then pmSend x 4 s else s
    s.setLane x { s.lane x with pmExit := true }
  else if st = Ls.deep then (if ask then pmExitSend x s else s)
  else if st = Ls.up ∧ ((s.lane x).pmReq.isSome ∨ (s.lane x).pmNext.isSome) then
    s.setLane x { s.lane x with pmExit := true, pmAsk := (s.lane x).pmAsk || ask }
  else s

/-- PM received (R124). -/
def rxPm (x : Nat) (h : MsgHdr) (code : Nat) (s : State) : State :=
  let reply (c : Nat) (s : State) : State := s.sendMsg x Mt.PM h.seq.toNat h.port.toNat [BitVec.ofNat 8 c]
  match code with
  | 1 | 2 =>
    if s.laneUp x && !s.lead x then acceptLow x (code + 4) (reply 3 s) else reply 5 s
  | 3 => match (s.lane x).pmReq with | some (t, _) => acceptLow x t s | none => s
  | 4 => pmLeave x false (reply 3 s)
  | _ => s

/-- No acknowledgement within 100 µs: two retries, then LANE_PM_NAK (R124). -/
def pmTimeout (x : Nat) (s : State) : State :=
  match (s.lane x).pmReq with
  | none => s
  | some (t, n) =>
    if n < 3 then pmSend x (t - 4) (s.setLane x { s.lane x with pmReq := some (t, n + 1) })
    else (s.setLane x { s.lane x with pmReq := none, pmExit := false, pmAsk := false }).raise Ev.LANE_PM_NAK (laneUnit x) 0

/-- The deep exit sequence has restored the equaliser and measured the eye; of a transmit lane the partner reports the
index (R126). -/
def deepExit (x : Nat) (hs vs eye : Nat) (s : State) : State :=
  if !s.laneIn x [Ls.deep] then s else
  let idx := if x < 32 then eyeIndex hs vs else eye
  let s := if x < 32 then setEye x idx hs vs s else setEye x idx 0 0 s
  let s := match (s.lane x).stored with
    | some (_, c, lo, hi) =>
      if x < 32 then ((s.setFld (R.LANE_STATUS x) F.LANE_STATUS_CTLE_USED c).setReg (R.LANE_DFE_LO x) lo).setReg (R.LANE_DFE_HI x) hi
      else s
    | none => s
  let s := s.setLane x { s.lane x with pmExit := false }
  if s.fld (R.LANE_THRESH x) F.LANE_THRESH_TRAIN_MIN ≤ idx then
    let s := enterLane x Ls.align s
    s.setLane x { s.lane x with txIndex := 0 }
  else enterTrain x true s

/-- A keep-alive burst in deep, from the forward receiver (Table LP-4). -/
def keepaliveSend (x : Nat) (s : State) : State :=
  if s.laneIn x [Ls.deep] && decide (x < 32) then (s.sendReq x Mt.KEEPALIVE 0 []).2 else s

/-! ### Round-trip calibration (R123, R152) -/

/-- Training is over at both ends: the forward transmitter switches to codewords, the first of them an alignment codeword,
and the lane enters align (R123, R137, R139). -/
def enterAlign (x : Nat) (s : State) : State :=
  let s := enterLane x Ls.align s
  s.setLane x { s.lane x with txIndex := 0 }

/-- The last exchange has ended: store the mean; a lane in train enters align (R123), and
TRIGGER_CAL is answered (Table LK-8). The mean is rounded down
(log entry 19). -/
def calDone (x : Nat) (c : CalX) (s : State) : State :=
  let s := s.setLink x { s.link x with cal := none }
  let n := c.answered.length
  if n = 0 then
    if c.forCmd then s.answerEvery (.triggerCal x) (Res.ok [0xFFFFFFFF, 0xFFFFFFFF])
    else trained x (s.setFld (R.LANE_RTT x) F.LANE_RTT_RTT_PS 0)
  else
    let mean := c.answered.foldl (· + ·) 0 / n
    let hi := c.answered.foldl Nat.max 0
    let lo := c.answered.foldl Nat.min hi
    let s := s.setFld (R.LANE_RTT x) F.LANE_RTT_RTT_PS mean
    if c.forCmd then s.answerEvery (.triggerCal x) (Res.ok [w32 mean, w32 (hi - lo)]) else trained x s
where
  trained (x : Nat) (s : State) : State := if s.laneIn x [Ls.train] then enterAlign x s else s

/-- An exchange has ended, answered or left out: the next one, or the end. -/
def calNext (x : Nat) (c : CalX) (s : State) : State :=
  if c.left = 0 then calDone x c s else calSend x (c.left - 1) c.answered c.forCmd s

/-- CAL_RESP: T − TURN_PS of the exchange outstanding; one that fails its CRC leaves the exchange out (R152). -/
def rxCalResp (x : Nat) (h : MsgHdr) (id : Nat) (turn t : Nat) (s : State) : State :=
  if !s.linkLive x then s else
  match (s.link x).cal with
  | none => if h.crcOk then s else crcErr x s
  | some c =>
    if !h.crcOk then calNext x c (crcErr x s)
    else if c.id ≠ id then s
    else calNext x { c with answered := c.answered ++ [(t + 2 ^ 24 - turn % 2 ^ 24) % 2 ^ 24] } s

/-- No answer to a CAL_REQ within 1 ms (R152). -/
def calTimeout (x : Nat) (s : State) : State :=
  match (s.link x).cal with | some c => calNext x c s | none => s

/-- The 8 exchanges at training (R123, R152). -/
def calTraining (x : Nat) (s : State) : State :=
  match (s.link x).cal with
  | some c => if c.forCmd then s else calSend x 7 [] false s
  | none => calSend x 7 [] false s

/-- TRIGGER_CAL of `n` exchanges. -/
def cmdTriggerCal (x n : Nat) (s : State) : Done × State :=
  if !s.laneUp x then (.ok [0xFFFFFFFF, 0xFFFFFFFF], s) else
  match (s.link x).cal with
  | some c =>
    if c.forCmd then (.err St.BUSY 3, s) else (.wait (.triggerCal x), calSend x (n - 1) [] true (calDone x c s))
  | none => (.wait (.triggerCal x), calSend x (n - 1) [] true s)

/-! ### Training (R121–R123, R127–R130) -/

/-- The lanes that train with lane `x`: the pair of a bond where both are in train (R128). -/
def State.trainMates (s : State) (x : Nat) : List Nat :=
  if s.bonded x && s.laneState (mate x) == Ls.train then [x, mate x] else [x]

/-- The CTLE setting of largest V_STEPS; ties go to the lower setting (R122). -/
def bestCtle (t : PresetTry) : Nat :=
  (upTo 16).foldl (fun b i => if (t.vAt[b]?.getD 0).toNat < (t.vAt[i]?.getD 0).toNat then i else b) 0

/-- The best preset so far in the search: its eye index, the preset and the CTLE setting. -/
structure Best where
  eye : Nat
  preset : Nat
  ctle : Nat
  deriving DecidableEq, Repr

/-- The presets that the search tries, in order (R122). -/
def State.triedPresets (s : State) (x : Nat) : List Nat :=
  (upTo 8).filter (fun p => s.fld (R.LANE_TXEQ x) F.LANE_TXEQ_PRESET_MASK / 2 ^ p % 2 == 1)

/-- The CTLE setting with a preset applied: the fixed one, or the best (R122, Table LP-8). -/
def State.tryCtle (s : State) (x : Nat) (t : PresetTry) : Nat :=
  if s.flag (R.LANE_RXEQ x) F.LANE_RXEQ_CTLE_FIX then s.fld (R.LANE_RXEQ x) F.LANE_RXEQ_CTLE else bestCtle t

/-- One preset of the search (R122). -/
def State.tryPreset (s : State) (x : Nat) (r : TrainResult) (b : Best) (p : Nat) : Best :=
  match r.tries[p]? with
  | some t =>
    let e := eyeIndex t.hSteps.toNat t.vSteps.toNat
    if b.eye < e then ⟨e, p, s.tryCtle x t⟩ else b
  | none => b

/-- The search of R122: the best of every preset that PRESET_MASK allows. -/
def State.search (s : State) (x : Nat) (r : TrainResult) : Best :=
  let c := if s.flag (R.LANE_RXEQ x) F.LANE_RXEQ_CTLE_FIX then s.fld (R.LANE_RXEQ x) F.LANE_RXEQ_CTLE else 0
  (s.triedPresets x).foldl (s.tryPreset x r) ⟨0, s.fld (R.LANE_TXEQ x) F.LANE_TXEQ_PRESET, c⟩

/-- The stored preset and CTLE setting with which a fast start skips the search (R122). -/
def State.storedBest (s : State) (x : Nat) : Best :=
  match (s.lane x).stored with
  | some (p, c, _) => ⟨0, p, if s.flag (R.LANE_RXEQ x) F.LANE_RXEQ_CTLE_FIX then s.fld (R.LANE_RXEQ x) F.LANE_RXEQ_CTLE else c⟩
  | none => ⟨0, 0, 0⟩

/-- A training packet of a receive lane (R121): the preset requested, the eye index, READY, bond capable, the role, and
RATES: the highest code, which is every one, and the one in use (Table LK-5). -/
def sendTrain (x preset eye : Nat) (ready : Bool) (s : State) : State :=
  (s.sendReq x Mt.TRAIN 0 [BitVec.ofNat 8 preset, BitVec.ofNat 8 eye,
    BitVec.ofNat 8 (b01 ready + 2 + 4 * b01 (s.flag (R.LANE_CTRL x) F.LANE_CTRL_ROLE)),
    BitVec.ofNat 8 (3 + 4 * (s.lane x).rate)]).2

/-- The rate of training falls to what the partner supports, without an event: on both lanes of a pair that trains
(R122, R128). -/
def limitRate (x rate : Nat) (s : State) : State :=
  if (s.lane x).rate ≤ rate then s else
  (s.trainMates x).foldl (fun t y =>
    t.setLane y { t.lane y with rate := Nat.min (t.lane y).rate rate, trained := (t.lane y).trained && decide ((t.lane y).rate ≤ rate) }) s

/-- The lane may stand at the rate it has trained at: a repeating lane at its source's (R132), a lane of a bond at that of a
mate which has trained before it (R128). -/
def State.rateStands (s : State) (x : Nat) : Bool :=
  (!s.repeats x || (s.lane x).rate == s.startRate x)
    && (!s.mateSet x || (s.lane x).rate == s.fld (R.LANE_STATUS (mate x)) F.LANE_STATUS_RATE)

/-- An attempt has failed: the next lower rate, for both lanes of a pair that trains, or LANE_TRAIN_FAIL (Table LP-5,
R128, R132). -/
def attemptFailed (x : Nat) (s : State) : State :=
  let rate := (s.lane x).rate
  if s.flag (R.LANE_CTRL x) F.LANE_CTRL_FALLBACK && decide (0 < rate) && !s.repeats x && !s.mateSet x then
    (s.trainMates x).foldl (fun t y =>
      noteRetrain y (t.setLane y { t.lane y with rate := rate - 1, attempts := (t.lane y).attempts + 1, trained := false })) s
  else trainFail x s

/-- Both ends send TS2: the round trip is measured; a pair waits until both lanes have trained (R123, R128). -/
def trainReady (x : Nat) (s : State) : State :=
  if (s.trainMates x).length = 2 then
    (if (s.lane (mate x)).trained then calTraining (mate x) (calTraining x s) else s)
  else if s.bonded x && !s.mateSet x then s
  else calTraining x s

/-- STATUS and the equaliser take what a successful attempt reached (R115, R122, R129, R130). -/
def trainOk (x preset : Nat) (follow : Bool) (s : State) : State :=
  let a := R.LANE_STATUS x
  let yield := decide (32 ≤ x) && !s.flag (R.LANE_CTRL x) F.LANE_CTRL_ROLE && !follow
  let s := (s.setFld a F.LANE_STATUS_RATE (s.lane x).rate).setFlag a F.LANE_STATUS_PARTNER_FOLLOW follow
  let s := ((s.setFlag a F.LANE_STATUS_ROLE_YIELD yield).setFlag a F.LANE_STATUS_FAST_USED (s.fastStart x)).setFld a
    F.LANE_STATUS_PRESET_USED preset
  let s := s.setLane x { s.lane x with trained := true }
  trainReady x (if yield then s.raise Ev.LANE_ROLE (laneUnit x) 0 else s)

/-- An attempt of a receive lane ends (R122). -/
def trainRx (x : Nat) (r : TrainResult) (s : State) : State :=
  let fast := s.fastStart x
  let b := if fast then s.storedBest x else s.search x r
  let s := if fast then s else (s.triedPresets x).foldl (fun t p => sendTrain x p 0 false t) s
  let s := sendTrain x b.preset b.eye false s
  let eye := eyeIndex r.hSteps.toNat r.vSteps.toNat
  let s := setEye x eye r.hSteps.toNat r.vSteps.toNat s
  if s.fld (R.LANE_THRESH x) F.LANE_THRESH_TRAIN_MIN ≤ eye && s.rateStands x then
    let a := R.LANE_STATUS x
    let s := (s.setFlag a F.LANE_STATUS_POL_INV r.polInv).setFld a F.LANE_STATUS_CTLE_USED b.ctle
    let s := (s.setReg (R.LANE_DFE_LO x) (tapsOf 0 r.dfeLo)).setReg (R.LANE_DFE_HI x) (tapsOf 4 r.dfeHi)
    let s := if x % 2 = 0 then s.setFlag a F.LANE_STATUS_REVERSED (s.bonded x && r.oddBlock) else s
    trainOk x b.preset r.partnerFollow (sendTrain x b.preset eye true s)
  else if fast then s.setLane x { s.lane x with full := true }
  else attemptFailed x s

/-- An attempt of a transmit lane ends: the partner's receiver has searched, and reports its eye and READY (R121, R122). -/
def trainTx (x : Nat) (s : State) : State :=
  match (s.lane x).peer with
  | none => attemptFailed x s
  | some p =>
    let preset := if s.flag (R.LANE_TXEQ x) F.LANE_TXEQ_CUSTOM then 0 else (s.lane x).sentPreset
    if p.ready && decide (s.fld (R.LANE_THRESH x) F.LANE_THRESH_TRAIN_MIN ≤ p.eye) && s.rateStands x then trainOk x preset p.follow s
    else attemptFailed x s

/-- A training attempt ends (R122, Table LP-5). -/
def trainComplete (x : Nat) (r : TrainResult) (s : State) : State :=
  if !s.laneIn x [Ls.train] || (s.lane x).trained then s
  else if x < 32 then trainRx x r (limitRate x r.partnerRate.toNat s)
  else trainTx x s

def trainTimeout (x : Nat) (s : State) : State := if s.laneIn x [Ls.train] then trainFail x s else s

/-- A training packet from the partner's receiver: its eye, READY, role and rates, and a request for a preset, which the
hub takes within PRESET_MASK and not while CUSTOM (R121, R122). -/
def rxTrain (x : Nat) (h : MsgHdr) (req eye flags rates : Byte) (s : State) : State :=
  if x < 32 then sendNak x h Mt.TRAIN s
  else if s.laneState x ≠ Ls.train then s
  else
    let s := setEye x eye.toNat 0 0 s
    let s := s.setLane x { s.lane x with peer := some ⟨flags.getLsbD 0, eye.toNat, rates.toNat % 4, flags.getLsbD 2⟩ }
    let s := limitRate x (rates.toNat % 4) s
    let custom := s.flag (R.LANE_TXEQ x) F.LANE_TXEQ_CUSTOM
    if req.toNat < 8 ∧ s.fld (R.LANE_TXEQ x) F.LANE_TXEQ_PRESET_MASK / 2 ^ req.toNat % 2 = 1 ∧ !custom then
      s.setLane x { s.lane x with sentPreset := req.toNat, full := (s.lane x).full || req.toNat != (s.lane x).sentPreset }
    else s

/-- The partner's eye report on a transmit lane (R117). -/
def rxEye (x : Nat) (h : MsgHdr) (eye : Byte) (s : State) : State :=
  if x < 32 then sendNak x h Mt.EYE s else setEye x eye.toNat 0 0 s

/-! ### Align and up -/

/-- The lane is lane 1 of a bond (R129, R143). -/
def State.laneOne (s : State) (x : Nat) : Bool :=
  s.bonded x && ((decide (x % 2 = 1)) != s.flag (R.LANE_STATUS (evenLane x)) F.LANE_STATUS_REVERSED)

/-- Two alignment codewords 64 apart; a bonded pair waits for both lanes within 32 ns (R119, R128). -/
def alignLock (x skewNs : Nat) (s : State) : State :=
  if !s.laneIn x [Ls.align] then s else
  let one := s.laneOne x
  let s := s.setLane x { s.lane x with aligned := true, cwIndex := 1, scr := BitVec.ofNat 23 (scrAfterAlign one), missed := 0 }
  let up (y : Nat) (s : State) : State := pmRequest y (reachUp y s)
  if !s.bonded x then up x s
  else
    let m := mate x
    if 32 < skewNs then s
    else if s.laneState m = Ls.up then up x s
    else if s.laneState m = Ls.align ∧ (s.lane m).aligned then up m (up x s)
    else s

/-- No alignment lock within 1 ms (R119, R128). -/
def alignTimeout (x : Nat) (s : State) : State :=
  if !s.laneIn x [Ls.align] then s else
  let back (y : Nat) (s : State) : State := enterTrain y false (noteRetrain y s)
  let both := s.bonded x && s.laneState (mate x) == Ls.align
  let s := back x s
  if both then back (mate x) s else s

/-- Four consecutive expected alignment codewords are missing (R119). -/
def alignmentLoss (x : Nat) (s : State) : State :=
  if s.laneIn x [Ls.up] then enterLane x Ls.align (noteRetrain x s) else s

/-- A lane has stayed for DROP_MS under the low-eye rule: it acts where the index, the hub's own or the one reported, is
below DROP_MIN (R117, R119); not evaluated during an eye scan (R514). -/
def eyeLow (x : Nat) (s : State) : State :=
  let scanned := match s.test.eye with | some e => e.lane == x | none => false
  if !s.laneIn x [Ls.up, Ls.doze] || scanned || decide (s.fld (R.LANE_THRESH x) F.LANE_THRESH_DROP_MIN ≤ s.eyeNow x) then s
  else if s.flag (R.LANE_CTRL x) F.LANE_CTRL_AUTO_RETRAIN then enterTrain x false (noteRetrain x s)
  else s.raise Ev.LANE_EYE_LOW (laneUnit x) 0

/-- LANE_DOWN, counted, and detect. -/
def laneDown (x : Nat) (s : State) : State :=
  enterDetect x false ((s.incSat (R.LANE_CNT x) F.LANE_CNT_DOWNS 1).raise Ev.LANE_DOWN (laneUnit x) 0)

/-- Loss of signal (R119). -/
def lossOfSignal (x : Nat) (s : State) : State :=
  if s.laneIn x [Ls.train, Ls.align, Ls.up, Ls.doze] then laneDown x s else s

/-- No back-channel keep-alive for 1 ms in deep: on transmit lanes, where the hub receives them (R119). -/
def keepaliveTimeout (x : Nat) (s : State) : State :=
  if s.laneIn x [Ls.deep] && decide (32 ≤ x) then laneDown x s else s

/-! ### Codewords (R137–R144, R511) -/

/-- A message put together from cells: checked by its CRC (R147); a type that the hub does not know is answered with NAK
(R150). What it asks of the hub is the row of its type (log entry 40). -/
def takeMessage (x : Nat) (bs : List Byte) (s : State) : State :=
  let n := bs.length - 2
  if beNat (bs.drop n) ≠ (crc16 (bs.take n)).toNat then crcErr x s
  else
    let mtype := (bs.getD 0 0).toNat
    let s := if mtype = 0 ∨ Mt.NAK < mtype then s.sendMsg x Mt.NAK (bs.getD 2 0).toNat (bs.getD 3 0).toNat [bs.getD 0 0] else s
    let y := s.cellHome x
    s.setLane y { s.lane y with delivered := (s.lane y).delivered ++ [.msg bs] }

/-- One cell of a good codeword (R141, R142, R511). -/
def takeCell (x : Nat) (s : State) (c : Cell) : State :=
  let y := s.cellHome x
  let carries := s.carriesCells x
  let l := s.lane y
  match c.type with
  | 0 => if s.laneState x = Ls.up then s.incSat (R.TEST_CELL x) F.TEST_CELL_IDLE_ERR c.nonZero else s
  | 1 =>
    if !carries || s.retimed x then s else
    let held := if c.first then [] else SMap.get l.parts [] c.stream
    if !c.first && held.isEmpty then s else
    let bs := held ++ c.payload
    if c.last then
      s.setLane y { l with parts := SMap.put l.parts [] c.stream [],
                           delivered := l.delivered ++ [.csi2 c.stream (bs.take (csi2Len bs)) false c.trunc] }
    else s.setLane y { l with parts := SMap.put l.parts [] c.stream bs }
  | 2 =>
    if !carries then s else
    let held := if c.first then [] else l.msgPart.getD []
    if !c.first && held.isEmpty then s else
    let bs := held ++ c.payload
    if c.last then takeMessage x (bs.take (msgLen bs)) (s.setLane y { l with msgPart := none })
    else s.setLane y { l with msgPart := some bs }
  | _ => s.incSat (R.LINK_MSG x) F.LINK_MSG_NAK 1

/-- An uncorrectable codeword: packets and messages in progress are damaged (R144). -/
def damageCells (x : Nat) (s : State) : State :=
  let y := s.cellHome x
  let l := s.lane y
  let s := if l.msgPart.isSome then crcErr x s else s
  let s := s.setLane y { l with parts := [], msgPart := none,
                                delivered := l.delivered ++ l.parts.map (fun e => .csi2 e.1 e.2 true false) }
  damageLane x s

/-- At a good alignment codeword the acknowledged low-power state is entered, or doze left, once the lane's own PM
messages are out (R124). -/
def atAlignment (x : Nat) (s : State) : State :=
  if s.pmWaits x then s else
  match (s.lane x).pmNext with
  | some t => if s.laneState x = Ls.up then enterLow x t s else s
  | none => if s.laneState x = Ls.doze ∧ (s.lane x).pmExit then leaveDoze x s else s

/-- A codeword of cells as a transmitter sends it: scrambled, encoded, and masked where it is an alignment codeword
(R138–R140); with the scrambler's next state. -/
def sendWord (align : Bool) (seed : Nat) (data : List Nat) : List Byte × Nat :=
  let (xs, st) := scramble data seed
  let cw := xs ++ rsParity xs
  ((if align then maskParity cw else cw).map (BitVec.ofNat 8), st)

/-- The next cell of the lane's own: of the message in progress, of the next message, of the next packet where packets may
go, or IDLE (R141, R142, R148). `from_` lists the lanes whose messages go out. -/
def nextCell (x : Nat) (from_ : List Nat) (packets : Bool) (s : State) : List Byte × State :=
  let l := s.lane x
  match l.msgCells with
  | c :: cs => (c, s.setLane x { l with msgCells := cs })
  | [] =>
    let ready := from_.filter (fun y => !(s.lane y).msgs.isEmpty)
    let best (r : Nat) : Option Nat := ready.find? (fun y => (s.lane y).msgs.any (fun m => msgRank m.mtype ≤ r))
    match (best 0).or ((best 1).or ((best 2).or (best 3))) with
    | some y =>
      let (m, s) := takeMsg y s
      match m.map (fun m => cellsFor 2 0 m.bytes) with
      | some (c :: cs) => (c, s.setLane x { s.lane x with msgCells := cs })
      | _ => (List.replicate 32 0, s)
    | none =>
      match l.cells with
      | c :: cs => if packets then (c, s.setLane x { l with cells := cs }) else (List.replicate 32 0, s)
      | [] => (List.replicate 32 0, s)

/-- The seven cells of the next codeword (R137): for each slot the cell that `keep` gives it, or the lane's own next one. -/
def nextCells (x : Nat) (from_ : List Nat) (packets : Bool) (keep : List (Option (List Byte))) (s : State) : List Nat × State :=
  keep.foldl (fun (acc : List Nat × State) k =>
    match k with
    | some c => (acc.1 ++ c.map (·.toNat), acc.2)
    | none => let (c, t) := nextCell x from_ packets acc.2; (acc.1 ++ c.map (·.toNat), t)) ([], s)

/-- The cells of a repeated codeword that go on in FEC mode: all but IDLE and LINK_CTRL, whose slots carry the hub's own
and relayed messages (R131, R162). -/
def keptCells (data : List Nat) : List (Option (List Byte)) :=
  (upTo 7).map (fun i =>
    let c := (data.drop (32 * i)).take 32
    if c.headD 0 / 16 = 0 ∨ c.headD 0 / 16 = 2 then none else some (c.map (BitVec.ofNat 8)))

/-- A receive lane's codeword goes on to the transmit lanes that repeat it (R131): as it came in RETIME mode; corrected and
re-encoded in FEC mode, one that could not be corrected with bytes the spec does not state. -/
def repeatWord (x : Nat) (raw : List Byte) (idx seed : Nat) (plain : Option (List Nat)) (s : State) : State :=
  (s.repeatersOf x).foldl (fun a t =>
    if !(a.lane t).repeating then a
    else if !a.flag (R.LANE_REPEAT t) F.LANE_REPEAT_MODE then emitWord t raw a
    else match plain with
      | some data =>
        let (cells, a) := nextCells t [t] false (keptCells data) a
        emitWord t (sendWord (idx == 0) seed cells).1 a
      | none => emitWord t ((upTo 240).map (Config.freeByte a.fresh)) { a with fresh := a.fresh + 1 }) s

/-- The codeword decodes only with the alignment mask removed (R139). -/
def isAlignWord (cw : List Nat) : Bool := (rsDecode (maskParity cw)).isSome && (rsDecode cw).isNone

/-- A codeword in align: the first alignment codeword is recognised by trial, and another 64 codewords later locks the lane
(R119, R139); of a bond the skew between the lanes' alignment codewords is free. -/
def trialWord (x : Nat) (cw : List Nat) (s : State) : State :=
  let l := s.lane x
  match l.alignAt with
  | none => if isAlignWord cw then s.setLane x { l with alignAt := some 0 } else s
  | some n =>
    if n + 1 < 64 then s.setLane x { l with alignAt := some (n + 1) }
    else if isAlignWord cw then
      let (k, s) := (s.setLane x { l with alignAt := some 0 }).draw
      alignLock x (Config.freeNat k) s
    else s.setLane x { l with alignAt := none }

/-- In train a codeword stands alone, an alignment codeword that carries messages (log entry 39). -/
def trainWord (x : Nat) (cw : List Nat) (s : State) : State :=
  match rsDecode (maskParity cw) with
  | none => s
  | some (fixed, _) =>
    let data := (scramble (fixed.take 224) (scrSeed (s.laneOne x))).1
    ((cellsOf data).filter (fun c => c.type == 2)).foldl (fun t c =>
      let bs := (if c.first then [] else (t.lane x).msgPart.getD []) ++ c.payload
      if c.last then takeMessage x (bs.take (msgLen bs)) (t.setLane x { t.lane x with msgPart := none })
      else t.setLane x { t.lane x with msgPart := some bs }) s

/-- A codeword without the alignment mask that stands at index `idx`, and its scrambler seed (R139, R140). -/
def State.wordAt (s : State) (x idx : Nat) (cw : List Nat) : List Nat × Nat :=
  if idx = 0 then (maskParity cw, scrSeed (s.laneOne x)) else (cw, (s.lane x).scr.toNat)

/-- The lane has taken the codeword at index `idx`; `st` is its scrambler's state after it. At an alignment codeword its
repeaters switch to its stream (R132, R139, R140). -/
def tookWord (x idx st : Nat) (s : State) : State :=
  let home := s.cellHome x
  let s := s.setLane home { s.lane home with delivered := [] }
  let s := s.setLane x { s.lane x with cwIndex := (idx + 1) % 64, scr := BitVec.ofNat 23 st }
  if idx = 0 then repeatSwitch x s else s

/-- What a decoded codeword carries: `hit` holds where symbols were corrected. -/
def wordData (cw fixed : List Nat) (hit : Bool) (seed : Nat) : List Nat :=
  (scramble ((if hit then fixed else cw).take 224) seed).1

/-- Count a corrected codeword (R138). -/
def countCorr (x : Nat) (hit : Bool) (s : State) : State :=
  if hit then s.incSat (R.LINK_FEC_CORR x) F.LINK_FEC_CORR_CORR 1 else s

/-- A codeword of a lane in up or doze: its cells are taken and repeated; one beyond correction is counted and damages what is
in progress, and at the place of an alignment codeword is missing (R119, R131, R138, R144). -/
def cellsWord (x : Nat) (raw : List Byte) (s : State) : State :=
  let idx := (s.lane x).cwIndex
  let (cw, seed) := s.wordAt x idx (raw.map (·.toNat))
  let s := tookWord x idx (scramble (cw.take 224) seed).2 s
  match rsDecode cw with
  | none =>
    let s := damageCells x (repeatWord x raw idx seed none (s.incSat (R.LINK_FEC_UNCORR x) F.LINK_FEC_UNCORR_UNCORR 1))
    if idx = 0 then
      let s := s.setLane x { s.lane x with missed := (s.lane x).missed + 1 }
      if 4 ≤ (s.lane x).missed then alignmentLoss x s else s
    else s
  | some (fixed, hit) =>
    let data := wordData cw fixed hit seed
    let s := countCorr x hit s
    let s := if idx = 0 then s.setLane x { s.lane x with missed := 0 } else s
    let s := (cellsOf data).foldl (takeCell x) (repeatWord x raw idx seed (some data) s)
    if idx = 0 then atAlignment x s else s

/-- A codeword of a lane in test whose checker has PAT IDLE_CW: the bits that differ from an idle codeword (R511). -/
def idleWord (x : Nat) (raw : List Byte) (s : State) : State :=
  let idx := if isAlignWord (raw.map (·.toNat)) then 0 else (s.lane x).cwIndex
  let (cw, seed) := s.wordAt x idx (raw.map (·.toNat))
  let s := tookWord x idx (scramble (cw.take 224) seed).2 s
  match rsDecode cw with
  | none => s.incSat (R.LINK_FEC_UNCORR x) F.LINK_FEC_UNCORR_UNCORR 1
  | some (fixed, hit) =>
    checkerCount x 1792 (((wordData cw fixed hit seed).map ones8).foldl (· + ·) 0) (countCorr x hit s)

/-- 240 raw bytes at a receive lane's deserialiser, past the injection point (R513): a codeword, or raw bits for the checker
of a lane in test (R510, R511). -/
def rxWord (x : Nat) (bytes : List Byte) (s : State) : State :=
  if bytes.length ≠ 240 then s else
  let (raw, t) := injectBytes x bytes s
  if s.laneIn x [Ls.up, Ls.doze] then cellsWord x raw t
  else if s.laneIn x [Ls.align] then trialWord x (raw.map (·.toNat)) t
  else if s.laneIn x [Ls.train] then
    trainWord x (raw.map (·.toNat)) (t.setLane (t.cellHome x) { t.lane (t.cellHome x) with delivered := [] })
  else if s.laneIn x [Ls.test] then
    (if s.fld (R.TEST_PCHK x) F.TEST_PCHK_PAT = 7 then idleWord x raw t else checkBits x (sentBits raw) t)
  else t

/-- A loopback ends at the receive lane (R512). -/
def State.looped (s : State) (x : Nat) : Bool := x % 2 == 0 && s.fld (R.TEST_LOOP (32 + x / 2)) F.TEST_LOOP_KIND != 0

/-- A codeword, or 240 bytes of raw bits, at the balls of a receive lane; the balls of a looped lane are ignored (R512). -/
def rxCodeword (x : Nat) (raw : List Byte) (s : State) : State := if s.looped x then s else rxWord x raw s

/-! ### Configuration (R125, R128, R132, R136, R508) -/

/-- Enter test (R508): the rate is MAX_RATE; from off the CTLE is RXEQ.CTLE and the DFE adapts from zero to taps
the spec does not state, each within its range (R115). -/
def enterTest (x : Nat) (s : State) : State :=
  let fromOff := s.laneState x == Ls.off
  let s := enterLane x Ls.test s
  let s := s.setFld (R.LANE_STATUS x) F.LANE_STATUS_RATE (s.fld (R.LANE_CTRL x) F.LANE_CTRL_MAX_RATE)
  let s := s.setLane x { s.lane x with cwIndex := 0 }
  if fromOff && decide (x < 32) then
    let (k, s) := s.draw
    let (j, s) := s.draw
    ((s.setFld (R.LANE_STATUS x) F.LANE_STATUS_CTLE_USED (s.fld (R.LANE_RXEQ x) F.LANE_RXEQ_CTLE)).setReg
      (R.LANE_DFE_LO x) (tapsOf 0 (Config.freeWord k))).setReg (R.LANE_DFE_HI x) (tapsOf 4 (Config.freeWord j))
  else if 32 ≤ x then
    s.setFld (R.LANE_STATUS x) F.LANE_STATUS_PRESET_USED
      (if s.flag (R.LANE_TXEQ x) F.LANE_TXEQ_CUSTOM then 0 else s.fld (R.LANE_TXEQ x) F.LANE_TXEQ_PRESET)
  else s

/-- The lane goes to off: the quad switches off, or TARGET is off. -/
def laneOff (x : Nat) (s : State) : State :=
  let s := enterLane x Ls.off s
  s.setLane x { s.lane x with ownBursts := 0, partnerBursts := 0, holdoff := false, pmExit := false }

/-- The lane's pads are held: it stays in off (R450). -/
def State.padsHeld (s : State) (x : Nat) : Bool :=
  s.fld R.PWR_PADS F.PWR_PADS_HELD / (if x < 32 then 128 else 64) % 2 == 1

/-- TARGET of a lane, as the live configuration has it, takes effect (Table LP-5, R124, R125). -/
def reactTarget (x : Nat) (changed : Bool) (s : State) : State :=
  let t := if s.padsHeld x then Ls.off else s.wanted x
  let st := s.laneState x
  if t = Ls.off then laneOff x s
  else if t = Ls.test then
    (if st = Ls.off ∨ st = Ls.up then enterTest x s else s)
  else if st = Ls.off then enterDetect x false s
  else if st = Ls.test then enterTrain x false s
  else if !changed then s
  else if st = Ls.up then
    (if t = Ls.up then pmLeave x true s
     else pmRequest x s)
  else if (st = Ls.doze ∨ st = Ls.deep) ∧ st ≠ t then pmLeave x true s
  else s

/-- A lane's reaction to a change of the live configuration. -/
def reactLane (old : State) (x : Nat) (s : State) : State :=
  if s.dark (laneDomain x) then laneOff x s else
  let a := old.reg (R.LANE_CTRL x)
  let b := s.reg (R.LANE_CTRL x)
  let ch (f : Fld) : Bool := f.get a != f.get b
  let active := [Ls.train, Ls.align, Ls.up, Ls.doze, Ls.deep].contains (s.laneState x)
  let bond := old.bonded x != s.bonded x
  let wasRep := old.flag (R.LANE_REPEAT x) F.LANE_REPEAT_EN && decide (32 ≤ x)
  let isRep := s.flag (R.LANE_REPEAT x) F.LANE_REPEAT_EN && decide (32 ≤ x)
  let repCh := isRep && (!wasRep || old.fld (R.LANE_REPEAT x) F.LANE_REPEAT_SRC != s.fld (R.LANE_REPEAT x) F.LANE_REPEAT_SRC)
  let s := if active && (bond || repCh) then enterTrain x false s
    else if s.laneState x == Ls.up && (ch F.LANE_CTRL_MAX_RATE || ch F.LANE_CTRL_MEDIUM || ch F.LANE_CTRL_ROLE) then enterTrain x false s
    else s
  let s := if old.adaptsDfe x && s.flag (R.LANE_RXEQ x) F.LANE_RXEQ_DFE_FREEZE && s.laneState x == old.laneState x
    then (s.setReg (R.LANE_DFE_LO x) (old.laneDfe x false)).setReg (R.LANE_DFE_HI x) (old.laneDfe x true) else s
  let s := if wasRep && !isRep then s.setLane x { s.lane x with repeating := false, txIndex := 0 } else s
  let s := if decide (32 ≤ x) && [Ls.align, Ls.up, Ls.doze].contains (s.laneState x) && old.reg (R.LANE_TXEQ x) != s.reg (R.LANE_TXEQ x)
    then s.setLane x { s.lane x with newEq := true } else s
  reactTarget x (ch F.LANE_CTRL_TARGET) s

/-- Every lane whose configuration or quad changed. -/
def reactLanes (old s : State) : State := (upTo 48).foldl (fun t x => reactLane old x t) s

/-! ### Receipt and consistency checks (R133–R136) -/

/-- TARGET is one of the values of Table LP-8. -/
def targetOk (t : Nat) : Bool := [0, 4, 5, 6, 7].contains t

/-- TXEQ in range: PRE, POST, and a PRESET_MASK with PRESET (R112, Table LP-8). -/
def txeqOk (w : Word) : Bool :=
  decide (F.LANE_TXEQ_PRE.get w ≤ 10 ∧ F.LANE_TXEQ_POST.get w ≤ 21 ∧ F.LANE_TXEQ_PRE.get w + F.LANE_TXEQ_POST.get w ≤ 21)
    && F.LANE_TXEQ_PRESET_MASK.get w / 2 ^ F.LANE_TXEQ_PRESET.get w % 2 == 1

/-- DROP_MS is 1–255. -/
def threshOk (w : Word) : Bool := decide (1 ≤ F.LANE_THRESH_DROP_MS.get w)

/-- Lane settings in range (RANGE_TIMING). -/
def State.lanesOk (s : State) : Bool :=
  (upTo 48).all (fun x => targetOk (s.target x) && txeqOk (s.reg (R.LANE_TXEQ x)) && threshOk (s.reg (R.LANE_THRESH x)))

/-- LANE_SET's words (Table LP-9): TARGET and BOND keep their values. -/
def laneSetRegs (x : Nat) (p : List Word) (s : State) : List (Nat × Word) :=
  let c := s.reg (R.LANE_CTRL x)
  let w := F.LANE_CTRL_TARGET.put (F.LANE_CTRL_TARGET.get c) (F.LANE_CTRL_BOND.put (F.LANE_CTRL_BOND.get c) (wAt p 0))
  [(R.LANE_CTRL x, w), (R.LANE_TXEQ x, wAt p 1), (R.LANE_THRESH x, wAt p 2)]
    ++ (if x < 32 then [(R.LANE_RXEQ x, wAt p 3)] else [])

def laneSetLegal (p : List Word) : Chk :=
  firstOf [inRange (F.LANE_CTRL_TARGET.get (wAt p 0) == 0 && F.LANE_CTRL_BOND.get (wAt p 0) == 0) 0,
    inRange (txeqOk (wAt p 1)) 1, inRange (threshOk (wAt p 2)) 2]

def laneStateLegal (p : List Word) : Chk := inRange (targetOk (bits (wAt p 0) 2 0)) 0
def laneBondLegal (x : Nat) (_p : List Word) : Chk := inRange (x % 2 == 0) 0
def repeaterLegal (x : Nat) (_p : List Word) : Chk := inRange (decide (32 ≤ x)) 0

def laneStatusRegs (x : Nat) : List Nat :=
  [R.LANE_STATUS x, R.LANE_EYE x, R.LANE_DFE_LO x, R.LANE_DFE_HI x, R.LANE_RTT x, R.LANE_CNT x]

/-- The lane is bound in a configuration: to an open stream context, a head's mask or a direct path, whose context need not
be open (R133). -/
def State.laneBound (s : State) (x : Nat) : Bool :=
  if x < 32 then
    let g := x / 4
    (upTo 16).any (fun c =>
      let w := s.gwords g c
      (F.GATE_CTRL_OPEN.get w.ctrl == 1 || !(s.directHeads g c).isEmpty) && s.namedLane (laneOfCtx g w) == s.namedLane x)
  else (upTo 4).any (fun n => (s.head n).lanes.getLsbD (x - 32))

/-- The check of R133 on the result `s` of a set over the live configuration `old`. RATE, MEDIUM and ROLE of a lane that the
set itself first binds may change with it (log entry 73). -/
def lanesResourceOk (old s : State) : Bool :=
  (upTo 32).all (fun x => decide ((s.repeatersOf x).length ≤ 1)
    && !(s.retimed x && s.laneBound x))
  && (upTo 16).all (fun m => !(s.flag (R.LANE_REPEAT (32 + m)) F.LANE_REPEAT_EN && s.laneBound (32 + m)))
  && (upTo 48).all (fun x =>
    let a := old.reg (R.LANE_CTRL x)
    let b := s.reg (R.LANE_CTRL x)
    !s.laneBound x || ((F.LANE_CTRL_TARGET.get b == 4 || F.LANE_CTRL_TARGET.get a == F.LANE_CTRL_TARGET.get b)
      && (!old.laneBound x || (F.LANE_CTRL_MAX_RATE.get a == F.LANE_CTRL_MAX_RATE.get b
        && F.LANE_CTRL_MEDIUM.get a == F.LANE_CTRL_MEDIUM.get b && F.LANE_CTRL_ROLE.get a == F.LANE_CTRL_ROLE.get b))))
  && (upTo 48).all (fun x => !(s.laneBound x && !old.laneBound x && s.laneState x == Ls.test))

end Sys2Proof.Machine
end

