-- ==== Sys2Proof/Machine/Remap.lean ====
section
/-! DEFINITION. The remap engines and the mesh slots (R266–R275). -/

namespace Sys2Proof.Machine

def State.remap (s : State) (n : Nat) : Remap := SMap.get s.remaps Remap.unbound n
def State.setRemap (s : State) (n : Nat) (r : Remap) : State :=
  { s with remaps := SMap.put s.remaps Remap.unbound n r }

/-- The mesh slot that a staged MESH_LOAD loads. -/
def Entry.meshSlot (e : Entry) : Option Nat :=
  match e.kind with
  | .cmd op _ p => if op = 0x400 then some (bits (wAt p 0) 5 0) else none
  | _ => none

/-- A staging entry will still free the mesh loaded for slot `m`. -/
def State.meshStaged (s : State) (m : Nat) : Bool :=
  let g := s.groom.staging
  let due := match g.frozen with | some f => if f.void then [] else f.entries | none => []
  (g.fill ++ g.future.map (·.2) ++ due).any (fun e => e.meshSlot == some m)

/-- Mesh slot `m`: a mesh whose staged load was discarded with its set is gone. -/
def State.mesh (s : State) (m : Nat) : Mesh :=
  let x := SMap.get s.meshes Mesh.free m
  if x.held && x.loading.isNone && !s.meshStaged m then { x with next := none, held := false } else x
def State.setMesh (s : State) (m : Nat) (x : Mesh) : State := { s with meshes := SMap.put s.meshes Mesh.free m x }

def remapUnit (n : Nat) : Nat := 0x4000 + n

/-- The status registers follow the engine (Table IF-8). -/
def showRemap (n fault : Nat) (s : State) : State :=
  let r := s.remap n
  let st := if r.stuck then 3 else if r.run.isSome then 2 else if r.bind.isSome then (if fault ≠ 0 then 3 else 1) else 0
  let k := match r.bind with | some b => b.regions.length | none => 0
  s.setReg (R.REMAP_STATUS n) (w32 (st + 4 * b01 r.late + 16 * fault + 256 * k))

/-- Bytes of one buffer of a mesh (R267). -/
def meshBytes (gw gh : Nat) : Nat := ceilDiv (gw * gh * 8) 64 * 64

def MeshBuf.bytes (b : MeshBuf) : Nat := meshBytes b.gw b.gh

/-- The status registers of a mesh slot (Table IF-8). -/
def showMesh (m : Nat) (s : State) : State :=
  let x := s.mesh m
  let shape := match x.active with
    | some b => 256 * (b.gw - 1) + 65536 * (b.gh - 1) + 2 ^ 24 * b.ms
    | none => 0
  (s.setReg (R.MESH_STATUS m) (w32 (b01 x.active.isSome + 2 * b01 x.next.isSome + 4 * x.index + shape))).setReg
    (R.MESH_BASE m) (w32 x.base)

/-! ### Mesh positions (R268, R269) -/

/-- A node of a mesh buffer: none where it is invalid. -/
def meshNode (b : MeshBuf × List Byte) (i j : Nat) : Option (Int × Int) :=
  let bs := (b.2.drop ((j * b.1.gw + i) * 8)).take 8
  let x := leNat (bs.take 4)
  if x = 0x80000000 then none else some (sext 32 x, sext 32 (leNat (bs.drop 4)))

/-- The source position of region pixel (u, v) in 1/64 pixels; none where a node of non-zero weight is invalid. -/
def meshPos (b : MeshBuf × List Byte) (u v : Nat) : Option (Int × Int) :=
  let q := 2 ^ b.1.ms
  let i := u / q
  let j := v / q
  let fu := u % q
  let fv := v % q
  let ws : List (Nat × Nat × Nat) :=
    [((q - fu) * (q - fv), i, j), (fu * (q - fv), i + 1, j), ((q - fu) * fv, i, j + 1), (fu * fv, i + 1, j + 1)]
  let used := ws.filter (fun w => w.1 ≠ 0)
  let nodes := used.map (fun w => (meshNode b w.2.1 w.2.2).map (fun p => ((w.1 : Int) * p.1, (w.1 : Int) * p.2)))
  if nodes.any (·.isNone) then none
  else
    let sum := nodes.foldl (fun (acc : Int × Int) o => match o with | some p => (acc.1 + p.1, acc.2 + p.2) | none => acc) (0, 0)
    some (rndI sum.1 (2 * b.1.ms), rndI sum.2 (2 * b.1.ms))

/-! ### Sampling (R270, R271) -/

/-- One component plane of a source frame: width, lines, and its samples line by line. -/
structure Plane where
  w : Nat
  h : Nat
  top : Nat
  lines : List (List Nat)
  deriving DecidableEq, Repr

/-- A sample, with taps beyond the edge reading the edge sample (R271). -/
def Plane.at_ (p : Plane) (x y : Int) : Int :=
  let cx := (clampI 0 ((p.w : Int) - 1) x).toNat
  let cy := (clampI 0 ((p.h : Int) - 1) y).toNat
  (((p.lines.getD cy []).getD cx 0 : Nat) : Int)

/-- A component at a position in 1/64 pixels: bilinear or bicubic (R270). -/
def Plane.sample (p : Plane) (bicubic : Bool) (x y : Int) : Nat :=
  let xi := shrI x 6
  let yi := shrI y 6
  let fx := x - xi * 64
  let fy := y - yi * 64
  if bicubic then
    let row (b : Int) : Int := (List.zipWith (fun w (a : Int) => w * p.at_ (xi + a) (yi + b)) (cubic fx) [-1, 0, 1, 2]).foldl (· + ·) 0
    let v := (List.zipWith (fun w b => w * row b) (cubic fy) [-1, 0, 1, 2]).foldl (· + ·) 0
    (clampI 0 (p.top : Int) (rndI v 28)).toNat
  else
    (rndI (p.at_ xi yi * (64 - fx) * (64 - fy) + p.at_ (xi + 1) yi * fx * (64 - fy)
      + p.at_ xi (yi + 1) * (64 - fx) * fy + p.at_ (xi + 1) (yi + 1) * fx * fy) 12).toNat

/-- What a destination pixel takes: nothing (no region), FILL, or a source position (R269, R271). -/
inductive Spot where
  | outside
  | fill
  | from_ (x y : Int) (bicubic : Bool)
  deriving DecidableEq, Repr

/-- The spot of destination pixel (x, y) for a source of `sw` × `sh` pixels. -/
def spotOf (rs : List (Region × Option (MeshBuf × List Byte))) (sw sh x y : Nat) : Spot :=
  match rs.find? (fun r => decide (r.1.ox ≤ x ∧ x < r.1.ox + r.1.w ∧ r.1.oy ≤ y ∧ y < r.1.oy + r.1.h)) with
  | none => .outside
  | some (r, none) => if r.w = 0 then .outside else .fill
  | some (r, some b) =>
    match meshPos b (x - r.ox) (y - r.oy) with
    | none => .fill
    | some (px, py) =>
      let mx : Int := ((sw : Int) - 1) * 64
      let my : Int := ((sh : Int) - 1) * 64
      let out := decide (px < 0 ∨ mx < px ∨ py < 0 ∨ my < py)
      if sh = 0 || (r.fill && out) then .fill
      else .from_ (clampI 0 mx px) (clampI 0 my py) r.bicubic

/-! ### Frames (R272) -/

/-- Planes of a format in memory. -/
def fmtPlanes (fmt : Nat) : Nat := if fmt = 4 then 3 else 1

/-- Bytes of a line of `w` pixels of one plane. -/
def fmtLine (fmt w : Nat) : Nat := match fmt with | 0 => w | 1 => 2 * w | 2 => 4 * w | 3 => 2 * w | _ => 2 * w

/-- 16-bit little-endian samples of a line. -/
def u16s (bs : List Byte) (w : Nat) : List Nat := (upTo w).map (fun i => bAt bs (2 * i) + 256 * bAt bs (2 * i + 1))

/-- Every `k`th byte of a line from byte `o`. -/
def strided (bs : List Byte) (w k o : Nat) : List Nat := (upTo w).map (fun i => bAt bs (k * i + o))

/-- The component planes of a source frame from the lines of its memory planes. -/
def sourcePlanes (fmt sw sh : Nat) (mem : List (List (List Byte))) : List Plane :=
  let m (i : Nat) : List (List Byte) := mem.getD i []
  match fmt with
  | 0 => [⟨sw, sh, 255, (m 0).map (fun l => strided l sw 1 0)⟩]
  | 1 => [⟨sw, sh, 65535, (m 0).map (fun l => u16s l sw)⟩]
  | 2 => (upTo 4).map (fun c => ⟨sw, sh, 255, (m 0).map (fun l => strided l sw 4 c)⟩)
  | 3 => [⟨sw, sh, 255, (m 0).map (fun l => strided l sw 2 1)⟩,
          ⟨sw / 2, sh, 255, (m 0).map (fun l => strided l (sw / 2) 4 0)⟩,
          ⟨sw / 2, sh, 255, (m 0).map (fun l => strided l (sw / 2) 4 2)⟩]
  | _ => (upTo 3).map (fun c => ⟨sw, sh, 65535, (m c).map (fun l => u16s l sw)⟩)

/-- The spots of a line of a format: a YUV422 pair whose first position is FILL, or lies in no region, is FILL (R272). -/
def pairSpots (fmt : Nat) (spots : List Spot) : List Spot :=
  if fmt ≠ 3 then spots else
  (upTo spots.length).map (fun x =>
    let sp := spots.getD x .outside
    match spots.getD (x / 2 * 2) .outside, sp with
    | .from_ _ _ _, _ => sp
    | _, .outside => .outside
    | _, _ => .fill)

/-- A destination line of one memory plane from the spots of its pixels (R270–R272). FILL of a YUV422 pair has
the bytes of word 27 in the order U, Y, V, Y (log entry 21). -/
def destLine (fmt plane : Nat) (f0 f1 : Word) (ps : List Plane) (spots : List Spot) : List Byte :=
  let p (i : Nat) : Plane := ps.getD i ⟨0, 0, 0, []⟩
  let take (i fill : Nat) (sp : Spot) : Nat := match sp with | .from_ x y b => (p i).sample b x y | _ => fill
  match fmt with
  | 0 => spots.map (fun sp => BitVec.ofNat 8 (take 0 (bits f0 7 0) sp))
  | 1 => spots.flatMap (fun sp => leBytes 2 (take 0 (bits f0 15 0) sp))
  | 2 => spots.flatMap (fun sp => (upTo 4).map (fun c => BitVec.ofNat 8 (take c (f0.toNat / 2 ^ (8 * c) % 256) sp)))
  | 3 => (upTo (spots.length)).flatMap (fun x =>
      let sp := spots.getD x .outside
      let first := spots.getD (x / 2 * 2) .outside
      let chroma := match first with
        | .from_ px py b => (p (1 + x % 2)).sample b (shrI px 1) py
        | _ => f0.toNat / 2 ^ (16 * (x % 2)) % 256
      [BitVec.ofNat 8 chroma, BitVec.ofNat 8 (take 0 (f0.toNat / 2 ^ (8 + 16 * (x % 2)) % 256) sp)])
  | _ => spots.flatMap (fun sp =>
      leBytes 2 (take plane (match plane with | 0 => bits f0 15 0 | 1 => bits f0 31 16 | _ => bits f1 15 0) sp))

/-- The lines of a source frame, and whether every read was good. -/
def readSource (r : RemapRun) (sh : Nat) (s : State) : List (List (List Byte)) × Bool × State :=
  let b := r.bind
  (upTo (fmtPlanes b.fmt)).foldl (fun (acc : List (List (List Byte)) × Bool × State) pl =>
    let (ls, ok, s) := (upTo sh).foldl (fun (a : List (List Byte) × Bool × State) v =>
      match r.srcSlot with
      | some slot =>
        let (bs, good, t) := padReadLine b.src slot pl v a.2.2
        (a.1 ++ [bs], a.2.1 && good, t)
      | none =>
        let at_ := b.src * 64 + pl * b.sPlane * 4096 + v * b.sPitch * 64
        let n := fmtLine b.fmt b.sw
        (a.1 ++ [a.2.2.hayRead at_ n], a.2.1 && !a.2.2.hayPoor at_ n, a.2.2)) ([], acc.2.1, acc.2.2)
    (acc.1 ++ [ls], ok, s)) ([], true, s)

/-- Write the destination frame; the number of FILL pixels that lie in a region (REMAP_n_FILL). -/
def writeDest (r : RemapRun) (sh : Nat) (ps : List Plane) (s : State) : Nat × State :=
  let b := r.bind
  let rs := b.regions.zip r.bufs
  (upTo b.dh).foldl (fun (acc : Nat × State) v =>
    let spots := pairSpots b.fmt ((upTo b.dw).map (fun u => spotOf rs b.sw sh u v))
    let fills := (spots.filter (· == Spot.fill)).length
    let s := (upTo (fmtPlanes b.fmt)).foldl (fun t pl =>
      let bs := destLine b.fmt pl b.fill0 b.fill1 ps spots
      match r.dstSlot with
      | some slot => padWriteLine b.dst slot pl v bs t
      | none => t.hayWrite (b.dst * 64 + pl * b.dPlane * 4096 + v * b.dPitch * 64) bs) acc.2
    (acc.1 + fills, s)) (0, s)

/-- The engine's done report (R26, R66). -/
def remapReport (n status : Nat) (tick : Word) (cycles : Word) (s : State) : State :=
  let r := s.remap n
  let dones := ⟨tick, status, r.late⟩ :: r.dones.take 1
  let s := s.setRemap n { r with run := none, dones := dones, late := false, cycles := r.cycles + cycles }
  s.emit (.doneReport (BitVec.ofNat 16 (remapUnit n)) tick status cycles r.late)

/-- A frame of an engine ends: it is written, or dropped with a fault (R273, R274). -/
def remapDone (n : Nat) (s : State) : State :=
  let e := s.remap n
  match e.run with
  | none => s
  | some r =>
    let b := r.bind
    let (k, s) := s.draw
    let cyc := Config.cycles (remapUnit n) k
    let release (s : State) : State := match r.srcSlot with | some i => dropMark b.src i (readerRemap n) s | none => s
    let giveUp (code : Nat) (s : State) : State :=
      let s := release (match r.dstSlot with | some i => returnSlot b.dst i s | none => s)
      showRemap n code (remapReport n 2 r.tick cyc s)
    if r.dropped then showRemap n 0 (remapReport n 1 r.tick cyc (release s))
    else
      let withdrawn := match r.srcSlot with | some i => !s.markHeld b.src i (readerRemap n) | none => false
      if withdrawn then giveUp 2 s
      else if r.poor then giveUp 3 s
      else
        let tag := match r.srcSlot with | some i => s.slotTag b.src i | none => []
        let sh := if r.srcSlot.isSome then tagLines tag else b.sh
        let status := if (s.remap n).run.any (·.trunc) || (r.srcSlot.isSome && tagTrunc tag) then 1 else 0
        let (mem, ok, s) := readSource r sh s
        if !ok then giveUp 1 s
        else
          let (fills, s) := writeDest r sh (sourcePlanes b.fmt b.sw sh mem) s
          let s := match r.dstSlot with
            | some i =>
              (match s.padFor b.dst i with
              | some x =>
                let t : List Word := [1, 0, 0, r.tick, 0, 0, 0, 0, 0, w32 (b.dw + 65536 * b.dh), 0, 0, 0, 0, 0, 0]
                let s := (s.fsStore (x.slotAddr i) (wordsBytes t ++ List.replicate 4032 0)).2
                completeSlot b.dst i (stampSlot b.dst i ⟨r.tick, status, (s.remap n).late⟩ s)
              | none => s)
            | none => s
          let area := b.regions.foldl (fun a g => a + g.w * g.h) 0
          let s := s.setRemap n { s.remap n with pixels := (s.remap n).pixels + area }
          let s := (s.incWrap (R.REMAP_FRAMES n) F.REMAP_FRAMES_FRAMES 1).setFld (R.REMAP_FILL n) F.REMAP_FILL_PIXELS
            (Nat.min fills (2 ^ 24 - 1))
          let s := release s
          showRemap n 0 (remapReport n status r.tick cyc s)

/-! ### Frame starts (R267, R273) -/

/-- A region's frame start activates the mesh that waits in its slot (R267). -/
def activateMesh (m : Nat) (s : State) : State :=
  let x := s.mesh m
  match x.next with
  | some b => if x.held then s else showMesh m (s.setMesh m { x with active := some b, index := 1 - x.index, next := none })
  | none => s

/-- Samples of a line that the engine writes into its destination paddock. -/
def destSamples (b : RemapBind) (s : State) : Nat :=
  match s.pad? b.dst with
  | some x => sampleCount (s.prof x.prof) (fmtLine b.fmt b.dw)
  | none => 0

/-- A destination frame starts. It takes every mesh whole, so a later load of a slot leaves it alone (R267). -/
def remapStart (n : Nat) (b : RemapBind) (srcSlot : Option Nat) (trunc : Bool) (s : State) : State :=
  let s := b.regions.foldl (fun t g => activateMesh g.slot t) s
  let live := b.regions.map (fun g => (s.mesh g.slot).active)
  let bufs := live.map (fun o => o.map (fun m => (m, s.hayRead m.at_ m.bytes)))
  let poor := live.any (fun o => o.any (fun m => s.hayPoor m.at_ m.bytes))
  let s := match srcSlot with | some i => holdMark b.src i (readerRemap n) s | none => s
  let (dst, s) := if b.dstKind = 1 then claimSlot b.dst (destSamples b s) s else (none, s)
  let r := s.remap n
  let run : RemapRun := ⟨b, s.tickLo, srcSlot, dst, bufs, poor, trunc, b.dstKind == 1 && dst.isNone⟩
  showRemap n 0 (s.setRemap n { r with run := some run, waits := none })

/-- The newest slot completed before the tick instant and not yet remapped (R273). -/
def newestSlot (x : Paddock) (last : Option Word) : Option (Nat × Word) :=
  (x.newestBy x.atTick).filter (fun e => match last with | some q => seqNewer e.2 q | none => true)

/-- One engine at a tick instant (R66, R67, R273, R274). -/
def remapTick (n : Nat) (s : State) : State :=
  if s.dark 0x2C then s else
  let r := s.remap n
  let period := Nat.max (s.reg R.TICK_PERIOD).toNat 1
  let rate := Nat.min (r.pixels * 1000 / period) 0xFFF
  let s := s.setFld (R.REMAP_LOAD n) F.REMAP_LOAD_RATE rate
  let s := s.setFld (R.REMAP_LOAD n) F.REMAP_LOAD_PEAK (Nat.max rate (s.fld (R.REMAP_LOAD n) F.REMAP_LOAD_PEAK))
  let (k, s) := s.draw
  let s := s.setReg (R.REMAP_CYCLES n) (if r.run.isSome then Config.cycles (remapUnit n) k else r.cycles)
  let s := s.setRemap n { r with pixels := 0, cycles := 0 }
  let s := match r.run, r.waits with
    | none, some t => remapReport n 0 t 0 (s.setRemap n { s.remap n with waits := none })
    | _, _ => s
  match r.bind, r.run with
  | _, some _ =>
    let r := s.remap n
    if r.late then s.setRemap n { r with skipped := r.skipped + 1 } else
    let s := showRemap n 0 (s.setRemap n { r with late := true, skipped := 1 })
    (s.incSat R.LATE_COUNT F.LATE_COUNT_LATE 1).raise Ev.TICK_LATE (remapUnit n) 0
  | none, none => s
  | some b, none =>
    let s := if 2 ≤ r.skipped then s.raise Ev.TICK_SKIP (remapUnit n) (evArg 0 0 r.skipped) else s
    let s := s.setRemap n { s.remap n with skipped := 0 }
    if b.srcKind ≠ 1 then s.setRemap n { s.remap n with waits := some s.tickLo }
    else if r.stuck then remapReport n 2 s.tickLo 0 s
    else match s.pad? b.src with
      | none => showRemap n 2 (remapReport n 2 s.tickLo 0 (s.setRemap n { s.remap n with stuck := true }))
      | some x =>
        match newestSlot x r.lastSeq with
        | none => remapReport n 0 s.tickLo 0 s
        | some (slot, q) => remapStart n b (some slot) false (s.setRemap n { s.remap n with lastSeq := some q })

def remapsTick (s : State) : State := s.remaps.foldl (fun t e => remapTick e.1 t) s

/-- Engines whose producer yard has reported done for the tick they wait in start their frames, whatever the report's
status (R273). -/
def remapFollow (s : State) : State :=
  s.remaps.foldl (fun t e =>
    let r := t.remap e.1
    match r.bind, r.run, r.waits with
    | some b, none, some k =>
      (match (t.yard? b.producer).bind (fun y => y.dones.find? (fun d => d.tick == k)) with
      | some d => remapStart e.1 b none (d.status == 1) t
      | none => t)
    | _, _, _ => t) s

/-! ### Commands (R275) -/

/-- The regions of a REMAP_BIND. -/
def regionsOf (p : List Word) : List Region :=
  (upTo (bits (wAt p 9) 4 0)).map (fun r =>
    let a := wAt p (10 + 3 * r)
    let b := wAt p (11 + 3 * r)
    let c := wAt p (12 + 3 * r)
    ⟨bits a 12 0, bits a 28 16, bits b 12 0 + 1, bits b 28 16 + 1, bits c 5 0, bit c 8, bit c 9⟩)

def bindOf (p : List Word) : RemapBind :=
  let w := wAt p 0
  { srcKind := bits w 1 0, fmt := bits w 5 2, dstKind := bits w 7 6, producer := bits w 23 16,
    src := if bits w 1 0 = 1 then bits (wAt p 1) 11 0 else bits (wAt p 1) 19 0,
    sw := bits (wAt p 2) 12 0 + 1, sh := bits (wAt p 2) 28 16 + 1, sPitch := bits (wAt p 3) 15 0, sPlane := bits (wAt p 3) 31 16,
    dst := if bits w 7 6 = 1 then bits (wAt p 4) 11 0 else bits (wAt p 4) 19 0,
    dw := bits (wAt p 5) 12 0 + 1, dh := bits (wAt p 5) 28 16 + 1, dPitch := bits (wAt p 6) 15 0, dPlane := bits (wAt p 6) 31 16,
    fill0 := wAt p 7, fill1 := wAt p 8, regions := regionsOf p }

/-- A mesh shape covers a region (R273). -/
def meshCovers (gw gh ms w h : Nat) : Bool := decide (w - 1 ≤ (gw - 1) * 2 ^ ms ∧ h - 1 ≤ (gh - 1) * 2 ^ ms)

/-- The mesh a slot's next frame uses. -/
def Mesh.newest (m : Mesh) : Option MeshBuf :=
  match m.loading, m.next with
  | some (b, _), _ => some b
  | none, some b => some b
  | none, none => m.active

def regionsMeet (a b : Region) : Bool :=
  decide (a.ox < b.ox + b.w ∧ b.ox < a.ox + a.w ∧ a.oy < b.oy + b.h ∧ b.oy < a.oy + a.h)

/-- Words of a REMAP_BIND (R565). -/
def remapBindLen (p : List Word) : Nat := 10 + 3 * bits (wAt p 9) 4 0

/-- Receipt checks of REMAP_BIND (R273). -/
def remapBindLegal (p : List Word) (s : State) : Chk :=
  let b := bindOf p
  let w := wAt p 0
  let regs := b.regions
  let ok0 := (b.srcKind == 1 || b.srcKind == 2) && (b.dstKind == 1 || b.dstKind == 2) && decide (b.fmt ≤ 4)
    && (b.srcKind == 1 || decide (bits w 23 16 ≤ 254))
  firstOf ([inRange ok0 0, inRange (b.srcKind == 2 || (decide (b.src < 256) &&
      !((s.pad? b.src).map (·.coded)).getD false)) 1, inRange (b.dstKind == 2 || decide (b.dst < 256)) 4,
    inRange (decide (1 ≤ regs.length ∧ regs.length ≤ 16)) 9] ++
    (upTo regs.length).map (fun i =>
      match regs[i]? with
      | none => none
      | some g =>
        let inside := decide (g.ox + g.w ≤ b.dw ∧ g.oy + g.h ≤ b.dh)
        let clear := (regs.take i).all (fun h => !regionsMeet g h)
        let covered := match (s.mesh g.slot).newest with
          | some m => meshCovers m.gw m.gh m.ms g.w g.h
          | none => false
        inRange (inside && clear && covered) (10 + 3 * i)))

/-- REMAP_BIND applies: a new or replaced binding; a frame in progress goes on under its own (R275). -/
def applyRemapBind (n : Nat) (p : List Word) (s : State) : State :=
  let r := s.remap n
  let b := bindOf p
  let same := match r.bind with | some a => a.srcKind == b.srcKind && a.src == b.src | none => false
  let last := if same then r.lastSeq else none
  let skipped := if r.run.isSome then r.skipped else 0
  showRemap n 0 (s.setRemap n { r with bind := some b, lastSeq := last, stuck := false, skipped := skipped })

def applyRemapUnbind (n : Nat) (s : State) : State :=
  let r := s.remap n
  showRemap n 0 (s.setRemap n { r with bind := none, lastSeq := none, stuck := false, waits := none })

/-- The paddock source of these engines is deleted: each stays in fault until REMAP_BIND or REMAP_UNBIND (R274). -/
def orphanRemaps (p : Nat) (s : State) : State :=
  s.remaps.foldl (fun t e =>
    if e.2.bind.any (fun b => b.srcKind == 1 && b.src == p) then showRemap e.1 2 (t.setRemap e.1 { t.remap e.1 with stuck := true })
    else t) s

/-- REMAP_STATUS's payload (Table IF-9): four region slots a word. -/
def remapStatusWords (n : Nat) (s : State) : List Word :=
  let slots := match (s.remap n).bind with | some b => b.regions.map (fun (g : Region) => g.slot) | none => []
  let pack (i : Nat) : Word := w32 ((upTo 4).foldl (fun a k => a + 256 ^ k * slots.getD (4 * i + k) 0) 0)
  [s.reg (R.REMAP_STATUS n), s.reg (R.REMAP_FRAMES n), s.reg (R.REMAP_FILL n), s.reg (R.REMAP_LOAD n), s.reg (R.REMAP_CYCLES n)]
    ++ (upTo 4).map pack

/-! ### Hayloft in use -/

/-- Gate contexts open in a configuration that write paddock `i`. -/
def State.padGates (s : State) (i : Nat) : List GWords :=
  (upTo 8).flatMap (fun g => (upTo 16).filterMap (fun c =>
    let w := s.gwords g c
    if s.flag (R.GATE_CTRL g c) F.GATE_CTRL_OPEN && w.kind == 1 && F.GATE_TARGET_PADDOCK.get w.target == i then some w else none))

/-- Samples of the lines that a paddock's writer delivers; a remap engine delivers its format (Table IF-8). -/
def State.padSamples (s : State) (i : Nat) (x : Paddock) : List Nat :=
  (s.padGates i).map (·.samples) ++ (match x.drain with | some d => [drainSamples x d s] | none => [])
  ++ s.remaps.flatMap (fun e => match e.2.bind with
      | some b => if b.dstKind = 1 ∧ b.dst = i then [sampleCount (s.prof x.prof) (fmtLine b.fmt b.dw)] else []
      | none => [])

/-- Pitch of the line ring of a paddock's fills: a line of containers, rounded up to 256 bytes (R190, R315). -/
def State.fillPitch (s : State) (i : Nat) (x : Paddock) : Nat :=
  if x.coded then ceilDiv (containerBytes (s.prof x.prof) ((s.padSamples i x).foldl Nat.max 0)) 256 * 256 else x.pitchB

/-- Byte ranges of the hayloft that rings, queues, mesh buffers and direct-path rings hold, by owner: mesh slots
carry their number. -/
def State.hayAllocs (s : State) : List (Option Nat × Nat × Nat) :=
  let queues := s.queues.map (fun q => ((none : Option Nat), q.2.2.base * 64, 2 ^ q.2.2.log2Depth * 64))
  let gates := (upTo 8).flatMap (fun g => (upTo 16).filterMap (fun c =>
    let w := s.gwords g c
    if F.GATE_CTRL_OPEN.get w.ctrl = 1 ∧ w.kind = 2 then some ((none : Option Nat), w.ringAt, 2 ^ w.ringLog2 * w.pitch + 1024) else none))
  let dirs := (upTo 4).flatMap (fun n =>
    if (SMap.get s.heads Head.rest n).direct then
      let i := s.dirIn n
      let o := s.dirOut n
      [((none : Option Nat), i.1, 2 ^ i.2.1 * i.2.2), (none, o.1, 2 ^ o.2.1 * o.2.2)]
    else [])
  let meshes := s.meshes.filterMap (fun e =>
    match (s.mesh e.1).newest with
    | some b => some (some e.1, e.2.base * 64, 2 * b.bytes)
    | none => none)
  let fills := s.store.pads.flatMap (fun e => (upTo 2).flatMap (fun k =>
    match e.2.fill k with
    | some f => [((none : Option Nat), f.ring * 64, 2 ^ f.log2Depth * s.fillPitch e.1 e.2), (none, f.tags * 64, 1024)]
    | none => []))
  queues ++ gates ++ dirs ++ meshes ++ fills

/-- Two byte ranges meet. -/
def rangesMeet (a n b m : Nat) : Bool := decide (a < b + m ∧ b < a + n)

/-- Bytes that a whole-frame surface of remap format `fmt` spans. -/
def surfaceBytes (fmt plane pitch h : Nat) : Nat := plane * 4096 * (fmtPlanes fmt - 1) + pitch * 64 * h

/-- Windows of bound stalls, checkers aside, and whole-frame surfaces: of remap engines, of drains and of the hayloft
layers of heads. -/
def State.haySurfaces (s : State) : List (Nat × Nat) :=
  let wins := s.stalls.flatMap (fun e =>
    if e.2.mode = 0 ∨ s.isChecker e.1 then [] else e.2.wins.map (fun w => (w.base * 64, w.size * 64)))
  let frames := s.remaps.flatMap (fun e => match e.2.bind with
    | some b =>
      (if b.srcKind = 2 then [(b.src * 64, surfaceBytes b.fmt b.sPlane b.sPitch b.sh)] else [])
        ++ (if b.dstKind = 2 then [(b.dst * 64, surfaceBytes b.fmt b.dPlane b.dPitch b.dh)] else [])
    | none => [])
  let drains := s.store.pads.filterMap (fun e => e.2.drain.map (fun (d : Drain) =>
    (d.surface * 64, e.2.planes * e.2.lines * (d.pitch * 64))))
  let layers := (upTo 4).flatMap (fun n => (upTo 16).filterMap (fun l =>
    if bits (s.reg (R.KCTRL n l)) 2 0 = 3 then
      some (bits (s.reg (R.KSRC n l)) 19 0 * 64,
        (bits (s.reg (R.KSOFF n l)) 28 16 + bits (s.reg (R.KSIZE n l)) 28 16 + 1) * (bits (s.reg (R.KPITCH n l)) 15 0 * 64))
    else none))
  wins ++ frames ++ drains ++ layers

/-- The mesh of MESH_LOAD's words: slot, buffer shape, base, source. -/
def meshWords (p : List Word) : Nat × Nat × Nat × Nat × Nat × Nat :=
  (bits (wAt p 0) 5 0, bits (wAt p 1) 7 0 + 1, bits (wAt p 1) 15 8 + 1, bits (wAt p 1) 18 16, bits (wAt p 2) 19 0, (wAt p 3).toNat)

/-- Receipt checks of MESH_LOAD (R267, R268, R273). -/
def meshLoadLegal (p : List Word) (s : State) : Chk :=
  let (m, gw, gh, ms, base, src) := meshWords p
  let len := meshBytes gw gh
  let x := s.mesh m
  let shape := decide (2 ≤ gw ∧ gw ≤ 129 ∧ 2 ≤ gh ∧ gh ≤ 129 ∧ 2 ≤ ms)
  let busy := x.next.isSome || x.loading.isSome
  let covers := s.remaps.all (fun e => match e.2.bind with
    | some b => b.regions.all (fun g => g.slot ≠ m || meshCovers gw gh ms g.w g.h)
    | none => true)
  let at_ := base * 64
  let target := at_ + (1 - x.index) * len
  let ownClear := match x.active with | some b => !rangesMeet target len b.at_ b.bytes | none => true
  let clear := s.hayAllocs.all (fun a => a.1 == some m || !rangesMeet at_ (2 * len) a.2.1 a.2.2)
    && s.haySurfaces.all (fun a => !rangesMeet at_ (2 * len) a.1 a.2)
  firstOf [inRange shape 1, inRange (decide (at_ + 2 * len ≤ 2 ^ 26)) 2, inRange (src % 64 == 0 && inHeap src len) 3,
    need covers St.RANGE 1, need (!busy) St.BUSY 3, need (clear && ownClear) St.CHECK 2]

/-- The copy starts (R267). A staged load gives the status and TICK that its reply will carry. -/
def meshLoadStart (p : List Word) (join : Option (Nat × Word)) (s : State) : State :=
  let (m, gw, gh, ms, base, src) := meshWords p
  let x := s.mesh m
  if x.next.isSome || x.loading.isSome then s else
  let buf : MeshBuf := ⟨base * 64 + (1 - x.index) * meshBytes gw gh, gw, gh, ms⟩
  showMesh m (s.setMesh m { x with base := base, loading := some (buf, src), held := join.isSome, reply := join })

/-- A staged load's entry applies: its mesh may become active (R267). -/
def applyMeshLoad (p : List Word) (s : State) : State :=
  let m := bits (wAt p 0) 5 0
  showMesh m (s.setMesh m { s.mesh m with held := false })

/-- A staged load whose copy failed leaves its set. -/
def unstageMesh (m : Nat) (s : State) : State :=
  let g := s.groom.staging
  let other (e : Entry) : Bool := e.meshSlot != some m
  { s with groom := { s.groom with staging := ⟨g.fill.filter other, g.future.filter (fun e => other e.2),
    g.frozen.map (fun (f : Frozen) => { f with entries := f.entries.filter other })⟩ } }

/-- A node is invalid or within its range (R268). -/
def nodeOk (bs : List Byte) : Bool :=
  let x := leNat (bs.take 4)
  let inB (v : Int) : Bool := decide (-65536 ≤ v ∧ v ≤ 524287)
  x == 0x80000000 || (inB (sext 32 x) && inB (sext 32 (leNat (bs.drop 4))))

/-- The copy into the inactive buffer ends (R267, R268). -/
def meshLoadDone (m : Nat) (ok : Bool) (s : State) : State :=
  let x := s.mesh m
  match x.loading with
  | none => s
  | some (b, src) =>
    let (bs, good, s) := s.fsLoad src (b.gw * b.gh * 8)
    let s := s.setMesh m { x with loading := none, reply := none }
    let fail (r : Res) : State :=
      let s := if x.held then unstageMesh m s else s
      showMesh m ((s.setMesh m { s.mesh m with held := false }).answerEvery (.meshLoad m) r)
    if !(ok && good) then fail (Res.err St.FAULT 5)
    else if !(upTo (b.gw * b.gh)).all (fun i => nodeOk ((bs.drop (8 * i)).take 8)) then fail (Res.err St.RANGE 3)
    else
      let s := s.hayWrite b.at_ (bs ++ List.replicate (b.bytes - bs.length) 0)
      let s := showMesh m (s.setMesh m { s.mesh m with next := some b })
      let r := Res.ok [s.reg (R.MESH_STATUS m)]
      s.answerEvery (.meshLoad m) (match x.reply with | some (st, t) => { r with status := st, tick := some t } | none => r)

/-- Immediate MESH_LOAD: the reply waits for the copy. -/
def cmdMeshLoad (p : List Word) (s : State) : Done × State :=
  (.wait (.meshLoad (bits (wAt p 0) 5 0)), meshLoadStart p none s)

end Sys2Proof.Machine
end

