-- ==== Sys2Proof/Machine/Diag.lean ====
section
/-! DEFINITION. Production test and field diagnostics (chapter 18): patterns, loopback, injection, eye scans,
memory tests, boundary scan and DIAG_READ. -/

namespace Sys2Proof.Machine

/-! ### Live units (R507) -/

/-- The shed holds a loaded or bound stall. -/
def State.shedLive (s : State) (h : Nat) : Bool := (upTo 16).any (fun i => (s.stall (16 * h + i)).state != .empty)

/-- Every hayloft range in use: windows, rings, queues, mesh buffers and direct-path rings. -/
def State.hayLive (s : State) : List (Nat × Nat) :=
  s.stalls.flatMap (fun e => if e.2.mode = 0 then [] else e.2.wins.map (fun w => (w.base * 64, w.size * 64)))
    ++ s.hayAllocs.map (·.2)

def State.sliceLive (s : State) (i : Nat) : Bool := s.hayLive.any (fun r => r.2 != 0 && rangesMeet r.1 r.2 (i * 2 ^ 22) (2 ^ 22))

/-- A paddock lies in the byte range. -/
def State.storeLive (s : State) (a n : Nat) : Bool :=
  s.store.pads.any (fun e => rangesMeet (e.2.slotAddr 0) (e.2.endAddr - e.2.slotAddr 0) a n)

/-- The lane carries a direct path or a stream with an enabled tether (R507). -/
def State.laneWitnessed (s : State) (x : Nat) : Bool :=
  if x < 32 then
    (upTo 16).any (fun c => laneOfCtx (x / 4) (s.gwords (x / 4) c) == s.namedLane x && !(s.directHeads (x / 4) c).isEmpty)
  else (upTo 4).any (fun n => (s.head n).lanes.getLsbD (x - 32) && ((s.head n).direct ||
    (upTo 16).any (fun k =>
      let l := s.fld (R.SCTRL n k) F.SCTRL_LANE
      s.flag (R.SCTRL n k) F.SCTRL_EN && (l == x - 32 || (s.txBond l && l / 2 == (x - 32) / 2)) && !(s.tethersOf n k).isEmpty)))

/-! ### Patterns (R508–R511) -/

/-- A locked checker of a raw pattern has counted on since it was last looked at, by free amounts (R510). -/
def checkerSample (x : Nat) (s : State) : State :=
  if s.laneState x = Ls.test ∧ s.flag (R.TEST_PCHK x) F.TEST_PCHK_LOCK ∧ s.fld (R.TEST_PCHK x) F.TEST_PCHK_PAT ≠ 7 then
    let (k, s) := s.draw
    let (j, s) := s.draw
    let n := Config.freeNat k
    checkerCount x n (Config.freeNat j % (n + 1)) s
  else s

/-- The checker's pattern is set: a changed PAT unlocks it and clears its counters (R510). -/
def setChecker (x pat : Nat) (s : State) : State :=
  if s.fld (R.TEST_PCHK x) F.TEST_PCHK_PAT = pat then s else
  let s := (s.setFld (R.TEST_PCHK x) F.TEST_PCHK_PAT pat).setCheck x Checker.fresh
  checkerClear x ((s.setFlag (R.TEST_PCHK x) F.TEST_PCHK_LOCK false).setFlag (R.TEST_PCHK x) F.TEST_PCHK_INV_SEEN false)

/-- PATTERN_SET: generator, checker and user pattern. -/
def patternSet (x : Nat) (p : List Word) (s : State) : State :=
  let s := if 32 ≤ x then s.setReg (R.TEST_PGEN x) (wAt p 0 &&& 0xF) else s
  let s := setChecker x (F.TEST_PCHK_PAT.get (wAt p 1)) s
  let s := if bit (wAt p 1) 6 then checkerClear x s else s
  (s.setReg (R.TEST_USER_LO x) (wAt p 2)).setReg (R.TEST_USER_HI x) (wAt p 3)

/-- PATTERN_CHECK: the payload is sampled before the clear (Table TD-6). -/
def patternCheck (x : Nat) (p : List Word) (s : State) : Done × State :=
  let s := checkerSample x s
  let out := [s.reg (R.TEST_PCHK x), s.reg (R.TEST_BITS_LO x), s.reg (R.TEST_BITS_HI x), s.reg (R.TEST_ERRS x), s.reg (R.TEST_CELL x)]
  (.ok out, if bit (wAt p 0) 0 then checkerClear x s else s)

/-- The checker of a lane in test locks (R510). -/
def patternLock (x : Nat) (inv : Bool) (s : State) : State :=
  if !s.laneIn x [Ls.test] || s.fld (R.TEST_PCHK x) F.TEST_PCHK_PAT == 0 || s.flag (R.TEST_PCHK x) F.TEST_PCHK_LOCK then s else
  (((s.setCheck x Checker.fresh).setFlag (R.TEST_PCHK x) F.TEST_PCHK_LOCK true).setFlag (R.TEST_PCHK x) F.TEST_PCHK_INV_SEEN inv).raise Ev.PATTERN_LOCK
    (testUnit x) 0

/-- A window with more than 16 disagreements breaks the lock; what it compared counts (R510). -/
def patternLost (x nbits errs : Nat) (s : State) : State :=
  if !s.laneIn x [Ls.test] || !s.flag (R.TEST_PCHK x) F.TEST_PCHK_LOCK then s else
  let s := checkerCount x nbits errs ((s.setCheck x Checker.fresh).setFlag (R.TEST_PCHK x) F.TEST_PCHK_LOCK false)
  (s.incSat (R.TEST_CELL x) F.TEST_CELL_RELOCKS 1).raise Ev.PATTERN_LOST (testUnit x) 0

/-- A write of TEST_x_PCHK (R510). -/
def writePchk (x : Nat) (w : Word) (s : State) : State :=
  let s := setChecker x (F.TEST_PCHK_PAT.get w) s
  if bit w 6 then checkerClear x s else s

/-! ### Loopback and injection (R512, R513) -/

/-- LOOPBACK_SET on transmit lane `t`. -/
def loopbackSet (t kind : Nat) (s : State) : Done × State :=
  let r := 2 * (t - 32)
  let able := s.laneIn t [Ls.test] && s.laneIn r [Ls.test] && !s.laneBound t && !s.laneBound r
  if kind ≠ 0 ∧ !able then (.err St.STATE 0, s)
  else
    let s := s.setFld (R.TEST_LOOP t) F.TEST_LOOP_KIND kind
    (.ok [s.reg (R.TEST_LOOP t)], s)

def injectLegal (p : List Word) : Chk :=
  let w := wAt p 0
  match bits w 1 0 with
  | 2 => inRange (decide (6 ≤ bits w 13 8 ∧ bits w 13 8 ≤ 40)) 0
  | 3 => inRange (decide (1 ≤ bits w 23 16)) 0
  | _ => none

/-- ERR_INJECT: a new injection replaces the one that runs; KIND 0 stops it (R513). -/
def injectSet (x : Nat) (p : List Word) (s : State) : Done × State :=
  let w := wAt p 0
  let kind := bits w 1 0
  if s.laneWitnessed x then (.err St.STATE 0, s)
  else if kind = 0 then
    let s := injectStop x s
    (.ok [s.reg (R.TEST_INJ x)], s)
  else
    let count := (wAt p 1).toNat
    let left := match kind with
      | 1 => some 1
      | 2 => if count = 0 then none else some count
      | _ => some (bits w 23 16)
    let wait := if kind = 2 then 2 ^ bits w 13 8 - 1 else 0
    let s := { s with test := { s.test with inj := SMap.put s.test.inj none x (some ⟨kind, left, bits w 13 8, wait, 0⟩) } }
    let s := s.setReg (R.TEST_INJ x) (w32 (kind + 4))
    (.ok [s.reg (R.TEST_INJ x)], s)

/-- An injection has injected all its errors. -/
def injectDone (x injected : Nat) (s : State) : State :=
  match SMap.get s.test.inj none x with
  | some ⟨_, some n, _, _, c⟩ => injectEnd x (c + Nat.min (injected - c) n) s
  | _ => s

/-! ### Eye scans (R514, R515) -/

def eyeLegal (p : List Word) : Chk := inRange (decide (16 ≤ bits (wAt p 0) 4 0 ∧ bits (wAt p 0) 4 0 ≤ 30)) 0

/-- EYE_SCAN on a receive lane in up, doze or test. The background measurement stops with its last value (R514). -/
def eyeScan (x : Nat) (p : List Word) (s : State) : Done × State :=
  if s.test.eye.isSome then (.err St.BUSY 3, s)
  else if !s.laneIn x [Ls.up, Ls.doze, Ls.test] then (.err St.STATE 0, s)
  else
    let w := wAt p 0
    let e : EyeScan := ⟨x, 64 / 2 ^ bits w 9 8, 64 / 2 ^ bits w 11 10, bits w 4 0, s.eyeNow x⟩
    let s := if s.measuresEye x then keepEye x s else s
    (.wait .eyeScan, ({ s with test := { s.test with eye := some e } }).setReg R.TEST_EYE_STATUS (w32 (1 + 4 * x)))

/-! ### Memory tests (R516, R517) -/

/-- Words of a MEMTEST_RUN: base and length belong to the frame store's engine only (Table TD-6). -/
def memLen (u : BitVec 16) : Nat := if uIndex u = 0x220 then 3 else 1

def memLegal (u : BitVec 16) (p : List Word) : Chk :=
  if uIndex u = 0x220 then
    let b := (wAt p 1).toNat
    let n := (wAt p 2).toNat
    firstOf [inRange (decide (0xC000 ≤ b ∧ b < 0x100000)) 1, inRange (decide (1 ≤ n ∧ b + n ≤ 0x100000)) 2]
  else inRange (!bit (wAt p 0) 0) 0

/-- MEMTEST_RUN. -/
def memRun (u : BitVec 16) (p : List Word) (s : State) : Done × State :=
  let i := uIndex u
  let base := (wAt p 1).toNat * 4096
  let len := (wAt p 2).toNat * 4096
  let live := if i < 0x210 then s.sliceLive (i - 0x200) else if i < 0x220 then s.shedLive (i - 0x210) else s.storeLive base len
  if s.test.mem.isSome then (.err St.BUSY 3, s)
  else if live then (.err St.STATE 0, s)
  else
    let t : MemTest := ⟨i, bits (wAt p 0) 0 0, base, len⟩
    let s := { s with test := { s.test with mem := some t } }
    let s := s.setReg R.TEST_MEM_STATUS (w32 (1 + 65536 * u.toNat))
    (.wait .memtest, ((s.setReg R.TEST_MEM_ADDR 0).setReg R.TEST_MEM_BITS 0).setReg R.TEST_MEM_COUNT 0)

/-- A frame-store range that a running test makes dark (R517). -/
def State.underTest (s : State) (a n : Nat) : Bool :=
  match s.test.mem with
  | some t => t.unit == 0x220 && rangesMeet a n t.base t.len
  | none => false

/-- Remove the bytes of a range from a sparse memory: they read 0. -/
def zeroRange (m : SMap Byte) (a n : Nat) : SMap Byte := m.filter (fun e => !decide (a ≤ e.1 ∧ e.1 < a + n))

/-- What a finished test leaves in its memory (R516, R517). -/
def memAfter (t : MemTest) (s : State) : State :=
  if t.unit < 0x210 then { s with hay := zeroRange s.hay ((t.unit - 0x200) * 2 ^ 22) (2 ^ 22) }
  else if t.unit < 0x220 then (upTo 16).foldl (fun a i => a.setStall (16 * (t.unit - 0x210) + i) Stall.fresh) s
  else if t.algo = 0 then
    { s with store := { s.store with mem := zeroRange s.store.mem t.base t.len,
                                     poison := s.store.poison.filter (fun g => !decide (t.base ≤ g * 256 ∧ g * 256 < t.base + t.len)) } }
  else s

/-- Reads of a frame-store test count as the scrubber counts (R311, R517). -/
def memCounts (t : MemTest) (addr : Word) (corr uncorr : Nat) (s : State) : State :=
  if t.unit = 0x220 ∧ t.algo = 1 then
    let g := addr.toNat / 256
    let s := (upTo corr).foldl (fun a _ => noteCorr g a) s
    (upTo uncorr).foldl (fun a _ => noteUncorr g a) s
  else s

/-- A memory test ends. -/
def memDone (fails : Nat) (addr mask : Word) (corr uncorr : Nat) (s : State) : State :=
  match s.test.mem with
  | none => s
  | some t =>
    let n := if t.unit = 0x220 ∧ t.algo = 1 then uncorr else fails
    let s := memCounts t addr corr uncorr (memAfter t { s with test := { s.test with mem := none } })
    let s := (s.setFlag R.TEST_MEM_STATUS F.TEST_MEM_STATUS_BUSY false).setFld R.TEST_MEM_STATUS F.TEST_MEM_STATUS_RESULT
      (if n = 0 then 1 else 2)
    let s := if n = 0 then s else (s.setReg R.TEST_MEM_ADDR addr).setReg R.TEST_MEM_BITS mask
    let s := s.setReg R.TEST_MEM_COUNT (w32 (Nat.min n (2 ^ 32 - 1)))
    let u := 0xE000 + t.unit
    let s := s.raise Ev.MEMTEST_DONE u 0
    let s := if n = 0 then s else s.raise Ev.MEMTEST_FAIL u 0
    s.answerEvery .memtest (Res.ok [s.reg R.TEST_MEM_STATUS, s.reg R.TEST_MEM_ADDR, s.reg R.TEST_MEM_BITS, s.reg R.TEST_MEM_COUNT])

/-! ### DIAG_READ (R520) -/

/-- The payload of a selector; sensor readings are free values. -/
def diagRead (p : List Word) (s : State) : Done × State :=
  let frees (n : Nat) (lim : Nat) : List Word := (upTo n).map (fun i => w32 (Config.freeNat (s.fresh + i) % lim))
  match (wAt p 0).toNat with
  | 0 => (.ok ((upTo 16).map (fun i => Config.freeWord (s.fresh + i))), { s with fresh := s.fresh + 16 })
  | 1 => (.ok (frees 16 65536), { s with fresh := s.fresh + 16 })
  | 2 => (.ok ((upTo 48).map (fun x => w32 (s.laneState x + 256 * s.eyeNow x))), s)
  | _ => (.ok [s.reg R.TEST_MEM_STATUS, s.reg R.TEST_MEM_ADDR, s.reg R.TEST_MEM_BITS, s.reg R.TEST_EYE_STATUS], s)

def diagLegal (p : List Word) : Chk := inRange (decide ((wAt p 0).toNat ≤ 3)) 0

/-! ### Boundary scan (R519) -/

/-- The pads are taken from the hub. -/
def State.padsTaken (s : State) : Bool :=
  match s.test.tap with
  | .extest | .extestPulse | .extestTrain | .clamp | .highz => true
  | _ => false

def setTap (i : TapInstr) (s : State) : State := { s with test := { s.test with tap := i } }

/-- IDCODE's 32 bits, bit 0 first. -/
def State.idcode (s : State) : List Bool :=
  let w := 1 + 2 * (resetOf R.TOP_ID |> F.TOP_ID_MFR.get) + 2 ^ 12 * 0x9632 + 2 ^ 28 * s.part.major
  (upTo 32).map (fun i => w / 2 ^ i % 2 == 1)

/-- Data shifts through the one-bit bypass register. -/
def shiftBypass (dr : List Bool) (s : State) : State := s.emit (.jtag ((false :: dr).take dr.length))

/-- Data shifts through the boundary register: what it captured at the pads comes out, and `dr` stays. -/
def shiftBoundary (dr : List Bool) (s : State) : State :=
  let out := (upTo dr.length).map (fun i => Config.freeNat (s.fresh + i) % 2 == 1)
  ({ s with fresh := s.fresh + dr.length, test := { s.test with bsr := dr } }).emit (.jtag out)

/-- Loading an instruction that takes the pads raises BSCAN_ACTIVE. -/
def takePads (i : TapInstr) (s : State) : State := (setTap i s).raise Ev.BSCAN_ACTIVE 0 0

end Sys2Proof.Machine
end

