-- ==== Sys2Proof/Machine/Bridge.lean ====
section
/-! DEFINITION. The host bridge (chapter 12): dark accesses, the posted-write failure log, BAR2, the end of a ring
pair's traffic, resets and D3hot. -/

namespace Sys2Proof.Machine

/-! ### The posted-write failure log (R372) -/

/-- Record a posted write that failed inside the hub: BAR 0 or 1 (BAR2), offset, physical address, bytes, reason of
Table HB-2. -/
def pwFail (bar off phys size reason : Nat) (s : State) : State :=
  let valid := s.fld R.HB_PWLOG_STATUS F.HB_PWLOG_STATUS_VALID
  match (upTo 8).find? (fun e => valid / 2 ^ e % 2 == 0) with
  | none => (s.incSat R.HB_PWLOG_STATUS F.HB_PWLOG_STATUS_LOST 1).raise Ev.PW_FAIL 0 0
  | some e =>
    let s := (s.setReg (R.HB_PWLOG_OFFSET e) (w32 off)).setReg (R.HB_PWLOG_PHYS e) (w32 phys)
    let s := s.setReg (R.HB_PWLOG_INFO e) (w32 (size % 4096 + 2 ^ 13 * bar + 2 ^ 16 * reason))
    let s := s.setReg (R.HB_PWLOG_TICK e) s.tickLo
    let s := s.setFld R.HB_PWLOG_STATUS F.HB_PWLOG_STATUS_VALID (valid + 2 ^ e)
    let s := if s.flag R.HB_CTRL F.HB_CTRL_ANF_EN then s.emit (.advisory off) else s
    s.raise Ev.PW_FAIL 0 0

def Pw.SIZE : Nat := 1
def Pw.DARK : Nat := 2
def Pw.ECC : Nat := 3
def Pw.PROTECTED : Nat := 4
def Pw.STAGE_FULL : Nat := 5
def Pw.UNMAPPED : Nat := 6

/-- A write of HB_PWLOG_STATUS: LOST clears when the last VALID bit is cleared (Table HB-8). -/
def writePwStatus (w : Word) (s : State) : State :=
  let valid := s.fld R.HB_PWLOG_STATUS F.HB_PWLOG_STATUS_VALID
  let left := bits (BitVec.ofNat 32 valid &&& ~~~ w) 7 0
  let s := s.setFld R.HB_PWLOG_STATUS F.HB_PWLOG_STATUS_VALID left
  if valid ≠ 0 ∧ left = 0 then s.setFld R.HB_PWLOG_STATUS F.HB_PWLOG_STATUS_LOST 0 else s

/-- A dark access to a BAR0 page (R369). -/
def darkAccess (page : Nat) (s : State) : State :=
  let a := R.HB_DARK (page / 32)
  (s.setReg a (s.reg a ||| w32 (2 ^ (page % 32)))).raise Ev.DARK_ACCESS 0 (evArg page 0 0)

/-! ### BAR2 (R321, R367) -/

/-- The host can reach the hub's BARs: its domain is live and the function is not in D3hot (R361). -/
def State.bridgeOpen (s : State) : Bool := !s.dark 0x2F && !s.host.d3hot

/-- Physical address of a BAR2 offset (R321). -/
def State.bar2Phys (s : State) (off : Nat) : Nat :=
  (s.fld R.FS_BAR2_BASE F.FS_BAR2_BASE_BASE * 2 ^ 24 + off) % 2 ^ 32

/-- A BAR2 access finds the frame store dark (R369, R517). -/
def State.bar2Dark (s : State) (phys n : Nat) : Bool := s.fsDark || s.underTest phys n

/-- A host read of `n` bytes at a BAR2 offset. -/
def bar2Read (off n : Nat) (s : State) : State :=
  let phys := s.bar2Phys off
  if !s.bridgeOpen then s.emit .unsupported
  else if !inHeap phys n then s.emit .unsupported
  else if s.bar2Dark phys n then darkAccess 0x20 (s.emit (.readBytes (List.replicate n 0xFF) false))
  else
    let (bs, ok, s) := s.fsLoad phys n
    s.emit (.readBytes bs (!ok))

/-- Store the enabled bytes of a write. -/
def storeEnabled (a : Nat) : List (Option Byte) → State → State
  | [], s => s
  | some b :: bs, s => storeEnabled (a + 1) bs (s.fsWrite a [b])
  | none :: bs, s => storeEnabled (a + 1) bs s

/-- Every byte of the range at `b` is enabled by the write at `a`. -/
def covers (a : Nat) (data : List (Option Byte)) (b n : Nat) : Bool :=
  decide (a ≤ b ∧ b + n ≤ a + data.length) && ((data.drop (b - a)).take n).all Option.isSome

/-- Some byte of the range at `b` is enabled. -/
def touches (a : Nat) (data : List (Option Byte)) (b n : Nat) : Bool :=
  (upTo data.length).any (fun i => decide (b ≤ a + i ∧ a + i < b + n) && (data.getD i none).isSome)

/-- A host write at a BAR2 offset with byte enables. A 128-bit word written in part needs a read first; where that
is uncorrectable the write is dropped (R367). -/
def bar2Write (off : Nat) (data : List (Option Byte)) (s : State) : State :=
  let n := data.length
  let phys := s.bar2Phys off
  if !s.bridgeOpen then s
  else if !inHeap phys n then (pwFail 1 off phys n Pw.PROTECTED s).raise Ev.FS_PROTECT 0 0
  else if s.bar2Dark phys n then pwFail 1 off phys n Pw.DARK (darkAccess 0x20 s)
  else
    let bad := s.poisonIn phys n
    let torn := bad.filter (fun g => (upTo 16).any (fun j =>
      touches phys data (g * 256 + 16 * j) 16 && !covers phys data (g * 256 + 16 * j) 16))
    if !torn.isEmpty then pwFail 1 off phys n Pw.ECC (torn.foldl (fun t g => noteUncorr g t) s)
    else
      let s := { s with store := { s.store with poison := s.store.poison.filter (fun g =>
        !(bad.contains g && covers phys data (g * 256) 256)) } }
      storeEnabled phys data s

/-! ### The end of a ring pair's traffic (R90, R91) -/

/-- Replies and events that wait for pair `n` are discarded, and the commands it had taken get no reply (R90, R91). Its
open chain is forgotten with them: held entries are dropped without replies (DESIGN CHOICE, log entry 73). -/
def ringStop (n : Fin 4) (s : State) : State :=
  let s := s.setPort n.val Port.empty
  let s := s.setFlag (R.CMD_Q_STATUS n) F.CMD_Q_STATUS_STALL false
  ({ s with groom := { s.groom with
      slots := s.groom.slots.map (fun (sl : Slot) => if sl.src = Source.sq n then { sl with done := some none } else sl),
      chains := s.groom.chains.filter (fun e => !decide (e.1 = Source.sq n)) } }).flush

/-- A write of CMD_Qn_CTRL (R91): EN from 0 to 1 zeroes the pointers; EN to 0 ends the pair's traffic. -/
def writeQCtrl (n : Fin 4) (w : Word) (s : State) : State :=
  let was := s.flag (R.CMD_Q_CTRL n) F.CMD_Q_CTRL_EN
  let s := ((s.setFld (R.CMD_Q_CTRL n) F.CMD_Q_CTRL_LOG2_UNITS (F.CMD_Q_CTRL_LOG2_UNITS.get w)).setFld (R.CMD_Q_CTRL n)
    F.CMD_Q_CTRL_VECTOR (F.CMD_Q_CTRL_VECTOR.get w)).setFld (R.CMD_Q_CTRL n) F.CMD_Q_CTRL_EN (F.CMD_Q_CTRL_EN.get w)
  let on := s.flag (R.CMD_Q_CTRL n) F.CMD_Q_CTRL_EN
  if on && !was then
    let s := (s.setReg (R.CMD_SQ_TAIL n) 0).setReg (R.CMD_SQ_HEAD n) 0
    let s := (s.setReg (R.CMD_RQ_HEAD n) 0).setReg (R.CMD_RQ_TAIL n) 0
    s.setFld (R.CMD_Q_STATUS n) F.CMD_Q_STATUS_EV_DROP 0
  else if was && !on then ringStop n s
  else s

/-- A host-memory access of the groom failed for pair `n` (R91). -/
def ringFail (n : Fin 4) (s : State) : State :=
  let s := (s.setFlag (R.CMD_Q_STATUS n) F.CMD_Q_STATUS_ERR true).setPort n.val { s.port n.val with events := [] }
  s.raise Ev.CMDQ_ERR 0 0

/-- CMD_Qn_STATUS as read: ACTIVE while the pair is enabled and running. -/
def State.qStatus (s : State) (n : Nat) : Word :=
  F.CMD_Q_STATUS_ACTIVE.put (b01 (s.ringActive n)) (s.reg (R.CMD_Q_STATUS n))

/-! ### Link and power (R361, R371, R374, R375) -/

/-- The endpoint finishes link training. -/
def pcieUp (speed width : Nat) (s : State) : State :=
  let s := { s with host := { s.host with linkUp := true } }
  (s.setFld R.HB_LINK F.HB_LINK_SPEED speed).setFld R.HB_LINK F.HB_LINK_WIDTH width

/-- Inbound requests wait, or no longer wait, more than 256 ns (R371). -/
def setBackoff (waiting : Bool) (s : State) : State :=
  let was := s.host.backoff
  let s := { s with host := { s.host with backoff := waiting } }
  if waiting && !was then s.incSat R.HB_BACKOFF F.HB_BACKOFF_COUNT 1 else s

/-- Registers of the MSI-X page: table and PBA. -/
def msixPage (a : Nat) : Bool := a / 0x10000 == 0x0B

end Sys2Proof.Machine
end

