-- ==== Sys2Proof/Machine/Dma.lean ====
section
/-! DEFINITION. The DMA engines and channels (R376–R388): starts, descriptors, data, completion, abort, errors and
the host-bridge resets that stop them. -/

namespace Sys2Proof.Machine

/-- Channel states (Table HB-3). -/
def Ds.OFF : Nat := 0
def Ds.IDLE : Nat := 1
def Ds.QUEUED : Nat := 2
def Ds.RUNNING : Nat := 3
def Ds.PARKED : Nat := 4
def Ds.ABORTING : Nat := 5

/-- Error codes (Table HB-7). -/
def De.DESC : Nat := 1
def De.HOST : Nat := 2
def De.POISON : Nat := 3
def De.DECODE : Nat := 4
def De.DARK : Nat := 5
def De.PROTECTED : Nat := 6

def dmaUnit (c : Nat) : Nat := 0x9000 + c

def State.dmaState (s : State) (c : Nat) : Nat := s.fld (R.DMA_STATUS c) F.DMA_STATUS_STATE
def State.setDmaState (s : State) (c v : Nat) : State := s.setFld (R.DMA_STATUS c) F.DMA_STATUS_STATE v

/-- STATE, RESULT and ERR at once. -/
def setDmaStatus (c st result err : Nat) (s : State) : State :=
  s.setReg (R.DMA_STATUS c) (w32 (st + 16 * result + 256 * err))

def State.dmaEn (s : State) (c : Nat) : Bool := s.flag (R.DMA_CTRL c) F.DMA_CTRL_EN

/-- The state of a channel whose run has ended. -/
def State.dmaRest (s : State) (c : Nat) : Nat := if s.dmaEn c then Ds.IDLE else Ds.OFF

def State.dmaQueue (s : State) (e : Nat) : List Nat := SMap.get s.host.queues [] e
def setDmaQueue (e : Nat) (q : List Nat) (s : State) : State :=
  { s with host := { s.host with queues := SMap.put s.host.queues [] e q } }

/-- The channel of engine `e` that holds it: running or aborting (R376). -/
def State.dmaRunning (s : State) (e : Nat) : Option Nat :=
  (upTo 4).find? (fun i => [Ds.RUNNING, Ds.ABORTING].contains (s.dmaState (4 * e + i))) |>.map (4 * e + ·)

/-- DMA_ENG_e as read (Table HB-8). -/
def State.dmaEng (s : State) (e : Nat) : Word :=
  w32 ((match s.dmaRunning e with | some c => c % 4 + 4 | none => 0) + 16 * (s.dmaQueue e).length)

/-! ### Descriptors (Table HB-5) -/

def Desc.op (d : Desc) : Nat := bits (wAt d.words 1) 2 0
def Desc.coded (d : Desc) : Bool := bit (wAt d.words 1) 4
def Desc.lines (d : Desc) : Nat := bits (wAt d.words 1) 28 16 + 1
def Desc.lineBytes (d : Desc) : Nat := bits (wAt d.words 2) 23 0
def Desc.total (d : Desc) : Nat := d.lines * d.lineBytes
def Desc.srcPitch (d : Desc) : Nat := 16 * bits (wAt d.words 7) 15 0
def Desc.dstPitch (d : Desc) : Nat := 16 * bits (wAt d.words 7) 31 16
def Desc.src (d : Desc) : Nat := (wAt d.words 3).toNat + 2 ^ 32 * (wAt d.words 4).toNat
def Desc.dst (d : Desc) : Nat := (wAt d.words 5).toNat + 2 ^ 32 * (wAt d.words 6).toNat
def Desc.pad (d : Desc) : Nat := bits (wAt d.words 3) 7 0
def Desc.padOff (d : Desc) : Nat := (wAt d.words 4).toNat
def Desc.isEnd (d : Desc) : Bool := bit (wAt d.words 0) 0
def Desc.irq (d : Desc) : Bool := bit (wAt d.words 0) 1

/-- The operations. -/
def Desc.h2f (d : Desc) : Bool := d.op == 0
def Desc.f2h (d : Desc) : Bool := d.op == 1
def Desc.f2f (d : Desc) : Bool := d.op == 2
def Desc.p2h (d : Desc) : Bool := d.op == 3

/-- The profile of a coded descriptor. -/
def State.descProf (s : State) (d : Desc) : Prof := s.prof (bits (wAt d.words 1) 9 5)

/-- Host line pitch of a coded transfer (R385). -/
def codedPitch (pr : Prof) (d : Desc) : Nat := ceilDiv (worstLine pr (sampleCount pr d.lineBytes)) 64 * 64

/-- Frame-store address of the mark's slot that a P2H descriptor reads (R380): slot, SEQ and address. -/
def State.p2hSlot (s : State) (d : Desc) : Option (Nat × Word × Nat) :=
  match s.pad? d.pad with
  | none => none
  | some x =>
    match x.mark (bits (wAt d.words 1) 11 10) with
    | some k => if k.lost then none else (x.slotOf k.seq).map (fun i => (i, k.seq, x.slotAddr i + d.padOff))
    | none => none

/-- The last byte range a P2H descriptor reads lies within the slot (Table HB-7). -/
def p2hFits (x : Paddock) (d : Desc) : Bool :=
  let last := d.padOff + (if d.lines = 1 then 0 else (d.lines - 1) * d.srcPitch)
  decide (last + (if x.coded ∧ 4096 ≤ d.padOff then Nat.min d.lineBytes x.pitchB else d.lineBytes) ≤ x.slotBytes)

/-- A descriptor that is not valid in itself (ERR = DESC). -/
def State.descBad (s : State) (d : Desc) : Bool :=
  let w0 := wAt d.words 0
  let w1 := wAt d.words 1
  let pr := s.descProf d
  bits w0 4 2 != 0 || decide (4 ≤ d.op) || bits w1 15 12 != 0 || bits w1 31 29 != 0 || bits (wAt d.words 2) 31 24 != 0
    || decide (d.lineBytes < 4) || d.lineBytes % 4 != 0
    || (if d.p2h then d.padOff % 4 != 0 else d.src % 4 != 0) || d.dst % 4 != 0
    || (d.coded && (d.f2f || !pr.ok || containerBytes pr (sampleCount pr d.lineBytes) != d.lineBytes
        || decide (32768 < sampleCount pr d.lineBytes)))
    || (d.p2h && match s.pad? d.pad with | some x => !p2hFits x d | none => false)

/-- The frame-store ranges of a descriptor other than P2H: first address and bytes spanned. -/
def Desc.ranges (d : Desc) : List (Nat × Nat) :=
  let span (pitch : Nat) := (d.lines - 1) * pitch + d.lineBytes
  (if d.f2h || d.f2f then [(d.src, span d.srcPitch)] else []) ++ (if d.h2f || d.f2f then [(d.dst, span d.dstPitch)] else [])

/-- The frame-store ranges a descriptor touches at the present paddock slot. -/
def State.descRanges (s : State) (d : Desc) : List (Nat × Nat) :=
  if d.p2h then match s.p2hSlot d with
    | some (_, _, a) => [(a, (d.lines - 1) * d.srcPitch + d.lineBytes)]
    | none => []
  else d.ranges

/-- A dark frame store, codec array or paddock stops the descriptor (ERR = DARK; R517). -/
def State.descDark (s : State) (d : Desc) : Bool :=
  s.fsDark || (d.coded && s.dark 0x2E) || (d.p2h && (s.p2hSlot d).isNone)
    || (s.descRanges d).any (fun r => s.underTest r.1 r.2)

/-- The codes of Table HB-7 that stop a descriptor before its data moves. -/
def State.descError (s : State) (d : Desc) : Nat :=
  if s.descBad d then De.DESC
  else if s.descDark d then De.DARK
  else if d.ranges.any (fun r => !inHeap r.1 r.2) then De.PROTECTED
  else 0

/-! ### Moving data (R380, R385) -/

/-- The outcome of moving a line: bytes moved on the frame-store side, an error code or 0. -/
structure Moved where
  bytes : Nat
  err : Nat
  deriving DecidableEq, Repr

/-- Bytes in front of the first poisoned granule of a range. -/
def State.goodPrefix (s : State) (a n : Nat) : Nat :=
  (s.poisonIn a n).foldl (fun k g => Nat.min k (g * 256 - a)) n

/-- A decoded line of a coded paddock from byte `at_` of the slot on (R280), and the error met: a poisoned read, or a
decode error, which delivers zeros (R297). -/
def codedPadLine (p slot at_ n : Nat) (s : State) : List Byte × Nat × State :=
  match s.pad? p with
  | none => ([], De.DARK, s)
  | some x =>
    let i := (at_ - 4096) / x.pitchB
    let poisoned := !(s.poisonIn (x.lineAddr slot (i / x.lines) (i % x.lines)) x.pitchB).isEmpty
    let (bs, ok, s) := padReadLine p slot (i / x.lines) (i % x.lines) s
    (padEnd (bs.drop ((at_ - 4096) % x.pitchB)) n, if ok then 0 else if poisoned then De.POISON else De.DECODE, s)
where
  /-- Cut or fill a line to `n` bytes. -/
  padEnd (bs : List Byte) (n : Nat) : List Byte := bs.take n ++ List.replicate (n - bs.length) 0

/-- The frame-store side of line `v` for a reading descriptor: its bytes and the error met. -/
def dmaRead (c v : Nat) (d : Desc) (s : State) : List Byte × Nat × State :=
  let n := d.lineBytes
  if d.p2h then
    match s.p2hSlot d with
    | none => ([], De.DARK, s)
    | some (slot, _, a) =>
      if !s.markHeld d.pad slot (readerDma c) then ([], De.DARK, s) else
      let off := d.padOff + v * d.srcPitch
      match s.pad? d.pad with
      | some x =>
        if x.coded && decide (4096 ≤ off) then codedPadLine d.pad slot off n s
        else plain (a + v * d.srcPitch) n s
      | none => ([], De.DARK, s)
  else plain (d.src + v * d.srcPitch) n s
where
  /-- Bytes of an uncoded line up to the first poisoned granule. -/
  plain (a n : Nat) (s : State) : List Byte × Nat × State :=
    let k := s.goodPrefix a n
    let (bs, ok, s) := s.fsLoad a n
    if ok then (bs, 0, s) else (bs.take k, De.POISON, s)

/-- Send a line to the host: encoded at the coded pitch, or as it is (R385). -/
def dmaToHost (c v : Nat) (d : Desc) (bs : List Byte) (s : State) : State :=
  if bs.isEmpty then s
  else if d.coded then
    let pr := s.descProf d
    let (k, s) := codecEncode (12 + c / 4) pr (samplesOf pr bs) s
    let s := s.setReg (R.DMA_CODED c) (s.reg (R.DMA_CODED c) + w32 k.bytes.length)
    s.emit (.hostBytes (BitVec.ofNat 64 (d.dst + v * codedPitch pr d)) k.bytes)
  else s.emit (.hostBytes (BitVec.ofNat 64 (d.dst + v * d.dstPitch)) bs)

/-- Move the first `k` bytes of line `v`; `data` is what the host delivered for the descriptor. A coded line moves
whole or not at all. -/
def dmaLine (c v k : Nat) (d : Desc) (data : List Byte) (s : State) : Moved × State :=
  let n := Nat.min k d.lineBytes
  if n = 0 || (d.coded && decide (n < d.lineBytes)) then (⟨0, 0⟩, s) else
  if d.h2f then
    if d.coded then
      let pr := s.descProf d
      let line := (data.drop (v * codedPitch pr d)).take (codedPitch pr d)
      let (xs, ok, s) := codecDecode (12 + c / 4) pr (sampleCount pr d.lineBytes) line s
      let (w, s) := s.fsStore (d.dst + v * d.dstPitch) (containersOf pr xs)
      (⟨d.lineBytes, if !ok then De.DECODE else if w then 0 else De.POISON⟩, s)
    else
      let (w, s) := s.fsStore (d.dst + v * d.dstPitch) ((data.drop (v * d.lineBytes)).take n)
      (⟨n, if w then 0 else De.POISON⟩, s)
  else
    let (bs, e, s) := dmaRead c v d s
    let bs := bs.take n
    if d.f2f then
      let (w, s) := s.fsStore (d.dst + v * d.dstPitch) bs
      (⟨bs.length, if e ≠ 0 then e else if w then 0 else De.POISON⟩, s)
    else if d.coded && e != 0 && e != De.DECODE then (⟨0, e⟩, s)
    else (⟨bs.length, e⟩, dmaToHost c v d bs s)

/-- Move lines from `v` on, until `left` bytes have moved or an error stops it; `fuel` bounds the lines. -/
def dmaLines (c : Nat) (d : Desc) (data : List Byte) : Nat → Nat → Nat → State → Moved × State
  | 0, _, _, s => (⟨0, 0⟩, s)
  | fuel + 1, v, left, s =>
    if left = 0 then (⟨0, 0⟩, s) else
    let (m, s) := dmaLine c v left d data s
    if m.err ≠ 0 then (m, s) else
    let (r, s) := dmaLines c d data fuel (v + 1) (left - d.lineBytes) s
    (⟨m.bytes + r.bytes, r.err⟩, s)

/-- Move the first `n` bytes of the channel's descriptor, noting that the run has written. -/
def dmaMove (c n : Nat) (d : Desc) (data : List Byte) (s : State) : Moved × State :=
  let (m, s) := dmaLines c d data d.lines 0 n s
  let x := s.chan c
  (m, s.setChan c { x with moved := m.bytes, wrote := x.wrote || decide (0 < m.bytes) })

/-- The implicit mark of a P2H descriptor is released. -/
def dmaRelease (c : Nat) (s : State) : State :=
  { s with store := { s.store with pads := s.store.pads.map (fun e =>
      (e.1, { e.2 with readers := e.2.readers.filter (fun r => r.2 ≠ readerDma c) })) } }

/-! ### Starts (R376, R378) -/

/-- Ask for a descriptor: CUR names it, and the settings in force are kept for it (R387). -/
def dmaFetch (c : Nat) (next : Word) (s : State) : State :=
  let kept := [s.reg (R.DMA_CTRL c), s.reg (R.DMA_DBASE_HI c), s.reg (R.DMA_WB_LO c), s.reg (R.DMA_WB_HI c)]
  let a := F.DMA_CUR_ADDR.put (F.DMA_CUR_ADDR.get next) 0
  let x := s.chan c
  (s.setReg (R.DMA_CUR c) a).setChan c { x with
    phase := .fetch, desc := none, fetchAt := s.reg (R.DMA_DBASE_HI c) ++ a, moved := 0, kept := kept }

/-- The engine takes a channel off its queue. -/
def dmaRun (c : Nat) (s : State) : State :=
  let s := s.setDmaState c Ds.RUNNING
  let x := s.chan c
  if x.resume then s.setChan c { x with phase := .tail true }
  else
    let s := (setDmaStatus c Ds.RUNNING 0 0 s).setReg (R.DMA_CODED c) 0
    dmaFetch c (s.reg (R.DMA_FIRST c)) (s.setChan c { x with wrote := false, p2hSeq := 0, err := none })

/-- A free engine takes its next queued channel (R376). -/
def dmaPump (e : Nat) (s : State) : State :=
  match s.dmaRunning e, s.dmaQueue e with
  | none, c :: q => dmaRun c (setDmaQueue e q s)
  | _, _ => s

/-- Queue a channel behind the others of its engine. -/
def dmaQueueUp (c : Nat) (resume : Bool) (s : State) : State :=
  let s := s.setChan c { s.chan c with resume := resume }
  let s := if resume then s else s.incWrap (R.DMA_CNT c) F.DMA_CNT_RUNS 1
  dmaPump (c / 4) (setDmaQueue (c / 4) (s.dmaQueue (c / 4) ++ [c]) (s.setDmaState c Ds.QUEUED))

/-- A doorbell (R378). -/
def dmaDoorbell (c : Nat) (s : State) : State :=
  if s.dmaState c = Ds.IDLE then dmaQueueUp c false s
  else if s.dmaState c = Ds.PARKED then dmaQueueUp c true s
  else s

/-- A start event (R378). -/
def dmaStart (c : Nat) (s : State) : State :=
  let st := s.dmaState c
  if st = Ds.IDLE then dmaQueueUp c false s
  else if st = Ds.PARKED then dmaQueueUp c (!s.flag (R.DMA_CTRL c) F.DMA_CTRL_RESTART) s
  else if st = Ds.OFF then s
  else (s.incSat (R.DMA_CNT c) F.DMA_CNT_OVERRUN 1).raise Ev.DMA_OVERRUN (dmaUnit c) 0

/-- Start every channel whose CTRL satisfies `p`, in order of number. -/
def dmaStarts (p : Word → Bool) (s : State) : State :=
  (upTo 16).foldl (fun t c => if p (t.reg (R.DMA_CTRL c)) then dmaStart c t else t) s

/-- CTRL selects a start kind with a source. -/
def startIs (kind : Nat) (src : Nat → Bool) (w : Word) : Bool :=
  F.DMA_CTRL_START.get w == kind && src (F.DMA_CTRL_SRC.get w)

/-- The TICK starts of a tick instant, and the HEAD starts of heads that report done at it, having no work (Table HB-4,
R66). -/
def dmaTick (s : State) : State :=
  dmaStarts (fun w => startIs 3 (fun k => s.tg.count.toNat % (k + 1) == 0) w || startIs 4 (fun k => s.headIdle (k % 4)) w) s

/-- The HEAD starts of head `h`. -/
def dmaHead (h : Nat) (s : State) : State := dmaStarts (startIs 4 (fun k => k % 4 == h)) s

/-- A TIMER channel's period expires. -/
def dmaTimer (c : Nat) (s : State) : State :=
  if startIs 1 (fun _ => true) (s.reg (R.DMA_CTRL c)) then dmaStart c s else s

/-! ### Completion (R383) -/

/-- Write the record of Table HB-6; an engine issues no request in D3hot (R361). -/
def dmaWriteBack (c : Nat) (residue : Word) (s : State) : State :=
  if s.host.d3hot then s else
  let x := s.chan c
  let p2h := match x.desc with | some d => d.p2h | none => false
  s.emit (.hostWrite (wAt x.kept 3 ++ (wAt x.kept 2 &&& 0xFFFFFFE0))
    [s.reg (R.DMA_STATUS c), s.reg (R.DMA_CUR c), residue, s.reg (R.DMA_CODED c), s.tickLo, if p2h then x.p2hSeq else 0, 0, 0])

/-- Send the channel's message if IRQ_EN (R383). -/
def dmaMessage (c : Nat) (s : State) : State :=
  let w := wAt (s.chan c).kept 0
  if bit w F.DMA_CTRL_IRQ_EN.lo && !s.host.d3hot then s.sendMsix (F.DMA_CTRL_VECTOR.get w) else s

/-- The payload of DMA_STATUS (Table HB-9). -/
def State.dmaWords (s : State) (c : Nat) : List Word :=
  [s.reg (R.DMA_STATUS c), s.reg (R.DMA_CUR c), s.reg (R.DMA_RESIDUE c), s.reg (R.DMA_CODED c), s.reg (R.DMA_CNT c)]

/-- The run has ended: the engine is free, and commands that waited for the abort are answered. -/
def dmaEnd (c : Nat) (s : State) : State :=
  let x := s.chan c
  let s := dmaRelease c (s.setChan c { x with phase := .none, disabling := false, err := none })
  let s := dmaPump (c / 4) s
  s.answerEvery (.dmaAbort c) (Res.ok [s.reg (R.DMA_STATUS c), s.reg (R.DMA_RESIDUE c)])

/-- A run that a committed EN = 0 has ended (Table HB-8). -/
def dmaDisabled (c : Nat) (s : State) : State :=
  dmaEnd c ((setDmaStatus c (s.dmaRest c) 2 0 s).setReg (R.DMA_RESIDUE c) 0)

/-- The end of an abort (R384). -/
def dmaAborted (c : Nat) (residue : Word) (s : State) : State :=
  let s := (setDmaStatus c (s.dmaRest c) 2 0 s).setReg (R.DMA_RESIDUE c) residue
  let s := (dmaWriteBack c residue s).raise Ev.DMA_ABORTED (dmaUnit c) 0
  dmaEnd c (dmaMessage c s)

/-- The end of a run on an error (R386). -/
def dmaErrorEnd (c code : Nat) (residue : Word) (s : State) : State :=
  let s := (setDmaStatus c (s.dmaRest c) 3 code s).setReg (R.DMA_RESIDUE c) residue
  let s := (dmaWriteBack c residue s).raise Ev.DMA_ERR (dmaUnit c) 0
  dmaEnd c (dmaMessage c s)

/-- The run stops on an error: a read-back first where an earlier write exists and the host can be reached. -/
def dmaFail (c code : Nat) (residue : Word) (s : State) : State :=
  let x := s.chan c
  if x.wrote && s.host.linkUp then dmaRelease c (s.setChan c { x with phase := .readback 3, err := some (code, residue) })
  else dmaErrorEnd c code residue s

/-- Bytes of the current descriptor not moved; a free value where it has not been read (log entry 1). -/
def dmaResidue (c : Nat) (s : State) : Word × State :=
  match (s.chan c).desc with
  | some d => (w32 (d.total - (s.chan c).moved), s)
  | none => (Config.freeWord s.fresh, { s with fresh := s.fresh + 1 })

/-- The run goes on after a descriptor (R381). -/
def dmaNext (c : Nat) (s : State) : State :=
  let x := s.chan c
  if x.disabling then dmaDisabled c s else
  match x.desc with
  | some d => if d.isEnd then s.setChan c { x with phase := .tail false } else dmaFetch c (wAt d.words 0) s
  | none => dmaDisabled c s

/-- The channel runs and waits in one of the phases; in D3hot it issues no request and stands still (R361). -/
def State.dmaIn (s : State) (c : Nat) (p : DmaPhase → Bool) : Bool :=
  !s.host.d3hot && [Ds.RUNNING, Ds.ABORTING].contains (s.dmaState c) && p (s.chan c).phase

/-- The 32 bytes of a descriptor arrive (R380); a failed read stops the channel. -/
def descriptorFetch (c : Nat) (ws : List Word) (ok : Bool) (s : State) : State :=
  if !s.dmaIn c (· == .fetch) then s else
  let x := s.chan c
  if !ok then
    let (r, s) := dmaResidue c s
    dmaFail c De.HOST r s
  else
    let d : Desc := ⟨x.fetchAt, ws.take 8⟩
    let s := s.setChan c { x with desc := some d, phase := .data, moved := 0, p2hSeq := 0 }
    let e := s.descError d
    if e ≠ 0 then
      let s := if e = De.DARK ∧ (s.descRanges d).any (fun r => s.underTest r.1 r.2) then darkAccess 0x20 s else s
      dmaFail c e (w32 d.total) s
    else if d.p2h then
      match s.p2hSlot d with
      | some (slot, q, _) => holdMark d.pad slot (readerDma c) (s.setChan c { s.chan c with p2hSeq := q })
      | none => s
    else s

/-- A descriptor's data is finished, or its host requests have failed after `moved` bytes (R381, R386). -/
def descriptorDone (c : Nat) (data : List Byte) (ok : Bool) (moved : Nat) (s : State) : State :=
  if !s.dmaIn c (· == .data) || s.dmaState c != Ds.RUNNING then s else
  match (s.chan c).desc with
  | none => s
  | some d =>
    let dark := s.descDark d
    let (m, s) := if dark then (⟨Nat.min moved d.total, De.DARK⟩, s) else dmaMove c (if ok then d.total else Nat.min moved d.total) d data s
    if m.err ≠ 0 then dmaFail c m.err (w32 (d.total - m.bytes)) s
    else if !ok then dmaFail c De.HOST (w32 (d.total - m.bytes)) s
    else
      let s := dmaRelease c s
      if d.irq then s.setChan c { s.chan c with phase := .readback 0 } else dmaNext c s

/-- The re-read of a tail's word 0 returns (R381). -/
def tailReread (c : Nat) (w : Option Word) (s : State) : State :=
  match (s.chan c).phase with
  | .tail parked =>
    if s.dmaState c ≠ Ds.RUNNING || s.host.d3hot then s else
    match w with
    | none => dmaFail c De.HOST 0 s
    | some w =>
      if (s.chan c).disabling then dmaDisabled c s
      else if !bit w 0 then dmaFetch c w s
      else if parked then
        dmaPump (c / 4) ((s.setDmaState c Ds.PARKED).setChan c { s.chan c with phase := .none })
      else s.setChan c { s.chan c with phase := .readback 1 }
  | _ => s

/-- A channel parks: status, write-back, message, and the CHANNEL starts it fires (R381, R383, Table HB-4). -/
def dmaPark (c : Nat) (s : State) : State :=
  let s := (setDmaStatus c Ds.PARKED 1 0 s).setChan c { s.chan c with phase := .none }
  let s := dmaMessage c (dmaWriteBack c 0 s)
  dmaStarts (startIs 2 (fun k => k % 16 == c)) (dmaPump (c / 4) s)

/-- A completion read-back returns (R383). -/
def readbackDone (c : Nat) (ok : Bool) (s : State) : State :=
  match (s.chan c).phase with
  | .readback after =>
    if !s.dmaIn c (fun _ => true) then s else
    let (r, s) := dmaResidue c s
    match after, (s.chan c).err with
    | 3, some (code, residue) => dmaErrorEnd c code residue s
    | 3, none => s
    | 2, _ => if ok then dmaAborted c r s else dmaErrorEnd c De.HOST r s
    | 1, _ => if ok then (if (s.chan c).disabling then dmaDisabled c s else dmaPark c s) else dmaErrorEnd c De.HOST 0 s
    | _, _ =>
      if !ok then dmaErrorEnd c De.HOST 0 s
      else dmaNext c (dmaMessage c (dmaWriteBack c 0 (setDmaStatus c Ds.RUNNING 1 0 s)))
  | _ => s

/-- A host read request of the channel times out (R386). -/
def completionTimeout (c moved : Nat) (s : State) : State :=
  if !s.dmaIn c (· != .none) then s else
  match (s.chan c).phase with
  | .readback _ => readbackDone c false s
  | .tail _ => dmaFail c De.HOST 0 s
  | .data => descriptorDone c [] false moved s
  | _ =>
    let (r, s) := dmaResidue c s
    dmaFail c De.HOST r s

/-- An abort (R384): true where it will complete later. -/
def dmaAbort (c : Nat) (s : State) : Bool × State :=
  let st := s.dmaState c
  let x := s.chan c
  if st = Ds.RUNNING then
    if x.phase = .readback 3 then (true, s)
    else (true, (s.setDmaState c Ds.ABORTING).setChan c { x with phase := .abortBurst })
  else if st = Ds.QUEUED then
    let s := setDmaQueue (c / 4) ((s.dmaQueue (c / 4)).filter (· ≠ c)) s
    let r := if x.resume then (match x.desc with | some d => d.total | none => 0) else 0
    (false, dmaAborted c (w32 r) (s.setChan c { x with kept := keptNow c s }))
  else if st = Ds.PARKED then (false, dmaAborted c 0 (s.setChan c { x with kept := keptNow c s }))
  else (decide (st = Ds.ABORTING), s)
where
  /-- The settings in force now. -/
  keptNow (c : Nat) (s : State) : List Word :=
    [s.reg (R.DMA_CTRL c), s.reg (R.DMA_DBASE_HI c), s.reg (R.DMA_WB_LO c), s.reg (R.DMA_WB_HI c)]

/-- The burst, or coded line, in progress of an aborting channel is finished (R384). `moved` counts the bytes of
the descriptor moved in all. -/
def abortBurstDone (c moved : Nat) (data : List Byte) (s : State) : State :=
  if s.dmaState c ≠ Ds.ABORTING || !s.dmaIn c (· == .abortBurst) then s else
  let (m, s) := match (s.chan c).desc with
    | some d =>
      if (s.chan c).moved = 0 then dmaMove c (Nat.min moved d.total) d data s else (⟨0, 0⟩, s)
    | none => (⟨0, 0⟩, s)
  if m.err ≠ 0 then
    let (r, s) := dmaResidue c s
    dmaFail c m.err r s
  else
    let s := s.setChan c { s.chan c with phase := .readback 2 }
    if (s.chan c).wrote then s else readbackDone c true s

/-! ### Configuration (R387, R388) -/

/-- The registers DMA_SET writes. -/
def dmaSetRegs (c : Nat) (p : List Word) : List (Nat × Word) :=
  let at_ := [R.DMA_CTRL c, R.DMA_FIRST c, R.DMA_DBASE_HI c, R.DMA_WB_LO c, R.DMA_WB_HI c, R.DMA_TIMER c, R.DMA_PLAN c]
  (upTo 7).map (fun i => (at_.getD i 0, wAt p i))

/-- DMA_SET's parameters: START is one of Table HB-4, the period at least 10 µs. -/
def dmaSetLegal (p : List Word) : Chk :=
  firstOf [inRange (decide (F.DMA_CTRL_START.get (wAt p 0) ≤ 4)) 0,
    inRange (decide (10 ≤ F.DMA_TIMER_PERIOD_US.get (wAt p 5))) 5]

/-- The RANGE_TIMING conditions of a configuration: a CHANNEL start of the channel itself (Table HB-4), a START kind
or period outside its range. -/
def dmaRangeOk (s : State) : Bool :=
  (upTo 16).all (fun c =>
    let w := s.reg (R.DMA_CTRL c)
    !(F.DMA_CTRL_START.get w == 2 && F.DMA_CTRL_SRC.get w % 16 == c) && decide (F.DMA_CTRL_START.get w ≤ 4)
      && decide (10 ≤ F.DMA_TIMER_PERIOD_US.get (s.reg (R.DMA_TIMER c))))

/-- What a committed change of CTRL.EN does to each channel (Table HB-8). -/
def reactDma (old s : State) : State :=
  (upTo 16).foldl (fun t c =>
    let was := old.dmaEn c
    let on := t.dmaEn c
    if on && !was then (if t.dmaState c = Ds.OFF then t.setDmaState c Ds.IDLE else t)
    else if was && !on then
      let st := t.dmaState c
      if st = Ds.IDLE || st = Ds.PARKED then t.setDmaState c Ds.OFF
      else if st = Ds.QUEUED then
        dmaDisabled c (setDmaQueue (c / 4) ((t.dmaQueue (c / 4)).filter (· ≠ c)) t)
      else t.setChan c { t.chan c with disabling := true }
    else t) s

/-! ### Resets of the host bridge (R374) -/

/-- Every channel stops at once, without write-back or message. -/
def dmaStopAll (s : State) : State :=
  (upTo 16).foldl (fun t c =>
    let st := t.dmaState c
    let t := if st = Ds.OFF || st = Ds.IDLE then t
      else (setDmaStatus c (t.dmaRest c) 2 0 t).setReg (R.DMA_RESIDUE c) 0xFFFFFFFF
    let t := dmaRelease c (setDmaQueue (c / 4) [] (t.setChan c Chan.idle))
    t.answerEvery (.dmaAbort c) (Res.ok [t.reg (R.DMA_STATUS c), t.reg (R.DMA_RESIDUE c)])) s

/-- A reset of the host bridge, or a link-down that is not a reset. -/
def hostBridgeReset (kind : HbReset) (s : State) : State :=
  let s := [(0 : Fin 4), 1, 2, 3].foldl (fun t n =>
    writeQCtrl n (F.CMD_Q_CTRL_EN.put 0 (t.reg (R.CMD_Q_CTRL n))) t) s
  let s := dmaStopAll s
  let s := s.resetRegs msixPage
  let s := { s with host := { s.host with d3hot := false, backoff := false } }
  let down : State → State := fun t =>
    let t := { t with host := { t.host with linkUp := false } }
    ((t.setFld R.HB_LINK F.HB_LINK_SPEED 0).setFld R.HB_LINK F.HB_LINK_WIDTH 0).incSat R.HB_LINK F.HB_LINK_DOWNS 1
  let s := if kind = .flr then s else down s
  let s := s.raise Ev.HB_RESET 0 0
  if kind = .linkDown then s.raise Ev.HB_LINK_DOWN 0 0 else s

/-- A register of the DMA block, for REG_READs that R382 holds: the channel whose STATUS stands at the offset. -/
def dmaStatusAt (a : Nat) : Option Nat := (upTo 16).find? (fun c => R.DMA_STATUS c = a)

/-- A re-read of the channel's tail word is outstanding (R382). -/
def State.tailOut (s : State) (c : Nat) : Bool :=
  match (s.chan c).phase with | .tail _ => true | _ => false

end Sys2Proof.Machine
end

