-- ==== Sys2Proof/Machine/Domains.lean ====
section
/-! DEFINITION. Power domains on the tick (R71–R74, R442, R532): what a domain that switches off loses, readiness,
performance levels, and the pads latched meanwhile (R450). -/

namespace Sys2Proof.Machine

/-! ### Registers of a domain -/

/-- Registers whose offset satisfies `p` return to their reset values but for their ST fields, which the groom loads
from the live configuration (R532). -/
def keepST (p : Nat → Bool) (s : State) : State :=
  { s with regs := s.regs.filterMap (fun e =>
      if !p e.1 then some e else
      let v := (resetOf e.1 &&& ~~~ stMask e.1) ||| (e.2 &&& stMask e.1)
      if v = resetOf e.1 then none else some (e.1, v)) }

/-! ### What a domain holds beside its registers -/

/-- A lane whose quad switches off. -/
def loseLane (x : Nat) (s : State) : State :=
  let s := laneOff x s
  (s.setLane x LaneDyn.rest).setLink x LinkDyn.none

/-- A gate whose quad switches off: open frames end with it, and the slots of frames whose tags are not written are returned
unwritten. -/
def loseGate (g : Nat) (s : State) : State :=
  let s := (upTo 16).foldl (fun t c =>
    [(t.ctx g c).closing, (t.ctx g c).frame].foldl (fun t o =>
      match o with
      | some f => (match f.slot with | some i => returnSlot (F.GATE_TARGET_PADDOCK.get f.set.target) i t | none => t)
      | none => t) t) s
  s.setGate g GateDyn.rest

/-- Remap engines whose domain switches off: a destination slot being written is returned unwritten. -/
def loseRemaps (s : State) : State :=
  let s := (upTo 4).foldl (fun t n =>
    match (t.remap n).run.bind (fun r => r.dstSlot.map (fun i => (r.bind.dst, i))) with
    | some (p, i) => returnSlot p i t
    | none => t) s
  { s with remaps := [], meshes := [] }

/-- The stack is in self-refresh exactly while either DRAM domain is off (R305). -/
def settleDram (s : State) : State :=
  { s with store := { s.store with selfRefresh := !s.domainOn 0x31 || !s.domainOn 0x32 } }

/-- The host bridge's own state ends: rings, channels, link. -/
def loseBridge (s : State) : State :=
  let s := [(0 : Fin 4), 1, 2, 3].foldl (fun t n => ringStop n t) s
  let s := dmaStopAll s
  { s with host := ⟨false, false, [], [], false⟩ }

/-- Everything that domain `d` holds beside its registers is lost (R532; the frame store keeps its contents, R305). -/
def loseUnits (d : Nat) (s : State) : State :=
  if d < 0x10 then
    let s := { s with pwr := { s.pwr with stoppedSheds := s.pwr.stoppedSheds.filter (· ≠ d) } }
    (upTo 16).foldl (fun t i => t.setStall (16 * d + i) Stall.fresh) s
  else if d < 0x20 then { s with hay := zeroRange s.hay ((d - 0x10) * 2 ^ 22) (2 ^ 22),
                                 hayBad := s.hayBad.filter (fun g => g / 65536 ≠ d - 0x10) }
  else if d < 0x28 then loseGate (d - 0x20) ((upTo 4).foldl (fun t i => loseLane (4 * (d - 0x20) + i) t) s)
  else if d < 0x2C then (upTo 4).foldl (fun t i => loseLane (32 + 4 * (d - 0x28) + i) t) s
  else match d with
    | 0x2C => loseRemaps s
    | 0x2D => { s with heads := s.heads.map (fun e => (e.1, { Head.rest with lanes := e.2.lanes })) }
    | 0x2F => loseBridge s
    | 0x30 => { s with clk := { s.clk with txts := [] } }
    | _ => s

/-- Domain `d` switches off: its units and its registers but for the ST fields. -/
def domainLose (d : Nat) (s : State) : State := keepST (fun a => domainOf a == d) (loseUnits d s)

/-! ### Readiness (R74) -/

/-- Registers that a channel, a lane or a region shows of its live configuration when its domain becomes ready. -/
def wakeUnits (d : Nat) (s : State) : State :=
  if d = 0x2F then
    (upTo 16).foldl (fun t c => if t.dmaEn c then t.setDmaState c Ds.IDLE else t) s
  else s

/-- The domains in the list become ready; pads latched for them are released (R450). -/
def makeReady (ds : List Nat) (s : State) : State :=
  let s := s.setReadyBits (s.readyBits ||| maskOf ds)
  let s := { s with pwr := { s.pwr with padDomains := s.pwr.padDomains.filter (fun d => !ds.contains d) } }
  ds.foldl (fun t d => wakeUnits d t) s

/-- Domains switched on at the last apply become ready at a tick instant (R74), and their lanes go to TARGET. -/
def comingReady (s : State) : State :=
  let ds := s.pwr.coming
  if ds.isEmpty then s else
  let s := settleDram (makeReady ds { s with pwr := { s.pwr with coming := [] } })
  (upTo 48).foldl (fun t x => if ds.contains (laneDomain x) then reactTarget x true t else t) s

/-! ### Committed switches and levels (R71–R73) -/

/-- The switched domains whose ON bit differs between two configurations. -/
def switchedDomains (old s : State) : List Nat := (upTo 0x34).filter (fun d => old.domainOn d != s.domainOn d)

/-- What a committed change of the ON bits does (R74). -/
def reactPower (old s : State) : State :=
  (switchedDomains old s).foldl (fun t d =>
    if t.domainOn d then { t with pwr := { t.pwr with coming := t.pwr.coming ++ [d] } }
    else
      let t := domainLose d t
      let t := t.setReadyBits (t.readyBits &&& (2 ^ 52 - 1 - 2 ^ d))
      settleDram { t with pwr := { t.pwr with coming := t.pwr.coming.filter (· ≠ d),
                                              rebuild := t.pwr.rebuild.filter (· ≠ d),
                                              padDomains := d :: t.pwr.padDomains } }) s

/-- Shed `h` changes level between two configurations: its clocks stop (R72). -/
def levelChanged (old s : State) (h : Nat) : Bool := old.shedLevel h != s.shedLevel h

/-- A shed holds a running lockstep pair (R72). -/
def State.shedPaired (s : State) (h : Nat) : Bool :=
  (upTo 16).any (fun i => (s.stall (16 * h + i)).lock && decide ((s.stall (16 * h + i)).mode ≠ 0))

/-- LEVEL of Table TK-2: no shed that holds a running lockstep pair changes level. -/
def levelsOk (old s : State) : Bool := (upTo 16).all (fun h => !(levelChanged old s h && old.shedPaired h))

/-! ### Staged power commands (Table PW-7) -/

/-- LEVEL_SET's register write. -/
def levelSetRegs (u : BitVec 16) (p : List Word) (s : State) : List (Nat × Word) :=
  let i := uIndex u
  if i = 0x210 then [(R.PWR_FABRIC, wAt p 0 &&& 3)]
  else
    let h := i - 0x200
    [(R.PWR_LEVEL, Fld.put ⟨2 * h + 1, 2 * h⟩ (bits (wAt p 0) 1 0) (s.reg R.PWR_LEVEL))]

/-- LEVEL_SET names a level unit (R461) and a level. -/
def levelSetLegal (u : BitVec 16) (p : List Word) : Chk :=
  firstOf [inRange (decide (0x200 ≤ uIndex u ∧ uIndex u ≤ 0x210)) 0, inRange (bits (wAt p 0) 31 2 == 0) 0]

/-- DOMAIN_SET's register write. -/
def domainSetRegs (u : BitVec 16) (p : List Word) (s : State) : List (Nat × Word) :=
  let d := uIndex u - 0x100
  let a := if d < 32 then R.PWR_ON_LO else R.PWR_ON_HI
  [(a, Fld.put ⟨d % 32, d % 32⟩ (bits (wAt p 0) 0 0) (s.reg a))]

def domainSetLegal (u : BitVec 16) (p : List Word) : Chk :=
  firstOf [inRange (decide (0x100 ≤ uIndex u ∧ uIndex u < 0x134)) 0, inRange (bits (wAt p 0) 31 1 == 0) 0]

end Sys2Proof.Machine
end

