-- ==== Sys2Proof/Machine/Entry.lean ====
section
/-! DEFINITION. Idle, entry into Hold, Stow and Off, pads and wakes (R443–R454): the stop instant, the handshake with the
domains, what a completed entry leaves, and what a wake source does. -/

namespace Sys2Proof.Machine

/-! ### Idle (R444) -/

/-- Every lane goes after the state the hub now wants it in. -/
def wantLanes (s : State) : State :=
  (upTo 48).foldl (fun t x => if t.dark (laneDomain x) then t else reactTarget x true t) s

def idleBegin (s : State) : State := wantLanes { s with pwr := { s.pwr with idle := true } }

/-- Idle ends: the lanes leave doze (R444). -/
def idleEnd (s : State) : State := if s.pwr.idle then wantLanes { s with pwr := { s.pwr with idle := false } } else s

/-! ### The handshake (R445–R447) -/

/-- The hub's code of a sleep state in PWR_RESUME.FROM and in PMIC_SEQ (Tables PW-6, BS-8). -/
def SleepKind.code : SleepKind → Nat
  | .hold => 1 | .stow => 2 | .off => 3

/-- Domains a running test works on (R518). -/
def State.testedDomains (s : State) : List Nat :=
  let eye := match s.test.eye with | some e => [laneDomain e.lane] | none => []
  let mem := match s.test.mem with
    | some m =>
      if m.unit < 0x210 then [0x10 + (m.unit - 0x200)] else if m.unit < 0x220 then [m.unit - 0x210] else [0x31, 0x32]
    | none => []
  eye ++ mem ++ s.test.inj.filterMap (fun e => e.2.map (fun _ => laneDomain e.1))

/-- A stall runs TICK-mode work of an earlier tick. -/
def Stall.tickBusy (x : Stall) : Bool := x.mode == 1 && (x.state == .running || x.xfers != [] || x.launchOnRestart)

/-- Shed `d` runs TICK-mode work. -/
def State.shedBusy (s : State) (d : Nat) : Bool := decide (d < 0x10) && (upTo 16).any (fun i => (s.stall (16 * d + i)).tickBusy)

/-- A domain's answer to the groom (R446). -/
inductive Answer where
  | agree
  | delay
  | refuse (reason : Nat)
  deriving DecidableEq, Repr

/-- Why a domain cannot agree, and whether it refuses without a delay (Table PW-3, R375, R484, R518). -/
def State.blocker (s : State) (d : Nat) : Option (Nat × Bool) :=
  if d = 0x2F ∧ (upTo 16).any (fun c => [Ds.QUEUED, Ds.RUNNING, Ds.ABORTING].contains (s.dmaState c)) then some (1, false)
  else if d = 0x34 ∧ s.sec.flashJobs.any (fun j => j.kind = 1) then some (3, true)
  else if d = 0x33 ∧ s.sec.otpJobs ≠ [] then some (4, true)
  else if s.testedDomains.contains d then some (5, false)
  else none

/-- The first answer of a domain; one that is off agrees. -/
def State.answerOf (s : State) (d : Nat) : Answer :=
  if !s.domainOn d then .agree
  else match s.blocker d with
  | some (r, true) => .refuse r
  | some (_, false) => .delay
  | none => if s.shedBusy d then .delay else .agree

/-- Ask the domains from `d` on in ascending order until one delays or refuses (R446). -/
def askFrom : Nat → Nat → State → State
  | 0, _, s => s
  | n + 1, d, s =>
    match s.pwr.entry with
    | none => s
    | some e =>
      let at_ (delaying : Option Nat) : State := { s with pwr := { s.pwr with entry := some { e with next := d, delaying := delaying } } }
      if 0x34 < d then at_ none
      else match s.answerOf d with
      | .agree => askFrom n (d + 1) (at_ none)
      | .delay => at_ (some d)
      | .refuse r => (at_ none).endEntry 1 d r 0

/-- Ask from domain `d` on. -/
def askDomains (d : Nat) (s : State) : State := askFrom 0x36 d s

/-- An enabled head stops with the entry and holds STOPPED: no fault of the picture, so POLICY does not act (R38, R354,
R445). -/
def stopHead (n : Nat) (s : State) : State :=
  recordCause n 0xF Wc.STOPPED (s.setHead n { s.head n with stopped := true })

/-- The stop instant (R445): contexts flushed, heads stopping, and the first domain asked. -/
def stopInstant (s : State) : State :=
  match s.pwr.entry with
  | none => s
  | some e =>
    if e.stopped then s else
    let s := { s with tg := { s.tg with running := false },
                      groom := { s.groom with staging := { s.groom.staging with frozen := none } } }
    let s := (upTo 8).foldl (fun t g => if t.dark (0x20 + g) then t else
      (upTo 16).foldl (fun t c => if t.ctxState g c = Gs.free then t else flushCtx g c t) t) s
    let s := (upTo 4).foldl (fun t n => if t.flag (R.HEAD_CTRL n) F.HEAD_CTRL_EN && !t.dark 0x2D then stopHead n t else t) s
    askDomains 0 { s with pwr := { s.pwr with entry := some { e with stopped := true, stopTick := s.tickLo } } }

/-- SLEEP_ENTER with KIND Hold, Stow or Off is accepted (R445): the entry state, with nothing staged. -/
def entryBegin (kind : SleepKind) (dramSig : Bool) (s : State) : State :=
  let s := (idleEnd s).discardStaged
  let s := { s with pwr := { s.pwr with before := s.dstate, entry := some ⟨kind, dramSig, false, 0, 0, none⟩, lateWake := 0 } }
  s.goTo (match kind with | .hold => .holdEntry | _ => .stowEntry) 0x8B02

/-- Where no tick runs the stop instant is the acceptance itself (R445). -/
def entryGo (s : State) : State := if s.pwr.entry.isSome ∧ !s.tg.running then stopInstant s else s

/-- A unit's running work is abandoned at the end of its domain's delay: its report leaves with FAULT, and the stalls
stay bound (R446). -/
def abandonAsleep (n : Nat) (s : State) : State :=
  let x := s.stall n
  if !x.tickBusy then s else
  let s := settleStall n true x.truncIn x.usedCycles s
  let s := if x.owesDone then s.emit (.doneReport (BitVec.ofNat 16 (stallUnit n)) x.launchTick 2 x.usedCycles x.late) else s
  s.onPair n (fun y => { y with state := if y.state = .checker then .checker else .bound, xfers := [], owesDone := false,
                                late := false, launchOnRestart := false, truncIn := false })

/-- The stalls of a shed whose delay has ended, and the yards whose work ends with them. -/
def abandonShed (d : Nat) (s : State) : State :=
  let s := (upTo 16).foldl (fun t i => if t.isChecker (16 * d + i) then t else abandonAsleep (16 * d + i) t) s
  s.yards.foldl (fun t y => reportYard y.index t) s

/-- A domain's delay ends (R446). -/
def delayExpiry (d : Nat) (s : State) : State :=
  match s.pwr.entry with
  | none => s
  | some e =>
    if e.delaying ≠ some d then s
    else match s.blocker d with
    | some (r, _) => s.endEntry 1 d r 0
    | none => askDomains (d + 1) (abandonShed d s)

/-- A delaying domain becomes able to agree (R446). -/
def domainAgrees (d : Nat) (s : State) : State :=
  match s.pwr.entry with
  | none => s
  | some e => if e.delaying = some d ∧ s.answerOf d = .agree then askDomains (d + 1) s else s

/-- Every domain has agreed. -/
def EntrySt.agreed (e : EntrySt) : Bool := e.stopped && decide (0x34 < e.next)

/-- Domain `d` has agreed to the entry in progress: it holds new work (R446). -/
def State.holdsWork (s : State) (d : Nat) : Bool :=
  match s.pwr.entry with
  | some e => e.stopped && decide (d < e.next)
  | none => false

/-- Hold a piece of new work for a domain that has agreed; other work goes on at once (R446). -/
def State.holdOr (s : State) (d : Nat) (i : Work) (go : State → State) : State :=
  if s.holdsWork d then { s with pwr := { s.pwr with heldWork := s.pwr.heldWork ++ [i] } } else go s

/-! ### Pads (R450, R451) -/

/-- The level of each pad group as it is latched. -/
def State.padLevels (s : State) : SMap Nat :=
  let put (g v : Nat) (m : SMap Nat) : SMap Nat := SMap.put m 0 g v
  put 4 (b01 s.clk.ppsOut) (put 3 (b01 s.witnessLow + 2 * b01 s.faultLow + 4 * b01 s.irqLow)
    (put 2 255 (put 1 (s.pwr.gpio.toNat / 256) (put 0 (s.pwr.gpio.toNat % 256) []))))

/-- The switched domains that own a pad group (Table PW-4). -/
def padOwners (g : Nat) : List Nat :=
  match g with
  | 3 => [0x2D]
  | 5 => [0x30]
  | 6 => [0x28, 0x29, 0x2A, 0x2B]
  | 7 => (upTo 8).map (0x20 + ·)
  | _ => []

/-- Release pad groups; pads of a domain that is off wait for it. -/
def releasePads (mask : Nat) (s : State) : State :=
  let gs := (onesOf mask 8).filter (fun g => s.fld R.PWR_PADS F.PWR_PADS_HELD / 2 ^ g % 2 = 1)
  let s := s.setFld R.PWR_PADS F.PWR_PADS_HELD (s.fld R.PWR_PADS F.PWR_PADS_HELD - maskOf gs)
  let off := gs.flatMap (fun g => (padOwners g).filter (fun d => !s.domainOn d && !s.pwr.padDomains.contains d))
  let s := { s with pwr := { s.pwr with padLatch := s.pwr.padLatch.filter (fun e => !gs.contains e.1),
                                        padDomains := s.pwr.padDomains ++ off } }
  (upTo 48).foldl (fun t x =>
    if gs.contains (if x < 32 then 7 else 6) && !t.dark (laneDomain x) && t.pwr.resume == .awake then reactTarget x true t else t) s

/-- PAD_RELEASE (R451): only when every owning domain that is on is ready. -/
def padRelease (mask : Nat) (s : State) : Option State :=
  if ((onesOf mask 8).flatMap padOwners).any (fun d => s.domainOn d && !s.domainReady d) then none else some (releasePads mask s)

/-! ### Entry complete (R448–R450, R459) -/

/-- The signature of a bank: a value the model leaves free (log entry 4). -/
def signBank (b : Nat) (s : State) : State :=
  let (k, s) := s.draw
  s.setReg (R.PWR_SIG b) (Config.bankSig b k)

/-- The banks of a domain (Table PW-1). -/
def banksOf (d : Nat) : List Nat :=
  match d with
  | 0x33 => [0x33, 0x3A, 0x3B]
  | 0x34 => [0x34, 0x35, 0x36, 0x37, 0x38, 0x39]
  | _ => [d]

/-- The domains on, 0x34 with them. -/
def State.onDomains (s : State) : List Nat := (upTo 0x35).filter s.domainOn

/-- A lane goes down with the entry: its partner's IDENT is recorded (R459). -/
def laneAsleep (x : Nat) (s : State) : State :=
  let s := match (s.link x).ident with
    | some b =>
      let who := (BitVec.ofNat 16 (beNat (b.take 2)), BitVec.ofNat 16 (beNat ((b.drop 2).take 2)), w32 (identSerial b))
      { s with pwr := { s.pwr with idents := SMap.insert s.pwr.idents x who } }
    | none => s
  laneOff x (losePartner x true s)

/-- The PMIC sequence for the state being entered (R448, Table BS-8): each entry a write, whose result is free; the failures
are told at the next start of the groom (R480, log entry 53). -/
def sendPmic (kind : SleepKind) (s : State) : State :=
  (s.sec.pmic.filter (fun w => w.state = kind.code)).foldl (fun t w =>
    let (k, t) := t.draw
    let r := Config.freeNat k % 7
    let t := twNote w.twc r (t.emit (.twoWire w.twc w.addr w.data))
    if r = 0 then t else { t with pwr := { t.pwr with pmicFails := t.pwr.pmicFails ++ [(w.twc, r)] } })
    { s with pwr := { s.pwr with pmicFails := [] } }

/-- At its start the groom tells of a PMIC that did not answer a wake and of PMIC writes that failed (R454, R480). -/
def tellPmic (s : State) : State :=
  let n := s.pwr.pmicTimeouts
  let l := s.pwr.pmicFails
  let s := (upTo n).foldl (fun t _ => t.raise Ev.PMIC_TIMEOUT 0 0) { s with pwr := { s.pwr with pmicTimeouts := 0, pmicFails := [] } }
  l.foldl (fun t e => t.raise Ev.TW_FAIL (twUnit e.1) (evArg e.2 0 0)) s

/-- PWR_REQ is asserted for a wake (R454). -/
def wakeNow (sources : Nat) (s : State) : State :=
  let s := s.incSat R.PWR_CNT F.PWR_CNT_WAKES 1
  let s := if sources / 2 % 2 = 1 then s.incSat R.TWT_CNT F.TWT_CNT_WAKES 1 else s
  let s := s.setReg R.PWR_RESUME (F.PWR_RESUME_SOURCE.put sources (F.PWR_RESUME_FROM.put s.pwr.kind.code 0))
  { s with pwr := { s.pwr with pwrReq := true, resume := .waitPwrgood, wakeRtc := s.pwr.rtc.toNat, lateWake := 0 } }

/-- A wake that fired too late to stop the entry resumes the hub at once (R448). -/
def lateWakes (off : Bool) (s : State) : State := if s.pwr.lateWake = 0 ∨ off then s else wakeNow s.pwr.lateWake s

/-- All domains have agreed: the hub signs, saves, replies and sleeps (R448, R449). -/
def entryComplete (s : State) : State :=
  match s.pwr.entry with
  | none => s
  | some e =>
    if !e.agreed then s else
    let off := e.kind == .off
    let on := s.onDomains
    let s := { s with pwr := { s.pwr with cfgImage := true, flashCfg := none, dramSigned := e.dramSig && !off, onAtEntry := on, idents := [] } }
    let s := if off then s else (on.flatMap banksOf).foldl (fun t b => signBank b t) s
    let s := (((s.setFld R.PWR_ENTRY F.PWR_ENTRY_RESULT 0).setFld R.PWR_ENTRY F.PWR_ENTRY_DOMAIN 0).setFld
      R.PWR_ENTRY F.PWR_ENTRY_REASON 0).incSat R.PWR_CNT F.PWR_CNT_ENTRIES 1
    let s := s.answer .sleepEnter (Res.ok [s.reg R.PWR_ENTRY, e.stopTick])
    let s := sendPmic e.kind s
    let s := (upTo 48).foldl (fun t x => if t.dark (laneDomain x) then t else laneAsleep x t) s
    let levels := s.padLevels
    let s := (s.setFld R.PWR_PADS F.PWR_PADS_HELD 0xFF).setReadyBits 0
    let s := s.moveTo s.dstate 0xF004
    let s := { s with store := { s.store with selfRefresh := true }, groom := { s.groom with up := false },
                      sec := { s.sec with debugScopes := 0 } }
    let now := s.pwr.rtc.toNat
    let s := { s with pwr := { s.pwr with entry := none, kind := e.kind, resume := .asleep, pwrReq := false } }
    let s := { s with pwr := { s.pwr with pwrgood := false, padLatch := levels, entryRtc := now } }
    lateWakes off s

/-! ### Wake sources (R447, R452) -/

/-- The enabled sources among those that fire, pin in bit 0, then TWT0, PPS, RTC and link (Table PW-5). -/
def State.wakeMask (s : State) (own : Nat) (also : BitVec 5) : Nat :=
  (BitVec.ofNat 5 own ||| also).toNat &&& bits (s.reg R.PWR_WAKE) 4 0

/-- Sources fire: Idle ends, an entry aborts, or the hub wakes. -/
def wake (sources : Nat) (s : State) : State :=
  if sources = 0 then s else
  match s.pwr.entry with
  | some e =>
    if e.agreed then { s with pwr := { s.pwr with lateWake := s.pwr.lateWake ||| sources } }
    else s.endEntry 2 0xFF 0 sources
  | none =>
    if s.pwr.resume = .asleep then (if s.pwr.kind = .off then s else wakeNow sources s)
    else idleEnd s

/-- A wake source of Table PW-5 fires, with those of the same cycle. -/
def wakeSource (i : Nat) (also : BitVec 5) (s : State) : State := wake (s.wakeMask (2 ^ i) also) s

/-- A partner's detect tone on a lane: a source only where the lane is named (Table PW-5). -/
def toneWake (x : Nat) (also : BitVec 5) (s : State) : State :=
  let named := if x < 32 then bit (s.reg R.PWR_WAKE_RX) x else bit (s.reg R.PWR_WAKE_TX) (x - 32)
  if named then wakeSource 4 also s else s

/-- The RTC alarm fires where PWR_RTC equals PWR_RTC_ALARM. -/
def rtcAlarm (also : BitVec 5) (s : State) : State :=
  let alarm := (s.reg R.PWR_RTC_ALARM_LO).toNat + 2 ^ 32 * bits (s.reg R.PWR_RTC_ALARM_HI) 15 0
  if s.pwr.rtc.toNat = alarm then wakeSource 3 also s else s

/-- TWT0 sees its window address (R435): without its clock it wakes the hub and acknowledges nothing. -/
def twtMatch (addr : Nat) (also : BitVec 5) (s : State) : State :=
  if addr ≠ s.fld R.TWT_CTRL F.TWT_CTRL_ADDR ∨ !s.flag R.PWR_WAKE F.PWR_WAKE_EN_TWT then s
  else
    let s := if s.twtAwake then s else { s with pwr := { s.pwr with matched := some s.rtcFine } }
    wakeSource 1 also s

/-- No PWRGOOD within 100 ms (R454). -/
def pwrgoodTimeout (s : State) : State :=
  if s.pwr.resume ≠ .waitPwrgood then s
  else { s with pwr := { s.pwr with pwrReq := false, resume := .asleep, pmicTimeouts := s.pwr.pmicTimeouts + 1 } }

end Sys2Proof.Machine
end

