-- ==== Sys2Proof/Machine/Views.lean ====
section
/-! DEFINITION. What a register read returns (R56, R525, R530): the stored word, or the view of state that stands
elsewhere; and the read latches of Table RM-2. -/

namespace Sys2Proof.Machine

/-! ### Computed fields -/

/-- TOP_UNITS (Table RM-3, R2). -/
def State.topUnits (s : State) : Word := if s.part.ab then 0x00801010 else 0x01001020

/-- TOP_ID (R6, R535). -/
def State.topId (s : State) : Word := w32 (0x96320000 + 0x2B7 * 32 + 4 * (s.part.major % 8) + s.part.minor % 4)

/-- TOP_FW_VER: 0 in BOOT and STANDALONE. -/
def State.fwVer (s : State) : Word :=
  match s.sec.fw with
  | some f => if s.dstate = .boot ∨ s.dstate = .standalone then 0 else f.1
  | none => 0

/-- State of owner slot k, 1–4 (SEC_KEYS). -/
def Otp.slot (o : Otp) (k : Nat) : Nat := SMap.get o.slotState 0 k

/-- Lifecycle: 1 VENDOR, 2 OWNED (R470). -/
def Otp.lifecycle (o : Otp) : Nat := if (upTo 5).all (fun k => o.slot k == 0) then 1 else 2

/-- SVN floor of an image TYPE 1–3 (Table BS-6). -/
def Otp.floor (o : Otp) (t : Nat) : Nat := SMap.get o.svn 0 t

def State.secStatus (s : State) : Word :=
  let o := s.sec.otp
  w32 (o.lifecycle + 4 * b01 o.cmdAuth + 8 * b01 o.allowDevsig + 16 * b01 o.debugDisable + 32 * b01 o.vendorRevoked
    + 64 * b01 (s.sec.debugScopes != 0) + 128 * b01 s.sec.trngOk)

def State.secStraps (s : State) : Word :=
  let t := s.sec.straps
  w32 (t.twtAs + 4 * t.bootSel + 16 * t.mosSel + 64 * t.medSel)

def State.secKeys (s : State) : Word :=
  w32 (s.sec.otp.slot 1 + 4 * s.sec.otp.slot 2 + 16 * s.sec.otp.slot 3 + 64 * s.sec.otp.slot 4)

def State.secSvn (s : State) : Word := w32 (s.sec.otp.floor 1 + 256 * s.sec.otp.floor 2 + 65536 * s.sec.otp.floor 3)

/-- Open credential handles. -/
def State.openCreds (s : State) : Nat := (s.sec.creds.filter (·.live)).length

/-- EV_CTRL(n): a reserved source reads 0 (R491); fixed route bits read 1 (R493). -/
def State.evCtrl (s : State) (n : Nat) : Word :=
  let w := s.reg (R.EV_CTRL n)
  if evReserved n then 0
  else if n = Ev.GROOM_MISCOMPARE then F.EV_CTRL_FAULT.put 1 w
  else if n = Ev.TEMP_CRIT then F.EV_CTRL_SAFE.put 1 (F.EV_CTRL_FAULT.put 1 w)
  else w

/-! ### The view of a register -/

/-- Lane number of an offset in a lane-indexed page. -/
def laneAt (off : Nat) : Nat := off / 0x40

/-- The value a read of the listed register at `a` returns, latches aside. -/
def State.viewAt (s : State) (a : Nat) : Word :=
  let off := a % 0x10000
  let w := s.reg a
  match a / 0x10000 with
  | 0x00 => if off = 0 then s.topId else if off = 4 then s.topUnits else if off = 8 then s.sec.otp.serial else s.fwVer
  | 0x01 => if off = 0 then w32 (s.dstate.code + 65536 * s.cause.toNat) else w
  | 0x02 =>
    if a = R.TICK_COUNT_LO then s.tickLo
    else if a = R.TICK_COUNT_HI then w32 (s.tg.count.toNat / 2 ^ 32)
    else if a = R.STAGE_FILL then w32 (s.groom.staging.fill.length + 65536 * s.groom.staging.future.length)
    else w
  | 0x03 => if off < 0x100 ∧ off % 0x40 = 0x2C then s.qStatus (off / 0x40) else w
  | 0x04 => if a = R.EV_LOG then F.EV_LOG_UNREAD.put s.ev.log.length w
    else if 0x400 ≤ off then s.evCtrl ((off - 0x400) / 4) else w
  | 0x05 =>
    if a = R.PWR_ON_LO then w32 s.onBits
    else if a = R.PWR_ON_HI then w32 (s.onBits / 2 ^ 32)
    else if a = R.PWR_RTC_LO then w32 (s.pwr.rtc.toNat % 2 ^ 32)
    else if a = R.PWR_RTC_HI then w32 (s.pwr.rtc.toNat / 2 ^ 32)
    else w
  | 0x06 =>
    if off = 0 then s.secStatus else if off = 4 then s.secStraps else if off = 8 then s.secKeys
    else if off = 0xC then s.secSvn else if off = 0x18 then F.SEC_CRED_OPEN.put s.openCreds w else w
  | 0x07 =>
    if 0x400 ≤ off then w else
    let v := (s.tb (off / 0x100)).val
    if off % 0x100 = 0x2C then w32 (nsOf (v / 2 ^ 48))
    else if off % 0x100 = 0x30 then w32 (secOf (v / 2 ^ 48) % 2 ^ 32)
    else if off % 0x100 = 0x34 then w32 (secOf (v / 2 ^ 48) / 2 ^ 32 % 2 ^ 16 + 65536 * (v / 2 ^ 32 % 2 ^ 16))
    else w
  | 0x08 => if off < 0x400 ∧ off % 0x100 = 0x24 then F.ETH_TXTS_DEPTH.put (SMap.get s.clk.txts [] (off / 0x100)).length w else w
  | 0x0C => if off < 0x100 then s.dmaEng (off / 4) else w
  | 0x10 =>
    if off % 0x40 = 0x14 then s.laneEye (laneAt off)
    else if off % 0x40 = 0x18 then s.laneDfe (laneAt off) false
    else if off % 0x40 = 0x1C then s.laneDfe (laneAt off) true
    else w
  | 0x14 => if 0x240 ≤ off % 0x400 ∧ off % 0x400 < 0x280 then s.gateStatusView (off / 0x400) ((off % 0x400 - 0x240) / 4) else w
  | 0x18 =>
    if off < 0x800 then (if off % 8 = 0 then s.stallStatus (off / 8) else s.stallPc (off / 8))
    else if off % 8 = 0 then F.SHED_STATUS_LEVEL.put (s.shedLevel ((off - 0x800) / 8)) w else w
  | 0x1C =>
    if 0x400 ≤ off ∧ off < 0x500 then F.MESH_STATUS_PENDING.put (b01 (s.mesh ((off - 0x400) / 4)).next.isSome) w else w
  | 0x20 =>
    if off = 0 then F.FS_STATUS_DARK.put (b01 (bit (s.reg (R.HB_DARK 1)) 0)) w
    else if 0x400 ≤ off then (if off % 8 = 0 then s.padStatus ((off - 0x400) / 8) else s.padSeq ((off - 0x400) / 8))
    else w
  | _ => w

/-- The WO fields of the register at an offset: they read 0 (Table SC-3). -/
def woMask (a : Nat) : Word := match rowAt a with | some r => BitVec.ofNat 32 r.wo | none => 0

/-- The value of the register at an offset: 0 for an unlisted offset (R525), for a register that this kind of lane
lacks (R163) and for a fused-off set (R4). -/
def State.view (s : State) (a : Nat) : Word :=
  if (rowAt a).isNone || laneLacks a || fusedReg s.part.ab a then 0 else s.viewAt a &&& ~~~ woMask a

/-- The views of several registers. -/
def State.views (s : State) (l : List Nat) : List Word := l.map s.view

/-! ### Read latches (R530, Table RM-2) -/

/-- A latched group: its number, first register and the others. -/
structure LatchGroup where
  no : Nat
  first : Nat
  rest : List Nat
  deriving DecidableEq, Repr

/-- The groups of Table RM-2. -/
def latchGroups : List LatchGroup :=
  ⟨0, R.TICK_COUNT_LO, [R.TICK_COUNT_HI]⟩ :: (upTo 4).map (fun n => ⟨1 + n, R.TB_NS n, [R.TB_S_LO n, R.TB_S_HI n]⟩)
  ++ [⟨5, R.PPS_IN_NS, [R.PPS_IN_S_LO, R.PPS_IN_INFO]⟩, ⟨6, R.PWR_RTC_LO, [R.PWR_RTC_HI]⟩]
  ++ (upTo 48).map (fun x => ⟨7 + x, R.TEST_BITS_LO x, [R.TEST_BITS_HI x]⟩)

/-- Key of a group's latch on a path: 0 for BAR0, 1 + portNo for a command source. -/
def latchKey (path group : Nat) : Nat := 64 * path + group

/-- The path of a command source. -/
def srcPath (src : Source) : Nat := 1 + Source.portNo src

/-- A locked checker has counted on when its counters are looked at (R510). -/
def sampleFor (a : Nat) (s : State) : State :=
  if a / 0x10000 = 0x12 ∧ a % 0x10000 < 0xC00 ∧ (a % 0x40 = 0x10 ∨ a % 0x40 = 0x18)
  then checkerSample (laneAt (a % 0x10000)) s else s

/-- A 4-byte read of a live register on a path. -/
def readReg (path a : Nat) (s : State) : Word × State :=
  let s := sampleFor a s
  match latchGroups.find? (fun g => g.first = a) with
  | some g => (s.view a, { s with latches := SMap.put s.latches [] (latchKey path g.no) (s.views g.rest) })
  | none =>
    match latchGroups.find? (fun g => g.rest.contains a) with
    | some g => (wAt (SMap.get s.latches [] (latchKey path g.no)) (g.rest.idxOf a), s)
    | none => (s.view a, s)

/-- An 8-byte read of live registers: both sampled at once, the latch left alone (R363, R530). -/
def readWide (a : Nat) (s : State) : List Word × State :=
  let s := sampleFor a s
  ([s.view a, s.view (a + 4)], s)

/-- A host read of one of the latched groups' first registers through BAR0 (R361, R362, R369). -/
def hostRead (a : Nat) (wide : Bool) (s : State) : State :=
  if !s.bridgeOpen || (wide && a % 8 != 0) then s.emit .unsupported
  else if fusedReg s.part.ab a then s.emit (.readData (List.replicate (1 + b01 wide) 0))
  else if s.darkReg a then darkAccess (a / 0x10000) (s.emit (.readData (List.replicate (1 + b01 wide) 0xFFFFFFFF)))
  else if wide then let (ws, s) := readWide a s; s.emit (.readData ws)
  else let (w, s) := readReg 0 a s; s.emit (.readData [w])

def execTickCountLo (wide : Bool) (s : State) : Host.Outcome State Fault Refusal := .next (hostRead R.TICK_COUNT_LO wide s)
def execTbNs (n : Fin 4) (wide : Bool) (s : State) : Host.Outcome State Fault Refusal := .next (hostRead (R.TB_NS n) wide s)
def execPpsInNs (wide : Bool) (s : State) : Host.Outcome State Fault Refusal := .next (hostRead R.PPS_IN_NS wide s)
def execPwrRtcLo (wide : Bool) (s : State) : Host.Outcome State Fault Refusal := .next (hostRead R.PWR_RTC_LO wide s)
def execTestBitsLo (x : Fin 48) (wide : Bool) (s : State) : Host.Outcome State Fault Refusal :=
  .next (hostRead (R.TEST_BITS_LO x) wide s)

end Sys2Proof.Machine
end

