-- ==== Sys2Proof/Machine/RegOps.lean ====
section
/-! DEFINITION. Direct register writes (R41, R528, R538): the RW, W1C and WO fields of a register and what a write of
them does besides. -/

namespace Sys2Proof.Machine

/-- RW and W1C masks of the register at an offset. -/
def rwMask (a : Nat) : Word := match rowAt a with | some r => BitVec.ofNat 32 r.rw | none => 0
def w1cMask (a : Nat) : Word := match rowAt a with | some r => BitVec.ofNat 32 r.w1c | none => 0

/-- A plain write: RW fields take the value, ones clear W1C fields, the rest stays (R528, R13). -/
def writePlain (a : Nat) (w : Word) (s : State) : State :=
  let old := s.reg a
  s.setReg a (((old &&& ~~~ rwMask a) ||| (w &&& rwMask a)) &&& ~~~ (w &&& w1cMask a))

/-- EV_CTRL(n): reserved sources and fixed route bits ignore writes (R491, R493). -/
def writeEvCtrl (n : Nat) (w : Word) (s : State) : State :=
  if evReserved n then s else
  let keep := if n = Ev.GROOM_MISCOMPARE then [9] else if n = Ev.TEMP_CRIT then [9, 10] else []
  writePlain (R.EV_CTRL n) (keep.foldl (fun w b => Fld.put ⟨b, b⟩ 0 w) w) s

/-- EV_TEMP: a write that sets WARN_C at or above CRIT_C is ignored (R498). -/
def writeEvTemp (w : Word) (s : State) : State :=
  if F.EV_TEMP_CRIT_C.get w ≤ F.EV_TEMP_WARN_C.get w then s else writePlain R.EV_TEMP w s

/-- ETH_MDIO_CMD: GO starts one operation; while one is in progress a write of GO is ignored (R405). -/
def writeMdio (w : Word) (s : State) : State :=
  let go := F.ETH_MDIO_CMD_GO.get w == 1
  if go && s.flag R.ETH_MDIO_CMD F.ETH_MDIO_CMD_BUSY then s else
  let s := writePlain R.ETH_MDIO_CMD w s
  if !go then s else
  (s.setFlag R.ETH_MDIO_CMD F.ETH_MDIO_CMD_BUSY true).emit (.mdio (F.ETH_MDIO_CMD_CL45.get w == 1) (F.ETH_MDIO_CMD_OP.get w)
    (F.ETH_MDIO_CMD_PHYAD.get w) (F.ETH_MDIO_CMD_REG.get w) ((s.reg R.ETH_MDIO_DATA).extractLsb' 0 16))

/-- An MDIO operation ends: a read gives its data, or ERR and 0xFFFF where no PHY drives it (R405). -/
def mdioDone (data : Option (BitVec 16)) (s : State) : State :=
  if s.dark 0x30 || !s.flag R.ETH_MDIO_CMD F.ETH_MDIO_CMD_BUSY then s else
  let s := s.setFlag R.ETH_MDIO_CMD F.ETH_MDIO_CMD_BUSY false
  let op := s.fld R.ETH_MDIO_CMD F.ETH_MDIO_CMD_OP
  let read := if s.flag R.ETH_MDIO_CMD F.ETH_MDIO_CMD_CL45 then op == 3 else op == 2
  if !read then s else
  let s := s.setFlag R.ETH_MDIO_DATA F.ETH_MDIO_DATA_ERR data.isNone
  s.setFld R.ETH_MDIO_DATA F.ETH_MDIO_DATA_DATA (match data with | some d => d.toNat | none => 0xFFFF)

/-- An MSI-X table entry's mask: unmasking sends a pending message (log entry 9). -/
def writeMsixCtrl (v : Nat) (w : Word) (s : State) : State :=
  let s := writePlain (R.MSIX_CTRL v) w s
  if bit (s.reg (R.MSIX_CTRL v)) 0 || !bit (s.reg (R.MSIX_PBA (v / 32))) (v % 32) then s
  else (s.setReg (R.MSIX_PBA (v / 32)) (s.reg (R.MSIX_PBA (v / 32)) &&& ~~~ (w32 (2 ^ (v % 32))))).sendMsix v

/-- HEADn_ALARM: W1C causes, and ACK (R353). -/
def writeAlarm (n : Nat) (w : Word) (s : State) : State :=
  let s := writePlain (R.HEAD_ALARM n) w s
  if F.HEAD_ALARM_ACK.get w = 1 then alarmAck n s else s

/-- A write of CMD_RQn_HEAD frees reply-ring room (R90). -/
def writeRqHead (n : Nat) (w : Word) (s : State) : State := (writePlain (R.CMD_RQ_HEAD n) w s).pumpRing n

/-- A write of CMD_SQn_TAIL is the doorbell by whatever route it comes (Table CM-5, R538): the groom reads host memory from
HEAD to TAIL. The CMD_SQ_TAIL step says what it reads there; on every other route the words are free (log entry 45). -/
def writeSqTail (n : Nat) (w : Word) (s : State) : State :=
  let s := writePlain (R.CMD_SQ_TAIL n) w s
  if !s.ringActive n then s else
  let used := ringUsed (s.ringLog2 n) (s.fld (R.CMD_SQ_HEAD n) F.CMD_SQ_HEAD_HEAD) (s.fld (R.CMD_SQ_TAIL n) F.CMD_SQ_TAIL_TAIL)
  let k := s.fresh
  { s with fresh := k + 4 * used }.setPort n { s.port n with unserved := (upTo (4 * used)).map (fun i => Config.freeWord (k + i)) }

/-- A direct write of one live register, ST fields aside. An unlisted offset ignores it (R525). -/
def writeReg (a : Nat) (w : Word) (s : State) : State :=
  let off := a % 0x10000
  if (rowAt a).isNone || laneLacks a then s else
  match a / 0x10000 with
  | 0x03 =>
    if h : off / 0x40 < 4 then
      (if off % 0x40 = 0x08 then writeQCtrl ⟨off / 0x40, h⟩ w s
      else if off % 0x40 = 0x0C then writeSqTail (off / 0x40) w s
      else if off % 0x40 = 0x1C then writeRqHead (off / 0x40) w s else writePlain a w s)
    else writePlain a w s
  | 0x04 => if a = R.EV_TEMP then writeEvTemp w s else if 0x400 ≤ off then writeEvCtrl ((off - 0x400) / 4) w s else writePlain a w s
  | 0x08 => if a = R.ETH_MDIO_CMD then writeMdio w s else writePlain a w s
  | 0x0A => if a = R.HB_PWLOG_STATUS then writePwStatus w s else writePlain a w s
  | 0x0B => if off < 0x400 ∧ off % 0x10 = 0xC then writeMsixCtrl (off / 0x10) w s else writePlain a w s
  | 0x0C =>
    let c := (off - 0x100) / 0x40
    if 0x100 ≤ off ∧ (off - 0x100) % 0x40 = 0x18 then (if bit w 0 then dmaDoorbell c s else s)
    else if 0x100 ≤ off ∧ (off - 0x100) % 0x40 = 0x30 then (if bit w 0 then (dmaAbort c s).2 else s)
    else writePlain a w s
  | 0x12 => if off < 0xC00 ∧ off % 0x40 = 4 then writePchk (laneAt off) w s else writePlain a w s
  | 0x20 => if a = R.FS_STATUS then (if bit w 0 then s.setReg (R.HB_DARK 1) (s.reg (R.HB_DARK 1) &&& ~~~ 1) else s) else writePlain a w s
  | 0x24 => if off % 0x1000 = 0x1C then writeAlarm (off / 0x1000) w s else writePlain a w s
  | _ => writePlain a w s

def execMdioComplete (data : Option (BitVec 16)) (s : State) : Host.Outcome State Fault Refusal := .next (mdioDone data s)

end Sys2Proof.Machine
end

