-- ==== Sys2Proof/Machine/Image.lean ====
section
/-! DEFINITION. Signed images and the boot flash (R463–R466, R469–R472, R480, R483): reading an image from flash or
heap, the checks of Table BS-4, the payload formats, and what an image that applies changes. -/

namespace Sys2Proof.Machine

/-! ### Reading (R463–R465) -/

/-- Where an image stands: in flash or in the heap, with its first address and the length it may take. -/
inductive ImgAt where
  | flash (off len : Nat)
  | heap (addr len : Nat)
  deriving DecidableEq, Repr

def ImgAt.len : ImgAt → Nat
  | .flash _ n => n
  | .heap _ n => n

/-- Bytes of the boot flash; an erased byte reads 0xFF. -/
def State.flashBytes (s : State) (a n : Nat) : List Byte := (upTo n).map (fun i => SMap.get s.sec.flash 0xFF (a + i))

/-- Every sector of a flash range can be read. -/
def State.flashGood (s : State) (a n : Nat) : Bool :=
  s.sec.flashBad.all (fun k => !decide (k * 4096 < a + n ∧ a < (k + 1) * 4096))

/-- Bytes of an image from an offset within it. -/
def ImgAt.read (s : State) (w : ImgAt) (o n : Nat) : List Byte :=
  match w with
  | .flash a _ => s.flashBytes (a + o) n
  | .heap a _ => s.fsRead (a + o) n

/-- A range of an image reads without error (check 0x07). -/
def ImgAt.good (s : State) (w : ImgAt) (n : Nat) : Bool :=
  match w with
  | .flash a _ => s.flashGood a n
  | .heap a _ => !s.fsDark && (s.poisonIn a n).isEmpty && !s.underTest a n

/-- A signed image as read (R465, Table BS-3). -/
structure Img where
  header : List Byte
  payload : List Byte
  trailer : List Byte
  deriving DecidableEq, Repr

def Img.magic (i : Img) : Nat := leNat (i.header.take 4)
def Img.type (i : Img) : Nat := bAt i.header 4
def Img.format (i : Img) : Nat := bAt i.header 5
def Img.key (i : Img) : Nat := bAt i.header 6
def Img.ver (i : Img) : Nat := leNat ((i.header.drop 8).take 4)
def Img.svn (i : Img) : Nat := leNat ((i.header.drop 12).take 4)
def Img.payloadBytes (i : Img) : Nat := leNat ((i.header.drop 16).take 4)
def Img.target (i : Img) : Nat := leNat ((i.header.drop 20).take 4)
def Img.pubKey (i : Img) : List Byte := i.trailer.take 97
def Img.signature (i : Img) : List Byte := (i.trailer.drop 97).take 96

/-- SHA-384 of header and payload. -/
def Img.digest (i : Img) : BitVec 384 := Config.sha384 (i.header ++ i.payload)

/-- Bytes of an image with a payload of `n` bytes: header, padded payload and trailer. -/
def imgSize (n : Nat) : Nat := 64 + ceilDiv n 4 * 4 + 256

/-- The image read from a place. -/
def readImg (s : State) (w : ImgAt) : Img :=
  let h := w.read s 0 64
  let n := leNat ((h.drop 16).take 4)
  ⟨h, w.read s 64 n, w.read s (64 + ceilDiv n 4 * 4) 256⟩

/-- All bytes of an image. -/
def Img.whole (i : Img) : List Byte := i.header ++ padTo 0 4 i.payload ++ i.trailer

/-! ### Payload formats (R472, R480, Table BS-8) -/

/-- Sections of a configuration payload: type and body; none where the headers break R480. -/
def sections : Nat → List Byte → Option (List (Nat × List Byte))
  | _, [] => some []
  | 0, _ => none
  | k + 1, bs =>
    let n := leNat ((bs.drop 4).take 4)
    if bs.length < 8 + n ∨ n % 4 ≠ 0 ∨ bAt bs 0 < 1 ∨ 5 < bAt bs 0 ∨ bAt bs 1 ≠ 0 ∨ bAt bs 2 ≠ 0 ∨ bAt bs 3 ≠ 0 then none
    else (sections k (bs.drop (8 + n))).map (fun l => (bAt bs 0, (bs.drop 8).take n) :: l)

def sectionsOf (bs : List Byte) : Option (List (Nat × List Byte)) := sections (bs.length / 8) bs

/-- Bodies of the sections of one type. -/
def bodies (t : Nat) (l : List (Nat × List Byte)) : List (List Byte) := (l.filter (fun e => e.1 = t)).map (·.2)

/-- The commands of a COMMANDS body; none where its packets do not fill it (Table BS-8). -/
def commandsOf (bs : List Byte) : Option (List Cmd) :=
  let ws := bytesWords bs
  let l := ringPackets .image ws.length ws
  if (l.map (·.2)).sum = ws.length then some (l.map (·.1)) else none

/-- Every command of the image's COMMANDS sections, in order. -/
def imageCommands (l : List (Nat × List Byte)) : Option (List Cmd) :=
  ((bodies 2 l).mapM commandsOf).map List.flatten

/-- A command as an image may hold it (Table BS-8). -/
def imageCmdOk (c : Cmd) : Bool := c.pkt.stage && c.pkt.applyTick == 0 && c.pkt.cred == 0 && !c.pkt.chain

/-- Key hashes of 48 bytes. -/
def hashes (bs : List Byte) : List (BitVec 384) :=
  (upTo (bs.length / 48)).map (fun i => BitVec.ofNat 384 (beNat ((bs.drop (48 * i)).take 48)))

/-- Entries of a PMIC_SEQ body; none where one breaks its form. -/
def pmicOf : Nat → List Byte → Option (List PmicWrite)
  | _, [] => some []
  | 0, _ => none
  | k + 1, bs =>
    let n := bAt bs 3
    let size := ceilDiv (4 + n) 4 * 4
    if bAt bs 0 < 1 ∨ 3 < bAt bs 0 ∨ 3 < bAt bs 1 ∨ 127 < bAt bs 2 ∨ n < 1 ∨ 8 < n ∨ bs.length < size then none
    else (pmicOf k (bs.drop size)).map (fun l => ⟨bAt bs 0, bAt bs 1, bAt bs 2, (bs.drop 4).take n⟩ :: l)

def pmicWrites (bs : List Byte) : Option (List PmicWrite) := pmicOf (bs.length / 4) bs

/-- A configuration payload keeps Table BS-8; `saved` for a saved image. -/
def configOk (saved : Bool) (bs : List Byte) : Bool :=
  match sectionsOf bs with
  | none => false
  | some l =>
    let count (t : Nat) : Nat := (bodies t l).length
    (match imageCommands l with
     | some cs => decide (cs.length ≤ 4096) && cs.all imageCmdOk
     | none => false)
    && (if saved then (match l with | (1, b) :: rest => decide (b.length = 48) && rest.all (fun e => decide (e.1 = 2)) | _ => false)
        else decide (count 1 = 0 ∧ count 3 ≤ 1 ∧ count 4 ≤ 1 ∧ count 5 ≤ 1))
    && (bodies 3 l).all (fun b => decide (b.length % 48 = 0 ∧ 1 ≤ b.length / 48 ∧ b.length / 48 ≤ 16))
    && (bodies 4 l).all (fun b => decide (b.length % 48 = 0 ∧ 1 ≤ b.length / 48 ∧ b.length / 48 ≤ 8))
    && (bodies 5 l).all (fun b => (pmicWrites b).isSome)

/-- An enrolment payload keeps R472. -/
def enrolOk (bs : List Byte) : Bool :=
  decide (bs.length = 52 ∧ bAt bs 0 ≤ 4 ∧ bAt bs 1 < 8 ∧ bAt bs 2 = 0 ∧ bAt bs 3 = 0)
  && (decide (bAt bs 0 ≠ 0) || (bs.drop 4).all (· == 0))

/-- The objects of a library payload, which stand back to back. -/
def libObjects (key : Nat) : Nat → List Byte → List KObj
  | 0, _ => []
  | k + 1, bs =>
    let n := 64 + hdrWord bs 3 + hdrWord bs 4
    if bs.length < 64 ∨ hdrWord bs 0 ≠ 0x4F4B584B ∨ bs.length < n then []
    else
      let o := bs.take n
      let rest := libObjects key k (bs.drop n)
      if objectOk o then ⟨BitVec.ofNat 16 (hdrWord o 2), BitVec.ofNat 16 (hdrWord o 2 / 65536), key, o⟩ :: rest else rest

def objectsOf (key : Nat) (payload : List Byte) : List KObj := libObjects key (payload.length / 64) payload

/-- KERNEL_IDs reserved for the library's own kernels (Table IF-1). -/
def reservedIds : List Nat := [0x100, 0x110, 0x111, 0x120, 0x130]

/-- No object of a library takes a reserved KERNEL_ID but the library's kernel of it (R232). -/
def reservedOk (payload : List Byte) : Bool :=
  (objectsOf 0 payload).all (fun o => !reservedIds.contains o.kernelId.toNat || Config.libraryKernel o.bytes)

/-- Check 0x09: the payload follows its format. -/
def payloadOk (type : Nat) (saved : Bool) (bs : List Byte) : Bool :=
  match type with
  | 3 => configOk saved bs
  | 5 => enrolOk bs
  | 2 => reservedOk bs
  | _ => true

/-! ### Verification (R466, R471, Table BS-4) -/

/-- KEY names an accepted, programmed and unrevoked key for the TYPE (Table BS-2, R471). -/
def keyOk (o : Otp) (type : Nat) (saved : Bool) (key : Nat) : Bool :=
  let owner := decide (1 ≤ key ∧ key ≤ 4) && o.slot key == 1
  match type with
  | 1 | 2 => (key == 0 && !o.vendorRevoked) || owner
  | 3 => if saved then key == 15 else owner || (key == 0 && o.lifecycle == 1)
  | 5 => owner || (key == 0 && o.lifecycle == 1)
  | _ => false

/-- The stored hash for a KEY. -/
def State.keyHash (s : State) (key : Nat) : BitVec 384 :=
  if key = 0 then s.sec.otp.vendorHash
  else if key = 15 then Config.sha384 (Config.devicePublic s.sec.otp.uniqueSecret)
  else SMap.get s.sec.otp.ownerHash 0 key

/-- Payload limit of a TYPE (Table BS-2). -/
def payloadLimit (type : Nat) : Nat :=
  match type with
  | 1 => 1572864 | 2 => 33554432 | 3 => 1048576 | 4 => 8192 | _ => 52

/-- The first check of Table BS-4 that an image fails; none when it passes them all. -/
def imgCheck (s : State) (types : List Nat) (saved : Bool) (w : ImgAt) (i : Img) : Option Nat :=
  if !(decide (i.magic = 0x4B585349 ∧ i.format = 1) && types.contains i.type) then some 1
  else if !(bAt i.header 7 == 0 && (i.header.drop 24).all (· == 0)
      && (i.target == 0 || i.target == s.sec.otp.serial.toNat)) then some 2
  else if !keyOk s.sec.otp i.type saved i.key then some 3
  else if Config.sha384 i.pubKey ≠ s.keyHash i.key then some 4
  else if i.type ≤ 3 ∧ i.svn < s.sec.otp.floor i.type then some 5
  else if !Config.ecdsaVerify i.pubKey i.digest i.signature then some 6
  else if !w.good s (imgSize i.payloadBytes) then some 7
  else if payloadLimit i.type < i.payloadBytes ∨ w.len < imgSize i.payloadBytes then some 8
  else if !payloadOk i.type saved i.payload then some 9
  else none

/-- Verify an image: a failure is recorded in SEC_LAST_FAIL. -/
def verifyImg (types : List Nat) (saved : Bool) (w : ImgAt) (s : State) : Img × Option Nat × State :=
  let i := readImg s w
  let r := imgCheck s types saved w i
  let s := match w with | .heap a n => (s.fsLoad a n).2.2 | .flash _ _ => s
  match r with
  | none => (i, none, s)
  | some c => (i, some c, (s.setFld R.SEC_LAST_FAIL F.SEC_LAST_FAIL_CODE c).setFld R.SEC_LAST_FAIL F.SEC_LAST_FAIL_TYPE i.type)

/-! ### The flash directory (R464) -/

/-- An entry of the directory. -/
structure DirEntry where
  type : Nat
  slot : Nat
  off : Nat
  len : Nat
  deriving DecidableEq, Repr

/-- A copy of the directory is good: MAGIC and CRC. -/
def dirGood (bs : List Byte) : Bool :=
  leNat (bs.take 4) == 0x4B584452
  && leNat ((bs.drop 12).take 4) == (crc32c (bs.take 12 ++ List.replicate 4 0 ++ bs.drop 16)).toNat

/-- TYPE and SLOT are in Table BS-2. -/
def dirKind (type slot : Nat) : Bool := ([1, 2, 3].contains type && decide (slot < 2)) || (type == 4 && slot == 0)

/-- The entries of a directory that count. -/
def dirEntries (bs : List Byte) : List DirEntry :=
  ((upTo (Nat.min 32 (bAt bs 4))).map (fun i =>
    let e := bs.drop (16 + 16 * i)
    (⟨bAt e 0, bAt e 1, leNat ((e.drop 4).take 4), leNat ((e.drop 8).take 4)⟩ : DirEntry))).foldl (fun acc e =>
      if !dirKind e.type e.slot || decide (e.off % 4096 ≠ 0) || decide (e.off < 0x2000)
        || acc.any (fun (d : DirEntry) => decide (d.type = e.type ∧ d.slot = e.slot)) then acc else acc ++ [e]) []

/-- The directory in use: copy number, XSPI and entries; none where both copies are bad. -/
def State.directory (s : State) : Option (Nat × Bool × List DirEntry) :=
  ([0, 1].find? (fun c => s.flashGood (c * 4096) 4096 && dirGood (s.flashBytes (c * 4096) 4096))).map (fun c =>
    let bs := s.flashBytes (c * 4096) 4096
    (c, bAt bs 5 % 2 == 1, dirEntries bs))

def State.dirList (s : State) : List DirEntry := match s.directory with | some d => d.2.2 | none => []

/-- The flash entry of a TYPE and SLOT. -/
def State.dirAt (s : State) (type slot : Nat) : Option DirEntry := s.dirList.find? (fun e => decide (e.type = type ∧ e.slot = slot))

/-! ### Choosing (R469) -/

/-- Candidate `a` is tried before `b`: by SVN, then IMAGE_VER, then slot. -/
def before (a b : DirEntry × Img) : Bool :=
  decide (b.2.svn < a.2.svn ∨ (a.2.svn = b.2.svn ∧ (b.2.ver < a.2.ver ∨ (a.2.ver = b.2.ver ∧ a.1.slot ≤ b.1.slot))))

/-- Insert in the order of R469. -/
def insertCand (x : DirEntry × Img) : List (DirEntry × Img) → List (DirEntry × Img)
  | [] => [x]
  | y :: ys => if before x y then x :: y :: ys else y :: insertCand x ys

/-- The candidates of a TYPE in the order of R469. -/
def State.candidates (s : State) (type : Nat) : List (DirEntry × Img) :=
  ((s.dirList.filter (fun e => e.type = type)).map (fun e => (e, readImg s (.flash e.off e.len)))).foldr insertCand []

/-- Try candidates in order: the first that passes, and the codes of those rejected before it. -/
def firstGood (type : Nat) : List (DirEntry × Img) → State → Option (DirEntry × Img) × List Nat × State
  | [], s => (none, [], s)
  | c :: cs, s =>
    match verifyImg [type] (type == 3 && c.1.slot == 1) (.flash c.1.off c.1.len) s with
    | (i, none, s) => (some (c.1, i), [], s)
    | (_, some code, s) => let (r, codes, s) := firstGood type cs s; (r, code :: codes, s)

/-- Count rejected candidates and keep the first code (SEC_BOOT). -/
def noteRejects (codes : List Nat) (s : State) : State :=
  let s := if s.fld R.SEC_BOOT F.SEC_BOOT_FAIL = 0 then s.setFld R.SEC_BOOT F.SEC_BOOT_FAIL (codes.headD 0) else s
  s.setFld R.SEC_BOOT F.SEC_BOOT_REJECTS (s.fld R.SEC_BOOT F.SEC_BOOT_REJECTS + codes.length)

/-! ### Writing the flash (R483–R485) -/

/-- The bytes of a directory (R464). -/
def dirBytes (xspi : Bool) (l : List DirEntry) : List Byte :=
  let entry (e : DirEntry) : List Byte := leBytes 1 e.type ++ leBytes 1 e.slot ++ leBytes 2 0 ++ leBytes 4 e.off ++ leBytes 4 e.len ++ leBytes 4 0
  let body := l.flatMap entry
  let body := body ++ List.replicate (4080 - body.length) 0
  let head := leBytes 4 0x4B584452 ++ leBytes 1 l.length ++ leBytes 1 (b01 xspi) ++ leBytes 6 0
  head ++ leBytes 4 (crc32c (head ++ leBytes 4 0 ++ body)).toNat ++ body

/-- Erase a flash range and write bytes at its start. -/
def flashWrite (a n : Nat) (bs : List Byte) (s : State) : State :=
  let m := s.sec.flash.filter (fun e => !decide (a ≤ e.1 ∧ e.1 < a + n))
  { s with sec := { s.sec with flash := (bs.foldl (fun (acc : SMap Byte × Nat) b => (SMap.put acc.1 0xFF acc.2 b, acc.2 + 1)) (m, a)).1 } }

/-- Write an image into the flash, past every other entry, and both copies of the directory. -/
def storeImage (j : FlashJob) (s : State) : State :=
  let keep := s.dirList.filter (fun e => !decide (e.type = j.image.type ∧ e.slot = j.image.slot)
    && !(j.eraseSaved && decide (e.type = 3 ∧ e.slot = 1)))
  let off := keep.foldl (fun m e => Nat.max m (ceilDiv (e.off + e.len) 4096 * 4096)) 0x2000
  let n := j.image.bytes.length
  let dir := dirBytes (match s.directory with | some d => d.2.1 | none => false) (keep ++ [⟨j.image.type, j.image.slot, off, n⟩])
  flashWrite 0x1000 4096 dir (flashWrite 0 4096 dir (flashWrite off (ceilDiv n 4096 * 4096) j.image.bytes s))

/-- Digest of the image in a flash slot. -/
def State.flashDigest (s : State) (type slot : Nat) : Option (BitVec 384) :=
  (s.dirAt type slot).map (fun e => (readImg s (.flash e.off e.len)).digest)

/-- The slot of a TYPE that does not hold the image of a digest (R483, R485). -/
def State.otherSlot (s : State) (type : Nat) (d : BitVec 384) : Nat := if s.flashDigest type 0 = some d then 1 else 0

/-! ### Kernel libraries (R216, R217) -/

/-- Objects enter the cache, each replacing one of equal identity (R483). -/
def cacheAdd (cache new : List KObj) : List KObj :=
  new.foldl (fun c o => c.filter (fun p => !decide (p.kernelId = o.kernelId ∧ p.kver = o.kver)) ++ [o]) cache

/-- A cache within its limits (R216). -/
def cacheFits (c : List KObj) : Bool := decide (c.length ≤ 1024 ∧ (c.map (fun o => o.bytes.length)).sum ≤ 33554432)

/-! ### Images that apply at a tick (R483) -/

/-- Sections 0x03–0x05 of an owner configuration replace the live ones. -/
def applyOwner (payload : List Byte) (s : State) : State :=
  let l := (sectionsOf payload).getD []
  let hs (t : Nat) : List (BitVec 384) := (bodies t l).flatMap hashes
  { s with sec := { s.sec with allow := hs 3, operators := hs 4, pmic := (bodies 5 l).flatMap (fun b => (pmicWrites b).getD []) } }

/-- An enrolment: its flags that are 1 are set, and its slot is programmed (R472). -/
def applyEnrol (p : List Byte) (s : State) : State :=
  let o := s.sec.otp
  let fl := bAt p 1
  let o := { o with cmdAuth := o.cmdAuth || decide (fl % 2 = 1), allowDevsig := o.allowDevsig || decide (fl / 2 % 2 = 1),
                    debugDisable := o.debugDisable || decide (fl / 4 % 2 = 1) }
  let jobs := if bAt p 0 = 0 then [] else [(bAt p 0, BitVec.ofNat 384 (beNat ((p.drop 4).take 48)))]
  { s with sec := { s.sec with otp := o, otpJobs := s.sec.otpJobs ++ jobs } }

/-- A staged image may still apply: its key stands, its SVN is not below the floor, and an enrolment's slot is empty. -/
def stagedImageOk (s : State) (i : StagedImage) : Bool :=
  keyOk s.sec.otp i.type false i.key && (decide (3 < i.type) || decide (s.sec.otp.floor i.type ≤ i.svn))
  && (decide (i.type ≠ 5) || bAt i.payload 0 == 0
      || (s.sec.otp.slot (bAt i.payload 0) == 0 && s.sec.otpJobs.all (fun j => j.1 ≠ bAt i.payload 0)))

/-- A verified image applies (R483). -/
def applyImage (i : StagedImage) (s : State) : State :=
  let job (slot : Nat) : List FlashJob :=
    if i.flash then [⟨⟨i.type, slot, i.whole⟩, i.type == 3, 0, i.payload.length⟩] else []
  match i.type with
  | 2 =>
    let jobs := job (s.otherSlot 2 s.sec.libDigest)
    { s with sec := { s.sec with cache := cacheAdd s.sec.cache (objectsOf i.key i.payload), libSvn := i.svn, libDigest := i.digest,
                                 flashJobs := s.sec.flashJobs ++ jobs } }
  | 3 =>
    let s := applyOwner i.payload s
    { s with sec := { s.sec with cfgSvn := i.svn, cfgDigest := i.digest, flashJobs := s.sec.flashJobs ++ job 0 } }
  | _ => applyEnrol i.payload s

end Sys2Proof.Machine
end

