-- ==== Sys2Proof/Machine/Apply.lean ====
section
/-! DEFINITION. What a committed set changes (R51, R63, Table TK-3): each staged command and register write, the order
in which they apply, and the reactions of the units to the new configuration. -/

namespace Sys2Proof.Machine

/-! ### Staged commands -/

/-- LANE_STATE's register write: TARGET. -/
def laneTargetRegs (x : Nat) (p : List Word) (s : State) : List (Nat × Word) :=
  [(R.LANE_CTRL x, F.LANE_CTRL_TARGET.put (bits (wAt p 0) 2 0) (s.reg (R.LANE_CTRL x)))]

/-- LANE_BOND's register write: BOND of the even lane. -/
def laneBondRegs (x : Nat) (p : List Word) (s : State) : List (Nat × Word) :=
  [(R.LANE_CTRL x, F.LANE_CTRL_BOND.put (bits (wAt p 0) 0 0) (s.reg (R.LANE_CTRL x)))]

def rollSetRegs (p : List Word) : List (Nat × Word) :=
  [(R.LINK_ROLL, wAt p 0), (R.LINK_ROLL_RX_EN, wAt p 1), (R.LINK_ROLL_TX_EN, wAt p 2)]

/-- TW_SET's register write. -/
def twSetRegs (i : Nat) (p : List Word) : List (Nat × Word) :=
  match twCtlOf i with
  | some c => [(if c < 32 then R.TWC_CTRL c else R.TWTUN_CTRL (c - 32), wAt p 0)]
  | none => []

/-- Opcodes whose entries act on stalls, a yard's on every stall it reaches (R102). -/
def stallOpcode (op : Nat) : Bool := [0x300, 0x301, 0x302, 0x305, 0x306].contains op

/-- A staged command other than a yard's or a stall's applies. -/
def applyCmd (op : Nat) (u : BitVec 16) (p : List Word) (s : State) : State :=
  let i := uIndex u
  let x := (laneNo i).getD 0
  match op with
  | 0x100 => s.putSTs (laneSetRegs x p s)
  | 0x101 => s.putSTs (laneTargetRegs x p s)
  | 0x103 => s.putSTs (laneBondRegs x p s)
  | 0x104 => s.putSTs (rollSetRegs p)
  | 0x107 => s.putSTs (trigSetRegs x p)
  | 0x109 => applyLinkGpio x p s
  | 0x10A => s.putSTs [(R.LANE_REPEAT x, wAt p 0)]
  | 0x200 => applyStreamOpen i p s
  | 0x201 => s.setFlag (R.GATE_CTRL i (wAt p 0).toNat) F.GATE_CTRL_OPEN false
  | 0x202 => s.putSTs (streamCropRegs i p s)
  | 0x203 => s.putSTs [(R.GATE_TARGET i (wAt p 0).toNat, wAt p 1)]
  | 0x204 => s.putSTs (streamTagRegs i p s)
  | 0x205 => s.putSTs (hdrGroupRegs i p s)
  | 0x400 => applyMeshLoad p s
  | 0x401 => applyRemapBind i p s
  | 0x402 => applyRemapUnbind i s
  | 0x500 => applyHeadSet i p s
  | 0x501 => applyHeadLanes i p s
  | 0x502 => applyKiteSet i p s
  | 0x503 => applyKiteClear i p s
  | 0x504 => applyTetherSet i p s
  | 0x505 => applyTetherClear i p s
  | 0x506 => applyDirectSet i p s
  | 0x507 => applyDirectClear i s
  | 0x600 => s.putSTs (codecSetRegs i p)
  | 0x700 => applyPadCreate i p s
  | 0x701 => orphanRemaps i (applyPadDelete i s)
  | 0x702 => applyPadPolicy i p s
  | 0x800 => s.putSTs (dmaSetRegs i p)
  | 0x900 => s.putSTs (tbSetRegs i p)
  | 0x903 => s.putSTs [(R.TB_PAIR i, wAt p 0)]
  | 0x904 => s.putSTs (ppsSetRegs p)
  | 0xA00 => s.putSTs (twSetRegs i p)
  | 0xB00 => s.putSTs (levelSetRegs u p s)
  | 0xB01 => s.putSTs (domainSetRegs u p s)
  | _ => s

/-- One entry that is neither a yard's nor a stall's command applies. A register write that opens a stream context
takes the planned rate of R194. -/
def applyEntry (s : State) (e : Entry) : State :=
  match e.kind with
  | .regs ws => planOfWrite s (s.putSTs ws)
  | .cmd op u p => if stallOpcode op.toNat then s else applyCmd op.toNat u p s
  | .image i => applyImage i s

/-! ### Yards and stalls (R218, R219, Table TK-3) -/

/-- Yard definitions and dissolutions of a set, in order of receipt. -/
def applyYards (s : State) (es : List Entry) : State :=
  es.foldl (fun t e => match e.kind with
    | .cmd 0x303 u p => applyYardDefine (uIndex u) p t
    | .cmd 0x304 u _ => applyYardDissolve (uIndex u) t
    | _ => t) s

/-- One command on one stall. -/
structure StallAct where
  op : Nat
  n : Nat
  params : List Word
  deriving DecidableEq, Repr

/-- The stalls a stall command reaches (R102). -/
def State.stallsOf (s : State) (u : BitVec 16) : List Nat :=
  if uClass u = 3 then s.yardStalls (uIndex u) else [uIndex u]

/-- The stall commands of a set, stall by stall. -/
def stallActs (s : State) (es : List Entry) : List StallAct :=
  es.flatMap (fun e => match e.kind with
    | .cmd op u p => if stallOpcode op.toNat then (s.stallsOf u).map (fun n => ⟨op.toNat, n, p⟩) else []
    | _ => [])

/-- A later entry overrides an earlier one that sets the same thing (R51): a BIND gives way to a later BIND or UNBIND,
the other commands to a later one of their own; SET_PARAMs add up. -/
def overridden (a : StallAct) (later : List StallAct) : Bool :=
  later.any (fun b => b.n == a.n && (match a.op with
    | 0x301 => b.op == 0x301 || b.op == 0x305
    | 0x302 => false
    | o => b.op == o))

/-- The stall commands that stand. -/
def standing : List StallAct → List StallAct
  | [] => []
  | a :: l => if overridden a l then standing l else a :: standing l

/-- One stall command applies; `old` is the configuration before the set. -/
def applyStallAct (old s : State) (a : StallAct) : State :=
  match a.op with
  | 0x300 => applyLoad (bits (wAt a.params 0) 15 0) (bits (wAt a.params 0) 31 16) a.n s
  | 0x301 => applyBind old a.params a.n s
  | 0x302 => applySetParam a.params a.n s
  | 0x305 => applyUnbind a.n s
  | 0x306 => applyLockstep (bit (wAt a.params 0) 0) a.n s
  | _ => s

/-- The stall commands of a set apply: UNBINDs, then LOCKSTEP_PAIRs, then loads, bindings and parameters. -/
def applyStalls (s : State) (es : List Entry) : State :=
  let l := standing (stallActs s es)
  let only (ops : List Nat) : List StallAct := l.filter (fun a => ops.contains a.op)
  [[0x305], [0x306], [0x300], [0x301], [0x302]].foldl (fun t ops => (only ops).foldl (applyStallAct s) t) s

/-! ### A whole set -/

/-- The configuration that results from a set: the frozen entries on the live configuration (R58). -/
def applySet (es : List Entry) (s : State) : State :=
  es.foldl applyEntry (applyStalls (applyYards s es) es)

/-- What the units do at once with a changed configuration (Table TK-3). -/
def reactAll (old s : State) : State :=
  reactDma old (reactLanes old (reactTw old (reactTime old (reactGates old (reactHead old (reactPower old s))))))

/-- Sheds that a set takes to another level stop their stall clocks (R72). -/
def stopClocks (old s : State) : State :=
  let hs := (upTo 16).filter (fun h => levelChanged old s h && !s.pwr.stoppedSheds.contains h)
  if hs.isEmpty then s else { s with pwr := { s.pwr with stoppedSheds := s.pwr.stoppedSheds ++ hs } }

/-- A set applies: units react, abandoned work is reported, direct paths look at what they need. -/
def commitSet (es : List Entry) (s : State) : State :=
  checkDirects (reportAbandoned s (stopClocks s (reactAll s (applySet es s))))

end Sys2Proof.Machine
end

