-- ==== Sys2Proof/Machine/Check.lean ====
section
/-! DEFINITION. The consistency check (R58–R60, Table TK-2): the conditions on the configuration that a set would
give, in table order, and the first failing entry. -/

namespace Sys2Proof.Machine

/-! ### RESOURCE -/

/-- Writers of paddock `i` in a configuration: open gate contexts, remap engines, its own drain (R314). -/
def State.padWriters (s : State) (i : Nat) : Nat :=
  ((upTo 8).flatMap (fun g => (upTo 16).filter (fun c =>
    s.flag (R.GATE_CTRL g c) F.GATE_CTRL_OPEN && (s.gwords g c).kind == 1
      && F.GATE_TARGET_PADDOCK.get (s.gwords g c).target == i))).length
  + (s.remaps.filter (fun e => match e.2.bind with | some b => b.dstKind == 1 && b.dst == i | none => false)).length
  + (match s.pad? i with | some x => b01 x.drain.isSome | none => 0)

/-- Sample width that a gate delivers for a data type (Table GT-2). -/
def gateBits (dt : Nat) : Nat := match dt with | 0x1E | 0x24 => 8 | 0x1F => 10 | d => rawBits d

/-- A coded paddock fits its writer: PITCH holds the worst coded line of at most 32768 samples, BW is the writer's, and
planar pictures have layout 0 (R283, R300, R312). -/
def codedPadOk (s : State) (i : Nat) (x : Paddock) : Bool :=
  let pr := s.prof x.prof
  !x.coded ||
    ((s.padGates i).all (fun w => pr.bw == gateBits w.dt && (pr.cont == 0 || gateBits w.dt == 8))
     && (s.padSamples i x).all (fun n => decide (n ≤ maxSamples ∧ worstLine pr n ≤ x.pitchB))
     && (x.planes == 1 || pr.layout == 0))

/-- Paddocks: one writer each, writers and drains name what exists, and at most 32 fills (R314, R315). -/
def padsResourceOk (s : State) : Bool :=
  s.store.pads.all (fun e => decide (s.padWriters e.1 ≤ 1) && codedPadOk s e.1 e.2
    && (match e.2.drain with | some d => (s.yard? d.yard).isSome | none => true))
  && s.remaps.all (fun e => match e.2.bind with
      | some b => (b.dstKind ≠ 1 || (s.pad? b.dst).isSome) && (b.srcKind ≠ 2 || (s.yard? b.producer).isSome)
      | none => true)
  && decide ((s.store.pads.map (fun e => ((upTo 2).filter (fun k => (e.2.fill k).isSome)).length)).sum ≤ 32)

/-- An opcode and unit of a staged command. -/
def Entry.isCmd (e : Entry) (op : Nat) (u : Nat) : Bool :=
  match e.kind with | .cmd o v _ => o.toNat == op && v.toNat == u | _ => false

/-- Paddock commands of a set: none created twice, and POLICY and DELETE name one that exists. -/
def padCmdsOk (old s : State) (es : List Entry) : Bool :=
  (upTo 256).all (fun i =>
    let has (op : Nat) : Bool := es.any (fun e => e.isCmd op (padUnit i))
    decide ((es.filter (fun e => e.isCmd 0x700 (padUnit i))).length ≤ 1)
    && (!(has 0x701) || (old.pad? i).isSome) && (!(has 0x702) || (s.pad? i).isSome || has 0x701))

/-- Stall commands of a set: a loaded stall stays unbound and is not bound in the same set (R218), a stall still LOADING
is not bound (R219), the odd stall of a pair that results is neither loaded nor bound by itself (R221), and every yard
named exists when the set applies (R104). -/
def stallCmdsOk (old s : State) (es : List Entry) : Bool :=
  let acts := standing (stallActs (applyYards old es) es)
  acts.all (fun a => !((a.op == 0x300 || a.op == 0x301) && a.n % 2 == 1 && (s.stall a.n).lock))
  && acts.all (fun a => a.op ≠ 0x301 || (old.stall a.n).state != .loading)
  && acts.all (fun a => a.op ≠ 0x300 || (decide ((s.stall a.n).mode = 0) && !acts.any (fun b => b.op == 0x301 && b.n == a.n)))
  && es.all (fun e => match e.kind with
      | .cmd op u _ => !(stallOpcode op.toNat) || uClass u ≠ 3 || ((applyYards old es).yard? (uIndex u)).isSome
      | _ => true)

def checkResource (old s : State) (es : List Entry) : Bool :=
  stallCmdsOk old s es && stallsResourceOk s && gatesResourceOk s && headsResourceOk s && lanesResourceOk old s
    && s.pairsOk && padCmdsOk old s es && padsResourceOk s && cacheFits s.sec.cache

/-! ### RESERVATION (R33, R231, R312) -/

/-- No two ranges of a list meet. -/
def apart : List (Nat × Nat) → Bool
  | [] => true
  | a :: l => l.all (fun b => a.2 == 0 || b.2 == 0 || !rangesMeet a.1 a.2 b.1 b.2) && apart l

/-- Read-write windows of bound stalls, checkers aside: stall, first byte and bytes. -/
def State.rwWindows (s : State) : List (Nat × Nat × Nat) :=
  s.stalls.flatMap (fun e =>
    if e.2.mode = 0 ∨ s.isChecker e.1 then [] else
    (e.2.wins.filter (·.writable)).map (fun w => (e.1, w.base * 64, w.size * 64)))

/-- Direct-path rings with the even stall of their pair. -/
def State.directRings (s : State) : List (Nat × Nat × Nat) :=
  (upTo 4).flatMap (fun n =>
    if (s.head n).direct then
      let pair := F.HEAD_DIR_SRC_PAIR.get (s.reg (R.HEAD_DIR_SRC n))
      (s.dirRanges n).map (fun r => (pair, r.1, r.2))
    else [])

/-- No two read-write windows meet, but for stalls of one outermost yard. -/
def windowsApart (s : State) : List (Nat × Nat × Nat) → Bool
  | [] => true
  | a :: l =>
    l.all (fun b => !rangesMeet a.2.1 a.2.2 b.2.1 b.2.2
      || ((s.outerYard a.1).isSome && s.outerYard a.1 == s.outerYard b.1)) && windowsApart s l

/-- Windows stay off every allocation but their own pair's rings, and off each other. -/
def windowsOk (s : State) : Bool :=
  let ws := s.rwWindows
  let own (n : Nat) (r : Nat × Nat) : Bool := s.directRings.any (fun d => d.1 == n && d.2 == r)
  windowsApart s ws
  && ws.all (fun w => s.hayAllocs.all (fun r => r.2.2 == 0 || !rangesMeet w.2.1 w.2.2 r.2.1 r.2.2 || own w.1 r.2))

/-- Hayloft ranges that a remap engine writes stay off every direct-path ring (R33). -/
def remapRangesOk (s : State) : Bool :=
  s.remaps.all (fun e => match e.2.bind with
    | some b => b.dstKind ≠ 2 || s.directRings.all (fun r =>
        !rangesMeet (b.dst * 64) (b.dPlane * 4096 * (fmtPlanes b.fmt - 1) + b.dPitch * 64 * b.dh) r.2.1 r.2.2)
    | none => true)

/-- Paddocks lie in the heap, apart from each other and from those that the set deletes (R312, R320). -/
def padRangesOk (old s : State) : Bool :=
  let range (x : Paddock) : Nat × Nat := (x.base * 4096, x.slots * x.slotBytes)
  let live := s.store.pads.map (fun e => range e.2)
  let same (i : Nat) (x : Paddock) : Bool := match old.pad? i with | some y => range y == range x && y.newest == x.newest | none => false
  let fresh := (s.store.pads.filter (fun e => !same e.1 e.2)).map (fun e => range e.2)
  let gone := (old.store.pads.filter (fun e => match s.pad? e.1 with | some x => range x != range e.2 | none => true)).map (fun e => range e.2)
  live.all (fun r => inHeap r.1 r.2) && apart live
  && fresh.all (fun a => gone.all (fun b => !rangesMeet a.1 a.2 b.1 b.2))

/-- Direct-path rings lie in the hayloft slice of their pair's shed (R33). -/
def directSliceOk (s : State) : Bool :=
  s.directRings.all (fun r =>
    let slice := r.1 / 16 * 2 ^ 22
    decide (slice ≤ r.2.1 ∧ r.2.1 + r.2.2 ≤ slice + 2 ^ 22))

def checkReservation (old s : State) : Bool :=
  directSliceOk s && apart (s.hayAllocs.map (·.2)) && windowsOk s && remapRangesOk s && gateRingsFit s && padRangesOk old s

/-! ### POWER (R19, R74) -/

/-- Domains in which a configuration uses a unit. -/
def State.usedDomains (s : State) : List Nat :=
  let gates := s.openCtxs.map (fun e => 0x20 + e.1)
  let lanes := ((upTo 48).filter (fun x => s.target x ≠ 0)).map laneDomain
  let stalls := (s.stalls.filter (fun e => e.2.mode ≠ 0)).map (fun e => e.1 / 16)
  let remaps := s.remaps.flatMap (fun e => match e.2.bind with
    | some b => 0x2C :: (if b.srcKind = 1 ∨ b.dstKind = 1 then [0x31, 0x32] else [])
    | none => [])
  let heads := s.onHeads.flatMap (fun n => 0x2D :: (onesOf (s.head n).lanes.toNat 16).map (fun l => 0x28 + l / 4))
  let pads := s.store.pads.flatMap (fun e =>
    if 0 < s.padWriters e.1 ∨ (upTo 2).any (fun k => (e.2.fill k).isSome) then
      [0x31, 0x32] ++ (if e.2.coded then [0x2E] else []) else [])
  let dma := ((upTo 16).filter s.dmaEn).map (fun _ => 0x2F)
  gates ++ lanes ++ stalls ++ remaps ++ heads ++ pads ++ dma

/-- What the result uses must lie in a domain that is on in the live configuration, and has been since the tick before
(R74), and that stays on. -/
def checkPower (old s : State) : Bool :=
  s.usedDomains.all (fun d => s.domainOn d && old.domainOn d && !old.pwr.coming.contains d)
  && (upTo 16).all (fun i => s.domainOn (0x10 + i)) && headsPowerOk s

/-! ### BANDWIDTH (R40, Table HA-7) -/

/-- Bytes once per tick, as bytes a second. -/
def State.perTick (s : State) (bytes : Nat) : Nat :=
  bytes * 1000000000 / Nat.max 1 (s.fld R.TICK_PERIOD F.TICK_PERIOD_PERIOD_NS)

/-- Planned bytes a second that open contexts of a target kind write: lines of a coded paddock at their worst-case
coded size (R280). -/
def gateDemand (s : State) (kinds : List Nat) : Nat :=
  (s.openCtxs.map (fun e =>
    let w := s.gwords e.1 e.2
    let rate := (s.ctx e.1 e.2).plan * 1000
    if !kinds.contains w.kind then 0
    else match s.pad? (F.GATE_TARGET_PADDOCK.get w.target) with
    | some x => if w.kind = 1 ∧ x.coded then rate * worstLine (s.prof x.prof) w.samples / Nat.max 1 w.outW else rate * pixBytes w.dt
    | none => rate * pixBytes w.dt)).sum

/-- Bytes a line of a paddock counts for: its pitch, or the worst-case coded line of a coded one (R280). -/
def State.padLine (s : State) (i : Nat) (x : Paddock) : Nat :=
  if x.coded then ((s.padSamples i x).map (worstLine (s.prof x.prof))).foldl Nat.max 0 else x.pitchB

/-- Layers of one head's kind list, as bytes a second read for its output frames. -/
def State.layerDemand (s : State) (n : Nat) (kinds : List Nat) : Nat :=
  let (num, den) := headRate s n
  ((upTo 17).map (fun l =>
    let kind := s.fld (R.KCTRL n l) F.KCTRL_KIND
    if !kinds.contains kind then 0 else
    let w := s.reg (R.KSIZE n l)
    let u := if l = 16 then s.reg (R.HEAD_SIZE n) else w
    let line := if kind = 5 then s.dirOutPitch n
      else if kind = 2 then (match s.pad? (bits (s.reg (R.KSRC n l)) 7 0) with
        | some x => s.padLine (bits (s.reg (R.KSRC n l)) 7 0) x | none => 0)
      else F.KPITCH_PITCH.get (s.reg (R.KPITCH n l)) * 64
    let planes := if kind ≠ 5 ∧ s.fld (R.KCTRL n l) F.KCTRL_SFMT = 4 then 3 else 1
    (F.KSIZE_H_M1.get u + 1) * line * planes * num / Nat.max 1 den)).sum

/-- Planned bytes a second of the DMA channels: the planned samples of DMA_c_PLAN in 16-bit containers (log entry 50). -/
def State.dmaDemand (s : State) : Nat :=
  ((upTo 16).map (fun c => s.fld (R.DMA_PLAN c) F.DMA_PLAN_KSPS * 2000)).sum

/-- Bytes a second that bound remap engines read from and write to one level, 1 the frame store and 2 the hayloft. -/
def State.remapDemand (s : State) (kind : Nat) : Nat :=
  (s.remaps.map (fun e => match e.2.bind with
    | some b => s.perTick (b01 (b.srcKind == kind) * b.sh * fmtLine b.fmt b.sw * fmtPlanes b.fmt
        + b01 (b.dstKind == kind) * b.dh * fmtLine b.fmt b.dw * fmtPlanes b.fmt)
    | none => 0)).sum

/-- Planned bytes a second between the frame store and the array: ingest, fills, drains, remap sources and
destinations, paddock or still layers of heads, and DMA (the reckoning is the model's, log entry 50). -/
def State.fsDemand (s : State) : Nat :=
  let pads := s.store.pads.map (fun e =>
    let lines := e.2.lines * s.padLine e.1 e.2
    s.perTick (((upTo 2).filter (fun k => (e.2.fill k).isSome)).length * lines + b01 e.2.drain.isSome * e.2.planes * lines))
  gateDemand s [1] + pads.sum + s.remapDemand 1 + (s.onHeads.map (fun n => s.layerDemand n [2, 4])).sum + s.dmaDemand

/-- Planned bytes a second on the fabric: the frame-store traffic, and what gates, remap engines and heads write to and
read from the hayloft (log entry 50). -/
def State.fabricDemand (s : State) : Nat :=
  s.fsDemand + gateDemand s [2, 3] + s.remapDemand 2 + (s.onHeads.map (fun n => s.layerDemand n [3, 5])).sum

/-- Bisection bandwidth at a fabric level, bytes a second (Table HA-2). -/
def fabricLimit (level : Nat) : Nat := [3070000000000, 2560000000000, 2050000000000, 1020000000000].getD level 0

/-- Each remap engine writes its regions at one frame per tick within its rate at the fabric's clock: 1.6 Gpixel/s, a
third of it with three U16 planes (R266, R275). -/
def remapsFit (s : State) : Bool :=
  s.remaps.all (fun e => match e.2.bind with
    | some b =>
      let area := (b.regions.map (fun r => r.w * r.h)).sum * fmtPlanes b.fmt
      decide (s.perTick area * 1200 ≤ 1600000000 * levelMHz (s.fld R.PWR_FABRIC ⟨1, 0⟩))
    | none => true)

/-- Planned samples a second that frame-store codec unit `m` encodes: what the writers of its coded paddocks deliver. -/
def fscEncode (s : State) (m : Nat) : Nat :=
  (s.store.pads.map (fun e =>
    if !e.2.coded || e.2.fsc != m then 0 else
    let gates := (s.openCtxs.map (fun o =>
      let w := s.gwords o.1 o.2
      if w.kind == 1 && F.GATE_TARGET_PADDOCK.get w.target == e.1 then (s.ctx o.1 o.2).plan * 1000 * perPixel w.dt else 0)).sum
    gates + (if (s.padGates e.1).isEmpty then s.perTick (e.2.planes * e.2.lines * (s.padSamples e.1 e.2).sum) else 0))).sum

/-- Planned samples a second that frame-store codec unit `m` decodes: for the fills of its coded paddocks and the head
layers that show them. -/
def fscDecode (s : State) (m : Nat) : Nat :=
  (s.store.pads.map (fun e =>
    if !e.2.coded || e.2.fsc != m then 0 else
    let n := (s.padSamples e.1 e.2).foldl Nat.max 0
    let fills := ((upTo 2).filter (fun k => (e.2.fill k).isSome)).length
    let heads := (s.onHeads.map (fun h =>
      let (num, den) := headRate s h
      ((upTo 17).map (fun l =>
        if s.fld (R.KCTRL h l) F.KCTRL_KIND == 2 && bits (s.reg (R.KSRC h l)) 7 0 == e.1 then
          (F.KSIZE_H_M1.get (if l = 16 then s.reg (R.HEAD_SIZE h) else s.reg (R.KSIZE h l)) + 1) * n * num / Nat.max 1 den
        else 0)).sum)).sum
    s.perTick (fills * e.2.lines * n) + heads)).sum

/-- Every codec-array unit keeps its rate, 2.4 Gsample/s a direction at the planned fabric level (R278). The stages of the
heads code 7.2 Gsample/s, which the head output limit of R330 keeps already. -/
def codecsFit (s : State) : Bool :=
  let limit := 2000000 * levelMHz (s.fld R.PWR_FABRIC ⟨1, 0⟩)
  (upTo 8).all (fun m => decide (fscEncode s m ≤ limit ∧ fscDecode s m ≤ limit))
  && (upTo 4).all (fun e => decide (((upTo 4).map (fun j =>
      s.fld (R.DMA_PLAN (4 * e + j)) F.DMA_PLAN_KSPS * 1000)).sum ≤ limit))

def checkBandwidth (s : State) : Bool :=
  (upTo 8).all (fun g => decide (s.gatePlan g ≤ 3200000)) && headsBandwidthOk s && remapsFit s && codecsFit s
  && decide (s.fsDemand ≤ 1640000000000)
  && decide (s.fabricDemand ≤ fabricLimit (s.fld R.PWR_FABRIC ⟨1, 0⟩))

/-! ### RANGE_TIMING -/

/-- Commit block fields (R44, Table TK-2). -/
def tickRangeOk (s : State) : Bool :=
  let period := s.fld R.TICK_PERIOD F.TICK_PERIOD_PERIOD_NS
  let win := s.fld R.TICK_SEAL F.TICK_SEAL_SEAL_US
  let fit := s.fld R.TICK_SEAL F.TICK_SEAL_FIT_PCT
  decide (1000000 ≤ period ∧ period ≤ 250000000 ∧ 20 ≤ win ∧ win ≤ 1000 ∧ win * 4000 ≤ period ∧ 50 ≤ fit ∧ fit ≤ 100
    ∧ s.fld R.TICK_PHASE F.TICK_PHASE_PHASE_NS < period)
  && (upTo 4).all (fun n => decide (s.fld (R.HEAD_LATE_POLICY n) F.HEAD_LATE_POLICY_POLICY ≠ 3
      ∧ s.fld (R.HEAD_LATE_POLICY n) F.HEAD_LATE_POLICY_REPEAT_LIMIT ≠ 0))

/-- Profiles in use are legal (R300). -/
def profilesOk (s : State) : Bool :=
  s.store.pads.all (fun e => !e.2.coded || (s.prof e.2.prof).ok)
  && s.onHeads.all (fun n => (s.onStreams n).all (fun k =>
      match s.streamProf n k with | some (w, _) => (profOf w).ok | none => true))

def checkRange (s : State) : Bool :=
  tickRangeOk s && s.lanesOk && s.linksOk && s.timeOk && s.twOk && headsRangeOk s && gatesRangeOk s && dmaRangeOk s && profilesOk s

/-! ### SECURITY (R218, R483) -/

/-- Every staged image still stands, and every kernel a set loads is in the cache without an uncorrectable error (R218,
R483, Table FS-2). -/
def checkSecurity (old : State) (es : List Entry) : Bool :=
  es.all (fun e => match e.kind with
    | .image i => stagedImageOk old i
    | .cmd 0x300 _ p => (old.findKernel (bits (wAt p 0) 15 0) (bits (wAt p 0) 31 16)).any (fun o => !old.kernelPoor o)
    | _ => true)

/-! ### The check -/

/-- The reason of the first condition of Table TK-2 that a set breaks. -/
def failReason (old : State) (es : List Entry) : Option Nat :=
  let s := applySet es old
  if !checkResource old s es then some 1
  else if !checkReservation old s then some 2
  else if !checkPower old s then some 3
  else if !checkBandwidth s then some 4
  else if !stallsFitOk s (levelChanged old s) then some 5
  else if !levelsOk old s then some 6
  else if !checkRange s then some 7
  else if !checkSecurity old es then some 9
  else none

/-- The condition of one reason holds for a set. -/
def reasonHolds (old : State) (r : Nat) (es : List Entry) : Bool :=
  let s := applySet es old
  match r with
  | 1 => checkResource old s es
  | 2 => checkReservation old s
  | 3 => checkPower old s
  | 4 => checkBandwidth s
  | 5 => stallsFitOk s (levelChanged old s)
  | 6 => levelsOk old s
  | 7 => checkRange s
  | _ => checkSecurity old es

/-- Index of the first failing entry: the last of the shortest run of entries that breaks the condition. -/
def firstFailing (old : State) (r : Nat) (es : List Entry) : Nat :=
  ((upTo (es.length + 1)).find? (fun n => !reasonHolds old r (es.take n))).getD es.length - 1

/-- The verdict on a set (R58). -/
def verdict (old : State) (es : List Entry) : Verdict :=
  match failReason old es with
  | none => .pass
  | some r =>
    match es[firstFailing old r es]? with
    | some e => .fail r e.tag e.unit
    | none => .fail r 0 0

end Sys2Proof.Machine
end

