-- ==== Sys2Proof/Machine/Rebuild.lean ====
section
/-! DEFINITION. Failed retention banks (R457): what a failed bank leaves of its domain, and the rebuild that applies the
domain's part of the live configuration. -/

namespace Sys2Proof.Machine

/-- A hub in DEGRADED whose conditions have ended returns to RUN (R499). -/
def recover (s : State) : State := if s.dstate = .degraded ∧ !s.degradedCond then s.goTo .run 0xF005 else s

/-- The committed parameter words of a stall that are not zero, by index. -/
def paramWords (x : Stall) : List (Nat × Word) :=
  (upTo 256).filterMap (fun i =>
    let w := w32 (leNat (readBytes x.store (paramBase + 4 * i) 4))
    if w = 0 then none else some (i, w))

/-- A stall whose bank failed: its memories are zero, and what was committed for it stands. -/
def failedStall (n : Nat) (x : Stall) : Stall :=
  { Stall.fresh with
    kernel := x.kernel, mode := x.mode, est := x.est, wins := x.wins, outs := x.outs, ins := x.ins, lock := x.lock,
    params := paramWords x ++ x.params, state := if x.lock && n % 2 == 1 then .checker else .empty }

/-- The domain of a failed bank is cold-initialised, its SRAM zeroed (R457). -/
def failDomain (d : Nat) (s : State) : State :=
  if d < 0x10 then
    let s := (upTo 16).foldl (fun t i => flushQueuesOf (16 * d + i) t) s
    let kept := (upTo 16).map (fun i => (16 * d + i, failedStall (16 * d + i) (s.stall (16 * d + i))))
    kept.foldl (fun t e => t.setStall e.1 e.2) (domainLose d s)
  else if d = 0x2C then
    let r := s.remaps.map (fun e => (e.1, { Remap.unbound with bind := e.2.bind }))
    let m := s.meshes.map (fun e => (e.1, { e.2 with loading := none }))
    { domainLose d s with remaps := r, meshes := m }
  else if d = 0x2D then
    let h := s.heads.map (fun e => (e.1, { Head.rest with lanes := e.2.lanes, direct := e.2.direct }))
    { domainLose d s with heads := h }
  else domainLose d s

/-- A stall takes its kernel, its binding and its parameters again. -/
def rebuildStall (s : State) (x : Stall) : Stall :=
  let rest : StallState := if x.state = .checker then .checker else if x.mode ≠ 0 then .bound
    else if x.kernel.isSome then .loaded else .empty
  match (x.kernel.bind (fun k => s.findKernel k.id.toNat k.kver.toNat)).filter (fun o => !s.kernelPoor o) with
  | some o => { loadObject o x with state := rest, armed := x.mode == 2 }
  | none => { x with state := if x.kernel.isSome then .empty else rest }

/-- The configuration a rebuild restores: the live one, whose image the frame store holds, or that of the flash copy where
that image is gone (R457, R458). -/
def State.savedConfig (s : State) : State :=
  match s.pwr.flashCfg with
  | none => s
  | some es => applySet es { State.reset with part := s.part, sec := s.sec }

/-- A domain takes its part of another configuration: ST fields, and what its stalls, engines and heads are set to. -/
def takeConfig (d : Nat) (c s : State) : State :=
  let s := (c.regs.filter (fun e => domainOf e.1 == d)).foldl (fun t e => t.putST e.1 e.2) (s.resetRegs (fun a => domainOf a == d))
  if d < 0x10 then
    (upTo 16).foldl (fun t i => t.setStall (16 * d + i) (failedStall (16 * d + i) (c.stall (16 * d + i)))) s
  else if d = 0x2C then { s with remaps := c.remaps.map (fun e => (e.1, { Remap.unbound with bind := e.2.bind })) }
  else if d = 0x2D then { s with heads := c.heads.map (fun e => (e.1, { Head.rest with lanes := e.2.lanes, direct := e.2.direct })) }
  else s

/-- One domain's part of the saved configuration applies (R457), as onto registers at reset (R532). -/
def rebuildDomain (d : Nat) (s : State) : State :=
  let s := if s.pwr.flashCfg.isSome then takeConfig d s.savedConfig s else s
  let s := makeReady [d] s
  let s := if d < 0x10 then
      (upTo 16).foldl (fun t i => t.setStall (16 * d + i) (rebuildStall t (t.stall (16 * d + i)))) s
    else s
  let s := reactAll (s.resetRegs (fun a => domainOf a == d)) s
  s.setFld (R.PWR_BANK d) F.PWR_BANK_RESULT 1

/-- The rebuilds that are ready apply; the last one raises BALLAST_RECOVERED (R457). -/
def applyRebuilt (s : State) : State :=
  let ds := s.pwr.rebuilt.filter (fun d => s.pwr.rebuild.contains d)
  let s := { s with pwr := { s.pwr with rebuilt := [], rebuild := s.pwr.rebuild.filter (fun d => !ds.contains d) } }
  if ds.isEmpty then s else
  let s := if s.pwr.cfgImage then s else s.setFlag R.PWR_RESUME F.PWR_RESUME_FLASH_CFG true
  let s := ds.foldl (fun t d => rebuildDomain d t) s
  let s := checkDirects s
  if s.pwr.rebuild.isEmpty then (recover s).raise Ev.BALLAST_RECOVERED 0 0 else s

/-- A failed domain's rebuild is ready: it applies at a tick instant where a tick runs, else at once (R457). -/
def rebuildDone (d : Nat) (s : State) : State :=
  if !s.pwr.rebuild.contains d || s.pwr.rebuilt.contains d || !s.groom.up then s else
  let s := { s with pwr := { s.pwr with rebuilt := s.pwr.rebuilt ++ [d] } }
  if s.pwr.resume = .awake ∧ !s.tg.running then applyRebuilt s else s

end Sys2Proof.Machine
end

