-- ==== Sys2Proof/Machine/Stand.lean ====
section
/-! DEFINITION. The ROM personality of STANDALONE (R486–R488): the mosaic's tiles, its cameras, and the settings of
HEAD0, of the lanes and of the tick. -/

namespace Sys2Proof.Machine

/-- The tiles of a mosaic layout: X, Y, W, H (Table BS-9). -/
def mosaicTiles (sel : Nat) : List (Nat × Nat × Nat × Nat) :=
  match sel with
  | 0 => [(0, 0, 1920, 1080)]
  | 1 => [(0, 0, 960, 1080), (960, 0, 960, 1080)]
  | 2 => [(0, 0, 960, 540), (960, 0, 960, 540), (0, 540, 960, 540), (960, 540, 960, 540)]
  | _ => [(0, 0, 1280, 1080), (1280, 0, 640, 360), (1280, 360, 640, 360), (1280, 720, 640, 360)]

def State.mosaic (s : State) : List (Nat × Nat × Nat × Nat) := mosaicTiles s.sec.straps.mosSel

/-- A lane that may show in a tile: its partner is READY with CLASS 0x01 (R487). -/
def State.standCamera (s : State) (x : Nat) : Bool := s.partner x == Ps.ready && s.partnerClass x == 1

/-- Insert a lane in ascending order. -/
def insertLane (x : Nat) : List Nat → List Nat
  | [] => [x]
  | y :: ys => if x < y then x :: y :: ys else if x = y then y :: ys else y :: insertLane x ys

def State.cam (s : State) (x : Nat) : Cam := SMap.get s.stand.cams Cam.rest x
def State.setCam (s : State) (x : Nat) (c : Cam) : State :=
  { s with stand := { s.stand with cams := SMap.put s.stand.cams Cam.rest x c } }

/-- A frame start of stream 0: within 500 ms of READY it makes a camera wait for a tile (R487). -/
def standSof (x : Nat) (s : State) : State :=
  let shown := s.stand.tiles.any (fun e => e.2 == some x)
  let s := s.setCam x { s.cam x with taking := some ⟨0, []⟩ }
  if s.standCamera x ∧ !shown ∧ s.clk.localNs ≤ (s.link x).readyNs + 500000000 then
    { s with stand := { s.stand with waiting := insertLane x s.stand.waiting } }
  else s

/-- A pixel line of stream 0: RAW8–RAW16 (R487), a damaged line with every sample zero, as under the reset settings of
a gate context (R170, R174). -/
def standLine (x dt : Nat) (data : List Byte) (dmg : PktDamage) (s : State) : State :=
  match (s.cam x).taking with
  | none => s
  | some f =>
    let b := rawBits dt
    if dmg = .trunc then s.setCam x { s.cam x with taking := none }
    else if b = 0 ∨ 16 < b ∨ f.bits ≠ 0 ∧ f.bits ≠ b then s
    else
      let px := if dmg ≠ .good ∨ !wholePixels dt data.length then [] else unpackLine dt data
      let w := match f.rows with | r :: _ => r.length | [] => px.length
      let row := if px.length < w then List.replicate w 0 else px.take w
      s.setCam x { s.cam x with taking := some ⟨b, f.rows ++ [row]⟩ }

/-- A frame end of stream 0: a frame of a colour pattern of at least 8 × 8 goes to BASIC (R179, R239). -/
def standEnd (x : Nat) (s : State) : State :=
  match (s.cam x).taking with
  | none => s
  | some f =>
    let w := (f.rows.getD 0 []).length
    let h := f.rows.length
    let good := decide (8 ≤ w ∧ w % 2 = 0 ∧ 8 ≤ h ∧ h % 2 = 0)
    s.setCam x { s.cam x with taking := none, done := if good then some f else (s.cam x).done }

/-- BASIC at a tick: the picture of the last tick's work is shown, and the newest whole frame is taken up (R276, R277). -/
def camTick (x : Nat) (s : State) : State :=
  let c := s.cam x
  let next := match c.done with
    | some f => basicGains f.bits (f.rows.getD 0 []).length f.rows.length (Pic.ofRows f.rows) c.gains
    | none => c.gains
  s.setCam x { c with shown := if c.work.isSome then c.work else c.shown, fresh := c.work.isSome,
                      work := c.done.map (fun f => (f, c.gains)), done := none, gains := next }

/-- The tiles at a tick: a lost camera frees its own, a waiting one takes the lowest free tile (R487). -/
def standTick (s : State) : State :=
  if s.dstate ≠ .standalone then s else
  let kept := s.stand.tiles.filter (fun e => match e.2 with | some x => s.standCamera x | none => false)
  let (tiles, waiting) := (s.stand.waiting.filter s.standCamera).foldl (fun (acc : SMap (Option Nat) × List Nat) x =>
    match (upTo s.mosaic.length).find? (fun i => (SMap.get acc.1 none i).isNone) with
    | some i => (SMap.put acc.1 none i (some x), acc.2)
    | none => (acc.1, acc.2 ++ [x])) (kept, [])
  let s := { s with stand := ⟨tiles, waiting, s.stand.cams.filter (fun e => s.standCamera e.1)⟩ }
  (tiles.filterMap (·.2)).foldl (fun t x => camTick x t) s

/-- The rectangle of the status kite (R488). -/
def statusTile : Nat × Nat × Nat × Nat := (16, 16, 256, 32)

/-- The CRC of the status picture as HEAD0 sends it, held in ROM (R488). -/
def statusCrc : BitVec 32 :=
  crc32c ((upTo 32).flatMap (fun y => (upTo 256).flatMap (fun x => (upTo 3).map (fun c => Config.romStill (1024 * y + 4 * x + c)))))

/-- Position and size images of a layer. -/
def tileRegs (l : Nat) (t : Nat × Nat × Nat × Nat) : List (Nat × Word) :=
  [(R.KDST 0 l, w32 (t.1 + 65536 * t.2.1)), (R.KSIZE 0 l, w32 (t.2.2.1 - 1 + 65536 * (t.2.2.2 - 1)))]

/-- HEAD0's registers in STANDALONE (R488): RGB888 on TX00, a tile per kite, the status kite and its tether. -/
def standHeadRegs (tiles : List (Nat × Nat × Nat × Nat)) : List (Nat × Word) :=
  [(R.HEAD_SIZE 0, w32 (1919 + 65536 * 1079)), (R.HEAD_LINE 0, w32 15300),
   (R.HEAD_LATE_POLICY 0, F.HEAD_LATE_POLICY_REPEAT_LIMIT.put 3 0),
   (R.HEAD_WIT 0, F.HEAD_WIT_PIN_EN.put 1 (F.HEAD_WIT_CLEAR_N.put 2 (F.HEAD_WIT_POLICY.put 0 (resetOf (R.HEAD_WIT 0))))),
   (R.SCTRL 0 0, F.SCTRL_EMB.put 1 (F.SCTRL_EN.put 1 0)), (R.SRECT_X 0 0, w32 (65536 * 1919)), (R.SRECT_Y 0 0, w32 (65536 * 1079)),
   (R.KCTRL 0 15, F.KCTRL_SFMT.put 1 (F.KCTRL_KIND.put 4 0)), (R.KPITCH 0 15, w32 16)]
  ++ tileRegs 15 statusTile
  ++ (upTo tiles.length).flatMap (fun i =>
    [(R.KCTRL 0 i, F.KCTRL_SFMT.put 1 (F.KCTRL_KIND.put 1 0)), (R.KCOLOR 0 i, w32 0xFF404040),
     (R.KPITCH 0 i, w32 (ceilDiv (4 * (tiles.getD i (0, 0, 1, 1)).2.2.1) 64))] ++ tileRegs i (tiles.getD i (0, 0, 1, 1)))
  ++ [(R.TCTRL 0 0, F.TCTRL_EN.put 1 (F.TCTRL_MODE.put 1 (F.TCTRL_ON_KITE.put 1 (F.TCTRL_LAYER.put 15 0)))),
      (R.TEXPECT 0 0, statusCrc), (R.HEAD_CTRL 0, F.HEAD_CTRL_EN.put 1 0)]

/-- Lane settings of STANDALONE: every enabled receive lane and TX00 (R486). -/
def standLaneRegs (s : State) : List (Nat × Word) :=
  let lanes := ((upTo 32).filter (fun x => s.unitOk (BitVec.ofNat 16 (laneUnit x)))) ++ [32]
  lanes.map (fun x => (R.LANE_CTRL x, F.LANE_CTRL_TARGET.put Ls.up (F.LANE_CTRL_MAX_RATE.put 3 (F.LANE_CTRL_FALLBACK.put 1
    (F.LANE_CTRL_MEDIUM.put s.sec.straps.medSel (F.LANE_CTRL_BOND.put 0 (resetOf (R.LANE_CTRL x))))))))

/-- Every register setting of the ROM personality (R486, R488). -/
def standRegs (s : State) : List (Nat × Word) :=
  let lanes := standLaneRegs s
  [(R.PWR_ON_LO, resetOf R.PWR_ON_LO), (R.PWR_ON_HI, resetOf R.PWR_ON_HI), (R.PWR_LEVEL, 0), (R.PWR_FABRIC, 0),
   (R.TICK_PERIOD, w32 16666667), (R.TICK_CTRL, 0)]
  ++ lanes ++ (upTo 48).map (fun x => (R.LINK_AUTH x, F.LINK_AUTH_REQUIRED.put 0 (s.reg (R.LINK_AUTH x))))
  ++ standHeadRegs s.mosaic

end Sys2Proof.Machine
end

