-- ==== Sys2Proof/Machine/Commit.lean ====
section
/-! DEFINITION. Staging (R51–R57), the seal window (R57–R60), what a seal leaves (R61, R65), and the work of a tick
instant (R43–R47, R63, R64). -/

namespace Sys2Proof.Machine

/-! ### The set being filled (R53, R54, R57) -/

/-- A seal window is open. -/
def State.winOpen (s : State) : Bool := s.groom.staging.frozen.isSome

/-- F: the tick the set being filled belongs to (R53). -/
def State.fillTick (s : State) : Nat := s.tg.count.toNat + (if s.winOpen then 2 else 1)

/-- The tick that a non-zero APPLY_TICK names (R53). -/
def State.resolveTick (s : State) (t : Word) : Int :=
  let present : Int := s.tg.count.toNat
  let near : Int := (s.tg.count.toNat / 2 ^ 32 * 2 ^ 32 + t.toNat : Nat)
  if present + 2 ^ 31 ≤ near then near - 2 ^ 32 else if near < present - 2 ^ 31 then near + 2 ^ 32 else near

/-- Where a staged entry goes (R53, R57): the set being filled, a later tick's, or none. -/
inductive Join where
  | fill (deferred : Bool) (tick : Nat)
  | future (tick : Nat)
  | late
  deriving DecidableEq, Repr

/-- Where an entry with an APPLY_TICK goes if received now. -/
def State.joinOf (s : State) (t : Word) : Join :=
  let f := s.fillTick
  if t = 0 then .fill s.winOpen f
  else
    let k := s.resolveTick t
    if k = f then .fill false f else if (f : Int) < k then .future k.toNat else .late

/-- The staging limits, with `n` entries of a chain already counted against each set (R54, R86). -/
def State.stageRoom (s : State) (j : Join) (fills futures : Nat) : Chk :=
  match j with
  | .fill _ _ => need (decide (s.groom.staging.fill.length + fills < 4096)) St.BUSY 1
  | .future _ => need (decide (s.groom.staging.future.length + futures < 256)) St.BUSY 2
  | .late => none

/-- An entry joins its set. -/
def addEntry (j : Join) (e : Entry) (s : State) : State :=
  let g := s.groom.staging
  match j with
  | .fill _ _ => { s with groom := { s.groom with staging := { g with fill := g.fill ++ [{ e with inWindow := s.winOpen }] } } }
  | .future k => { s with groom := { s.groom with staging := { g with future := g.future ++ [(k, e)] } } }
  | .late => s

/-- The status of an accepted entry (R53, R57). -/
def joinRes : Join → Res
  | .fill deferred k => ⟨if deferred then St.DEFERRED else St.STAGED, 0, [], false, some (w32 k)⟩
  | .future k => ⟨St.STAGED, 0, [], false, some (w32 k)⟩
  | .late => Res.err St.LATE 0

/-- A write of ST registers joins the set being filled as one entry (R52, R57); false where the set is full (R54). -/
def stageRegs (page : Nat) (ws : List (Nat × Word)) (s : State) : Bool × State :=
  if 4096 ≤ s.groom.staging.fill.length then (false, s) else
  let e : Entry := ⟨0xFFFF, BitVec.ofNat 16 page, .regs ws, s.winOpen⟩
  let s' := addEntry (.fill s.winOpen s.fillTick) e s
  (true, if s.winOpen then s'.incWrap R.DEFER_COUNT F.DEFER_COUNT_WRITES 1 else s')

/-- ABORT_SEAL (R62). -/
def abortSeal (s : State) : Res × State :=
  let g := s.groom.staging
  let put (l : List Entry) : State := { s with groom := { s.groom with staging := { g with fill := l } } }
  if s.winOpen then
    (⟨St.DEFERRED, 0, [], false, some (w32 s.fillTick)⟩, put (g.fill.filter (fun e => !e.inWindow)))
  else (Res.ok [], put [])

/-! ### The seal window (R57–R60) -/

/-- Freeze the set being filled; the future entries of the tick after join the next set (R53, R57). -/
def freeze (s : State) : State :=
  let g := s.groom.staging
  let void := !s.groom.up || s.groom.restarting || s.dstate == .safe
  let next := s.tg.count.toNat + 2
  let mine := (g.future.filter (fun e => e.1 = next)).map (·.2)
  { s with groom := { s.groom with staging := ⟨mine, g.future.filter (fun e => e.1 ≠ next), some ⟨g.fill, void, none⟩⟩ } }

/-- An open seal window ends with no seal: its frozen set goes, and the set being filled is no longer in a window. -/
def closeWindow (s : State) : State :=
  let g := s.groom.staging
  { s with groom := { s.groom with staging :=
    { g with frozen := none, fill := g.fill.map (fun e => { e with inWindow := false }) } } }

/-- A tick runs in a state whose sets seal (R57, R96). -/
def State.sealing (s : State) : Bool :=
  s.tg.running && (s.dstate == .run || s.dstate == .degraded || s.dstate == .safe)

/-- The seal window of the next tick opens (R57). -/
def sealWindowOpen (s : State) : State := if s.sealing && !s.winOpen then freeze s else s

/-- The check of the frozen set ends (R58, R60). -/
def checkDone (s : State) : State :=
  match s.groom.staging.frozen with
  | some f =>
    if f.void || f.entries.isEmpty || f.verdict.isSome || !s.groom.up then s
    else
      let f' : Frozen := { f with verdict := some (verdict s f.entries) }
      { s with groom := { s.groom with staging := { s.groom.staging with frozen := some f' } } }
  | none => s

/-! ### The outcome of a seal (R61, R65) -/

/-- Record the outcome: RESULT, REASON, ENTRIES and the tick. -/
def noteSeal (result reason entries : Nat) (k : Word) (s : State) : State :=
  let s := ((s.setFld R.COMMIT_STATUS F.COMMIT_STATUS_RESULT result).setFld R.COMMIT_STATUS F.COMMIT_STATUS_REASON reason).setFld
    R.COMMIT_STATUS F.COMMIT_STATUS_ENTRIES entries
  s.setReg R.COMMIT_TICK k

/-- Start the tick generator at a commit (R45, R46). -/
def startTicks (s : State) : State := ({ s with tg := { s.tg with running := true, first := true } }).reanchor

/-- The transitions that a committed set causes: ticks started or stopped, and the end of a groom restart's
condition (Table CM-11, Table EV-3). -/
def afterCommit (s : State) : State :=
  let s := { s with groom := { s.groom with restarted := false } }
  let run := s.flag R.TICK_CTRL F.TICK_CTRL_RUN
  match s.dstate with
  | .config => if run then (startTicks s).goTo .run Ev.COMMIT_DONE else s
  | .run | .degraded => if run then s else ({ s with tg := { s.tg with running := false } }).goTo .config Ev.COMMIT_DONE
  | _ => s

/-- A sealed set takes effect with its verdict: it applies whole, or nothing of it does (R61). -/
def sealSet (es : List Entry) (v : Verdict) (k : Word) (s : State) : State :=
  match v with
  | .pass =>
    let s := commitSet es s
    afterCommit ((noteSeal 1 0 es.length k s).raise Ev.COMMIT_DONE 0 0)
  | .fail r tag unit =>
    let s := noteSeal 2 r es.length k s
    let s := s.setReg R.COMMIT_FAIL_SRC (w32 (tag.toNat + 65536 * unit.toNat))
    s.raise Ev.COMMIT_FAIL 0 0

/-- SEAL in CONFIG (R65): the status of its reply with it. -/
def sealNow (s : State) : Res × State :=
  let s := comingReady (idleEnd s)
  let es := s.groom.staging.fill
  let s := { s with groom := { s.groom with staging := { s.groom.staging with fill := [] } } }
  if es.isEmpty then (⟨St.OK, 1, [], false, none⟩, noteSeal 3 0 0 s.tickLo s)
  else
    let v := verdict s es
    let r := match v with | .pass => Res.ok [] | .fail reason _ _ => Res.err St.CHECK reason
    (r, sealSet es v s.tickLo s)

/-- The frozen set falls due at the tick instant (R60, R61). A check that has not finished is an overrun; no entry of the
set has failed then, and COMMIT_FAIL_SRC names the set's first entry (DESIGN CHOICE, log entry 73). -/
def sealDue (s : State) : State :=
  let g := s.groom.staging
  let s := closeWindow s
  match g.frozen with
  | none => s
  | some f =>
    if f.void then s
    else match f.entries with
      | [] => noteSeal 3 0 0 s.tickLo s
      | e :: _ => sealSet f.entries (f.verdict.getD (.fail 8 e.tag e.unit)) s.tickLo s

/-! ### The tick instant -/

/-- Sheds forced to P3 by TEMP_CRIT change level at this tick (R500). -/
def forceDue (s : State) : State :=
  if s.ev.forceP3 then ({ s with ev := { s.ev with forceP3 := false } }).forceSheds else s

/-- What every unit does at a tick instant after the apply strobe (R64); sheds whose clocks stand launch later (R72). -/
def tickWork (s : State) : State :=
  let s := stallsTick (fun h => s.pwr.stoppedSheds.contains h) s
  let s := remapFollow (remapsTick s)
  let s := trigsTick (headsTick s)
  dmaTick (codecTick (tickFills s))

/-- The tick instant of a running tick generator; the first after a sleep was accepted is the stop instant (R445). A
capture in the cycle of a step reads the stepped value, so the steps come first (R396). -/
def tickInstant (s : State) : State :=
  if s.pwr.entry.isSome then stopInstant s else
  let s := if s.sealing && !s.winOpen then freeze s else s
  let first := s.tg.first
  let s := { s with tg := { s.tg with count := s.tg.count + 1, since := s.tg.since + 1, first := false } }
  let s := applySteps (applyRebuilt (comingReady s)).newRecordPeriod
  let s := gatesTick (padsTick s)
  let before := s
  let s := forceDue (sealDue s)
  let moved := before.tickSrc ≠ s.tickSrc ∨ before.reg R.TICK_PERIOD ≠ s.reg R.TICK_PERIOD
  let s := if first ∨ moved then s.reanchor else s
  let s := tickWork (standTick (stopClocks before s))
  recover s

end Sys2Proof.Machine
end

