-- ==== Sys2Proof/Machine/Receipt.lean ====
section
/-! DEFINITION. Receipt of a command packet (R75–R77, R83, R99–R104, R565): the opcode index, the checks of Table CM-4
in order, and the staging entry a passing staged command makes. -/

namespace Sys2Proof.Machine

/-! ### The opcode index (Table CM-9) -/

/-- The modes of an opcode. -/
inductive OpMode where
  | imm | staged | both
  deriving DecidableEq, Repr

/-- The Auth column (R99). -/
inductive OpAuth where
  | o | c | p
  deriving DecidableEq, Repr

/-- A row of Table CM-9: unit classes, mode, the states it is legal in as a mask by code of Table CM-6, and its class
of authority. -/
structure OpInfo where
  classes : List Nat
  mode : OpMode
  legal : Nat
  auth : OpAuth
  deriving DecidableEq, Repr

def Lg.bncrdse : Nat := 255
def Lg.c : Nat := 4
def Lg.crd : Nat := 28
def Lg.crds : Nat := 60
def Lg.ncrds : Nat := 62
def Lg.s : Nat := 32
def Lg.ncrd : Nat := 30
def Lg.rd : Nat := 24
def Lg.rds : Nat := 56
def Lg.ncrdse : Nat := 254
def Lg.bncrds : Nat := 63
def Lg.cs : Nat := 36
def Lg.nc : Nat := 6

/-- Table CM-9. -/
def opInfo : Nat → Option OpInfo
  | 0x0 => some ⟨[0], .imm, Lg.bncrdse, .o⟩ -- PING
  | 0x1 => some ⟨[0], .imm, Lg.bncrdse, .o⟩ -- GET_ID
  | 0x2 => some ⟨[0], .imm, Lg.bncrdse, .o⟩ -- GET_STATE
  | 0x3 => some ⟨[0], .imm, Lg.c, .c⟩ -- SEAL
  | 0x4 => some ⟨[0], .imm, Lg.crd, .c⟩ -- ABORT_SEAL
  | 0x5 => some ⟨[0], .imm, Lg.crds, .o⟩ -- RESUME_REPORT
  | 0x6 => some ⟨[0], .imm, Lg.ncrds, .c⟩ -- EVENT_ROUTE
  | 0x7 => some ⟨[0], .imm, Lg.ncrds, .o⟩ -- EVENT_READ
  | 0x8 => some ⟨[0], .imm, Lg.ncrds, .c⟩ -- REG_READ
  | 0x9 => some ⟨[0], .both, Lg.crd, .c⟩ -- REG_WRITE
  | 0xA => some ⟨[0], .imm, Lg.crd, .o⟩ -- STAGE_QUERY
  | 0xB => some ⟨[0], .imm, Lg.s, .p⟩ -- SAFE_EXIT
  | 0xC => some ⟨[0], .imm, Lg.ncrds, .p⟩ -- RESET
  | 0xD => some ⟨[0], .staged, Lg.c, .c⟩ -- CONFIG_LOAD
  | 0xE => some ⟨[0], .imm, Lg.crd, .c⟩ -- CONFIG_SAVE
  | 0x100 => some ⟨[8], .staged, Lg.crd, .c⟩ -- LANE_SET
  | 0x101 => some ⟨[8], .both, Lg.crd, .c⟩ -- LANE_STATE
  | 0x102 => some ⟨[8], .imm, Lg.ncrds, .o⟩ -- LANE_STATUS
  | 0x103 => some ⟨[8], .staged, Lg.crd, .c⟩ -- LANE_BOND
  | 0x104 => some ⟨[0], .staged, Lg.crd, .c⟩ -- ROLL_CALL_SET
  | 0x105 => some ⟨[8], .imm, Lg.ncrd, .c⟩ -- DISCOVER
  | 0x106 => some ⟨[8], .imm, Lg.ncrds, .o⟩ -- PARTNER_INFO
  | 0x107 => some ⟨[8], .staged, Lg.crd, .c⟩ -- TRIGGER_SET
  | 0x108 => some ⟨[8], .imm, Lg.crd, .c⟩ -- TRIGGER_CAL
  | 0x109 => some ⟨[8], .both, Lg.crd, .c⟩ -- LINK_GPIO
  | 0x10A => some ⟨[8], .staged, Lg.crd, .c⟩ -- REPEATER_SET
  | 0x200 => some ⟨[1], .staged, Lg.crd, .c⟩ -- STREAM_OPEN
  | 0x201 => some ⟨[1], .staged, Lg.crd, .c⟩ -- STREAM_CLOSE
  | 0x202 => some ⟨[1], .staged, Lg.crd, .c⟩ -- STREAM_CROP
  | 0x203 => some ⟨[1], .staged, Lg.crd, .c⟩ -- STREAM_TARGET
  | 0x204 => some ⟨[1], .staged, Lg.crd, .c⟩ -- STREAM_TAG
  | 0x205 => some ⟨[1], .staged, Lg.crd, .c⟩ -- HDR_GROUP
  | 0x206 => some ⟨[1], .imm, Lg.crds, .o⟩ -- GATE_STATUS
  | 0x207 => some ⟨[1], .imm, Lg.crd, .c⟩ -- GATE_FLUSH
  | 0x300 => some ⟨[2, 3], .staged, Lg.crd, .c⟩ -- LOAD_KERNEL
  | 0x301 => some ⟨[2, 3], .staged, Lg.crd, .c⟩ -- BIND
  | 0x302 => some ⟨[2, 3], .staged, Lg.crd, .c⟩ -- SET_PARAM
  | 0x303 => some ⟨[3], .staged, Lg.crd, .c⟩ -- YARD_DEFINE
  | 0x304 => some ⟨[3], .staged, Lg.crd, .c⟩ -- YARD_DISSOLVE
  | 0x305 => some ⟨[2, 3], .staged, Lg.crd, .c⟩ -- UNBIND
  | 0x306 => some ⟨[2], .staged, Lg.crd, .c⟩ -- LOCKSTEP_PAIR
  | 0x307 => some ⟨[2, 3], .imm, Lg.crds, .o⟩ -- STALL_STATUS
  | 0x308 => some ⟨[3], .imm, Lg.crds, .o⟩ -- YARD_QUERY
  | 0x400 => some ⟨[4], .both, Lg.crd, .c⟩ -- MESH_LOAD
  | 0x401 => some ⟨[4], .staged, Lg.crd, .c⟩ -- REMAP_BIND
  | 0x402 => some ⟨[4], .staged, Lg.crd, .c⟩ -- REMAP_UNBIND
  | 0x403 => some ⟨[4], .imm, Lg.crds, .o⟩ -- REMAP_STATUS
  | 0x500 => some ⟨[5], .staged, Lg.crd, .c⟩ -- HEAD_SET
  | 0x501 => some ⟨[5], .staged, Lg.crd, .c⟩ -- HEAD_LANES
  | 0x502 => some ⟨[5], .staged, Lg.crd, .c⟩ -- KITE_SET
  | 0x503 => some ⟨[5], .staged, Lg.crd, .c⟩ -- KITE_CLEAR
  | 0x504 => some ⟨[5], .staged, Lg.crd, .c⟩ -- TETHER_SET
  | 0x505 => some ⟨[5], .staged, Lg.crd, .c⟩ -- TETHER_CLEAR
  | 0x506 => some ⟨[5], .staged, Lg.crd, .c⟩ -- DIRECT_SET
  | 0x507 => some ⟨[5], .staged, Lg.crd, .c⟩ -- DIRECT_CLEAR
  | 0x508 => some ⟨[5], .imm, Lg.ncrds, .o⟩ -- HEAD_STATUS
  | 0x509 => some ⟨[5], .imm, Lg.ncrds, .o⟩ -- WITNESS_STATUS
  | 0x600 => some ⟨[6], .staged, Lg.crd, .c⟩ -- CODEC_SET
  | 0x601 => some ⟨[6], .imm, Lg.crds, .o⟩ -- CODEC_STATUS
  | 0x700 => some ⟨[7], .staged, Lg.crd, .c⟩ -- PADDOCK_CREATE
  | 0x701 => some ⟨[7], .staged, Lg.crd, .c⟩ -- PADDOCK_DELETE
  | 0x702 => some ⟨[7], .staged, Lg.crd, .c⟩ -- PADDOCK_POLICY
  | 0x703 => some ⟨[7], .imm, Lg.rd, .c⟩ -- MARK_SET
  | 0x704 => some ⟨[7], .imm, Lg.rds, .c⟩ -- MARK_CLEAR
  | 0x705 => some ⟨[7], .imm, Lg.crds, .o⟩ -- PADDOCK_STATUS
  | 0x800 => some ⟨[9], .staged, Lg.crd, .c⟩ -- DMA_SET
  | 0x801 => some ⟨[9], .imm, Lg.crd, .c⟩ -- DMA_START
  | 0x802 => some ⟨[9], .imm, Lg.crds, .c⟩ -- DMA_ABORT
  | 0x803 => some ⟨[9], .imm, Lg.crds, .o⟩ -- DMA_STATUS
  | 0x900 => some ⟨[10], .both, Lg.crd, .c⟩ -- TB_SET
  | 0x901 => some ⟨[10], .imm, Lg.ncrds, .o⟩ -- TB_READ
  | 0x902 => some ⟨[10], .imm, Lg.crd, .c⟩ -- TB_ADJUST
  | 0x903 => some ⟨[10], .staged, Lg.crd, .c⟩ -- TB_PAIR
  | 0x904 => some ⟨[10], .both, Lg.crd, .c⟩ -- PPS_SET
  | 0x905 => some ⟨[10], .imm, Lg.crds, .o⟩ -- TS_READ
  | 0xA00 => some ⟨[11], .both, Lg.crd, .c⟩ -- TW_SET
  | 0xA01 => some ⟨[11], .imm, Lg.crds, .c⟩ -- TW_XFER
  | 0xA02 => some ⟨[11], .imm, Lg.ncrds, .o⟩ -- TW_STATUS
  | 0xA03 => some ⟨[11], .imm, Lg.c, .p⟩ -- TWT_SET
  | 0xB00 => some ⟨[12], .staged, Lg.crd, .c⟩ -- LEVEL_SET
  | 0xB01 => some ⟨[12], .staged, Lg.crd, .c⟩ -- DOMAIN_SET
  | 0xB02 => some ⟨[12], .imm, Lg.crds, .c⟩ -- SLEEP_ENTER
  | 0xB03 => some ⟨[12], .imm, Lg.crd, .c⟩ -- PAD_RELEASE
  | 0xB04 => some ⟨[12], .imm, Lg.crd, .c⟩ -- WAKE_SET
  | 0xB05 => some ⟨[12], .imm, Lg.ncrdse, .o⟩ -- POWER_STATUS
  | 0xC00 => some ⟨[13], .imm, Lg.ncrds, .o⟩ -- CRED_OPEN
  | 0xC01 => some ⟨[13], .imm, Lg.ncrds, .o⟩ -- CRED_CLOSE
  | 0xC02 => some ⟨[13], .imm, Lg.bncrds, .o⟩ -- ATTEST
  | 0xC03 => some ⟨[13], .imm, Lg.crd, .c⟩ -- CAMERA_AUTH
  | 0xC04 => some ⟨[13], .imm, Lg.c, .p⟩ -- KEY_REVOKE
  | 0xC05 => some ⟨[13], .imm, Lg.cs, .p⟩ -- DEBUG_UNLOCK
  | 0xC06 => some ⟨[13], .imm, Lg.crd, .c⟩ -- TRNG_READ
  | 0xC07 => some ⟨[13], .imm, Lg.ncrds, .o⟩ -- OTP_READ
  | 0xC08 => some ⟨[13], .imm, Lg.nc, .p⟩ -- FW_LOAD
  | 0xE00 => some ⟨[14], .imm, Lg.crds, .c⟩ -- PATTERN_SET
  | 0xE01 => some ⟨[14], .imm, Lg.crds, .o⟩ -- PATTERN_CHECK
  | 0xE02 => some ⟨[14], .imm, Lg.crds, .c⟩ -- LOOPBACK_SET
  | 0xE03 => some ⟨[14], .imm, Lg.crds, .c⟩ -- EYE_SCAN
  | 0xE04 => some ⟨[14], .imm, Lg.crd, .p⟩ -- ERR_INJECT
  | 0xE05 => some ⟨[14], .imm, Lg.cs, .p⟩ -- MEMTEST_RUN
  | 0xE06 => some ⟨[14], .imm, Lg.crds, .o⟩ -- DIAG_READ
  | _ => none

/-! ### Parameter counts (R565) -/

/-- The words of a list from word `first` on that fill the rest, at least `min` of them. -/
def listFrom (first min n : Nat) : Bool := decide (first + min ≤ n)

/-- The parameter count matches the opcode. -/
def opLen (op : Nat) (u : BitVec 16) (p : List Word) : Bool :=
  let n := p.length
  let w := wAt p 0
  match op with
  | 0x006 => decide (1 ≤ n ∧ n = 1 + bits w 16 8)
  | 0x009 => decide (n = 2 + bits w 24 24)
  | 0x007 | 0x008 | 0x101 | 0x103 | 0x108 | 0x109 | 0x10A | 0x201 | 0x207 | 0x300 | 0x306 | 0x503 | 0x505 | 0x704 | 0x903
  | 0x905 | 0xA00 | 0xA03 | 0xB00 | 0xB01 | 0xB02 | 0xB03 | 0xC01 | 0xC03 | 0xC05 | 0xC06 | 0xE01 | 0xE02 | 0xE03 | 0xE06 => n == 1
  | 0x203 | 0x204 | 0x703 | 0xC08 | 0xE04 => n == 2
  | 0x00D | 0x104 | 0x205 | 0x700 | 0x904 | 0xC04 => n == 3
  | 0x100 | 0x107 | 0x202 | 0x400 | 0x902 | 0xE00 => n == 4
  | 0x504 | 0x506 => n == 5
  | 0x500 | 0xB04 => n == 6
  | 0x200 | 0x702 | 0x800 | 0x900 => n == 7
  | 0x502 | 0xC02 => n == 9
  | 0x301 => n == 18
  | 0x302 => listFrom 1 1 n
  | 0x600 => (0x100 ≤ uIndex u && decide (uIndex u < 0x300)) || listFrom 1 1 n
  | 0x303 => decide (1 ≤ n ∧ n = 1 + ceilDiv (bits w 5 0) 2)
  | 0x401 => decide (10 ≤ n ∧ n = remapBindLen p)
  | 0x501 => listFrom 2 3 n && (n - 2) % 3 == 0
  | 0xA01 => decide (2 ≤ n ∧ n = twXferLen p)
  | 0xC00 => decide (n = if bit w 0 then 58 else 1)
  | 0xE05 => n == memLen u
  | _ => n == 0

/-! ### Units (R16, R104, Table TD-1) -/

/-- The test opcodes a test unit accepts (Table TD-1). -/
def testAccepts (i op : Nat) : Bool :=
  if i < 0x20 then [0xE00, 0xE01, 0xE03, 0xE04].contains op
  else if i < 0x200 then [0xE00, 0xE01, 0xE02, 0xE04].contains op
  else if i < 0x300 then op == 0xE05 else op == 0xE06

/-- The unit class is listed for the opcode. -/
def classOk (info : OpInfo) (op : Nat) (u : BitVec 16) : Bool :=
  info.classes.contains (uClass u) && (uClass u ≠ 14 || testAccepts (uIndex u) op)

/-- The domains a unit lies in; the frame store's units lie in two (R304). -/
def unitDomains (u : BitVec 16) : List Nat :=
  if uClass u = 7 ∨ u.toNat = 0xE220 then [0x31, 0x32] else [unitDomain u]

/-- Step 8: the unit's domain is on and ready (R74). -/
def domainChk (s : State) (u : BitVec 16) : Chk :=
  let ds := unitDomains u
  firstOf [need (ds.all s.domainOn) St.STATE 1, need (s.dstate == .boot || ds.all s.domainReady) St.STATE 2]

/-- Staged commands of a chain that join the set being filled. -/
def heldFill (s : State) (held : List Held) : List Entry :=
  held.filterMap (fun h => match s.joinOf h.tick with | .fill _ _ => some h.entry | _ => none)

/-- The yards as a command at receipt sees them: live, with the set being filled and its own chain (R103). -/
def planYards (s : State) (held : List Held) : List Yard := (applyYards s (s.groom.staging.fill ++ heldFill s held)).yards

/-- A yard exists for a command (R104): live, or defined in the set being filled or by its own chain. -/
def yardKnown (s : State) (held : List Held) (i : Nat) : Bool :=
  (s.yard? i).isSome || (s.groom.staging.fill ++ heldFill s held).any (fun e => e.isCmd 0x303 (0x3000 + i))

/-! ### Credentials (R99, R475) -/

def State.rtcNow (s : State) : Nat := s.pwr.rtc.toNat

/-- A handle carries the authority asked for. -/
def credChk (src : Source) (cred : Word) (owner : Bool) (s : State) : Chk :=
  if cred = 0 then some (St.AUTH, 1)
  else match s.sec.creds.find? (fun k => decide (k.handle = cred ∧ k.src = src)) with
  | none => some (St.AUTH, 2)
  | some k => firstOf [need (k.live && decide (s.rtcNow < k.expires)) St.AUTH 3, need (!owner || k.owner) St.AUTH 4]

/-- Step 5. -/
def authChk (a : OpAuth) (src : Source) (cred : Word) (s : State) : Chk :=
  match a with
  | .o => none
  | .c => if src = .image ∨ !s.sec.otp.cmdAuth then none else credChk src cred false s
  | .p => if src = .image then none else credChk src cred true s

/-! ### Flags (R77, R84, R95) -/

/-- Opcodes that may carry URGENT. -/
def urgentOk (op : Nat) : Bool := [0x000, 0x002, 0x007, 0x004, 0x802, 0xB02].contains op

/-- Step 7. -/
def flagsChk (info : OpInfo) (c : Cmd) (ch : Option Chain) : Chk :=
  let p := c.pkt
  firstOf [need (if p.stage then info.mode ≠ .imm else info.mode ≠ .staged) St.RANGE 0xFF01,
    need (p.stage || p.applyTick == 0) St.RANGE 0xFF03,
    need (!p.urgent || urgentOk c.opcode.toNat) St.RANGE 0xFF04,
    need (match ch with | some h => h.staged == p.stage | none => true) St.RANGE 0xFF05]

/-! ### Register commands (R82, R538) -/

def regOff (p : List Word) : Nat := bits (wAt p 0) 23 0
def regWide (p : List Word) : Bool := bit (wAt p 0) 24

/-- The registers a register command names. -/
def regAddrs (p : List Word) : List Nat := if regWide p then [regOff p, regOff p + 4] else [regOff p]

/-- A register with ST fields. -/
def isST (a : Nat) : Bool := stMask a ≠ 0

/-- Receipt checks of REG_READ and REG_WRITE. -/
def regChk (stage : Bool) (p : List Word) (s : State) : Chk :=
  let a := regOff p
  firstOf [inRange (bits (wAt p 0) 31 25 == 0 && a % (if regWide p then 8 else 4) == 0) 0,
    need (pageAssigned (a / 0x10000)) St.ABSENT 0, need (!fusedReg s.part.ab a) St.ABSENT 0,
    inRange (!stage || (regAddrs p).all isST) 0,
    need (!s.darkReg a) St.DARK (a / 0x10000)]

/-! ### Parameters in range, named units (Table CM-4 step 9) -/

/-- A named unit exists, else ABSENT with its address. -/
def named (s : State) (u : Nat) : Chk := need (s.unitOk (BitVec.ofNat 16 u)) St.ABSENT u

/-- A window of a BIND (Table ST-9). -/
def winLegal (p : List Word) (i : Nat) : Chk :=
  let a := wAt p (2 + 2 * i)
  let n := bits (wAt p (3 + 2 * i)) 16 0
  let base := bits a 19 0
  inRange (!bit a 31 || decide (1 ≤ n ∧ n ≤ 65536 ∧ base / 65536 = (base + n - 1) / 65536)) (3 + 2 * i)

/-- An outbound port of a BIND. -/
def portLegal (p : List Word) (s : State) (i : Nat) : Chk :=
  let a := wAt p (10 + 2 * i)
  let stall := bits a 15 0
  if !bit a 31 then none else
  firstOf [inRange (decide (4 ≤ bits a 27 24 ∧ bits a 27 24 ≤ 12 ∧ stall / 0x1000 = 2)) (10 + 2 * i), named s stall]

/-- BIND's parameters (R228, Table ST-9). -/
def bindLegal (yard : Bool) (p : List Word) (s : State) : Chk :=
  firstOf ([inRange (wAt p 0 ≠ 0) 0, inRange ([1, 2].contains (bits (wAt p 1) 1 0)) 1] ++ (upTo 4).map (winLegal p)
    ++ (if yard then (upTo 8).map (fun i => inRange (wAt p (10 + i) == 0) (10 + i)) else (upTo 4).map (portLegal p s)))

/-- YARD_DEFINE's descriptor, and members that exist (R225, R3). -/
def yardLegal (p : List Word) (s : State) : Chk :=
  firstOf (descLegal p :: (descMembers p).map (fun m => named s m.toNat))

/-- The configuration a gate command is judged by (R179): live with the set being filled and its own chain. -/
def gateView (s : State) (held : List Held) : State :=
  (s.groom.staging.fill ++ heldFill s held).foldl (fun t e => match e.kind with
    | .regs ws => t.putSTs ws
    | .cmd op u p => if 0x200 ≤ op.toNat ∧ op.toNat ≤ 0x205 then applyCmd op.toNat u p t else t
    | .image _ => t) s

/-- The canvas size that a KITE_SET is judged by (R332): live with the set being filled and its own chain. -/
def planSize (s : State) (held : List Held) (n : Nat) : Word :=
  ((s.groom.staging.fill ++ heldFill s held).foldl (fun t e => match e.kind with
    | .regs ws => t.putSTs ws
    | .cmd op u p => if op.toNat = 0x500 ∧ uClass u = 5 ∧ uIndex u = n then t.putSTs (headSetRegs n p) else t
    | .image _ => t) s).reg (R.HEAD_SIZE n)

/-- The crop window that a gate command would leave is legal, else RANGE with the index of its CROP_X word (R179). -/
def cropChk (op g : Nat) (u : BitVec 16) (p : List Word) (v : State) (at_ : Nat) : Chk :=
  inRange ((applyCmd op u p v).gwords g (bits (wAt p 0) 3 0)).cropOk at_

/-- STREAM_OPEN's context is free live and in the set being filled (Table GT-6). -/
def openChk (g : Nat) (p : List Word) (s v : State) : Chk :=
  let c := bits (wAt p 0) 3 0
  inRange (s.ctxState g c == Gs.free && !s.flag (R.GATE_CTRL g c) F.GATE_CTRL_OPEN && !v.flag (R.GATE_CTRL g c) F.GATE_CTRL_OPEN) 0

/-- An address range given for an image: in the heap, a multiple of 64 (R490). -/
def imageLegal (p : List Word) : Chk :=
  let a := (wAt p 0).toNat
  firstOf [inRange (a % 64 == 0 && inHeap a 1) 0, inRange (decide (1 ≤ (wAt p 1).toNat) && inHeap a (wAt p 1).toNat) 1]

/-- KEY_REVOKE's words (Table BS-11). -/
def revokeLegal (p : List Word) : Chk :=
  let v := (wAt p 1).toNat
  match bits (wAt p 0) 1 0 with
  | 0 => inRange (decide (1 ≤ v ∧ v ≤ 4)) 1
  | 1 => none
  | 2 => inRange (decide (1 ≤ v ∧ v ≤ 3)) 1
  | _ => some (St.RANGE, 0)

/-- TB_ADJUST's words (R398). -/
def adjustLegal (n : Nat) (p : List Word) (s : State) : Chk :=
  let kind := bits (wAt p 0) 1 0
  firstOf [inRange (decide (kind ≤ 1) && s.tbMode n ≠ 1 && !(s.tbMode n == 2 && kind == 1)) 0,
    inRange (adjustTarget n p s).isSome 1]

/-- An immediate LANE_STATE that would take a bound lane down (R136). -/
def laneDownChk (x : Nat) (p : List Word) (s : State) : Chk :=
  need (!s.laneBound x || bits (wAt p 0) 2 0 == Ls.up) St.CHECK 1

/-- Parameters of one opcode, its count apart; `v` is the view of R179. -/
def paramChk (op : Nat) (u : BitVec 16) (stage : Bool) (p : List Word) (held : List Held) (s : State) : Chk :=
  let i := uIndex u
  let x := (laneNo i).getD 0
  let w := wAt p 0
  match op with
  | 0x006 => inRange (decide (1 ≤ bits w 16 8 ∧ bits w 7 0 + bits w 16 8 ≤ 256)) 0
  | 0x007 => inRange (decide (1 ≤ bits w 3 0)) 0
  | 0x008 => regChk false p s
  | 0x009 => regChk stage p s
  | 0x00D => imageLegal p
  | 0x100 => laneSetLegal p
  | 0x101 => firstOf [laneStateLegal p, if stage then none else laneDownChk x p s]
  | 0x103 => laneBondLegal x p
  | 0x104 => inRange (rollOk w) 0
  | 0x107 => trigSetLegal x p
  | 0x108 => inRange (decide (x < 32 ∧ 1 ≤ w.toNat ∧ w.toNat ≤ 64)) 0
  | 0x10A => firstOf [repeaterLegal x p, if bit w 0 then named s (0x8000 + bits w 12 8) else none]
  | 0x200 =>
    let v := gateView s held
    firstOf [streamOpenLegal p, openChk i p s v, cropChk op i u p v 2]
  | 0x201 => ctxLegal p
  | 0x202 => firstOf [streamCropLegal p, cropChk op i u p (gateView s held) 1]
  | 0x203 => streamTargetLegal p
  | 0x204 => streamTagLegal p
  | 0x205 => hdrGroupLegal p
  | 0x207 => inRange ((onesOf (bits w 15 0) 16).all (fun c => s.ctxState i c == Gs.free || !s.ctxDirect i c)) 0
  | 0x300 => inRange (s.findKernel (bits w 15 0) (bits w 31 16)).isSome 0
  | 0x301 => bindLegal (uClass u == 3) p s
  | 0x302 => inRange (decide (bits w 7 0 + (p.length - 1) ≤ 256)) 0
  | 0x303 => yardLegal p s
  | 0x306 => inRange (i % 2 == 0) 0
  | 0x400 => meshLoadLegal p s
  | 0x401 => remapBindLegal p s
  | 0x500 => headSetLegal p
  | 0x501 => headLanesLegal p
  | 0x502 => kiteSetLegal (planSize s held i) p
  | 0x503 => inRange (decide (bits w 4 0 ≤ 16)) 0
  | 0x504 => inRange (tetherOk (wAt p 1)) 1
  | 0x506 => firstOf [inRange (F.HEAD_DIR_SRC_PAIR.get w % 2 == 0) 0, directSetLegal p, named s (0x1000 + F.HEAD_DIR_SRC_GATE.get w),
      named s (0x2000 + F.HEAD_DIR_SRC_PAIR.get w)]
  | 0x600 => codecSetLegal i p
  | 0x700 => firstOf [inRange (s.pad? i).isNone 0, padCreateLegal p]
  | 0x702 => padPolicyLegal p
  | 0x704 => inRange (decide (w.toNat ≤ 3 ∨ w.toNat = 0xFF)) 0
  | 0x800 => dmaSetLegal p
  | 0x900 => firstOf [inRange (tbCtrlOk w) 0, inRange (tbGptpOk (wAt p 1)) 1, inRange (tbLimitsOk (wAt p 2)) 2,
      inRange (tbStepOk (wAt p 3)) 3]
  | 0x902 => adjustLegal i p s
  | 0x904 => firstOf [inRange (ppsOutOk (wAt p 1)) 1, inRange (ppsPhaseOk (wAt p 2)) 2]
  | 0x905 => inRange (decide (bits w 1 0 ≤ 2)) 0
  | 0xA00 => inRange (match twCtlOf i with | some c => twCtrlOk c w | none => false) 0
  | 0xA01 => firstOf [inRange (twCtlOf i).isSome 0, twXferLegal p]
  | 0xA03 => inRange (i == 0x200 && twtSetOk w) 0
  | 0xB00 => levelSetLegal u p
  | 0xB01 => domainSetLegal u p
  | 0xB02 => firstOf [inRange (i == 0 && decide (bits w 2 0 ≤ 4)) 0, need (bits w 2 0 ≠ 1 || s.dstate == .config) St.STATE 0]
  | 0xB03 | 0xB04 => inRange (i == 0) 0
  | 0xC00 => firstOf [inRange (!bit w 0 || decide (1 ≤ bits w 31 8 ∧ bits w 31 8 ≤ 86400)) 0,
      inRange (!bit w 0 || decide ((wAt p 33).toNat < 256)) 33]
  | 0xC03 => firstOf [inRange (authLane w).isSome 0, named s w.toNat]
  | 0xC04 => revokeLegal p
  | 0xC06 => inRange (decide (1 ≤ w.toNat ∧ w.toNat ≤ 64)) 0
  | 0xC08 => imageLegal p
  | 0xE02 => inRange (decide (bits w 1 0 ≤ 2)) 0
  | 0xE03 => eyeLegal p
  | 0xE04 => injectLegal p
  | 0xE05 => memLegal u p
  | 0xE06 => diagLegal p
  | _ => none

/-! ### Yards: fan-out (R102, R103, R228) -/

/-- Opcodes that a yard passes on to its stalls. -/
def fansOut (op : Nat) (u : BitVec 16) : Bool := uClass u == 3 && [0x300, 0x301, 0x302, 0x305, 0x307].contains op

/-- The checks of one stall: its own existence and domain, the command's parameters, and its place in a pair (R221). -/
def stallChk (s : State) (op n : Nat) (common : Chk) : Chk :=
  let u := BitVec.ofNat 16 (stallUnit n)
  firstOf [need (s.unitOk u) St.ABSENT 0, domainChk s u, common,
    need (!([0x300, 0x301, 0x302, 0x305].contains op && (s.stall n).lock && n % 2 == 1)) St.CHECK 1]

/-- The fan-out word (R102). -/
def fanWord (ns : List Nat) (first : Option Nat) : Word :=
  w32 (ns.length + 65536 * (match first with | some n => stallUnit n | none => 0xFFFF))

/-- The reply of a command that some stall of a yard refuses: the worst status, the first failing stall's detail. -/
def fanFail (cs : List (Nat × Chk)) : Option Res :=
  let bad := cs.filterMap (fun e => e.2.map (fun r => (e.1, r)))
  match bad with
  | [] => none
  | (n, r) :: _ =>
    let worst := bad.foldl (fun w e => if stRank e.2.1 < stRank w then e.2.1 else w) r.1
    some ⟨worst, r.2, [fanWord (cs.map (·.1)) (some n)], true, none⟩

/-- A failure of a command to a yard as a whole is the failure of every stall reached: the reply carries the fan-out
word (R102). A yard that does not exist reaches none, and its command answers without one. -/
def fanned (c : Cmd) (held : List Held) (s : State) (r : Res) : Res :=
  if fansOut c.opcode.toNat c.pkt.unit && yardKnown s held (uIndex c.pkt.unit) then
    let ns := reach (planYards s held) yardFuel [c.pkt.unit]
    { r with payload := [fanWord ns ns.head?], fanout := true }
  else r

/-! ### The checks in order (R83) -/

/-- Steps 1–7 of Table CM-4. -/
def headChk (c : Cmd) (ch : Option Chain) (s : State) : Chk :=
  let op := c.opcode.toNat
  let u := c.pkt.unit
  let limit : Nat := match c.pkt.src with | .eth _ => 369 | .twt => 60 | _ => 4095
  match opInfo op with
  | none => firstOf [need (decide (c.pkt.params.length ≤ limit)) St.RANGE 0xFF02, some (St.UNKNOWN, 1)]
  | some info =>
    let held := match ch with | some h => h.held | none => []
    let exist := s.unitOk u && (uClass u ≠ 3 || op == 0x303 || yardKnown s held (uIndex u))
    firstOf [need (decide (c.pkt.params.length ≤ limit)) St.RANGE 0xFF02, need exist St.ABSENT 0,
      need (classOk info op u) St.UNKNOWN 2, authChk info.auth c.pkt.src c.pkt.cred s,
      need (info.legal / 2 ^ s.dstate.code % 2 == 1) St.STATE 0, flagsChk info c ch]

/-- Step 9 as one check: the count, then the parameters. -/
def step9 (c : Cmd) (held : List Held) (s : State) : Chk :=
  let op := c.opcode.toNat
  firstOf [need (opLen op c.pkt.unit c.pkt.params) St.RANGE 0xFF02,
    if opLen op c.pkt.unit c.pkt.params then paramChk op c.pkt.unit c.pkt.stage c.pkt.params held s else none]

/-- Step 10: the yard graph (R104). -/
def graphChk (c : Cmd) (held : List Held) (s : State) : Chk :=
  if c.opcode.toNat ≠ 0x303 then none else
  let i := uIndex c.pkt.unit
  let ms := descMembers c.pkt.params
  let ys := planYards s held
  firstOf [need (!closesCycle ys i ms) St.CHECK 0x10, need (decide ((defineYard ys i ms).length ≤ 255)) St.CHECK 0x11]

/-- The reply of the first check that fails, steps 1–10; none where all pass. A fan-out command is checked stall by
stall. -/
def checkCmd (c : Cmd) (ch : Option Chain) (s : State) : Option Res :=
  let op := c.opcode.toNat
  let u := c.pkt.unit
  let held := match ch with | some h => h.held | none => []
  match headChk c ch s with
  | some (st, d) => some (fanned c held s (Res.err st d))
  | none =>
    let nine := step9 c held s
    if fansOut op u then
      let ns := reach (planYards s held) yardFuel [u]
      let cs := ns.map (fun n => (n, stallChk s op n nine))
      if op = 0x307 ∧ nine.isNone then none
      else match fanFail cs with
      | some r => some r
      | none => nine.map (fun e => ⟨e.1, e.2, [fanWord ns none], true, none⟩)
    else
      let chk := if uClass u = 2 then stallChk s op (uIndex u) nine else firstOf [domainChk s u, nine]
      match firstOf [chk, graphChk c held s] with
      | some (st, d) => some { Res.err st d with payload := if st = St.DARK ∧ op = 8 then [0xFFFFFFFF] else [] }
      | none => none

/-- Steps 11 and 12 for a command of a chain, or alone: the staging and chain limits, the apply tick. -/
def limitChk (c : Cmd) (ch : Option Chain) (s : State) : Chk :=
  let full := match ch with
    | some h => decide (64 ≤ h.count) || decide (4096 < h.words + c.pkt.params.length)
    | none => decide (c.pkt.chain ∧ 4096 < c.pkt.params.length)
  let held := match ch with | some h => h.held | none => []
  let fills := (heldFill s held).length
  let j := s.joinOf c.pkt.applyTick
  firstOf [need (!full) St.BUSY 4, if c.pkt.stage then s.stageRoom j fills (held.length - fills) else none,
    need (!(c.pkt.stage && j == .late)) St.LATE 0]

/-! ### Staging entries -/

/-- The parameters as an entry keeps them: LOAD_KERNEL names the version it selected at receipt (R218). -/
def entryParams (op : Nat) (p : List Word) (s : State) : List Word :=
  if op ≠ 0x300 then p else
  match s.findKernel (bits (wAt p 0) 15 0) (bits (wAt p 0) 31 16) with
  | some o => [w32 (o.kernelId.toNat + 65536 * o.kver.toNat)]
  | none => p

/-- The image of a CONFIG_LOAD, verified at receipt (R483). -/
def loadImage (p : List Word) (s : State) : Option (Nat × Nat) × Option StagedImage × State :=
  let w := ImgAt.heap (wAt p 0).toNat (wAt p 1).toNat
  if (readImg s w).type = 1 then (some (St.RANGE, 0), none, s) else
  match verifyImg [2, 3, 5] false w s with
  | (_, some _, s) => (some (St.CHECK, 9), none, s)
  | (i, none, s) =>
    (none, some { type := i.type, key := i.key, imageVer := w32 i.ver, svn := i.svn, payload := i.payload, whole := i.whole,
                  digest := i.digest, flash := bit (wAt p 2) 0 }, s)

/-- The entry of a staged command that passed, with the payload of its reply; a CONFIG_LOAD may still fail. -/
def entryOf (c : Cmd) (s : State) : Except (Nat × Nat) Held × State :=
  let p := c.pkt.params
  let mk (k : EntryKind) (pay : List Word) (fan : Bool) : Held := ⟨c.pkt.applyTick, ⟨c.pkt.tag, c.pkt.unit, k, false⟩, pay, fan⟩
  match c.opcode.toNat with
  | 0x009 => (.ok (mk (.regs ((regAddrs p).zip (p.drop 1))) [] false), s)
  | 0x00D =>
    match loadImage p s with
    | (some e, _, s) => (.error e, s)
    | (none, some i, s) => (.ok (mk (.image i) [w32 i.type, i.imageVer] false), s)
    | (none, none, s) => (.error (St.CHECK, 9), s)
  | op => (.ok (mk (.cmd c.opcode c.pkt.unit (entryParams op p s)) [] (fansOut op c.pkt.unit)), s)

/-- What the receipt of a command gives. -/
inductive Receipt where
  /-- The command fails with this result. -/
  | fail (r : Res)
  /-- It passed and executes now. -/
  | run
  /-- It passed and is a staging entry. -/
  | stage (h : Held)
  deriving DecidableEq, Repr

/-- The payload of a staged yard command begins with its fan-out word. -/
def fanPayload (c : Cmd) (held : List Held) (h : Held) (s : State) : Held :=
  if h.fanout then { h with payload := [fanWord (reach (planYards s held) yardFuel [c.pkt.unit]) none] } else h

/-- The receipt of a command as a member of chain `ch`, or alone (Table CM-4). -/
def receive (c : Cmd) (ch : Option Chain) (s : State) : Receipt × State :=
  match checkCmd c ch s with
  | some r => (.fail r, if r.status = St.DARK then darkAccess r.detail s else s)
  | none =>
    let held := match ch with | some h => h.held | none => []
    if !c.pkt.stage then
      match limitChk c ch s with
      | some (st, d) => (.fail (fanned c held s (Res.err st d)), s)
      | none => (.run, s)
    else
      match entryOf c s with
      | (.error (st, d), s) => (.fail (Res.err st d), s)
      | (.ok h, s) =>
        match limitChk c ch s with
        | some (st, d) => (.fail (fanned c held s (Res.err st d)), s)
        | none => (.stage (fanPayload c held h s), s)

/-- A held entry joins its set: the result of its command, and what its reply waits for. A MESH_LOAD copies now and
replies at the copy's end (R267). -/
def accept (h : Held) (s : State) : Res × Option WaitKey × State :=
  let j := s.joinOf h.tick
  let r := { joinRes j with payload := h.payload, fanout := h.fanout }
  let s := addEntry j h.entry s
  match h.entry.meshSlot, h.entry.kind with
  | some m, .cmd _ _ p => (r, some (.meshLoad m), meshLoadStart p (some (r.status, r.tick.getD s.tickLo)) s)
  | _, _ => (r, none, s)

end Sys2Proof.Machine
end

