-- ==== Sys2Proof/Machine/Boot.lean ====
section
/-! DEFINITION. Boot (R462–R469, R480–R482, R486): cold boots and the warm reset, the mask ROM's steps, and the start of
the firmware. -/

namespace Sys2Proof.Machine

/-! ### What a reset leaves (R468, R532) -/

/-- Everything at its value after a cold boot; OTP, flash, straps and balls stand. -/
def coldReset (s : State) : State :=
  let z := State.reset
  { z with pending := s.pending, out := s.out, fresh := s.fresh, part := s.part,
           sec := { z.sec with otp := s.sec.otp, straps := s.sec.straps, strapBalls := s.sec.strapBalls, flash := s.sec.flash,
                               flashBad := s.sec.flashBad } }

/-- A time base through a warm reset: its value stands, its EPOCH counts on (R468). -/
def warmTb (old : State) (s : State) (n : Nat) : State :=
  (s.setTb n { Tb.zero with val := (old.tb n).val }).setFld (R.TB_STATUS n) F.TB_STATUS_EPOCH (old.epoch n + 1)

/-- The warm reset (R468): every domain but the always-on part and the frame store, which goes into self-refresh. -/
def warmReset (s : State) : State :=
  let z := State.reset
  let kept := s.regs.filter (fun e => domainOf e.1 == 0x35)
  let t := { z with
    pending := s.pending, out := s.out, fresh := s.fresh, part := s.part, cause := s.cause, regs := kept,
    tg := { z.tg with count := s.tg.count },
    clk := { z.clk with localNs := s.clk.localNs },
    pwr := { z.pwr with rtc := s.pwr.rtc, rtcNs := s.pwr.rtcNs, padLatch := s.pwr.padLatch, startNs := s.clk.localNs },
    sec := { z.sec with otp := s.sec.otp, straps := s.sec.straps, strapBalls := s.sec.strapBalls, flash := s.sec.flash,
                        flashBad := s.sec.flashBad, warm := true },
    store := { z.store with mem := s.store.mem, poison := s.store.poison, masks := s.store.masks, selfRefresh := true } }
  let t := (t.setReg R.PWR_CNT 0).setReg R.TOP_BOOT_TIME 0
  let t := (t.setFld R.TWT_CNT F.TWT_CNT_PROTO 0).setFld R.TWT_CNT F.TWT_CNT_WAKES 0
  let t := (t.setFld R.TOP_RESET_CAUSE F.TOP_RESET_CAUSE_CAUSE 1).incSat R.TOP_RESET_CAUSE F.TOP_RESET_CAUSE_RESETS 1
  (upTo 4).foldl (fun t n => warmTb s t n) (t.setReadyBits 0)

/-! ### STANDALONE (R486) -/

/-- The frame store is trained and keyed: six hash masks of 18 bits (R307, FS_STATUS.KEYED). -/
def keyStore (s : State) : State :=
  let (ws, s) := s.drawWords 6
  let s := s.setFlag R.FS_STATUS F.FS_STATUS_KEYED true
  { s with store := { s.store with masks := ws.map (fun w => BitVec.ofNat 18 w.toNat), mem := [], poison := [], selfRefresh := false } }

/-- Every domain on in the live configuration is ready. -/
def allReady (s : State) : State := makeReady ((upTo 0x34).filter s.domainOn) s

/-- The ROM personality starts (R486). -/
def enterStandalone (s : State) : State :=
  let s := if s.sec.warm then { s with store := { s.store with selfRefresh := false } } else keyStore s
  let s := ({ s with sec := { s.sec with warm := false } }).goTo .standalone 0xF002
  let old := s
  let s := allReady (s.putSTs (standRegs s))
  let s := s.setHead 0 { s.head 0 with lanes := 1 }
  startTicks (reactAll old s)

/-! ### Mask ROM (Table BS-5, steps 1–4) -/

/-- Steps 2–4: STANDALONE, or verified firmware ready to start. -/
def romSteps (s : State) : State :=
  if s.sec.straps.bootSel = 1 then enterStandalone s else
  match s.directory with
  | none => enterStandalone s
  | some (copy, xspi, _) =>
    let s := s.setFld R.SEC_BOOT F.SEC_BOOT_DIR_COPY copy
    let s := { s with sec := { s.sec with xspi := xspi } }
    let (good, codes, s) := firstGood 1 (s.candidates 1) s
    let s := noteRejects codes s
    match good with
    | none => enterStandalone s
    | some (e, i) =>
      let s := (s.setFld R.SEC_BOOT F.SEC_BOOT_FW_SLOT e.slot).setFld R.SEC_BOOT F.SEC_BOOT_FW_KEY i.key
      { s with sec := { s.sec with fw := some (w32 i.ver, i.svn, i.key, i.digest), fwReady := true } }

/-- The TWT0 window address that the straps name (R430). -/
def strapAddr (v : Nat) : Nat := match v with | 0 => 0x28 | 1 => 0x2C | 2 => 0x48 | _ => 0x4C

/-- A cold boot's ROM steps: straps and known-answer tests first (step 1). The transition from Off raises STATE_CHANGE with
BOOT as old and new state, since Off has no code (log entry 55). -/
def coldBoot (balls : Straps) (katOk : Bool) (s : State) : State :=
  if s.dstate ≠ .boot ∨ !s.pwr.pwrgood ∨ s.sec.fwReady ∨ s.sec.fw.isSome then s else
  let s := if s.evStatus Ev.STATE_CHANGE then s else s.moveTo .boot 0xF000
  let s := { s with sec := { s.sec with strapBalls := balls, straps := balls, trngOk := katOk, bootFault := !katOk } }
  let s := s.setFld R.TWT_CTRL F.TWT_CTRL_ADDR (strapAddr balls.twtAs)
  let s := { s with pwr := { s.pwr with startNs := s.clk.localNs } }
  if katOk then romSteps s else s

/-! ### The configuration image (R481, R482) -/

/-- The commands of a configuration image, taken as staging entries until one fails: its index and status. -/
def takeImage (i : Nat) : List Cmd → State → Option (Nat × Nat) × State
  | [], s => (none, s)
  | c :: cs, s =>
    match receive c none s with
    | (.fail r, s) => (some (i, r.status), s)
    | (.run, s) => (some (i, St.RANGE), s)
    | (.stage h, s) => takeImage (i + 1) cs (accept h s).2.2

/-- Step 9: the image's commands are staged and sealed as SEAL does in CONFIG (R482). -/
def applyConfig (payload : List Byte) (s : State) : State :=
  let cs := ((sectionsOf payload).bind imageCommands).getD []
  match takeImage 0 cs s with
  | (some (i, st), s) => s.discardStaged.raise Ev.CFG_BOOT_FAIL 0 (evArg i st 0)
  | (none, s) => (sealNow s).2

/-- A configuration slot of the flash, verified. -/
def verifySlot (slot : Nat) (s : State) : Option Img × State :=
  match s.dirAt 3 slot with
  | none => (none, s)
  | some e =>
    match verifyImg [3] (slot == 1) (.flash e.off e.len) s with
    | (i, none, s) => (some i, s)
    | (_, some c, s) => (none, noteRejects [c] s)

/-- OWNER_REF of a saved image (Table BS-8). -/
def ownerRef (i : Img) : BitVec 384 := BitVec.ofNat 384 (beNat (((bodies 1 ((sectionsOf i.payload).getD [])).headD [])))

/-- Step 8: the image in use and its slot; sections 0x03–0x05 come from slot 0 (R481). -/
def chooseConfig (s : State) : Option (Nat × Img) × State :=
  let (saved, s) := verifySlot 1 s
  let owner := s.flashDigest 3 0
  let fits := match saved with | some i => owner == some (ownerRef i) | none => false
  let ownerImg := (s.dirAt 3 0).map (fun e => readImg s (.flash e.off e.len))
  match saved, fits with
  | some i, true => (some (1, i), match ownerImg with | some o => applyOwner o.payload s | none => s)
  | _, _ =>
    match verifySlot 0 s with
    | (some i, s) => (some (0, i), applyOwner i.payload s)
    | (none, s) => (none, s)

/-! ### Firmware (Table BS-5, steps 5–9) -/

/-- Step 7: the kernel cache is filled from a verified library, or stays empty. -/
def fillCache (s : State) : State :=
  let (good, codes, s) := firstGood 2 (s.candidates 2) s
  let s := noteRejects codes s
  match good with
  | some (e, i) =>
    let c := cacheAdd [] (objectsOf i.key i.payload)
    let s := s.setFld R.SEC_BOOT F.SEC_BOOT_LIB_SLOT e.slot
    { s with sec := { s.sec with cache := if cacheFits c then c else [], libSvn := i.svn, libDigest := i.digest } }
  | none => { s with sec := { s.sec with cache := [] } }

/-- Steps 7–9 in CONFIG. -/
def firmwareSteps (s : State) : State :=
  let s := fillCache s
  let s := if s.fld R.SEC_BOOT F.SEC_BOOT_LIB_SLOT = 3 then s.raise Ev.BOOT_IMAGE_FAIL 0 0 else s
  match chooseConfig s with
  | (none, s) => s.raise Ev.BOOT_IMAGE_FAIL 0 0
  | (some (slot, i), s) =>
    let s := s.setFld R.SEC_BOOT F.SEC_BOOT_CFG_SLOT slot
    applyConfig i.payload { s with sec := { s.sec with cfgSvn := i.svn, cfgDigest := i.digest } }

/-- Verified firmware starts (steps 5–9). `trained`: the recalibration of a warm reset succeeds (R468). -/
def firmwareStart (trained : Bool) (s : State) : State :=
  if s.dstate ≠ .boot ∨ !s.sec.fwReady then s else
  let keep := s.sec.warm && trained
  let s := { s with sec := { s.sec with fwReady := false, warm := false }, groom := { s.groom with up := true } }
  let s := tellPmic s
  if !keep && !s.sec.trngOk then
    let s := makeReady ((upTo 0x34).filter (fun d => s.domainOn d && d != 0x31 && d != 0x32)) s
    ({ s with ev := { s.ev with trngBoot := true } }).goTo .safe Ev.TRNG_FAIL
  else
    let s := if keep then { s with store := { s.store with selfRefresh := false } } else keyStore s
    firmwareSteps ((settleDram (allReady s)).goTo .config 0xF001)

end Sys2Proof.Machine
end

