-- ==== Sys2Proof/Machine/Resume.lean ====
section
/-! DEFINITION. Resume from Hold and Stow (R455–R459), the loss and return of the supplies (R550–R553), and the
temperature (R498). -/

namespace Sys2Proof.Machine

/-! ### Cold starts -/

/-- The hub starts again as after power-up; its next event is COLD_BOOT (R455, R552). A sleep that ends so moves to BOOT
with cause 0xF000 (R97); a start from Off has no earlier state to report, and COLD_BOOT raises its STATE_CHANGE. -/
def coldStart (good : Bool) (s : State) : State :=
  let t := coldReset s
  let t := { t with pwr := { t.pwr with pwrReq := true, pwrgood := good, pmicTimeouts := if good then s.pwr.pmicTimeouts else 0,
                                        pmicFails := if good then s.pwr.pmicFails else [] } }
  match s.dstate with
  | .holdEntry | .stowEntry => ({ t with dstate := s.dstate }).moveTo .boot 0xF000
  | _ => t

/-! ### The groom's own banks (R455) -/

/-- The wave in which a bank is checked; 0 the groom and security banks, before the groom runs. -/
def waveOf (b : Nat) : Nat :=
  if 0x33 ≤ b then 0
  else if b = 0x31 ∨ b = 0x32 ∨ (0x10 ≤ b ∧ b < 0x20) then 1
  else if (0x20 ≤ b ∧ b < 0x2C) ∨ b = 0x2D ∨ b = 0x2F ∨ b = 0x30 then 2
  else if b < 8 ∨ b = 0x2C then 3
  else 4

/-- PWR_BANK before the checks: passed, or not retained where the domain was off at entry. -/
def startBanks (s : State) : State :=
  (upTo 60).foldl (fun t b =>
    let d := if b < 0x33 then b else if b = 0x33 ∨ 0x3A ≤ b then 0x33 else 0x34
    t.setFld (R.PWR_BANK b) F.PWR_BANK_RESULT (if t.pwr.onAtEntry.contains d then 0 else 3)) s

/-- The groom runs again, in the state held before entry (R98, R455, R497). -/
def groomResumes (s : State) : State :=
  let on := s.pwr.onAtEntry
  let s := startBanks s
  let s := { s with groom := { s.groom with up := true },
                    pwr := { s.pwr with resume := .checking, toCheck := on.filter (fun d => d < 0x33) } }
  let s := if on.contains 0x33 then (makeReady [0x33] s).reseed else s
  let s := s.deliverDeferred.settleLost
  let s := (s.moveTo s.pwr.before 0xF003).degrade s.degradeCause
  let s := if s.flag R.PWR_RESUME ⟨3, 3⟩ then s.raise Ev.TWT_WAKE 0xB200 0 else s
  let s := tellPmic s
  if s.safeCond then s.enterSafe (if s.ev.critHot then Ev.TEMP_CRIT else Ev.TRNG_FAIL) else s

/-- PWRGOOD: after a wake the groom and security banks are checked, `fails` among them; at a cold start it is the
rails that COLD_BOOT waits for (R455). -/
def pwrgoodRises (fails : List (Fin 60)) (s : State) : State :=
  if s.pwr.pwrgood ∨ !s.pwr.pwrReq then s else
  let s := { s with pwr := { s.pwr with pwrgood := true } }
  if s.pwr.resume ≠ .waitPwrgood then s
  else if fails.any (fun b => decide (0x33 ≤ b.val)) then coldStart true s
  else groomResumes s

/-! ### The other banks (R455, R457, R458) -/

/-- The staging entries of the flash copy of the configuration, as a boot would take them (R458, R481, R482); none where no
copy verifies or one of its commands fails. -/
def flashEntries (s : State) : List Entry :=
  let z := State.reset
  let z := allReady { z with part := s.part, fresh := s.fresh, sec := s.sec, dstate := .config, groom := { z.groom with up := true } }
  match chooseConfig z with
  | (some (_, i), z) =>
    match takeImage 0 (((sectionsOf i.payload).bind imageCommands).getD []) z with
    | (none, t) => t.groom.staging.fill
    | _ => []
  | (none, _) => []

/-- The frame store failed its signature: slots and marks are gone, cache and configuration come from flash (R458). -/
def distrustStore (s : State) : State :=
  let s := s.setFld R.PWR_RESUME F.PWR_RESUME_DRAM 2
  let pads := s.store.pads.map (fun e =>
    (e.1, { e.2 with ring := [], marks := [], readers := [], newest := 0, atTick := 0 }))
  let s := fillCache { s with store := { s.store with pads := pads } }
  { s with pwr := { s.pwr with cfgImage := false, flashCfg := some (flashEntries s) } }

/-- The frame-store pass: the model leaves its outcome free (log entry 25). -/
def storePass (s : State) : State :=
  if !s.pwr.dramSigned then s else
  let (k, s) := s.draw
  if Config.freeNat k % 2 = 0 then s.setFld R.PWR_RESUME F.PWR_RESUME_DRAM 1 else distrustStore s

/-- A failed bank waits for its rebuild: a DEGRADED condition (R457). -/
def bankFails (b : Nat) (s : State) : State :=
  let s := failDomain b s
  let s := { s with pwr := { s.pwr with rebuild := s.pwr.rebuild ++ [b] } }
  let s := (s.incWrap R.PWR_RESUME F.PWR_RESUME_FAILED 1).incSat R.PWR_CNT F.PWR_CNT_BANK_FAILS 1
  (s.setFld (R.PWR_BANK b) F.PWR_BANK_RESULT 2).degrade 0xF003

/-- A bank of the frame store's domains. -/
def dramBank (b : Nat) : Bool := b == 0x31 || b == 0x32

/-- A bank may be checked now: it waits, and no bank of an earlier wave does. -/
def State.checkable (s : State) (b : Nat) : Bool :=
  s.pwr.resume == .checking && s.pwr.toCheck.contains b && s.pwr.toCheck.all (fun c => decide (waveOf b ≤ waveOf c))

/-- One bank is re-signed and compared (R455–R458). -/
def bankCheck (b : Nat) (ok : Bool) (s : State) : State :=
  if !s.checkable b then s
  else if !ok && dramBank b then coldStart true s
  else
    let t : State := { s with pwr := { s.pwr with toCheck := s.pwr.toCheck.filter (fun c => c != b) } }
    let s := settleDram (if ok then makeReady [b] t else bankFails b t)
    if dramBank b && !s.pwr.toCheck.any dramBank then storePass s else s

/-! ### The resume step (R456) -/

/-- Lateness does not carry over a sleep (R446). -/
def forgetLate (s : State) : State :=
  { s with yards := s.yards.map (fun y => { y with skipped := 0 }),
           stalls := s.stalls.map (fun e => (e.1, { e.2 with skipped := 0 })) }

/-- Every bank has been checked: the hub takes up its work. -/
def resumeStep (s : State) : State :=
  if s.pwr.resume != .checking || !s.pwr.toCheck.isEmpty then s else
  let s := { s with pwr := { s.pwr with resume := .awake, resumeTick := s.tickLo } }
  let s := resumeClocks ((s.pwr.rtc.toNat - s.pwr.entryRtc) * 1000000000 / 32768) (forgetLate s)
  let s := s.setFld R.PWR_RESUME F.PWR_RESUME_TIME (satAdd 0 ((s.pwr.rtc.toNat - s.pwr.wakeRtc) * 10000 / 32768) 0xFFFF)
  let s := s.raise Ev.RESUME_DONE 0 0
  let s := releasePads (s.fld R.PWR_RESUME_CTRL F.PWR_RESUME_CTRL_AUTO_PADS) s
  let s := { s with pwr := { s.pwr with gpio := s.pwr.gpio ||| BitVec.ofNat 16 (s.fld R.PWR_RESUME_CTRL F.PWR_RESUME_CTRL_CAMPWR),
                                        awaitPartner := s.pwr.idents.map (·.1) } }
  let ticks := s.dstate == .run || s.dstate == .degraded || (s.dstate == .safe && s.flag R.TICK_CTRL F.TICK_CTRL_RUN)
  let s := if ticks then startTicks s else s
  let s := checkDirects (wantLanes s)
  if s.tg.running then s else applyRebuilt s

/-! ### Supplies (R550–R553) -/

/-- Nothing of the hub runs. -/
def unpowered (fault : Bool) (s : State) : State :=
  let s := coldReset s
  { s with pwr := { s.pwr with pwrReq := false, pwrgood := false, resume := .asleep, kind := .off },
           sec := { s.sec with bootFault := fault } }

/-- PWRGOOD is low for longer than 10 µs while the hub is not asleep; a sleep entry in progress ends with it (R552). -/
def brownOut (s : State) : State :=
  if !s.pwr.pwrgood ∨ s.pwr.resume = .asleep then s else
  let s := coldStart false s
  { s with sec := { s.sec with bootFault := true } }

/-- A sensor reads 140 °C (R553). -/
def thermalTrip (s : State) : State := if s.pwr.pwrgood then unpowered true s else s

/-- The rails are removed, group 1 included: Off, nothing retained (R443, R551). -/
def supplyLoss (s : State) : State := unpowered false s

/-- Group 1 rises and the always-on reset releases: PWR_REQ is driven high (R550). -/
def coldPowerUp (s : State) : State :=
  if s.pwr.resume = .asleep ∧ s.pwr.kind = .off ∧ !s.sec.bootFault then coldStart false s else s

/-! ### Temperature (R498) -/

/-- The hottest sensor's reading changes. -/
def temperature (temp : BitVec 9) (sensor : Nat) (s : State) : State :=
  if !s.pwr.pwrgood ∨ s.pwr.resume = .asleep ∨ s.pwr.resume = .waitPwrgood then s else
  let t := sext 9 temp.toNat
  let s := s.setFld R.EV_TEMP F.EV_TEMP_TEMP temp.toNat
  let warn : Int := s.fld R.EV_TEMP F.EV_TEMP_WARN_C
  let crit : Int := s.fld R.EV_TEMP F.EV_TEMP_CRIT_C
  let s := if t ≤ warn - 5 then { s with ev := { s.ev with warnArmed := true } } else s
  let s := if t ≤ crit - 5 then { s with ev := { s.ev with critArmed := true } } else s
  let s := if t < crit - 5 then { s with ev := { s.ev with critHot := false } } else s
  let s := if s.ev.warnArmed ∧ warn ≤ t then
      ({ s with ev := { s.ev with warnArmed := false } }).raise Ev.TEMP_WARN 0 (evArg sensor 0 0)
    else s
  if s.ev.critArmed ∧ crit ≤ t then
    ({ s with ev := { s.ev with critArmed := false, critHot := true } }).raise Ev.TEMP_CRIT 0 (evArg sensor 0 0)
  else s

end Sys2Proof.Machine
end

