-- ==== Sys2Proof/Machine/Secure.lean ====
section
/-! DEFINITION. The security block (R470–R479, R483–R485): credentials, attestation, revocation, the debug lock, the TRNG,
the writing of flash and OTP, and a groom restart (R107). -/

namespace Sys2Proof.Machine

/-! ### Groom restart (R107, R497, Table EV-3) -/

/-- Milliseconds of the local clock. -/
def State.localMs (s : State) : Nat := s.clk.localNs / 1000000

/-- What a restart leaves of a source: ring packets not yet taken. -/
def Port.restarted (p : Port) : Port := { Port.empty with unserved := p.unserved, queue := p.queue, last := p.last }

/-- The two groom cores miscompare: the event is latched in hardware, and the groom loses what it held. -/
def groomMiscompare (s : State) : State :=
  if !s.groom.up || s.groom.restarting then s else
  let again := match s.groom.lastMiscompare with | some t => decide (s.localMs < t + 1000) | none => false
  let s := { s with ev := { s.ev with log := [] },
                    groom := { s.groom with up := false, restarting := true, safeAfterRestart := s.groom.safeAfterRestart || again,
                                            lastMiscompare := some s.localMs } }
  let s := { s with groom := { s.groom with chains := [], slots := [], mbox := { s.groom.mbox with busy := false },
                                            ports := s.groom.ports.map (fun (e : Nat × Port) => (e.1, e.2.restarted)) } }
  let s := (upTo 4).foldl (fun t n => t.setFlag (R.CMD_Q_STATUS n) F.CMD_Q_STATUS_STALL false) s
  s.discardStaged.raiseBase Ev.GROOM_MISCOMPARE 0 0

/-- The groom runs again. -/
def groomRestarted (s : State) : State :=
  if !s.groom.restarting then s else
  let safe := s.groom.safeAfterRestart
  let s := { s with groom := { s.groom with up := true, restarting := false, restarted := true, safeAfterRestart := false } }
  let s := s.deliverDeferred.settleLost
  let routed := s.evStatus Ev.GROOM_MISCOMPARE && s.evEn Ev.GROOM_MISCOMPARE
    && s.flag (R.EV_CTRL Ev.GROOM_MISCOMPARE) F.EV_CTRL_SAFE
  if safe || routed then s.enterSafe Ev.GROOM_MISCOMPARE else s.degrade Ev.GROOM_MISCOMPARE

/-! ### Byte streams (Table BS-11) -/

/-- Bytes of parameter words `a` up to `b`, first byte lowest. -/
def parBytes (p : List Word) (a b : Nat) : List Byte := wordsBytes ((p.drop a).take (b + 1 - a))

/-- A hash as 12 words, first byte in bits 7:0. -/
def hashWords (h : BitVec 384) : List Word := bytesWords (beBytes 48 h.toNat)

/-! ### Credentials (R474, R475) -/

/-- A draw that the TRNG refuses (R478). -/
def trngFault : Done := .err St.FAULT 4

/-- CRED_OPEN step A: a nonce for the source, in place of any earlier one. -/
def credOpenA (src : Source) (s : State) : Done × State :=
  if !s.sec.trngOk then (trngFault, s) else
  let (ws, s) := s.drawWords 8
  let others := s.sec.nonces.filter (fun e => e.1 ≠ src)
  (.ok ws, { s with sec := { s.sec with nonces := others ++ [(src, ws, s.rtcNow + 10 * 32768)] } })

/-- SOURCE of a signature (R474). -/
def srcCode : Source → Nat
  | .sq n => n.val
  | .eth n => 0x10 + n.val
  | .twt => 0x20
  | .image => 0xFF

/-- The authority of a key hash: the slot that gives it and whether it is owner authority (R471, R474). -/
def State.authorityOf (s : State) (h : BitVec 384) : Option (Nat × Bool) :=
  match [1, 2, 3, 4].find? (fun k => s.sec.otp.slot k == 1 && SMap.get s.sec.otp.ownerHash 0 k == h) with
  | some k => some (k, true)
  | none =>
    if s.sec.otp.lifecycle = 1 ∧ !s.sec.otp.vendorRevoked ∧ s.sec.otp.vendorHash = h then some (0, true)
    else if s.sec.operators.contains h then some (5, false) else none

/-- Handles that are open and have not expired. -/
def State.usableCreds (s : State) : Nat := (s.sec.creds.filter (fun k => k.live && decide (s.rtcNow < k.expires))).length

/-- A refusal of step B, counted. -/
def credRefuse (st d : Nat) (s : State) : Done × State := (.err st d, s.incSat R.SEC_CRED F.SEC_CRED_FAILS 1)

/-- CRED_OPEN step B: the nonce is used up by the attempt. -/
def credOpenB (src : Source) (p : List Word) (s : State) : Done × State :=
  let nonce := (p.drop 1).take 8
  match s.sec.nonces.find? (fun e => e.1 = src ∧ e.2.1 = nonce ∧ s.rtcNow < e.2.2) with
  | none => credRefuse St.AUTH 3 s
  | some _ =>
    let s := { s with sec := { s.sec with nonces := s.sec.nonces.filter (fun e => e.1 ≠ src) } }
    let key := (parBytes p 9 33).take 97
    let msg := wordsBytes nonce ++ beBytes 4 s.sec.otp.serial.toNat ++ beBytes 1 (srcCode src)
    match s.authorityOf (Config.sha384 key) with
    | none => credRefuse St.AUTH 4 s
    | some (slot, owner) =>
      if !Config.ecdsaVerify key (Config.sha384 msg) (parBytes p 34 57) then credRefuse St.AUTH 4 s
      else if 8 ≤ s.usableCreds then credRefuse St.BUSY 3 s
      else if !s.sec.trngOk then credRefuse St.FAULT 4 s
      else
        let life := bits (wAt p 0) 31 8
        let (ws, s) := s.drawWords 1
        let h := if wAt ws 0 = 0 then 1 else wAt ws 0
        let k : Cred := ⟨h, src, owner, s.rtcNow + life * 32768, slot, true⟩
        (.ok [h, if owner then 2 else 1, w32 life], { s with sec := { s.sec with creds := s.sec.creds ++ [k] } })

/-- CRED_CLOSE: a handle of the source that sent it ends. -/
def credClose (src : Source) (h : Word) (s : State) : State :=
  { s with sec := { s.sec with creds := s.sec.creds.filter (fun k => !decide (k.handle = h ∧ k.src = src)) } }

/-- Credentials opened with a key are closed (R473). -/
def closeCreds (slot : Nat) (s : State) : State :=
  { s with sec := { s.sec with creds := s.sec.creds.map (fun k => if k.slot = slot then { k with live := false } else k) } }

/-- The LIFE_S of a handle has run out. -/
def credExpiry (h : Word) (s : State) : State :=
  { s with sec := { s.sec with creds := s.sec.creds.map (fun k =>
      if k.handle = h ∧ k.expires ≤ s.rtcNow then { k with live := false } else k) } }

/-! ### Attestation (R477, Table BS-7) -/

/-- Words 0–14 of a report. -/
def attestHead (p : List Word) (s : State) : List Word :=
  let o := s.sec.otp
  let w3 := o.lifecycle + 4 * b01 (s.sec.debugScopes != 0) + 8 * b01 o.cmdAuth + 16 * b01 o.allowDevsig
    + 32 * b01 (s.dstate == .standalone) + 256 * b01 (bit (wAt p 8) 0)
  [s.topId, o.serial, s.fwVer, w32 w3, s.secSvn, s.tickLo, w32 (s.tg.count.toNat / 2 ^ 32 + 65536 * s.dstate.code)] ++ p.take 8

/-- The measurement words 15–50; zero in BOOT and STANDALONE. -/
def attestMeasure (s : State) : List Word :=
  match s.sec.fw with
  | some (_, _, _, d) =>
    if s.dstate = .boot ∨ s.dstate = .standalone then List.replicate 36 0
    else hashWords d ++ hashWords s.sec.libDigest ++ hashWords s.sec.cfgDigest
  | none => List.replicate 36 0

/-- ATTEST. -/
def attest (p : List Word) (s : State) : Done :=
  let secret := s.sec.otp.uniqueSecret
  let key := bytesWords ((Config.devicePublic secret).take 97 ++ List.replicate 3 0)
  let ws := attestHead p s ++ (if bit (wAt p 8) 0 then [] else attestMeasure s ++ key)
  .ok (ws ++ bytesWords (Config.deviceSign secret (Config.sha384 (wordsBytes ws))))

/-! ### Revocation (R473) -/

/-- Keys that can sign firmware, `slots` their owner slots. -/
def signers (o : Otp) : Nat := b01 (!o.vendorRevoked) + ([1, 2, 3, 4].filter (fun k => o.slot k == 1)).length

/-- SVN of the image now running or cached for a TYPE. -/
def State.svnInUse (s : State) (t : Nat) : Nat :=
  match t with
  | 1 => match s.sec.fw with | some (_, n, _, _) => n | none => 0
  | 2 => s.sec.libSvn
  | _ => s.sec.cfgSvn

/-- The OTP a KEY_REVOKE would leave; none where it changes nothing (RANGE). -/
def revoked (p : List Word) (s : State) : Option Otp :=
  let o := s.sec.otp
  let v := (wAt p 1).toNat
  match bits (wAt p 0) 1 0 with
  | 0 =>
    let o' := { o with slotState := SMap.put o.slotState 0 v 3 }
    if signers o' = 0 ∨ (o.lifecycle = 2 ∧ !([1, 2, 3, 4].any (fun k => o'.slot k == 1))) then none else some o'
  | 1 =>
    let o' := { o with vendorRevoked := true }
    if signers o' = 0 ∨ o.lifecycle = 1 then none else some o'
  | _ =>
    let n := (wAt p 2).toNat
    if n < o.floor v ∨ 32 < n ∨ s.svnInUse v < n then none else some { o with svn := SMap.put o.svn 0 v n }

/-- KEY_REVOKE. -/
def keyRevoke (p : List Word) (s : State) : Done × State :=
  match revoked p s with
  | none => (.err St.RANGE 0, s)
  | some o =>
    let s := { s with sec := { s.sec with otp := o } }
    let kind := bits (wAt p 0) 1 0
    let key := if kind = 0 then (wAt p 1).toNat else 0
    let s := if kind = 2 then s else
      closeCreds key { s with sec := { s.sec with cache := s.sec.cache.filter (fun x => x.key ≠ key) } }
    (.ok [s.secKeys, s.secSvn], s)

/-! ### Debug lock and TRNG (R478, R479) -/

/-- DEBUG_UNLOCK. -/
def debugUnlock (p : List Word) (s : State) : Done × State :=
  if s.sec.otp.debugDisable then (.err St.AUTH 4, s) else
  let scopes := BitVec.ofNat 3 (bits (wAt p 0) 2 0)
  let s := ({ s with sec := { s.sec with debugScopes := s.sec.debugScopes ||| scopes } }).raise Ev.DEBUG_UNLOCKED 0 0
  (.ok [s.secStatus], s)

/-- TRNG_READ. -/
def trngRead (n : Nat) (s : State) : Done × State :=
  if !s.sec.trngOk then (trngFault, s) else
  let (ws, s) := s.drawWords n
  (.ok ws, s)

/-- OTP_READ. -/
def otpWords (s : State) : List Word :=
  hashWords s.sec.otp.vendorHash ++ [1, 2, 3, 4].flatMap (fun k => hashWords (SMap.get s.sec.otp.ownerHash 0 k))
    ++ [s.secKeys, s.secSvn, s.secStatus, s.sec.otp.serial]

/-- A health test fails. -/
def trngFail (s : State) : State :=
  if s.dark 0x33 then s else ({ s with sec := { s.sec with trngOk := false } }).incSat R.SEC_TRNG F.SEC_TRNG_HEALTH_FAILS 1
    |>.raise Ev.TRNG_FAIL 0 0

/-- The retest 1 s after a failure. -/
def trngRetest (ok : Bool) (s : State) : State :=
  if s.dark 0x33 || s.sec.trngOk || !ok then s
  else ({ s with sec := { s.sec with trngOk := true } }).raise Ev.TRNG_RECOVERED 0 0

/-! ### Firmware (R485) -/

/-- FW_LOAD's verification and, in CONFIG, its flash write; true where the image is to start (STANDALONE). -/
def fwLoad (p : List Word) (s : State) : Done × State :=
  let pending := s.sec.flashJobs.any (fun j => j.kind = 2)
  if pending then (.err St.BUSY 3, s) else
  match verifyImg [1] false (.heap (wAt p 0).toNat (wAt p 1).toNat) s with
  | (_, some _, s) => (.err St.CHECK 9, s)
  | (i, none, s) =>
    if s.dstate = .standalone then (.ok [], s) else
    let running := match s.sec.fw with | some (_, _, _, d) => d | none => 0
    let j : FlashJob := ⟨⟨1, s.otherSlot 1 running, i.whole⟩, false, 2, i.payload.length⟩
    (.wait .flashFw, { s with sec := { s.sec with flashJobs := s.sec.flashJobs ++ [j] } })

/-- An image that FW_LOAD accepted in STANDALONE starts: the hub passes through BOOT (Table CM-11). -/
def fwStart (p : List Word) (s : State) : State :=
  let i := readImg s (.heap (wAt p 0).toNat (wAt p 1).toNat)
  let ok := s.sec.trngOk
  let cause := s.reg R.TOP_RESET_CAUSE
  let s := (({ warmReset s with dstate := s.dstate }).moveTo .boot 0x8C08).setReg R.TOP_RESET_CAUSE cause
  { s with sec := { s.sec with fw := some (w32 i.ver, i.svn, i.key, i.digest), fwReady := true, warm := false, trngOk := ok } }

/-- The warm reset of RESET, through the ROM's steps (R468). -/
def reset (s : State) : State :=
  let s := ({ warmReset s with dstate := s.dstate }).moveTo .boot 0x800C
  romSteps { s with sec := { s.sec with trngOk := true } }

/-! ### CONFIG_SAVE (R484) -/

/-- The words of a command of the saved image: STAGE set, APPLY_TICK, CRED and TAG 0 (Table BS-8). -/
def savedCmd (op unit : Nat) (p : List Word) : List Word :=
  padTo 0 4 ([w32 (op + 65536 * unit), w32 (65536 * p.length + 2 ^ 28), 0, 0] ++ p)

/-- The live ST registers that differ from reset, each as a REG_WRITE. -/
def savedRegs (s : State) : List (List Word) :=
  (s.regs.filter (fun e => isST e.1 && (e.2 &&& stMask e.1) != (State.reset.reg e.1 &&& stMask e.1))).map
    (fun e => savedCmd 0x009 0 [w32 e.1, e.2])

def savedPad (i : Nat) (x : Paddock) : List (List Word) :=
  let fill (k : Nat) : List Word := match x.fill k with
    | some f => [w32 (2 ^ 31 + 2 ^ 28 * f.plane + 2 ^ 24 * f.log2Depth + f.ring), w32 f.tags]
    | none => [0, 0]
  let drain : List Word := match x.drain with
    | some d => [w32 (2 ^ 31 + d.surface), w32 d.pitch]
    | none => [0, 0]
  let drain := match x.drain, drain with
    | some d, a :: r => Fld.put ⟨23, 16⟩ d.yard a :: r
    | _, l => l
  [savedCmd 0x700 (0x7000 + i) [w32 (x.slots + 256 * b01 x.hold + 512 * x.planes + 2048 * b01 x.coded + 4096 * x.fsc + 65536 * x.prof),
      w32 x.base, w32 (x.pitch + 65536 * (x.lines - 1))],
   savedCmd 0x702 (0x7000 + i) ([w32 (b01 x.holdNext)] ++ fill 0 ++ fill 1 ++ drain)]

/-- Members as YARD_DEFINE's descriptor holds them, two a word. -/
def packMembers : List (BitVec 16) → List Word
  | a :: b :: l => w32 (a.toNat + 65536 * b.toNat) :: packMembers l
  | [a] => [w32 a.toNat]
  | [] => []

def savedYard (y : Yard) : List Word :=
  savedCmd 0x303 (0x3000 + y.index) (w32 y.members.length :: packMembers y.members)

/-- A stall's binding (Table ST-9). -/
def savedBind (x : Stall) : List Word :=
  let win (i : Nat) : List Word := match x.wins.find? (fun w => w.no = i) with
    | some w => [w32 (2 ^ 31 + 2 ^ 30 * b01 w.writable + w.base), w32 w.size]
    | none => [0, 0]
  let out (i : Nat) : List Word := match x.out i with
    | some o => [w32 (2 ^ 31 + 2 ^ 24 * o.log2Depth + 65536 * o.inPort + 0x2000 + o.consumer), w32 o.base]
    | none => [0, 0]
  [w32 x.est, w32 x.mode] ++ (upTo 4).flatMap win ++ (upTo 4).flatMap out

/-- A stall's kernel, pairing, binding and parameters. A checker's are its primary's. -/
def savedStall (n : Nat) (x : Stall) : List (List Word) :=
  if x.lock ∧ n % 2 = 1 then [] else
  let u := 0x2000 + n
  let id := match x.loadingObj, x.kernel with
    | some o, _ => some (o.kernelId, o.kver)
    | none, some k => some (k.id, k.kver)
    | none, none => none
  (if x.lock then [savedCmd 0x306 u [1]] else [])
  ++ (match id with | some (k, v) => [savedCmd 0x300 u [w32 (k.toNat + 65536 * v.toNat)]] | none => [])
  ++ (if x.mode = 0 then [] else [savedCmd 0x301 u (savedBind x)])
  ++ (paramWords x).map (fun e => savedCmd 0x302 u [w32 e.1, e.2])

def savedRemap (n : Nat) (b : RemapBind) : List Word :=
  let reg (g : Region) : List Word :=
    [w32 (g.ox + 65536 * g.oy), w32 (g.w - 1 + 65536 * (g.h - 1)), w32 (g.slot + 256 * b01 g.bicubic + 512 * b01 g.fill)]
  savedCmd 0x401 (0x4000 + n) ([w32 (b.srcKind + 4 * b.fmt + 64 * b.dstKind + 65536 * b.producer), w32 b.src,
    w32 (b.sw - 1 + 65536 * (b.sh - 1)), w32 (b.sPitch + 65536 * b.sPlane), w32 b.dst, w32 (b.dw - 1 + 65536 * (b.dh - 1)),
    w32 (b.dPitch + 65536 * b.dPlane), b.fill0, b.fill1, w32 b.regions.length] ++ b.regions.flatMap reg)

/-- A head's lanes, with the registers of its stream 0, and its direct path. -/
def savedHead (s : State) (n : Nat) : List (List Word) :=
  let h := s.head n
  let u := 0x5000 + n
  (if h.lanes = 0 then [] else
    [savedCmd 0x501 u [w32 h.lanes.toNat, 0, s.reg (R.SCTRL n 0), s.reg (R.SRECT_X n 0), s.reg (R.SRECT_Y n 0)]])
  ++ (if h.direct then [savedCmd 0x506 u [s.reg (R.HEAD_DIR_SRC n), s.reg (R.HEAD_DIR_IN n), s.reg (R.HEAD_DIR_OUT n),
      s.reg (R.HEAD_DIR_LINE n), s.reg (R.HEAD_DIR_TIMEOUT n)]] else [])

/-- The live configuration as commands. -/
def savedCommands (s : State) : List (List Word) :=
  savedRegs s ++ s.store.pads.flatMap (fun e => savedPad e.1 e.2) ++ s.yards.map savedYard
  ++ s.stalls.flatMap (fun e => savedStall e.1 e.2)
  ++ s.remaps.flatMap (fun e => match e.2.bind with | some b => [savedRemap e.1 b] | none => [])
  ++ (upTo 4).flatMap (savedHead s)

/-- A section of a configuration payload (R480). -/
def section_ (type : Nat) (body : List Byte) : List Byte := leBytes 4 type ++ leBytes 4 body.length ++ body

/-- CONFIG_SAVE: the image is signed with the device key and its writing begins. IMAGE_VER is a free value. -/
def configSave (s : State) : Done × State :=
  if !s.sec.otp.allowDevsig then (.err St.AUTH 4, s) else
  match verifySlot0 s with
  | none => (.err St.ABSENT 0, s)
  | some owner =>
    if s.sec.flashJobs.any (fun j => j.kind = 1) then (.err St.BUSY 3, s) else
    let (k, s) := s.draw
    let payload := section_ 1 (beBytes 48 owner.toNat) ++ section_ 2 (wordsBytes (savedCommands s).flatten)
    let header := leBytes 4 0x4B585349 ++ leBytes 1 3 ++ leBytes 1 1 ++ leBytes 1 0x0F ++ leBytes 1 0
      ++ leBytes 4 (Config.freeWord k).toNat ++ leBytes 4 s.sec.cfgSvn ++ leBytes 4 payload.length ++ leBytes 4 s.sec.otp.serial.toNat ++ List.replicate 40 0
    let secret := s.sec.otp.uniqueSecret
    let sig := Config.deviceSign secret (Config.sha384 (header ++ payload))
    let i : Img := ⟨header, payload, (Config.devicePublic secret).take 97 ++ sig.take 96 ++ List.replicate 63 0⟩
    let j : FlashJob := ⟨⟨3, 1, i.whole⟩, false, 1, payload.length⟩
    (.wait .flashSave, { s with sec := { s.sec with flashJobs := s.sec.flashJobs ++ [j] } })
where
  /-- The digest of a valid owner image in slot 0. -/
  verifySlot0 (s : State) : Option (BitVec 384) :=
    match s.dirAt 3 0 with
    | none => none
    | some e =>
      let w := ImgAt.flash e.off e.len
      let i := readImg s w
      if (imgCheck s [3] false w i).isNone then some i.digest else none

/-- The write at the head of the flash's queue ends (R483–R485). -/
def flashWritten (ok : Bool) (s : State) : State :=
  match s.sec.flashJobs with
  | [] => s
  | j :: rest =>
    let s := { s with sec := { s.sec with flashJobs := rest } }
    let s := if ok then storeImage j s else s
    let r (ws : List Word) : Res := if ok then Res.ok ws else Res.err St.FAULT 6
    match j.kind with
    | 0 => if ok then s.raise Ev.CONFIG_WRITTEN 0 0 else s
    | 1 => s.answer .flashSave (r [w32 j.payloadBytes])
    | _ => s.answer .flashFw (r [])

/-! ### OTP programming (R472) -/

/-- The programming at the head of the queue has been verified by read-back. -/
def otpProgrammed (ok : Bool) (s : State) : State :=
  match s.sec.otpJobs with
  | [] => s
  | (k, h) :: rest =>
    let o := s.sec.otp
    let st := if o.slot k = 3 then 3 else if ok then 1 else 2
    let o := { o with slotState := SMap.put o.slotState 0 k st, ownerHash := SMap.put o.ownerHash 0 k h }
    let s := { s with sec := { s.sec with otp := o, otpJobs := rest } }
    if ok then s else s.raise Ev.OTP_FAIL 0 0

end Sys2Proof.Machine
end

