-- ==== Sys2Proof/Machine/Cmd.lean ====
section
/-! DEFINITION. The groom at work (R75–R106): what each immediate command does, how a command is taken, chains, the three
transports, and direct register writes through BAR0. -/

namespace Sys2Proof.Machine

/-! ### Commands of the groom itself (Table CM-9, Table EV-7, Table RM-5) -/

/-- GET_ID (R101). -/
def getId (s : State) : List Word := [s.topId, s.topUnits, s.fwVer, s.sec.otp.serial]

/-- GET_STATE (R101). -/
def getState (s : State) : List Word := [w32 (s.dstate.code + 65536 * s.cause.toNat), w32 (s.tg.count.toNat / 2 ^ 32)]

/-- RESUME_REPORT (Table PW-8). -/
def resumeReport (s : State) : List Word :=
  s.view R.PWR_RESUME :: s.pwr.resumeTick :: (upTo 60).map (fun b => s.view (R.PWR_BANK b))

/-- EVENT_ROUTE (R505). -/
def eventRoute (p : List Word) (s : State) : State :=
  let first := bits (wAt p 0) 7 0
  (upTo (p.length - 1)).foldl (fun t i => writeEvCtrl (first + i) (wAt p (1 + i)) t) s

/-- EVENT_READ (R505): the oldest unread records, consumed. -/
def eventRead (n : Nat) (s : State) : List Word × State :=
  let rest := s.ev.log.drop n
  (w32 rest.length :: (s.ev.log.take n).flatMap Rec.words, { s with ev := { s.ev with log := rest } })

/-- REG_READ (R538). A read of DMA_c_STATUS is held while the tail's re-read is outstanding (R382). -/
def regRead (src : Source) (p : List Word) (s : State) : List Word × State :=
  if regWide p then readWide (regOff p) s
  else let (w, s) := readReg (srcPath src) (regOff p) s; ([w], s)

/-- The channel whose status a REG_READ reads while its tail's re-read is outstanding. -/
def State.heldChan (s : State) (p : List Word) : Option Nat :=
  match (regAddrs p).findSome? dmaStatusAt with
  | some c => if s.tailOut c then some c else none
  | none => none

/-- A direct write of register words: the part in ST fields joins the set being filled as one entry, the rest is written
at once (R41, R52, R538). False where the set being filled is full: then the write is dropped whole (R54, R81). -/
def writeWords (ws : List (Nat × Word)) (s : State) : Bool × Option Res × State :=
  let direct (s : State) : State := ws.foldl (fun t e => writeReg e.1 e.2 t) s
  let st := ws.filter (fun e => isST e.1)
  match st with
  | [] => (true, none, direct s)
  | e :: _ =>
    let r := joinRes (.fill s.winOpen s.fillTick)
    let (ok, s) := stageRegs (e.1 / 0x10000) st s
    if ok then (true, some r, direct s) else (false, none, s)

/-- REG_WRITE without STAGE (R538). -/
def regWrite (p : List Word) (s : State) : Done × State :=
  match writeWords ((regAddrs p).zip (p.drop 1)) s with
  | (true, some r, s) => (.now r, s)
  | (true, none, s) => (.ok [], s)
  | (false, _, s) => (.err St.BUSY 1, s)

/-- SAFE_EXIT (R501). The tick stops, so a seal window that was open closes with its void set (R57, R500). -/
def safeExit (s : State) : Done × State :=
  if s.safeCond then (.err St.FAULT 8, s) else
  let s := closeWindow { s.setFlag R.TICK_CTRL F.TICK_CTRL_RUN false with tg := { s.tg with running := false } }
  (.ok [], s.goTo .config 0x800B)

/-! ### Commands of other units that have no module of their own -/

/-- GATE_FLUSH: the contexts flushed (R192). -/
def gateFlush (g : Nat) (p : List Word) (s : State) : Done × State :=
  let cs := (onesOf (bits (wAt p 0) 15 0) 16).filter (fun c => s.ctxState g c ≠ Gs.free)
  (.ok [w32 (maskOf cs)], cs.foldl (fun t c => flushCtx g c t) s)

/-- STALL_STATUS of a yard (R102): a slot for each stall reached, zero where the stall's own status is not OK. -/
def yardStatus (i : Nat) (s : State) : Res :=
  let cs := (s.yardStalls i).map (fun n => (n, stallChk s 0x307 n none))
  let slots := cs.flatMap (fun e => if e.2.isNone then s.stallReportWords e.1 else [0, 0, 0, 0])
  match fanFail cs with
  | some r => { r with payload := r.payload ++ slots }
  | none => ⟨St.OK, 0, fanWord (cs.map (·.1)) none :: slots, true, none⟩

/-- TB_ADJUST (R398): a step to the new value. -/
def tbAdjust (n : Nat) (p : List Word) (s : State) : Done × State :=
  match adjustTarget n p s with
  | none => (.err St.RANGE 1, s)
  | some v =>
    let s := scheduleStep n (v - s.tbFine n) s
    (.ok [s.view (R.TB_STATUS n), if s.tg.running then s.tickLo + 1 else s.tickLo], s)

/-- The words of one entry of a transmit timestamp queue (Table NT-3). -/
def txWords (e : TxStamp) : List Word :=
  let sec := e.stamp / 65536 / 1000000000
  [w32 (e.id.toNat + 65536 * e.tb + 2 ^ 24 * e.epoch), w32 (e.stamp / 65536 % 1000000000), w32 sec,
   w32 (sec / 2 ^ 32 % 65536 + 65536 * (e.stamp % 65536))]

/-- TS_READ. -/
def tsRead (p : List Word) (s : State) : List Word :=
  match bits (wAt p 0) 1 0 with
  | 0 => s.views [R.PPS_IN_NS, R.PPS_IN_S_LO, R.PPS_IN_INFO]
  | k =>
    let q := SMap.get s.clk.txts [] (k - 1)
    w32 q.length :: q.flatMap txWords

/-- TWT_SET (R430). -/
def twtSet (p : List Word) (s : State) : State :=
  let s := s.setFld R.TWT_CTRL F.TWT_CTRL_ADDR (bits (wAt p 0) 6 0)
  s.setFlag R.TWT_CTRL F.TWT_CTRL_ATTN_OUT (bit (wAt p 0) 8)

/-- SLEEP_ENTER (Table PW-8): KIND 0 and 1 act at once; an entry begins once its reply is awaited. -/
def sleepEnter (p : List Word) (s : State) : Done × State :=
  let now (s : State) : Done × State := (.ok [s.view R.PWR_ENTRY, s.tickLo], s)
  match bits (wAt p 0) 2 0 with
  | 0 => now (idleEnd s)
  | 1 => now (idleBegin s)
  | _ => (.wait .sleepEnter, s)

/-- The state that a SLEEP_ENTER KIND enters. -/
def sleepKind : Nat → SleepKind
  | 2 => .hold | 3 => .stow | _ => .off

/-- PAD_RELEASE (R451). -/
def cmdPadRelease (p : List Word) (s : State) : Done × State :=
  match padRelease (bits (wAt p 0) 7 0) s with
  | none => (.err St.STATE 2, s)
  | some s => (.ok [s.view R.PWR_PADS], s)

/-- WAKE_SET (Table PW-8). -/
def wakeSet (p : List Word) (s : State) : State :=
  ([R.PWR_WAKE, R.PWR_WAKE_RX, R.PWR_WAKE_TX, R.PWR_RTC_ALARM_LO, R.PWR_RTC_ALARM_HI, R.PWR_RESUME_CTRL].zip p).foldl
    (fun t e => writeReg e.1 e.2 t) s

/-! ### What a command does (R83, R100) -/

/-- An immediate setting that a staged command also makes applies at once, and the units follow it. -/
def setNow (c : Cmd) (s : State) : State := applyCmd c.opcode.toNat c.pkt.unit c.pkt.params s

/-- The effect of a command that has passed its receipt checks and is not staged. -/
def act (c : Cmd) (s : State) : Done × State :=
  let p := c.pkt.params
  let i := uIndex c.pkt.unit
  let x := (laneNo i).getD 0
  match c.opcode.toNat with
  | 0x000 => (.ok [], s)
  | 0x001 => (.ok (getId s), s)
  | 0x002 => (.ok (getState s), s)
  | 0x003 => let (r, s) := sealNow s; (.now r, s)
  | 0x004 => let (r, s) := abortSeal s; (.now r, s)
  | 0x005 => (.ok (resumeReport s), s)
  | 0x006 => (.ok [], eventRoute p s)
  | 0x007 => let (ws, s) := eventRead (bits (wAt p 0) 3 0) s; (.ok ws, s)
  | 0x008 =>
    match s.heldChan p with
    | some k => (.wait (.dmaRead k), s)
    | none => let (ws, s) := regRead c.pkt.src p s; (.ok ws, s)
  | 0x009 => regWrite p s
  | 0x00A => let (k, s) := s.draw; (.ok ((Config.freeWords k).take 4095), s)
  | 0x00B => safeExit s
  | 0x00C => (.ok [], s)
  | 0x00E => configSave s
  | 0x101 => (.ok [], reactLane s x (setNow c s))
  | 0x102 => (.ok (s.views (laneStatusRegs x)), s)
  | 0x105 => cmdDiscover x s
  | 0x106 => cmdPartnerInfo x s
  | 0x108 => cmdTriggerCal x (wAt p 0).toNat s
  | 0x109 => let s := setNow c s; (.ok [s.view (R.LINK_GPIO x)], s)
  | 0x206 => (.ok (s.views (gateStatusRegs i)), s)
  | 0x207 => gateFlush i p s
  | 0x307 => if uClass c.pkt.unit = 3 then (.now (yardStatus i s), s) else (.ok (s.stallReportWords i), s)
  | 0x308 => (.ok (s.yardQuery i), s)
  | 0x400 => cmdMeshLoad p s
  | 0x403 => (.ok (remapStatusWords i s), s)
  | 0x508 => (.ok (s.views (headStatusRegs i)), s)
  | 0x509 => (.ok (s.views (witnessRegs i)), s)
  | 0x601 => (.ok (s.views (codecStatusRegs i)), s)
  | 0x703 => markSet i p s
  | 0x704 => markClear i p s
  | 0x705 => (.ok (s.padReport i), s)
  | 0x801 => let s := dmaDoorbell i s; (.ok [s.view (R.DMA_STATUS i)], s)
  | 0x802 =>
    match dmaAbort i s with
    | (true, s) => (.wait (.dmaAbort i), s)
    | (false, s) => (.ok [s.view (R.DMA_STATUS i), s.view (R.DMA_RESIDUE i)], s)
  | 0x803 => if s.tailOut i then (.wait (.dmaStatus i), s) else (.ok (s.dmaWords i), s)
  | 0x900 => (.ok [], reactTime s (setNow c s))
  | 0x901 => (.ok (s.views [R.TB_NS i, R.TB_S_LO i, R.TB_S_HI i, R.TB_STATUS i, R.TB_RATE i, R.TB_OFFSET i, R.TB_GM_LO i, R.TB_GM_HI i]), s)
  | 0x902 => tbAdjust i p s
  | 0x904 => (.ok [], reactTime s (setNow c s))
  | 0x905 => (.ok (tsRead p s), s)
  | 0xA00 => (.ok [], reactTw s (setNow c s))
  | 0xA01 => match twCtlOf i with | some k => twXfer k p s | none => (.err St.RANGE 0, s)
  | 0xA02 => (.ok (s.views (twStatusRegs i)), s)
  | 0xA03 => let s := twtSet p s; (.ok [s.view R.TWT_CTRL], s)
  | 0xB02 => sleepEnter p s
  | 0xB03 => cmdPadRelease p s
  | 0xB04 => (.ok [], wakeSet p s)
  | 0xB05 => (.ok (s.views ((upTo 18).map (fun k => R.PWR_ON_LO + 4 * k))), s)
  | 0xC00 => if bit (wAt p 0) 0 then credOpenB c.pkt.src p s else credOpenA c.pkt.src s
  | 0xC01 => (.ok [], credClose c.pkt.src (wAt p 0) s)
  | 0xC02 => (attest p s, s)
  | 0xC03 => match authLane (wAt p 0) with | some l => cmdCameraAuth l s | none => (.err St.RANGE 0, s)
  | 0xC04 => keyRevoke p s
  | 0xC05 => debugUnlock p s
  | 0xC06 => trngRead (wAt p 0).toNat s
  | 0xC07 => (.ok (otpWords s), s)
  | 0xC08 => fwLoad p s
  | 0xE00 => (.ok [], patternSet x p s)
  | 0xE01 => patternCheck x p s
  | 0xE02 => loopbackSet x (bits (wAt p 0) 1 0) s
  | 0xE03 => eyeScan x p s
  | 0xE04 => injectSet x p s
  | 0xE05 => memRun c.pkt.unit p s
  | 0xE06 => diagRead p s
  | _ => (.err St.UNKNOWN 1, s)

/-- What follows the reply: a sleep entry, the reset, or the start of loaded firmware. -/
def afterwards (c : Cmd) (ok : Bool) (s : State) : State :=
  let p := c.pkt.params
  match c.opcode.toNat with
  | 0x00C => if ok then reset s else s
  | 0xB02 =>
    if 2 ≤ bits (wAt p 0) 2 0 then entryGo (entryBegin (sleepKind (bits (wAt p 0) 2 0)) (bit (wAt p 0) 8) s) else s
  | 0xC08 => if ok && s.dstate == .standalone then fwStart p s else s
  | _ => s

/-! ### Replies and their order (R78, R105) -/

/-- A command that has been taken waits with its reply, formed or not. -/
def pushSlot (c : Cmd) (key : Option WaitKey) (done : Option (Option Reply)) (s : State) : State :=
  let via := (s.port (Source.portNo c.pkt.src)).via
  { s with groom := { s.groom with slots := s.groom.slots ++ [⟨c.pkt.src, c, via, key, done⟩] } }

/-- A command has its result. -/
def finish (c : Cmd) (r : Res) (s : State) : State := (pushSlot c none (some (s.replyFor c r)) s).flush

/-- A command that passed its checks executes: the work its reply waits for, whether it failed, and the state. -/
def execOne (c : Cmd) (s : State) : Option WaitKey × Bool × State :=
  match act c s with
  | (.now r, s) =>
    let ok := decide (r.status < 3)
    (none, !ok, afterwards c ok (finish c r s))
  | (.wait k, s) => (some k, false, afterwards c false (pushSlot c (some k) none s))

/-! ### Chains (R84–R87) -/

def State.chainOf (s : State) (src : Source) : Option Chain := (s.groom.chains.find? (fun e => e.1 = src)).map (·.2)

/-- The chain of a source: none ends it. -/
def setChain (src : Source) (ch : Option Chain) (s : State) : State :=
  let rest := s.groom.chains.filter (fun e => !decide (e.1 = src))
  { s with groom := { s.groom with chains := match ch with | some h => rest ++ [(src, h)] | none => rest } }

def Chain.fresh (staged : Bool) : Chain := ⟨staged, 0, 0, false, [], none⟩

/-- A chain one command longer. -/
def Chain.count1 (h : Chain) (c : Cmd) : Chain := { h with count := h.count + 1, words := h.words + c.pkt.params.length }

/-- A command of a staged chain that is held: no result and nothing it waits for. -/
def Slot.held (src : Source) (sl : Slot) : Bool := sl.src == src && sl.key.isNone && sl.done.isNone

/-- The held commands of a source get these results, in order; one whose reply waits for work gets its key. -/
def fillHeld (src : Source) (f : Cmd → Res → Option Reply) : List (Res × Option WaitKey) → List Slot → List Slot
  | _, [] => []
  | [], l => l
  | (r, k) :: rs, sl :: l =>
    if !sl.held src then sl :: fillHeld src f ((r, k) :: rs) l
    else match k with
      | some key => { sl with key := some key } :: fillHeld src f rs l
      | none => { sl with done := some (f sl.cmd r) } :: fillHeld src f rs l

/-- Answer the held commands of a source. -/
def answerHeld (src : Source) (rs : List (Res × Option WaitKey)) (s : State) : State :=
  ({ s with groom := { s.groom with slots := fillHeld src (fun c r => s.replyFor c r) rs s.groom.slots } }).flush

/-- The held commands of a source. -/
def State.heldCmds (s : State) (src : Source) : List Cmd := (s.groom.slots.filter (·.held src)).map (·.cmd)

/-- Every held command of a source gets one result. -/
def answerHeldAll (src : Source) (held : List Held) (r : Res) (s : State) : State :=
  answerHeld src ((s.heldCmds src).map (fun c => (fanned c held s r, none))) s

/-- The result that one entry of a chain fails with at its acceptance, if it does. -/
def holdChk (s : State) (before : List Held) (h : Held) : Chk :=
  let j := s.joinOf h.tick
  let fills := (heldFill s before).length
  let taken := match h.entry.meshSlot with
    | some m => (s.mesh m).next.isSome || (s.mesh m).loading.isSome || before.any (fun b => b.entry.meshSlot == some m)
    | none => false
  firstOf [need (!taken) St.BUSY 3, s.stageRoom j fills (before.length - fills), need (j != .late) St.LATE 0]

/-- The checks of a chain's entries at its acceptance, in order. -/
def holdChks (s : State) : List Held → List Held → List Chk
  | _, [] => []
  | before, h :: l => holdChk s before h :: holdChks s (before ++ [h]) l

/-- Entries that are accepted, one after the other. -/
def acceptEach : List Held → State → List (Res × Option WaitKey) × State
  | [], s => ([], s)
  | h :: l, s =>
    let (r, k, s) := accept h s
    let (rs, s) := acceptEach l s
    ((r, k) :: rs, s)

/-- CHECK, chain broken (R85, R86). -/
def brokenRes : Res := Res.err St.CHECK 0xF0

/-- The results of a chain that fails at its acceptance: the first failure keeps its own. -/
def brokenAt : List Chk → List Res
  | [] => []
  | some (st, d) :: l => Res.err st d :: List.replicate l.length brokenRes
  | none :: l => brokenRes :: brokenAt l

/-- The last command of a staged chain has passed: all entries are accepted, or none (R86). -/
def acceptAll (src : Source) (hs : List Held) (s : State) : State :=
  let cs := holdChks s [] hs
  if cs.all Option.isNone then
    let (rs, s) := acceptEach hs s
    answerHeld src rs s
  else answerHeld src (List.zipWith (fun c r => (fanned c hs s r, none)) (s.heldCmds src) (brokenAt cs)) s

/-- The next command of a chain is received. -/
def inChain (c : Cmd) (h : Chain) (s : State) : State :=
  let src := c.pkt.src
  let put (h : Chain) (s : State) : State := setChain src (if c.pkt.chain then some h else none) s
  if h.broken then put h (finish c (fanned c [] s brokenRes) s) else
  match receive c (some h) s with
  | (.fail r, s) => put { h with broken := true, held := [] } (finish c r (answerHeldAll src h.held brokenRes s))
  | (.stage e, s) =>
    let h := { h.count1 c with held := h.held ++ [e] }
    let s := put h (pushSlot c none none s)
    if c.pkt.chain then s else acceptAll src h.held s
  | (.run, s) =>
    let (k, bad, s) := execOne c s
    put { h.count1 c with broken := bad, key := k } s

/-- A command waits with its source until the groom takes it (R105). -/
def enqueue (c : Cmd) (v : Via) (s : State) : State :=
  let p := s.port (Source.portNo c.pkt.src)
  s.setPort (Source.portNo c.pkt.src) { p with queue := p.queue ++ [(c, v)] }

/-- The groom takes a command (R83, R105): behind a chain's command that still works, it waits. -/
def takeOne (c : Cmd) (s : State) : State :=
  match s.chainOf c.pkt.src with
  | some h => if h.key.isSome then enqueue c (s.port (Source.portNo c.pkt.src)).via s else inChain c h s
  | none =>
    if c.pkt.chain then inChain c (Chain.fresh c.pkt.stage) s
    else match receive c none s with
    | (.fail r, s) => finish c r s
    | (.stage e, s) =>
      match accept e s with
      | (r, none, s) => finish c r s
      | (_, some k, s) => pushSlot c (some k) none s
    | (.run, s) => (execOne c s).2.2

/-! ### The groom's turn (R95, R105) -/

/-- The command that a source offers next, with its frame and, from a submission ring, its words (R89, R90). -/
def State.offer (s : State) (src : Source) : Option (Cmd × Via × Nat) :=
  let p := s.port (Source.portNo src)
  let queued := p.queue.head?.map (fun e => (e.1, e.2, 0))
  match src with
  | .sq n =>
    if !s.ringActive n || !p.backlog.isEmpty then none else
    (match parsePacket (.sq n) p.unserved with
    | some (c, len) => if p.unserved.length < unitWords len then queued else some (c, p.via, len)
    | none => queued)
  | _ => queued

/-- The sources in the order of R105, beginning at place `k`. -/
def sourcesFrom (k : Nat) : List Source :=
  let l : List Source := [.sq 0, .sq 1, .sq 2, .sq 3, .eth 0, .eth 1, .eth 2, .eth 3, .eth 4, .eth 5, .eth 6, .eth 7, .twt]
  l.drop k ++ l.take k

/-- The place of a source in the order of R105. -/
def Source.place : Source → Nat
  | .sq n => n.val
  | .eth n => 4 + n.val
  | _ => 12

/-- The command the groom takes next: an URGENT one first, else the next of an open chain, which counts as one command,
else that of the source whose turn it is (R95, R105). A chain whose latest command still works offers nothing. -/
def State.nextCmd (s : State) : Option (Source × Cmd × Via × Nat) :=
  if !s.groomRuns then none else
  let os := (sourcesFrom s.groom.turn).filterMap (fun src =>
    if (s.chainOf src).any (·.key.isSome) then none else (s.offer src).map (fun o => (src, o)))
  match os.find? (fun o => o.2.1.pkt.urgent) with
  | some o => some o
  | none =>
    match os.find? (fun o => (s.chainOf o.1).isSome) with
    | some o => some o
    | none => os.head?

/-- The command leaves what waits with its source, HEAD advances past one of a ring (R89), and the turn passes on. -/
def takeOff (src : Source) (v : Via) (len : Nat) (s : State) : State :=
  let n := Source.portNo src
  let p := s.port n
  let s := { s with groom := { s.groom with turn := (Source.place src + 1) % 13 } }
  if len = 0 then s.setPort n { p with queue := p.queue.drop 1, via := v }
  else
    let hd := (s.fld (R.CMD_SQ_HEAD n) F.CMD_SQ_HEAD_HEAD + ringUnits len) % 2 ^ (s.ringLog2 n + 1)
    (s.setPort n { p with unserved := p.unserved.drop (unitWords len) }).setFld (R.CMD_SQ_HEAD n) F.CMD_SQ_HEAD_HEAD hd

/-- Commands that wait are taken one at a time, at most this many. -/
def serve : Nat → State → State
  | 0, s => s
  | k + 1, s =>
    match s.nextCmd with
    | none => s
    | some (src, c, v, len) => serve k (takeOne c (takeOff src v len s))

/-- As many commands as may wait with all sources. -/
def State.waitingMost (s : State) : Nat :=
  (s.groom.ports.map (fun (e : Nat × Port) => e.2.unserved.length + e.2.queue.length)).sum

/-- A chain's next command has not come within 10 ms (R87). -/
def chainTimeout (src : Source) (s : State) : State :=
  match s.chainOf src with
  | none => s
  | some h =>
    if (s.offer src).isSome then s
    else answerHeldAll src h.held (Res.err St.CHECK 0xF1) (setChain src none s)

/-- Reads of a DMA status that were held and no longer need be (R382). -/
def dmaHeld (c : Nat) (s : State) : State :=
  if s.tailOut c then s else
  let s := if s.awaits (.dmaStatus c) then s.answerEvery (.dmaStatus c) (Res.ok (s.dmaWords c)) else s
  match s.groom.slots.find? (fun sl => decide (sl.key = some (.dmaRead c) ∧ sl.done = none)) with
  | some sl => let (ws, s) := regRead sl.src sl.cmd.pkt.params s; s.answer (.dmaRead c) (Res.ok ws)
  | none => s

/-- The groom goes on with what waits for it: held reads, then the commands of every source. -/
def groomTurn (s : State) : State :=
  if !s.groomRuns then s else
  let s := (upTo 16).foldl (fun t c => dmaHeld c t) s
  serve s.waitingMost s

/-! ### Sources (R76, R88–R94) -/

/-- An Ethernet port receives (R402). -/
def State.ethOn (s : State) (p : Nat) : Bool := !s.dark 0x30 && s.flag (R.ETH_CTRL p) F.ETH_CTRL_EN

/-- A source can hand over a command: its pair runs, its allow entry is VALID. -/
def State.sourceLive (s : State) : Source → Bool
  | .sq n => s.ringActive n
  | .eth n => s.ethOn (s.port (8 + n.val)).via.eport && s.flag (R.CMD_ETH_ALLOW_HI n) F.CMD_ETH_ALLOW_HI_VALID
  | .twt => true
  | .image => false

/-- A source can have a command taken: it is live, and its pair does not stall (R90). -/
def State.sourceOpen (s : State) (src : Source) : Bool :=
  s.sourceLive src && (match src with | .sq n => (s.port n).backlog.isEmpty | _ => true)

/-- TWT0 hands a command to the groom, or is refused (R94), as it is while the groom does not run. A command that is held
in a staged chain has no reply yet: BUSY stays set, and the SUBMIT of the chain's next command is refused (DESIGN CHOICE,
log entry 73). -/
def mailbox (go : State → State) (s : State) : State :=
  let m := s.groom.mbox
  if m.busy || m.ready || !s.groomRuns then s.setMbox { m with reject := true } else go (s.setMbox { m with busy := true, reject := false })

/-- A command of an opcode reaches the groom on its source; it waits there while the groom does not run or the pair
stalls. -/
def takeCmd (op : Nat) (p : Packet) (s : State) : State :=
  let s := groomTurn s
  let c : Cmd := ⟨BitVec.ofNat 16 op, p⟩
  if !s.sourceLive p.src then s
  else if p.src = .twt then mailbox (takeOne c) s
  else if !s.groomRuns || !s.sourceOpen p.src then enqueue c (s.port (Source.portNo p.src)).via s
  else takeOne c s

/-- The doorbell of a ring pair: TAIL is written, and the groom reads what stands before it (R89). -/
def sqTail (n : Fin 4) (tail : Nat) (words : List Word) (ok : Bool) (s : State) : State :=
  if !s.bridgeOpen then s else
  let s := s.setFld (R.CMD_SQ_TAIL n) F.CMD_SQ_TAIL_TAIL tail
  if !s.ringActive n then s
  else if !ok then (if s.groomRuns then ringFail n s else s)
  else
    let used := ringUsed (s.ringLog2 n) (s.fld (R.CMD_SQ_HEAD n) F.CMD_SQ_HEAD_HEAD) (s.fld (R.CMD_SQ_TAIL n) F.CMD_SQ_TAIL_TAIL)
    groomTurn (s.setPort n { s.port n with unserved := words.take (4 * used) })

/-- A frame to an Ethernet port passes its filter (R403). -/
def State.frameOk (s : State) (port : Nat) (f : EthFrame) : Bool :=
  let own := f.dst == s.mac port && s.mac port != 0 && (f.etherType == 0x88F7 || f.etherType == 0x88B5)
  f.fcsOk && decide ((if f.vlan.isSome then 42 else 46) ≤ f.payload.length ∧ f.payload.length ≤ 1500) && (own || (f.dst == 0x0180C200000E && f.etherType == 0x88F7))

/-- The filter of an Ethernet port counts a frame, and drops it or hands it on (R403). -/
def ethFilter (port : Nat) (f : EthFrame) (go : State → State) (s : State) : State :=
  if !s.ethOn port then s
  else if s.frameOk port f then go (s.incWrap (R.ETH_RX port) F.ETH_RX_GOOD 1) else filtered port s

/-- The allow entry that matches a sender (R92). -/
def State.sender (s : State) (f : EthFrame) : Option (Fin 8) :=
  [0, 1, 2, 3, 4, 5, 6, 7].find? (fun (n : Fin 8) => s.flag (R.CMD_ETH_ALLOW_HI n) F.CMD_ETH_ALLOW_HI_VALID && s.allowMac n == f.src)

/-- The packets of a command frame, which must fit its payload exactly, padding aside (R92). -/
def frameCmds (n : Fin 8) (f : EthFrame) : Option (List Cmd) :=
  let count := bAt f.payload 4
  let body := f.payload.drop 8
  let ws := bytesWords (body.take (body.length / 4 * 4))
  if bAt f.payload 0 ≠ 1 ∨ count = 0 then none else
  match framePackets (.eth n) count ws with
  | none => none
  | some (cs, _) =>
    let used := (cs.map (fun c => 16 + 4 * c.pkt.params.length)).sum
    if (body.drop used).all (· == 0) && decide (used = body.length ∨ f.payload.length ≤ 46) then some cs else none

/-- A sender's new SEQ takes its place among the last 16 (R93). -/
def keepSeq (l : List (BitVec 16 × List Reply)) (q : BitVec 16) : List (BitVec 16 × List Reply) :=
  let l := l ++ [(q, [])]
  l.drop (l.length - 16)

/-- Replies of a SEQ that are stored leave again, the way the frame that asks for them came (R93). -/
def resend (v : Via) (rs : List Reply) (s : State) : State :=
  let s := s.incSat R.CMD_ETH_STATUS F.CMD_ETH_STATUS_REPLAYED 1
  rs.foldl (fun t r => t.ethSend 2 v.eport v.mac v.vlan 0x88B5 (cmdFrame 2 v.seq r.words)) s

/-- An EtherType 0x88B5 frame to a port's own address (R92, R93): its commands wait with their sender, also while the groom
does not run (DESIGN CHOICE). One to another address has gone no further than the filter of R403: it counts in FILTERED
and not in DISCARD (DEDUCED); both in log entry 73. -/
def cmdFrameIn (port : Nat) (f : EthFrame) (s : State) : State :=
  let discard := s.incSat R.CMD_ETH_STATUS F.CMD_ETH_STATUS_DISCARD 1
  if s.fld R.CMD_ETH_CTRL F.CMD_ETH_CTRL_PORT_EN / 2 ^ port % 2 = 0 ∨ bAt f.payload 1 ≠ 1 then discard else
  match s.sender f with
  | none => discard
  | some n =>
    let q := BitVec.ofNat 16 (bAt f.payload 2 + 256 * bAt f.payload 3)
    let v : Via := ⟨port, f.vlan, f.src, q⟩
    match frameCmds n f with
    | none => discard
    | some cs =>
      match (s.port (8 + n.val)).replay.find? (fun e => e.1 = q) with
      | some (_, rs) => resend v rs (s.setPort (8 + n.val) { s.port (8 + n.val) with last := v })
      | none =>
        let p := s.port (8 + n.val)
        groomTurn (s.setPort (8 + n.val) { p with last := v, replay := keepSeq p.replay q, queue := p.queue ++ cs.map (·, v) })

/-- A received frame (R403): only EtherType 0x88B5 goes on; gPTP messages have steps of their own. -/
def frameIn (port : Nat) (f : EthFrame) (s : State) : State :=
  ethFilter port f (fun t => if f.etherType == 0x88B5 then cmdFrameIn port f t else t) s

/-- A write of TWT0's window (R431, Table CM-8). -/
def twtWindowWrite (data : List Byte) : State → State :=
  twtAnswer (fun s => match data with
    | [] => s
    | b :: rest => rest.foldl twtPut (s.setFld R.TWT_STATUS F.TWT_STATUS_POINTER b.toNat))
where
  /-- One byte at the pointer; MBOX_CTRL has steps of its own. A byte for page 0x01 while BUSY is set is not acknowledged
  and moves no pointer (R433). -/
  twtPut (s : State) (b : Byte) : State :=
    if s.twtLive && s.twtPage == 1 && s.groom.mbox.busy then twtNacked 1 s else
    let s' := if s.twtLive && s.twtPage == 1 then
        s.setMbox { s.groom.mbox with cmd := SMap.put s.groom.mbox.cmd 0 s.twtPointer b } else s
    twtStep s'

/-- SUBMIT (R94): the command in page 0x01 is taken, or the SUBMIT refused. -/
def submit (s : State) : State :=
  let s := groomTurn s
  if !s.twtLive then s.setMbox { s.groom.mbox with reject := true } else
  let m := s.groom.mbox
  let ws := bytesWords ((upTo 256).map (fun i => SMap.get m.cmd 0 i))
  let w1 := wAt ws 1
  let len := bits w1 27 16
  mailbox (fun t =>
    match parsePacket .twt (ws ++ List.replicate (len - 60) 0) with
    | some (c, _) => takeOne c t
    | none => t) s

/-! ### Direct writes through BAR0 (R41, R362–R366, R369) -/

/-- A BAR0 write of one or two registers. `full`: every byte is enabled. -/
def bar0Write (off size : Nat) (full : Bool) (lo hi : Word) (s : State) : State :=
  if !s.bridgeOpen then s
  else if !full || !(size == 4 || size == 8) || off % size != 0 then pwFail 0 off 0 size Pw.SIZE s
  else if !pageAssigned (off / 0x10000) then pwFail 0 off 0 size Pw.UNMAPPED s
  else if fusedReg s.part.ab off then s
  else if s.darkReg off then pwFail 0 off 0 size Pw.DARK (darkAccess (off / 0x10000) s)
  else
    let ws := if size = 8 then [(off, lo), (off + 4, hi)] else [(off, lo)]
    match writeWords ws s with
    | (true, _, s) => s
    | (false, _, s) => (pwFail 0 off 0 size Pw.STAGE_FULL s).raise Ev.STAGE_FULL 0 0

/-- A BAR0 write of one register that has a step of its own. -/
def bar0One (a : Nat) (w : Word) (s : State) : State := bar0Write a 4 true w 0 s

end Sys2Proof.Machine
end

