-- ==== Sys2Proof/Machine/Monitor.lean ====
section
/-! DEFINITION. Steps that happen by themselves: the scrubber (R311), the traffic monitor (R309), done reports
(R66), the PPS output's fall (R413), and link messages that are the hub's own or another's to pass on (R162). -/

namespace Sys2Proof.Machine

/-! ### The scrubber (R311) -/

/-- Granules of the frame store, 4 GiB. -/
def fsGranules : Nat := 2 ^ 24

/-- One granule is read, or skipped where a memory test covers it (R517). Its position advances; the pass ends after the last granule. A correction is counted, and
written back unless a newer write overtook it, which leaves the contents as they are either way; an uncorrectable
granule stays as it is, and reads as uncorrectable until a write makes it good (log entry 66). -/
def scrubStep (r : ScrubRead) (overtaken : Bool) (s : State) : State :=
  if s.fsDark || s.store.selfRefresh || !s.flag R.FS_SCRUB F.FS_SCRUB_EN then s else
  let g := s.fld R.FS_SCRUB_POS F.FS_SCRUB_POS_GRANULE
  let skip := s.underTest (g * 256) 256
  let bad := r == .uncorrectable || s.store.poison.contains g
  let s := if skip then s else if bad then
      let ps := s.store.poison
      let ps := if overtaken || ps.contains g then ps else ps ++ [g]
      noteUncorr g { s with store := { s.store with poison := ps } }
    else if r == .corrected then noteCorr g s
    else s
  let last := decide (g + 1 = fsGranules)
  let s := s.setFld R.FS_SCRUB_POS F.FS_SCRUB_POS_GRANULE (if last then 0 else g + 1)
  let s := s.setFlag R.FS_STATUS F.FS_STATUS_SCRUB_BUSY (!last)
  if last then s.incSat R.FS_SCRUB_POS F.FS_SCRUB_POS_PASSES 1 else s

/-! ### The occupancy monitor (R309) -/

/-- Window of the monitor in nanoseconds: the tick period, or 16.666 667 ms in CONFIG and STANDALONE. -/
def State.monWindow (s : State) : Nat :=
  if s.dstate = .config ∨ s.dstate = .standalone then 16666667 else s.fld R.TICK_PERIOD F.TICK_PERIOD_PERIOD_NS

/-- The most bytes that a pseudo-channel has transferred in the window. -/
def busiestCount (counts : List Nat) : Nat := (counts.take 64).foldl Nat.max 0

/-- The busiest pseudo-channel: one of those with the most bytes, a free choice among equals (log entry 67). -/
def busiest (counts : List Nat) : Nat :=
  match (upTo 64).filter (fun i => counts.getD i 0 == busiestCount counts) with
  | [] => 0
  | [i] => i
  | ties => ties.getD (Config.busiestTie counts % ties.length) 0

/-- The traffic of an evaluated window is out of balance: the busiest count over the mean exceeds RATIO, U4.4. -/
def unbalanced (counts : List Nat) (ratio : Nat) : Bool :=
  decide (ratio * (counts.take 64).sum < 16 * (busiestCount counts * 64))

/-- Traffic figures of the window that ends: bytes of each pseudo-channel. -/
def showTraffic (counts : List Nat) (s : State) : State :=
  let s := (upTo 64).foldl (fun t n => t.setFld (R.FS_CH_OCC n) F.FS_CH_OCC_KIB (satAdd 0 (counts.getD n 0 / 1024) 0xFFFFFF)) s
  let gbps := satAdd 0 ((counts.take 64).sum / Nat.max 1 s.monWindow) 0xFFFF
  let s := s.setFld R.FS_BW F.FS_BW_GBPS gbps
  s.setFld R.FS_BW F.FS_BW_PEAK (Nat.max gbps (s.fld R.FS_BW F.FS_BW_PEAK))

/-- Total bytes at which a window is evaluated: FLOOR_PCT of 64 pseudo-channels of 25.6 GB/s over the window. -/
def State.monFloor (s : State) : Nat := s.fld R.FS_MON F.FS_MON_FLOOR_PCT * (64 * 256 * s.monWindow) / 1000

/-- A monitor window ends with these byte counts (R309). -/
def monitorWindow (counts : List Nat) (s : State) : State :=
  if s.fsDark || s.store.selfRefresh then s else
  let s := showTraffic counts s
  if (counts.take 64).sum < s.monFloor then s else
  let b := busiest counts
  let uneven := unbalanced counts (s.fld R.FS_MON F.FS_MON_RATIO)
  let s := (upTo 64).foldl (fun t n =>
    if uneven && n == b then t.incSat (R.FS_CH_OCC n) F.FS_CH_OCC_OVER 1 else t.setFld (R.FS_CH_OCC n) F.FS_CH_OCC_OVER 0) s
  if !uneven then { s with store := { s.store with imbCount := 0, imbRaised := false } }
  else
    let n := s.store.imbCount + 1
    let s := { s with store := { s.store with imbCount := n } }
    if s.store.imbRaised || decide (n < s.fld R.FS_MON F.FS_MON_SUSTAIN) then s
    else ({ s with store := { s.store with imbRaised := true } }).raise Ev.FS_IMBALANCE 0 (evArg b 0 0)

/-! ### Done reports (R66) -/

/-- The done report of a unit that has finished its tick's work leaves; what waits for it starts. -/
def doneReport (u : BitVec 16) (s : State) : State :=
  match uClass u with
  | 2 => reportStall (uIndex u) s
  | 3 => remapFollow (reportYard (uIndex u) s)
  | 4 => remapDone (uIndex u) s
  | 5 => if (s.head (uIndex u)).owes.isSome then dmaHead (uIndex u) (headReport (uIndex u) s) else s
  | _ => s

/-- A canvas line is handed over; the last one of a direct-path frame is a start event for DMA (Table HB-4). -/
def handOver (n : Nat) (s : State) : State :=
  let was := (s.head n).frame
  let s := handLine n s
  match was with
  | some _ => if (s.head n).direct && (s.head n).frame.isNone then dmaHead n s else s
  | none => s

/-- A ring's consumer returns credits (R191). -/
def ringCredit (r : RingRef) (lines recs : Nat) (s : State) : State :=
  match r with
  | .gate g c => gateCredit g c lines recs s
  | .fill p k => fillCredit p k lines recs s

/-- A frame-start packet: in STANDALONE it is the ROM personality's (R487); a quad that has agreed to a sleep entry
takes no new frame (R446). -/
def sofArrives (x stream : Nat) (num : BitVec 16) (s : State) : State :=
  if s.holdsWork (laneDomain x) then s
  else if s.dstate = .standalone ∧ stream = 0 ∧ s.carries x then standSof x s
  else frameStart x stream num s

/-- A pixel line; stream 0 is the ROM personality's in STANDALONE (R487). -/
def lineArrives (x stream dt : Nat) (data : List Byte) (dmg : PktDamage) (s : State) : State :=
  if s.dstate = .standalone ∧ stream = 0 ∧ s.carries x then standLine x dt data dmg (countDamage (x / 4) dmg s)
  else pixelLine x stream dt data dmg s

/-- A frame end; stream 0 is the ROM personality's in STANDALONE (R487). -/
def endArrives (x stream : Nat) (num : BitVec 16) (s : State) : State :=
  if s.dstate = .standalone ∧ stream = 0 ∧ s.carries x then standEnd x s else frameEnd x stream num s

/-! ### The PPS output (R413) -/

/-- WIDTH_MS after its rising edge the pin falls. -/
def ppsOutFall (s : State) : State := { s with clk := { s.clk with ppsOut := false } }

/-! ### Ticks by hand: work that a tick instant does, where no tick runs -/

/-- A step of a time base applies at once where no tick instant will apply it (R396). -/
def stepApply (n : Nat) (s : State) : State := if s.tg.running then s else applyStep n s

/-- The 16.7 ms periods of R496, where no tick runs. -/
def recordWindow (s : State) : State := if s.tg.running then s else s.newRecordPeriod

/-- A tick instant, while ticks run (R43). -/
def tick (s : State) : State := if s.tg.running then tickInstant s else s

/-! ### The host bridge -/

/-- The host frees reply-ring room (R90); `ok` is false where a host write that follows fails (R91). -/
def rqHead (n : Fin 4) (v : Nat) (ok : Bool) (s : State) : State :=
  let s := bar0One (R.CMD_RQ_HEAD n) (w32 v) s
  if !s.bridgeOpen || !s.groomRuns || !s.ringActive n then s
  else if !ok then ringFail n s
  else groomTurn s

/-- The host moves the function into or out of D3hot. -/
def setD3hot (d3 : Bool) (s : State) : State :=
  if s.dark 0x2F then s else { s with host := { s.host with d3hot := d3 } }

/-! ### Link messages (Table LK-4) -/

/-- A message of a lane that has agreed to a sleep entry waits (R446); other messages take effect. -/
def onLane (x : Nat) (i : Work) (h : MsgHdr) (f : State → State) (s : State) : State :=
  s.holdOr (laneDomain x) i (rxMsg x h f)

/-- KEEPALIVE comes from a forward receiver: a receive lane does not implement it (R150). -/
def rxKeepalive (x : Nat) (h : MsgHdr) (s : State) : State := if x < 32 then sendNak x h Mt.KEEPALIVE s else s

/-- TRIG_ACK of a trigger of the hub's own, else passed on; a transmit lane sends no TRIGGER of its own (R150). -/
def rxTrigAck (x : Nat) (h : MsgHdr) (tick : BitVec 16) (s : State) : State :=
  if (s.link x).trigs.contains tick then trigAck x tick s
  else relayOr x h Mt.TRIG_ACK (beBytes 2 tick.toNat) (fun t => if x < 32 then t else sendNak x h Mt.TRIG_ACK t) s

/-- I2C_REQ: passed on, else NAK (R161). -/
def rxI2cReq (x : Nat) (h : MsgHdr) (body : List Byte) (s : State) : State :=
  relayOr x h Mt.I2C_REQ body (sendNak x h Mt.I2C_REQ) s

/-- I2C_RESP of a tunnelled transaction of the hub's own, else passed on. -/
def rxI2cResp (x : Nat) (h : MsgHdr) (status idx : Byte) (data : List Byte) (s : State) : State :=
  let k := s.twc (32 + x)
  if k.active && k.reqSeq == h.seq.toNat then tunnelResp x h.seq.toNat status.toNat idx.toNat data s
  else relayOr x h Mt.I2C_RESP ([status, idx] ++ data) (fun t => t) s

def rxGpioMsg (x : Nat) (h : MsgHdr) (levels mask : Byte) (s : State) : State :=
  relayOr x h Mt.GPIO [levels, mask] (rxGpio x levels mask) s

/-- AUTH_RESP of an exchange of the hub's own, else passed on. -/
def rxAuthRespMsg (x : Nat) (h : MsgHdr) (key sig : List Byte) (s : State) : State :=
  if (s.link x).auth.isSome then rxAuthResp x key sig s else relayOr x h Mt.AUTH_RESP (key ++ sig) (fun t => t) s

/-- ECHO comes from a sink: a receive lane does not implement it (R150). -/
def rxEchoMsg (x : Nat) (h : MsgHdr) (stream region : Byte) (counter crc : Word) (s : State) : State :=
  if x < 32 then sendNak x h Mt.ECHO s
  else relayOr x h Mt.ECHO ([stream, region, 0, 0] ++ beBytes 4 counter.toNat ++ beBytes 4 crc.toNat)
    (rxEcho (x - 32) stream.toNat region.toNat counter crc) s

/-- FRAME_STATUS comes from a forward transmitter: a receive lane's gate takes it, and it is passed on as well. -/
def rxFrameStatusMsg (x : Nat) (h : MsgHdr) (body : List Byte) (s : State) : State :=
  if x < 32 then relayOr x h Mt.FRAME_STATUS body (fun t => t) (rxFrameStatus x body s)
  else relayOr x h Mt.FRAME_STATUS body (sendNak x h Mt.FRAME_STATUS) s

/-! ### Work held over a sleep entry (R446) -/

/-- What held work does once its domain takes it. -/
def runWork : Work → State → State
  | .cmdSqTail n tail words ok => sqTail n tail.toNat words ok
  | .dmaCDoorbell c v => bar0One (R.DMA_DOORBELL c) v
  | .dmaTimerStart c => dmaTimer c
  | .commandFrame port f => frameIn port f
  | .train x h req eye flags rates => rxMsg x h (rxTrain x h req eye flags rates)
  | .eye x h eye => rxMsg x h (rxEye x h eye)
  | .pm x h code => rxMsg x h (rxPm x h code.toNat)
  | .keepalive x h => rxMsg x h (rxKeepalive x h)
  | .calReq x h id => rxMsg x h (rxCalReq x h id)
  | .calResp x h id turn t => rxCalResp x h id.toNat turn.toNat t
  | .trigger x h out pulse tick delay held => rxMsg x h (rxTrigger x h out pulse tick delay held)
  | .trigAck x h tick => rxMsg x h (rxTrigAck x h tick)
  | .i2cReq x h body => rxMsg x h (rxI2cReq x h body)
  | .i2cResp x h status idx data => rxMsg x h (rxI2cResp x h status idx data)
  | .gpio x h levels mask => rxMsg x h (rxGpioMsg x h levels mask)
  | .rollCall x h => rxMsg x h (rxRollCall x h)
  | .ident x h body => rxIdent x h body
  | .authChal x h nonce => rxMsg x h (rxAuthChal x h nonce)
  | .authResp x h key sig => rxMsg x h (rxAuthRespMsg x h key sig)
  | .echo x h stream region counter crc => rxMsg x h (rxEchoMsg x h stream region counter crc)
  | .frameStatus x h body => rxMsg x h (rxFrameStatusMsg x h body)
  | .nak x h mtype => rxMsg x h (rxNak x h mtype)

end Sys2Proof.Machine
end

