-- ==== Sys2Proof/Machine/RowsCmd.lean ====
section
/-! DEFINITION. The command rows: each is its packet, taken by the groom with the row's opcode (Table CM-9).
A row that stands for one KIND of an opcode takes the packet with that KIND. -/

namespace Sys2Proof.Machine

/-- PING (R100). -/
def execPing (p : Packet) (s : State) : Host.Outcome State Fault Refusal :=
  .next (takeCmd 0x0000 p s)

/-- GET_ID (R101). -/
def execGetId (p : Packet) (s : State) : Host.Outcome State Fault Refusal :=
  .next (takeCmd 0x0001 p s)

/-- GET_STATE (R101). -/
def execGetState (p : Packet) (s : State) : Host.Outcome State Fault Refusal :=
  .next (takeCmd 0x0002 p s)

/-- SEAL (R65). -/
def execSeal (p : Packet) (s : State) : Host.Outcome State Fault Refusal :=
  .next (takeCmd 0x0003 p s)

/-- ABORT_SEAL (R62). -/
def execAbortSeal (p : Packet) (s : State) : Host.Outcome State Fault Refusal :=
  .next (takeCmd 0x0004 p s)

/-- RESUME_REPORT (R461). -/
def execResumeReport (p : Packet) (s : State) : Host.Outcome State Fault Refusal :=
  .next (takeCmd 0x0005 p s)

/-- EVENT_ROUTE (R505). -/
def execEventRoute (p : Packet) (s : State) : Host.Outcome State Fault Refusal :=
  .next (takeCmd 0x0006 p s)

/-- EVENT_READ (R505). -/
def execEventRead (p : Packet) (s : State) : Host.Outcome State Fault Refusal :=
  .next (takeCmd 0x0007 p s)

/-- REG_READ (R538). -/
def execRegRead (p : Packet) (s : State) : Host.Outcome State Fault Refusal :=
  .next (takeCmd 0x0008 p s)

/-- REG_WRITE (R538). -/
def execRegWrite (p : Packet) (s : State) : Host.Outcome State Fault Refusal :=
  .next (takeCmd 0x0009 p s)

/-- STAGE_QUERY (R100). -/
def execStageQuery (p : Packet) (s : State) : Host.Outcome State Fault Refusal :=
  .next (takeCmd 0x000A p s)

/-- SAFE_EXIT (R501). -/
def execSafeExit (p : Packet) (s : State) : Host.Outcome State Fault Refusal :=
  .next (takeCmd 0x000B p s)

/-- RESET (R468). -/
def execReset (p : Packet) (s : State) : Host.Outcome State Fault Refusal :=
  .next (takeCmd 0x000C p s)

/-- CONFIG_LOAD (R483). -/
def execConfigLoad (p : Packet) (s : State) : Host.Outcome State Fault Refusal :=
  .next (takeCmd 0x000D p s)

/-- CONFIG_SAVE (R484). -/
def execConfigSave (p : Packet) (s : State) : Host.Outcome State Fault Refusal :=
  .next (takeCmd 0x000E p s)

/-- LANE_SET (R135). -/
def execLaneSet (p : Packet) (s : State) : Host.Outcome State Fault Refusal :=
  .next (takeCmd 0x0100 p s)

/-- LANE_STATE (R136). -/
def execLaneState (p : Packet) (s : State) : Host.Outcome State Fault Refusal :=
  .next (takeCmd 0x0101 p s)

/-- LANE_STATUS (R135). -/
def execLaneStatus (p : Packet) (s : State) : Host.Outcome State Fault Refusal :=
  .next (takeCmd 0x0102 p s)

/-- LANE_BOND (R128). -/
def execLaneBond (p : Packet) (s : State) : Host.Outcome State Fault Refusal :=
  .next (takeCmd 0x0103 p s)

/-- ROLL_CALL_SET (R164). -/
def execRollCallSet (p : Packet) (s : State) : Host.Outcome State Fault Refusal :=
  .next (takeCmd 0x0104 p s)

/-- DISCOVER (R164). -/
def execDiscover (p : Packet) (s : State) : Host.Outcome State Fault Refusal :=
  .next (takeCmd 0x0105 p s)

/-- PARTNER_INFO (R164). -/
def execPartnerInfo (p : Packet) (s : State) : Host.Outcome State Fault Refusal :=
  .next (takeCmd 0x0106 p s)

/-- TRIGGER_SET (R164). -/
def execTriggerSet (p : Packet) (s : State) : Host.Outcome State Fault Refusal :=
  .next (takeCmd 0x0107 p s)

/-- TRIGGER_CAL (R152). -/
def execTriggerCal (p : Packet) (s : State) : Host.Outcome State Fault Refusal :=
  .next (takeCmd 0x0108 p s)

/-- LINK_GPIO (R164). -/
def execLinkGpio (p : Packet) (s : State) : Host.Outcome State Fault Refusal :=
  .next (takeCmd 0x0109 p s)

/-- REPEATER_SET (R131). -/
def execRepeaterSet (p : Packet) (s : State) : Host.Outcome State Fault Refusal :=
  .next (takeCmd 0x010A p s)

/-- STREAM_OPEN (R196). -/
def execStreamOpen (p : Packet) (s : State) : Host.Outcome State Fault Refusal :=
  .next (takeCmd 0x0200 p s)

/-- STREAM_CLOSE (R166). -/
def execStreamClose (p : Packet) (s : State) : Host.Outcome State Fault Refusal :=
  .next (takeCmd 0x0201 p s)

/-- STREAM_CROP (R179). -/
def execStreamCrop (p : Packet) (s : State) : Host.Outcome State Fault Refusal :=
  .next (takeCmd 0x0202 p s)

/-- STREAM_TARGET (R190). -/
def execStreamTarget (p : Packet) (s : State) : Host.Outcome State Fault Refusal :=
  .next (takeCmd 0x0203 p s)

/-- STREAM_TAG (R196). -/
def execStreamTag (p : Packet) (s : State) : Host.Outcome State Fault Refusal :=
  .next (takeCmd 0x0204 p s)

/-- HDR_GROUP (R185). -/
def execHdrGroup (p : Packet) (s : State) : Host.Outcome State Fault Refusal :=
  .next (takeCmd 0x0205 p s)

/-- GATE_STATUS (R196). -/
def execGateStatus (p : Packet) (s : State) : Host.Outcome State Fault Refusal :=
  .next (takeCmd 0x0206 p s)

/-- GATE_FLUSH (R192). -/
def execGateFlush (p : Packet) (s : State) : Host.Outcome State Fault Refusal :=
  .next (takeCmd 0x0207 p s)

/-- LOAD_KERNEL (R218). -/
def execLoadKernel (p : Packet) (s : State) : Host.Outcome State Fault Refusal :=
  .next (takeCmd 0x0300 p s)

/-- BIND (R219). -/
def execBind (p : Packet) (s : State) : Host.Outcome State Fault Refusal :=
  .next (takeCmd 0x0301 p s)

/-- SET_PARAM (R211). -/
def execSetParam (p : Packet) (s : State) : Host.Outcome State Fault Refusal :=
  .next (takeCmd 0x0302 p s)

/-- YARD_DEFINE (R225). -/
def execYardDefine (p : Packet) (s : State) : Host.Outcome State Fault Refusal :=
  .next (takeCmd 0x0303 p s)

/-- YARD_DISSOLVE (R227). -/
def execYardDissolve (p : Packet) (s : State) : Host.Outcome State Fault Refusal :=
  .next (takeCmd 0x0304 p s)

/-- UNBIND (R219). -/
def execUnbind (p : Packet) (s : State) : Host.Outcome State Fault Refusal :=
  .next (takeCmd 0x0305 p s)

/-- LOCKSTEP_PAIR (R221). -/
def execLockstepPair (p : Packet) (s : State) : Host.Outcome State Fault Refusal :=
  .next (takeCmd 0x0306 p s)

/-- STALL_STATUS (R231). -/
def execStallStatus (p : Packet) (s : State) : Host.Outcome State Fault Refusal :=
  .next (takeCmd 0x0307 p s)

/-- YARD_QUERY (R231). -/
def execYardQuery (p : Packet) (s : State) : Host.Outcome State Fault Refusal :=
  .next (takeCmd 0x0308 p s)

/-- MESH_LOAD (R267). -/
def execMeshLoad (p : Packet) (s : State) : Host.Outcome State Fault Refusal :=
  .next (takeCmd 0x0400 p s)

/-- REMAP_BIND (R273). -/
def execRemapBind (p : Packet) (s : State) : Host.Outcome State Fault Refusal :=
  .next (takeCmd 0x0401 p s)

/-- REMAP_UNBIND (R275). -/
def execRemapUnbind (p : Packet) (s : State) : Host.Outcome State Fault Refusal :=
  .next (takeCmd 0x0402 p s)

/-- REMAP_STATUS (R275). -/
def execRemapStatus (p : Packet) (s : State) : Host.Outcome State Fault Refusal :=
  .next (takeCmd 0x0403 p s)

/-- HEAD_SET (R359). -/
def execHeadSet (p : Packet) (s : State) : Host.Outcome State Fault Refusal :=
  .next (takeCmd 0x0500 p s)

/-- HEAD_LANES (R328). -/
def execHeadLanes (p : Packet) (s : State) : Host.Outcome State Fault Refusal :=
  .next (takeCmd 0x0501 p s)

/-- KITE_SET (R332). -/
def execKiteSet (p : Packet) (s : State) : Host.Outcome State Fault Refusal :=
  .next (takeCmd 0x0502 p s)

/-- KITE_CLEAR (R359). -/
def execKiteClear (p : Packet) (s : State) : Host.Outcome State Fault Refusal :=
  .next (takeCmd 0x0503 p s)

/-- TETHER_SET (R343). -/
def execTetherSet (p : Packet) (s : State) : Host.Outcome State Fault Refusal :=
  .next (takeCmd 0x0504 p s)

/-- TETHER_CLEAR (R359). -/
def execTetherClear (p : Packet) (s : State) : Host.Outcome State Fault Refusal :=
  .next (takeCmd 0x0505 p s)

/-- DIRECT_SET (R339). -/
def execDirectSet (p : Packet) (s : State) : Host.Outcome State Fault Refusal :=
  .next (takeCmd 0x0506 p s)

/-- DIRECT_CLEAR (R339). -/
def execDirectClear (p : Packet) (s : State) : Host.Outcome State Fault Refusal :=
  .next (takeCmd 0x0507 p s)

/-- HEAD_STATUS (R359). -/
def execHeadStatus (p : Packet) (s : State) : Host.Outcome State Fault Refusal :=
  .next (takeCmd 0x0508 p s)

/-- WITNESS_STATUS (R359). -/
def execWitnessStatus (p : Packet) (s : State) : Host.Outcome State Fault Refusal :=
  .next (takeCmd 0x0509 p s)

/-- CODEC_SET (R303). -/
def execCodecSet (p : Packet) (s : State) : Host.Outcome State Fault Refusal :=
  .next (takeCmd 0x0600 p s)

/-- CODEC_STATUS (R303). -/
def execCodecStatus (p : Packet) (s : State) : Host.Outcome State Fault Refusal :=
  .next (takeCmd 0x0601 p s)

/-- PADDOCK_CREATE (R312). -/
def execPaddockCreate (p : Packet) (s : State) : Host.Outcome State Fault Refusal :=
  .next (takeCmd 0x0700 p s)

/-- PADDOCK_DELETE (R320). -/
def execPaddockDelete (p : Packet) (s : State) : Host.Outcome State Fault Refusal :=
  .next (takeCmd 0x0701 p s)

/-- PADDOCK_POLICY (R320). -/
def execPaddockPolicy (p : Packet) (s : State) : Host.Outcome State Fault Refusal :=
  .next (takeCmd 0x0702 p s)

/-- MARK_SET (R319). -/
def execMarkSet (p : Packet) (s : State) : Host.Outcome State Fault Refusal :=
  .next (takeCmd 0x0703 p s)

/-- MARK_CLEAR (R319). -/
def execMarkClear (p : Packet) (s : State) : Host.Outcome State Fault Refusal :=
  .next (takeCmd 0x0704 p s)

/-- PADDOCK_STATUS (R323). -/
def execPaddockStatus (p : Packet) (s : State) : Host.Outcome State Fault Refusal :=
  .next (takeCmd 0x0705 p s)

/-- DMA_SET (R388). -/
def execDmaSet (p : Packet) (s : State) : Host.Outcome State Fault Refusal :=
  .next (takeCmd 0x0800 p s)

/-- DMA_START (R378). -/
def execDmaStart (p : Packet) (s : State) : Host.Outcome State Fault Refusal :=
  .next (takeCmd 0x0801 p s)

/-- DMA_ABORT (R384). -/
def execDmaAbort (p : Packet) (s : State) : Host.Outcome State Fault Refusal :=
  .next (takeCmd 0x0802 p s)

/-- DMA_STATUS (R388). -/
def execDmaStatus (p : Packet) (s : State) : Host.Outcome State Fault Refusal :=
  .next (takeCmd 0x0803 p s)

/-- TB_SET (R416). -/
def execTbSet (p : Packet) (s : State) : Host.Outcome State Fault Refusal :=
  .next (takeCmd 0x0900 p s)

/-- TB_READ (R416). -/
def execTbRead (p : Packet) (s : State) : Host.Outcome State Fault Refusal :=
  .next (takeCmd 0x0901 p s)

/-- TB_ADJUST_SET (R398). -/
def execTbAdjustSet (p : Packet) (s : State) : Host.Outcome State Fault Refusal :=
  .next (takeCmd 0x902 (kindPacket p 1 0 0) s)

/-- TB_ADJUST_OFFSET (R398). -/
def execTbAdjustOffset (p : Packet) (s : State) : Host.Outcome State Fault Refusal :=
  .next (takeCmd 0x902 (kindPacket p 1 0 1) s)

/-- TB_PAIR (R400). -/
def execTbPair (p : Packet) (s : State) : Host.Outcome State Fault Refusal :=
  .next (takeCmd 0x0903 p s)

/-- PPS_SET (R416). -/
def execPpsSet (p : Packet) (s : State) : Host.Outcome State Fault Refusal :=
  .next (takeCmd 0x0904 p s)

/-- TS_READ (R416). -/
def execTsRead (p : Packet) (s : State) : Host.Outcome State Fault Refusal :=
  .next (takeCmd 0x0905 p s)

/-- TW_SET (R439). -/
def execTwSet (p : Packet) (s : State) : Host.Outcome State Fault Refusal :=
  .next (takeCmd 0x0A00 p s)

/-- TW_XFER (R420). -/
def execTwXfer (p : Packet) (s : State) : Host.Outcome State Fault Refusal :=
  .next (takeCmd 0x0A01 p s)

/-- TW_STATUS (R439). -/
def execTwStatus (p : Packet) (s : State) : Host.Outcome State Fault Refusal :=
  .next (takeCmd 0x0A02 p s)

/-- TWT_SET (R430). -/
def execTwtSet (p : Packet) (s : State) : Host.Outcome State Fault Refusal :=
  .next (takeCmd 0x0A03 p s)

/-- LEVEL_SET (R442). -/
def execLevelSet (p : Packet) (s : State) : Host.Outcome State Fault Refusal :=
  .next (takeCmd 0x0B00 p s)

/-- DOMAIN_SET (R74). -/
def execDomainSet (p : Packet) (s : State) : Host.Outcome State Fault Refusal :=
  .next (takeCmd 0x0B01 p s)

/-- SLEEP_ENTER_LEAVE_IDLE (R444). -/
def execSleepEnterLeaveIdle (p : Packet) (s : State) : Host.Outcome State Fault Refusal :=
  .next (takeCmd 0xB02 (kindPacket p 2 0 0) s)

/-- SLEEP_ENTER_IDLE (R444). -/
def execSleepEnterIdle (p : Packet) (s : State) : Host.Outcome State Fault Refusal :=
  .next (takeCmd 0xB02 (kindPacket p 2 0 1) s)

/-- SLEEP_ENTER_HOLD (R445). -/
def execSleepEnterHold (p : Packet) (s : State) : Host.Outcome State Fault Refusal :=
  .next (takeCmd 0xB02 (kindPacket p 2 0 2) s)

/-- SLEEP_ENTER_STOW (R445). -/
def execSleepEnterStow (p : Packet) (s : State) : Host.Outcome State Fault Refusal :=
  .next (takeCmd 0xB02 (kindPacket p 2 0 3) s)

/-- SLEEP_ENTER_OFF (R449). -/
def execSleepEnterOff (p : Packet) (s : State) : Host.Outcome State Fault Refusal :=
  .next (takeCmd 0xB02 (kindPacket p 2 0 4) s)

/-- PAD_RELEASE (R451). -/
def execPadRelease (p : Packet) (s : State) : Host.Outcome State Fault Refusal :=
  .next (takeCmd 0x0B03 p s)

/-- WAKE_SET (R461). -/
def execWakeSet (p : Packet) (s : State) : Host.Outcome State Fault Refusal :=
  .next (takeCmd 0x0B04 p s)

/-- POWER_STATUS (R461). -/
def execPowerStatus (p : Packet) (s : State) : Host.Outcome State Fault Refusal :=
  .next (takeCmd 0x0B05 p s)

/-- CRED_OPEN_STEP_A (R474). -/
def execCredOpenStepA (p : Packet) (s : State) : Host.Outcome State Fault Refusal :=
  .next (takeCmd 0xC00 (kindPacket p 0 0 0) s)

/-- CRED_OPEN_STEP_B (R474). -/
def execCredOpenStepB (p : Packet) (s : State) : Host.Outcome State Fault Refusal :=
  .next (takeCmd 0xC00 (kindPacket p 0 0 1) s)

/-- CRED_CLOSE (R475). -/
def execCredClose (p : Packet) (s : State) : Host.Outcome State Fault Refusal :=
  .next (takeCmd 0x0C01 p s)

/-- ATTEST (R477). -/
def execAttest (p : Packet) (s : State) : Host.Outcome State Fault Refusal :=
  .next (takeCmd 0x0C02 p s)

/-- CAMERA_AUTH (R159). -/
def execCameraAuth (p : Packet) (s : State) : Host.Outcome State Fault Refusal :=
  .next (takeCmd 0x0C03 p s)

/-- KEY_REVOKE_OWNER (R473). -/
def execKeyRevokeOwner (p : Packet) (s : State) : Host.Outcome State Fault Refusal :=
  .next (takeCmd 0xC04 (kindPacket p 1 0 0) s)

/-- KEY_REVOKE_VENDOR (R473). -/
def execKeyRevokeVendor (p : Packet) (s : State) : Host.Outcome State Fault Refusal :=
  .next (takeCmd 0xC04 (kindPacket p 1 0 1) s)

/-- KEY_REVOKE_SVN (R473). -/
def execKeyRevokeSvn (p : Packet) (s : State) : Host.Outcome State Fault Refusal :=
  .next (takeCmd 0xC04 (kindPacket p 1 0 2) s)

/-- DEBUG_UNLOCK (R479). -/
def execDebugUnlock (p : Packet) (s : State) : Host.Outcome State Fault Refusal :=
  .next (takeCmd 0x0C05 p s)

/-- TRNG_READ (R478). -/
def execTrngRead (p : Packet) (s : State) : Host.Outcome State Fault Refusal :=
  .next (takeCmd 0x0C06 p s)

/-- OTP_READ (R490). -/
def execOtpRead (p : Packet) (s : State) : Host.Outcome State Fault Refusal :=
  .next (takeCmd 0x0C07 p s)

/-- FW_LOAD (R485). -/
def execFwLoad (p : Packet) (s : State) : Host.Outcome State Fault Refusal :=
  .next (takeCmd 0x0C08 p s)

/-- PATTERN_SET (R509). -/
def execPatternSet (p : Packet) (s : State) : Host.Outcome State Fault Refusal :=
  .next (takeCmd 0x0E00 p s)

/-- PATTERN_CHECK (R510). -/
def execPatternCheck (p : Packet) (s : State) : Host.Outcome State Fault Refusal :=
  .next (takeCmd 0x0E01 p s)

/-- LOOPBACK_OFF (R512). -/
def execLoopbackOff (p : Packet) (s : State) : Host.Outcome State Fault Refusal :=
  .next (takeCmd 0xE02 (kindPacket p 1 0 0) s)

/-- LOOPBACK_SERIAL (R512). -/
def execLoopbackSerial (p : Packet) (s : State) : Host.Outcome State Fault Refusal :=
  .next (takeCmd 0xE02 (kindPacket p 1 0 1) s)

/-- LOOPBACK_DIGITAL (R512). -/
def execLoopbackDigital (p : Packet) (s : State) : Host.Outcome State Fault Refusal :=
  .next (takeCmd 0xE02 (kindPacket p 1 0 2) s)

/-- EYE_SCAN (R514). -/
def execEyeScan (p : Packet) (s : State) : Host.Outcome State Fault Refusal :=
  .next (takeCmd 0x0E03 p s)

/-- ERR_INJECT_STOP (R513). -/
def execErrInjectStop (p : Packet) (s : State) : Host.Outcome State Fault Refusal :=
  .next (takeCmd 0xE04 (kindPacket p 1 0 0) s)

/-- ERR_INJECT_SINGLE (R513). -/
def execErrInjectSingle (p : Packet) (s : State) : Host.Outcome State Fault Refusal :=
  .next (takeCmd 0xE04 (kindPacket p 1 0 1) s)

/-- ERR_INJECT_RATE (R513). -/
def execErrInjectRate (p : Packet) (s : State) : Host.Outcome State Fault Refusal :=
  .next (takeCmd 0xE04 (kindPacket p 1 0 2) s)

/-- ERR_INJECT_BURST (R513). -/
def execErrInjectBurst (p : Packet) (s : State) : Host.Outcome State Fault Refusal :=
  .next (takeCmd 0xE04 (kindPacket p 1 0 3) s)

/-- MEMTEST_MARCH (R516). -/
def execMemtestMarch (p : Packet) (s : State) : Host.Outcome State Fault Refusal :=
  .next (takeCmd 0xE05 (kindPacket p 0 0 0) s)

/-- MEMTEST_READ (R517). -/
def execMemtestRead (p : Packet) (s : State) : Host.Outcome State Fault Refusal :=
  .next (takeCmd 0xE05 (kindPacket p 0 0 1) s)

/-- DIAG_READ (R520). -/
def execDiagRead (p : Packet) (s : State) : Host.Outcome State Fault Refusal :=
  .next (takeCmd 0x0E06 p s)

end Sys2Proof.Machine
end

