-- ==== Sys2Proof/Machine/RowsHost.lean ====
section
/-! DEFINITION. The rows of chains, registers with steps of their own, command rings, BAR2, DMA, PCIe and the Ethernet ports'
frames. -/

namespace Sys2Proof.Machine

/-- CHAIN_TIMEOUT (R87). -/
def execChainTimeout (src : Source) (s : State) : Host.Outcome State Fault Refusal :=
  .next (chainTimeout src s)

/-- REGISTER_WRITE (R41). -/
def execRegisterWrite (off size : Nat) (full : Bool) (lo hi : Word) (s : State) : Host.Outcome State Fault Refusal :=
  if 2 ^ 24 ≤ off then .fault .outsideWindow else .next (bar0Write off size full lo hi s)

/-- CMD_SQ_TAIL (R89). -/
def execCmdSqTail (n : Fin 4) (tail : BitVec 17) (words : List Word) (ok : Bool) (s : State) :
    Host.Outcome State Fault Refusal :=
  .next (s.holdOr 0x2F (.cmdSqTail n tail words ok) (sqTail n tail.toNat words ok))

/-- CMD_RQ_HEAD (R90). -/
def execCmdRqHead (n : Fin 4) (head : BitVec 17) (ok : Bool) (s : State) : Host.Outcome State Fault Refusal :=
  .next (rqHead n head.toNat ok s)

/-- CMD_Q_EN (R91). -/
def execCmdQEn (n : Fin 4) (ctrl : Word) (s : State) : Host.Outcome State Fault Refusal :=
  .next (bar0One (R.CMD_Q_CTRL n) ctrl s)

/-- DMA_C_DOORBELL (R378). -/
def execDmaCDoorbell (c : Fin 16) (v : Word) (s : State) : Host.Outcome State Fault Refusal :=
  .next (s.holdOr 0x2F (.dmaCDoorbell c v) (bar0One (R.DMA_DOORBELL c) v))

/-- DMA_C_ABORT (R384). -/
def execDmaCAbort (c : Fin 16) (v : Word) (s : State) : Host.Outcome State Fault Refusal :=
  .next (bar0One (R.DMA_ABORT c) v s)

/-- ALARM_ACK (R353). -/
def execAlarmAck (n : Fin 4) (v : Word) (s : State) : Host.Outcome State Fault Refusal :=
  .next (bar0One (R.HEAD_ALARM n) v s)

/-- PCHK_CLEAR (R510). -/
def execPchkClear (x : Fin 48) (v : Word) (s : State) : Host.Outcome State Fault Refusal :=
  .next (bar0One (R.TEST_PCHK x) v s)

/-- ETH_MDIO_GO (R405). -/
def execEthMdioGo (v : Word) (s : State) : Host.Outcome State Fault Refusal :=
  .next (bar0One R.ETH_MDIO_CMD v s)

/-- BAR2_READ (R367). -/
def execBar2Read (off len : Nat) (s : State) : Host.Outcome State Fault Refusal :=
  if 2 ^ 28 < off + len then .fault .outsideWindow else .next (bar2Read off len s)

/-- BAR2_WRITE (R367). -/
def execBar2Write (off : Nat) (data : List (Option Byte)) (s : State) : Host.Outcome State Fault Refusal :=
  if 2 ^ 28 < off + data.length then .fault .outsideWindow else .next (bar2Write off data s)

/-- HOST_BRIDGE_RESET (R374). -/
def execHostBridgeReset (kind : HbReset) (s : State) : Host.Outcome State Fault Refusal :=
  .next (if s.dark 0x2F then s else hostBridgeReset kind s)

/-- PCIE_D3HOT (R361). -/
def execPcieD3hot (d3 : Bool) (s : State) : Host.Outcome State Fault Refusal :=
  .next (setD3hot d3 s)

/-- DMA_BACKOFF (R371). -/
def execDmaBackoff (waiting : Bool) (s : State) : Host.Outcome State Fault Refusal :=
  .next (if s.dark 0x2F then s else setBackoff waiting s)

/-- DMA_TIMER_START (R378). -/
def execDmaTimerStart (c : Fin 16) (s : State) : Host.Outcome State Fault Refusal :=
  .next (s.holdOr 0x2F (.dmaTimerStart c) (dmaTimer c))

/-- DESCRIPTOR_FETCH (R380). -/
def execDescriptorFetch (c : Fin 16) (words : List Word) (ok : Bool) (s : State) : Host.Outcome State Fault Refusal :=
  .next (descriptorFetch c words ok s)

/-- DESCRIPTOR_DONE (R381). -/
def execDescriptorDone (c : Fin 16) (data : List Byte) (ok : Bool) (moved : Nat) (s : State) :
    Host.Outcome State Fault Refusal :=
  .next (descriptorDone c data ok moved s)

/-- TAIL_REREAD (R381). -/
def execTailReread (c : Fin 16) (w : Option Word) (s : State) : Host.Outcome State Fault Refusal :=
  .next (groomTurn (dmaHeld c (tailReread c w s)))

/-- READBACK_COMPLETE (R383). -/
def execReadbackComplete (c : Fin 16) (ok : Bool) (s : State) : Host.Outcome State Fault Refusal :=
  .next (readbackDone c ok s)

/-- ABORT_BURST_DONE (R384). -/
def execAbortBurstDone (c : Fin 16) (moved : Nat) (data : List Byte) (s : State) : Host.Outcome State Fault Refusal :=
  .next (abortBurstDone c moved data s)

/-- COMPLETION_TIMEOUT (R386). -/
def execCompletionTimeout (c : Fin 16) (moved : Nat) (s : State) : Host.Outcome State Fault Refusal :=
  .next (completionTimeout c moved s)

/-- PCIE_LINK_UP (R375). -/
def execPcieLinkUp (speed width : BitVec 3) (s : State) : Host.Outcome State Fault Refusal :=
  .next (if s.dark 0x2F then s else pcieUp speed.toNat width.toNat s)

/-- COMMAND_UNKNOWN (R83). -/
def execCommandUnknown (opcode : BitVec 16) (p : Packet) (s : State) : Host.Outcome State Fault Refusal :=
  .next (takeCmd opcode.toNat p s)

/-- COMMAND_FRAME (R92). -/
def execCommandFrame (port : Fin 2) (f : EthFrame) (s : State) : Host.Outcome State Fault Refusal :=
  .next (s.holdOr 0x30 (.commandFrame port f) (frameIn port f))

/-- ETHERNET_FRAME (R403). -/
def execEthernetFrame (port : Fin 2) (f : EthFrame) (s : State) : Host.Outcome State Fault Refusal :=
  .next (frameIn port f s)

end Sys2Proof.Machine
end

