-- ==== Sys2Proof/Machine/RowsIsa.lean ====
section
/-! DEFINITION. The rows of the stall instruction set (Table ST-3): stall `st` issues bundle `raw`, which carries the
row's opcode in its slot. -/

namespace Sys2Proof.Machine

/-- NOP (R204). -/
def execOpNop (st : Fin 256) (raw : BitVec 128) (s : State) : Host.Outcome State Fault Refusal :=
  .next (nopRow st raw s)

/-- ADD (R204). -/
def execOpAdd (st : Fin 256) (raw : BitVec 128) (s : State) : Host.Outcome State Fault Refusal :=
  .next (opRow .s 0x01 st raw s)

/-- SUB (R204). -/
def execOpSub (st : Fin 256) (raw : BitVec 128) (s : State) : Host.Outcome State Fault Refusal :=
  .next (opRow .s 0x02 st raw s)

/-- AND (R204). -/
def execOpAnd (st : Fin 256) (raw : BitVec 128) (s : State) : Host.Outcome State Fault Refusal :=
  .next (opRow .s 0x03 st raw s)

/-- OR (R204). -/
def execOpOr (st : Fin 256) (raw : BitVec 128) (s : State) : Host.Outcome State Fault Refusal :=
  .next (opRow .s 0x04 st raw s)

/-- XOR (R204). -/
def execOpXor (st : Fin 256) (raw : BitVec 128) (s : State) : Host.Outcome State Fault Refusal :=
  .next (opRow .s 0x05 st raw s)

/-- SHL (R204). -/
def execOpShl (st : Fin 256) (raw : BitVec 128) (s : State) : Host.Outcome State Fault Refusal :=
  .next (opRow .s 0x06 st raw s)

/-- SHR (R204). -/
def execOpShr (st : Fin 256) (raw : BitVec 128) (s : State) : Host.Outcome State Fault Refusal :=
  .next (opRow .s 0x07 st raw s)

/-- SRA (R204). -/
def execOpSra (st : Fin 256) (raw : BitVec 128) (s : State) : Host.Outcome State Fault Refusal :=
  .next (opRow .s 0x08 st raw s)

/-- MUL (R204). -/
def execOpMul (st : Fin 256) (raw : BitVec 128) (s : State) : Host.Outcome State Fault Refusal :=
  .next (opRow .s 0x09 st raw s)

/-- MIN (R204). -/
def execOpMin (st : Fin 256) (raw : BitVec 128) (s : State) : Host.Outcome State Fault Refusal :=
  .next (opRow .s 0x0A st raw s)

/-- MAX (R204). -/
def execOpMax (st : Fin 256) (raw : BitVec 128) (s : State) : Host.Outcome State Fault Refusal :=
  .next (opRow .s 0x0B st raw s)

/-- SLT (R204). -/
def execOpSlt (st : Fin 256) (raw : BitVec 128) (s : State) : Host.Outcome State Fault Refusal :=
  .next (opRow .s 0x0C st raw s)

/-- SLTU (R204). -/
def execOpSltu (st : Fin 256) (raw : BitVec 128) (s : State) : Host.Outcome State Fault Refusal :=
  .next (opRow .s 0x0D st raw s)

/-- ADDI (R204). -/
def execOpAddi (st : Fin 256) (raw : BitVec 128) (s : State) : Host.Outcome State Fault Refusal :=
  .next (opRow .s 0x10 st raw s)

/-- ANDI (R204). -/
def execOpAndi (st : Fin 256) (raw : BitVec 128) (s : State) : Host.Outcome State Fault Refusal :=
  .next (opRow .s 0x11 st raw s)

/-- ORI (R204). -/
def execOpOri (st : Fin 256) (raw : BitVec 128) (s : State) : Host.Outcome State Fault Refusal :=
  .next (opRow .s 0x12 st raw s)

/-- SHLI (R204). -/
def execOpShli (st : Fin 256) (raw : BitVec 128) (s : State) : Host.Outcome State Fault Refusal :=
  .next (opRow .s 0x13 st raw s)

/-- SHRI (R204). -/
def execOpShri (st : Fin 256) (raw : BitVec 128) (s : State) : Host.Outcome State Fault Refusal :=
  .next (opRow .s 0x14 st raw s)

/-- SRAI (R204). -/
def execOpSrai (st : Fin 256) (raw : BitVec 128) (s : State) : Host.Outcome State Fault Refusal :=
  .next (opRow .s 0x15 st raw s)

/-- MOVI (R202). -/
def execOpMovi (st : Fin 256) (raw : BitVec 128) (s : State) : Host.Outcome State Fault Refusal :=
  .next (opRow .s 0x16 st raw s)

/-- BEZ (R204). -/
def execOpBez (st : Fin 256) (raw : BitVec 128) (s : State) : Host.Outcome State Fault Refusal :=
  .next (opRow .s 0x20 st raw s)

/-- BNZ (R204). -/
def execOpBnz (st : Fin 256) (raw : BitVec 128) (s : State) : Host.Outcome State Fault Refusal :=
  .next (opRow .s 0x21 st raw s)

/-- BLTZ (R204). -/
def execOpBltz (st : Fin 256) (raw : BitVec 128) (s : State) : Host.Outcome State Fault Refusal :=
  .next (opRow .s 0x22 st raw s)

/-- JMP (R204). -/
def execOpJmp (st : Fin 256) (raw : BitVec 128) (s : State) : Host.Outcome State Fault Refusal :=
  .next (opRow .s 0x23 st raw s)

/-- JAL (R204). -/
def execOpJal (st : Fin 256) (raw : BitVec 128) (s : State) : Host.Outcome State Fault Refusal :=
  .next (opRow .s 0x24 st raw s)

/-- JR (R204). -/
def execOpJr (st : Fin 256) (raw : BitVec 128) (s : State) : Host.Outcome State Fault Refusal :=
  .next (opRow .s 0x25 st raw s)

/-- LOOP (R204). -/
def execOpLoop (st : Fin 256) (raw : BitVec 128) (s : State) : Host.Outcome State Fault Refusal :=
  .next (opRow .s 0x26 st raw s)

/-- GETP (R204). -/
def execOpGetp (st : Fin 256) (raw : BitVec 128) (s : State) : Host.Outcome State Fault Refusal :=
  .next (opRow .s 0x30 st raw s)

/-- GETID (R205). -/
def execOpGetid (st : Fin 256) (raw : BitVec 128) (s : State) : Host.Outcome State Fault Refusal :=
  .next (opRow .s 0x31 st raw s)

/-- ENDT (R206). -/
def execOpEndt (st : Fin 256) (raw : BitVec 128) (s : State) : Host.Outcome State Fault Refusal :=
  .next (opRow .s 0x38 st raw s)

/-- ENDL (R223). -/
def execOpEndl (st : Fin 256) (raw : BitVec 128) (s : State) : Host.Outcome State Fault Refusal :=
  .next (opRow .s 0x39 st raw s)

/-- TRAP (R207). -/
def execOpTrap (st : Fin 256) (raw : BitVec 128) (s : State) : Host.Outcome State Fault Refusal :=
  .next (opRow .s 0x3A st raw s)

/-- FENCE (R204). -/
def execOpFence (st : Fin 256) (raw : BitVec 128) (s : State) : Host.Outcome State Fault Refusal :=
  .next (opRow .s 0x3B st raw s)

/-- VADD (R204). -/
def execOpVadd (st : Fin 256) (raw : BitVec 128) (s : State) : Host.Outcome State Fault Refusal :=
  .next (opRow .v 0x001 st raw s)

/-- VSUB (R204). -/
def execOpVsub (st : Fin 256) (raw : BitVec 128) (s : State) : Host.Outcome State Fault Refusal :=
  .next (opRow .v 0x002 st raw s)

/-- VMIN (R204). -/
def execOpVmin (st : Fin 256) (raw : BitVec 128) (s : State) : Host.Outcome State Fault Refusal :=
  .next (opRow .v 0x003 st raw s)

/-- VMAX (R204). -/
def execOpVmax (st : Fin 256) (raw : BitVec 128) (s : State) : Host.Outcome State Fault Refusal :=
  .next (opRow .v 0x004 st raw s)

/-- VABSD (R204). -/
def execOpVabsd (st : Fin 256) (raw : BitVec 128) (s : State) : Host.Outcome State Fault Refusal :=
  .next (opRow .v 0x005 st raw s)

/-- VAND (R204). -/
def execOpVand (st : Fin 256) (raw : BitVec 128) (s : State) : Host.Outcome State Fault Refusal :=
  .next (opRow .v 0x006 st raw s)

/-- VOR (R204). -/
def execOpVor (st : Fin 256) (raw : BitVec 128) (s : State) : Host.Outcome State Fault Refusal :=
  .next (opRow .v 0x007 st raw s)

/-- VXOR (R204). -/
def execOpVxor (st : Fin 256) (raw : BitVec 128) (s : State) : Host.Outcome State Fault Refusal :=
  .next (opRow .v 0x008 st raw s)

/-- VSHL (R204). -/
def execOpVshl (st : Fin 256) (raw : BitVec 128) (s : State) : Host.Outcome State Fault Refusal :=
  .next (opRow .v 0x009 st raw s)

/-- VSHR (R201). -/
def execOpVshr (st : Fin 256) (raw : BitVec 128) (s : State) : Host.Outcome State Fault Refusal :=
  .next (opRow .v 0x00A st raw s)

/-- VCLAMP (R204). -/
def execOpVclamp (st : Fin 256) (raw : BitVec 128) (s : State) : Host.Outcome State Fault Refusal :=
  .next (opRow .v 0x00C st raw s)

/-- VSPLAT (R204). -/
def execOpVsplat (st : Fin 256) (raw : BitVec 128) (s : State) : Host.Outcome State Fault Refusal :=
  .next (opRow .v 0x00D st raw s)

/-- VMUL (R201). -/
def execOpVmul (st : Fin 256) (raw : BitVec 128) (s : State) : Host.Outcome State Fault Refusal :=
  .next (opRow .v 0x010 st raw s)

/-- VMAC (R204). -/
def execOpVmac (st : Fin 256) (raw : BitVec 128) (s : State) : Host.Outcome State Fault Refusal :=
  .next (opRow .v 0x020 st raw s)

/-- VMACS (R204). -/
def execOpVmacs (st : Fin 256) (raw : BitVec 128) (s : State) : Host.Outcome State Fault Refusal :=
  .next (opRow .v 0x021 st raw s)

/-- VMSU (R204). -/
def execOpVmsu (st : Fin 256) (raw : BitVec 128) (s : State) : Host.Outcome State Fault Refusal :=
  .next (opRow .v 0x022 st raw s)

/-- VACLR (R204). -/
def execOpVaclr (st : Fin 256) (raw : BitVec 128) (s : State) : Host.Outcome State Fault Refusal :=
  .next (opRow .v 0x023 st raw s)

/-- VAREAD (R201). -/
def execOpVaread (st : Fin 256) (raw : BitVec 128) (s : State) : Host.Outcome State Fault Refusal :=
  .next (opRow .v 0x024 st raw s)

/-- VAWRITE (R204). -/
def execOpVawrite (st : Fin 256) (raw : BitVec 128) (s : State) : Host.Outcome State Fault Refusal :=
  .next (opRow .v 0x025 st raw s)

/-- VSLIDE (R204). -/
def execOpVslide (st : Fin 256) (raw : BitVec 128) (s : State) : Host.Outcome State Fault Refusal :=
  .next (opRow .v 0x030 st raw s)

/-- VPERM (R204). -/
def execOpVperm (st : Fin 256) (raw : BitVec 128) (s : State) : Host.Outcome State Fault Refusal :=
  .next (opRow .v 0x031 st raw s)

/-- VRSUM (R204). -/
def execOpVrsum (st : Fin 256) (raw : BitVec 128) (s : State) : Host.Outcome State Fault Refusal :=
  .next (opRow .v 0x032 st raw s)

/-- PCMPEQ (R204). -/
def execOpPcmpeq (st : Fin 256) (raw : BitVec 128) (s : State) : Host.Outcome State Fault Refusal :=
  .next (opRow .v 0x040 st raw s)

/-- PCMPLT (R204). -/
def execOpPcmplt (st : Fin 256) (raw : BitVec 128) (s : State) : Host.Outcome State Fault Refusal :=
  .next (opRow .v 0x041 st raw s)

/-- PCMPLE (R204). -/
def execOpPcmple (st : Fin 256) (raw : BitVec 128) (s : State) : Host.Outcome State Fault Refusal :=
  .next (opRow .v 0x042 st raw s)

/-- PAND (R204). -/
def execOpPand (st : Fin 256) (raw : BitVec 128) (s : State) : Host.Outcome State Fault Refusal :=
  .next (opRow .v 0x043 st raw s)

/-- POR (R204). -/
def execOpPor (st : Fin 256) (raw : BitVec 128) (s : State) : Host.Outcome State Fault Refusal :=
  .next (opRow .v 0x044 st raw s)

/-- PNOT (R204). -/
def execOpPnot (st : Fin 256) (raw : BitVec 128) (s : State) : Host.Outcome State Fault Refusal :=
  .next (opRow .v 0x045 st raw s)

/-- VSEL (R204). -/
def execOpVsel (st : Fin 256) (raw : BitVec 128) (s : State) : Host.Outcome State Fault Refusal :=
  .next (opRow .v 0x046 st raw s)

/-- VLD (R204). -/
def execOpVld (st : Fin 256) (raw : BitVec 128) (s : State) : Host.Outcome State Fault Refusal :=
  .next (opRow .m 0x01 st raw s)

/-- VST (R204). -/
def execOpVst (st : Fin 256) (raw : BitVec 128) (s : State) : Host.Outcome State Fault Refusal :=
  .next (opRow .m 0x02 st raw s)

/-- VLDB (R204). -/
def execOpVldb (st : Fin 256) (raw : BitVec 128) (s : State) : Host.Outcome State Fault Refusal :=
  .next (opRow .m 0x03 st raw s)

/-- VSTB (R204). -/
def execOpVstb (st : Fin 256) (raw : BitVec 128) (s : State) : Host.Outcome State Fault Refusal :=
  .next (opRow .m 0x04 st raw s)

/-- VGATHER (R204). -/
def execOpVgather (st : Fin 256) (raw : BitVec 128) (s : State) : Host.Outcome State Fault Refusal :=
  .next (opRow .m 0x05 st raw s)

/-- SLD (R204). -/
def execOpSld (st : Fin 256) (raw : BitVec 128) (s : State) : Host.Outcome State Fault Refusal :=
  .next (opRow .m 0x06 st raw s)

/-- SST (R204). -/
def execOpSst (st : Fin 256) (raw : BitVec 128) (s : State) : Host.Outcome State Fault Refusal :=
  .next (opRow .m 0x07 st raw s)

/-- QPUSH (R214). -/
def execOpQpush (st : Fin 256) (raw : BitVec 128) (s : State) : Host.Outcome State Fault Refusal :=
  .next (opRow .m 0x08 st raw s)

/-- QEND (R214). -/
def execOpQend (st : Fin 256) (raw : BitVec 128) (s : State) : Host.Outcome State Fault Refusal :=
  .next (opRow .m 0x09 st raw s)

/-- QCRED (R214). -/
def execOpQcred (st : Fin 256) (raw : BitVec 128) (s : State) : Host.Outcome State Fault Refusal :=
  .next (opRow .m 0x0A st raw s)

/-- QWAIT (R214). -/
def execOpQwait (st : Fin 256) (raw : BitVec 128) (s : State) : Host.Outcome State Fault Refusal :=
  .next (opRow .m 0x0B st raw s)

/-- QPOP (R214). -/
def execOpQpop (st : Fin 256) (raw : BitVec 128) (s : State) : Host.Outcome State Fault Refusal :=
  .next (opRow .m 0x0C st raw s)

/-- QREL (R214). -/
def execOpQrel (st : Fin 256) (raw : BitVec 128) (s : State) : Host.Outcome State Fault Refusal :=
  .next (opRow .m 0x0D st raw s)

/-- HGET (R204). -/
def execOpHget (st : Fin 256) (raw : BitVec 128) (s : State) : Host.Outcome State Fault Refusal :=
  .next (opRow .m 0x10 st raw s)

/-- HPUT (R204). -/
def execOpHput (st : Fin 256) (raw : BitVec 128) (s : State) : Host.Outcome State Fault Refusal :=
  .next (opRow .m 0x11 st raw s)

/-- HWAIT (R204). -/
def execOpHwait (st : Fin 256) (raw : BitVec 128) (s : State) : Host.Outcome State Fault Refusal :=
  .next (opRow .m 0x12 st raw s)

end Sys2Proof.Machine
end

