-- ==== Sys2Proof/Machine/RowsLane.lean ====
section
/-! DEFINITION. The rows of the lanes and of the link messages. -/

namespace Sys2Proof.Machine

/-- PARTNER_TONE_DETECT (R119). -/
def execPartnerToneDetect (x : Fin 48) (s : State) : Host.Outcome State Fault Refusal :=
  .next (toneSeen x s)

/-- TRAIN_COMPLETE (R122). -/
def execTrainComplete (x : Fin 48) (r : TrainResult) (s : State) : Host.Outcome State Fault Refusal :=
  .next (trainComplete x r s)

/-- TRAIN_TIMEOUT (R119). -/
def execTrainTimeout (x : Fin 48) (s : State) : Host.Outcome State Fault Refusal :=
  .next (trainTimeout x s)

/-- DETECT_HOLDOFF_EXPIRY (R119). -/
def execDetectHoldoffExpiry (x : Fin 48) (s : State) : Host.Outcome State Fault Refusal :=
  .next (holdoffEnd x s)

/-- ALIGN_LOCK (R119). -/
def execAlignLock (x : Fin 48) (skewNs : Nat) (s : State) : Host.Outcome State Fault Refusal :=
  .next (alignLock x skewNs s)

/-- ALIGN_TIMEOUT (R119). -/
def execAlignTimeout (x : Fin 48) (s : State) : Host.Outcome State Fault Refusal :=
  .next (alignTimeout x s)

/-- ALIGNMENT_LOSS (R119). -/
def execAlignmentLoss (x : Fin 48) (s : State) : Host.Outcome State Fault Refusal :=
  .next (alignmentLoss x s)

/-- EYE_LOW_TIMEOUT (R119). -/
def execEyeLowTimeout (x : Fin 48) (s : State) : Host.Outcome State Fault Refusal :=
  .next (eyeLow x s)

/-- LOSS_OF_SIGNAL (R119). -/
def execLossOfSignal (x : Fin 48) (s : State) : Host.Outcome State Fault Refusal :=
  .next (lossOfSignal x s)

/-- KEEPALIVE_TIMEOUT (R119). -/
def execKeepaliveTimeout (x : Fin 48) (s : State) : Host.Outcome State Fault Refusal :=
  .next (keepaliveTimeout x s)

/-- PM_ACK_TIMEOUT (R124). -/
def execPmAckTimeout (x : Fin 48) (s : State) : Host.Outcome State Fault Refusal :=
  .next (pmTimeout x s)

/-- DEEP_EXIT_COMPLETE (R126). -/
def execDeepExitComplete (x : Fin 48) (eye : EyeMeas) (s : State) :
    Host.Outcome State Fault Refusal :=
  .next (deepExit x eye.hSteps.toNat eye.vSteps.toNat eye.index.toNat s)

/-- CODEWORD (R138). -/
def execCodeword (x : Fin 32) (raw : List Byte) (s : State) : Host.Outcome State Fault Refusal :=
  .next (rxCodeword x raw s)

/-- TRAIN (R121). -/
def execTrain (x : Fin 48) (h : MsgHdr) (req eye flags rates : Byte) (s : State) :
    Host.Outcome State Fault Refusal :=
  .next (onLane x (.train x h req eye flags rates) h (rxTrain x h req eye flags rates) s)

/-- EYE (R117). -/
def execEye (x : Fin 48) (h : MsgHdr) (eye _hSteps _vSteps : Byte) (s : State) : Host.Outcome State Fault Refusal :=
  .next (onLane x (.eye x h eye) h (rxEye x h eye) s)

/-- PM (R124). -/
def execPm (x : Fin 48) (h : MsgHdr) (code : Byte) (s : State) : Host.Outcome State Fault Refusal :=
  .next (onLane x (.pm x h code) h (rxPm x h code.toNat) s)

/-- KEEPALIVE (R151). -/
def execKeepalive (x : Fin 48) (h : MsgHdr) (s : State) : Host.Outcome State Fault Refusal :=
  .next (onLane x (.keepalive x h) h (rxKeepalive x h) s)

/-- CAL_REQ (R152). -/
def execCalReq (x : Fin 48) (h : MsgHdr) (id : Byte) (s : State) : Host.Outcome State Fault Refusal :=
  .next (onLane x (.calReq x h id) h (rxCalReq x h id) s)

/-- CAL_RESP (R152). -/
def execCalResp (x : Fin 48) (h : MsgHdr) (id : Byte) (turn : Word) (t : Nat) (s : State) :
    Host.Outcome State Fault Refusal :=
  .next (s.holdOr (laneDomain x) (.calResp x h id turn t) (rxCalResp x h id.toNat turn.toNat t))

/-- CAL_EXCHANGE_TIMEOUT (R152). -/
def execCalExchangeTimeout (x : Fin 48) (s : State) : Host.Outcome State Fault Refusal :=
  .next (calTimeout x s)

/-- TRIGGER (R162). -/
def execTrigger (x : Fin 48) (h : MsgHdr) (out pulse : Byte) (tick : BitVec 16)
    (delay : Word) (held : Nat) (s : State) : Host.Outcome State Fault Refusal :=
  .next (onLane x (.trigger x h out pulse tick delay held) h (rxTrigger x h out pulse tick delay held) s)

/-- TRIG_ACK (R154). -/
def execTrigAck (x : Fin 48) (h : MsgHdr) (tick : BitVec 16) (s : State) : Host.Outcome State Fault Refusal :=
  .next (onLane x (.trigAck x h tick) h (rxTrigAck x h tick) s)

/-- TRIG_ACK_TIMEOUT (R154). -/
def execTrigAckTimeout (x : Fin 48) (tick : BitVec 16) (s : State) : Host.Outcome State Fault Refusal :=
  .next (trigAckTimeout x tick s)

/-- I2C_REQ (R161). -/
def execI2cReq (x : Fin 48) (h : MsgHdr) (body : List Byte) (s : State) : Host.Outcome State Fault Refusal :=
  .next (onLane x (.i2cReq x h body) h (rxI2cReq x h body) s)

/-- I2C_RESP (R429). -/
def execI2cResp (x : Fin 32) (h : MsgHdr) (status idx : Byte) (data : List Byte) (s : State) :
    Host.Outcome State Fault Refusal :=
  .next (onLane x (.i2cResp x h status idx data) h (rxI2cResp x h status idx data) s)

/-- TUNNEL_TIMEOUT (R429). -/
def execTunnelTimeout (x : Fin 32) (s : State) : Host.Outcome State Fault Refusal :=
  .next (tunnelTimeout x s)

/-- GPIO (R163). -/
def execGpio (x : Fin 48) (h : MsgHdr) (levels mask : Byte) (s : State) : Host.Outcome State Fault Refusal :=
  .next (onLane x (.gpio x h levels mask) h (rxGpioMsg x h levels mask) s)

/-- GPIO_LEVEL_CHANGE (R163). -/
def execGpioLevelChange (x : Fin 48) (s : State) : Host.Outcome State Fault Refusal :=
  .next (gpioSample x s)

/-- ROLL_CALL (R161). -/
def execRollCall (x : Fin 48) (h : MsgHdr) (s : State) : Host.Outcome State Fault Refusal :=
  .next (onLane x (.rollCall x h) h (rxRollCall x h) s)

/-- ROLL_CALL_PERIOD (R155). -/
def execRollCallPeriod (s : State) : Host.Outcome State Fault Refusal :=
  .next (rollCall s)

/-- IDENT (R155). -/
def execIdent (x : Fin 48) (h : MsgHdr) (body : List Byte) (s : State) : Host.Outcome State Fault Refusal :=
  .next (s.holdOr (laneDomain x) (.ident x h body) (rxIdent x h body))

/-- IDENT_TIMEOUT (R155). -/
def execIdentTimeout (x : Fin 48) (s : State) : Host.Outcome State Fault Refusal :=
  .next (identTimeout x s)

/-- AUTH_CHAL (R161). -/
def execAuthChal (x : Fin 48) (h : MsgHdr) (nonce : List Byte) (s : State) : Host.Outcome State Fault Refusal :=
  .next (onLane x (.authChal x h nonce) h (rxAuthChal x h nonce) s)

/-- AUTH_RESP (R159). -/
def execAuthResp (x : Fin 48) (h : MsgHdr) (key sig : List Byte) (s : State) : Host.Outcome State Fault Refusal :=
  .next (onLane x (.authResp x h key sig) h (rxAuthRespMsg x h key sig) s)

/-- AUTH_TIMEOUT (R159). -/
def execAuthTimeout (x : Fin 48) (s : State) : Host.Outcome State Fault Refusal :=
  .next (authEnd x 3 0 s)

/-- ECHO (R350). -/
def execEcho (x : Fin 48) (h : MsgHdr) (stream region : Byte) (counter crc : Word) (s : State) :
    Host.Outcome State Fault Refusal :=
  .next (onLane x (.echo x h stream region counter crc) h (rxEchoMsg x h stream region counter crc) s)

/-- FRAME_STATUS (R189). -/
def execFrameStatus (x : Fin 48) (h : MsgHdr) (body : List Byte) (s : State) : Host.Outcome State Fault Refusal :=
  .next (onLane x (.frameStatus x h body) h (rxFrameStatusMsg x h body) s)

/-- NAK (R150). -/
def execNak (x : Fin 48) (h : MsgHdr) (mtype : Byte) (s : State) : Host.Outcome State Fault Refusal :=
  .next (onLane x (.nak x h mtype) h (rxNak x h mtype) s)

/-- PARTNER_RESUME_TIMEOUT (R459). -/
def execPartnerResumeTimeout (x : Fin 48) (s : State) : Host.Outcome State Fault Refusal :=
  .next (partnerResumeTimeout x s)

/-- DETECT_TONE_BURST (R120). -/
def execDetectToneBurst (x : Fin 48) (s : State) : Host.Outcome State Fault Refusal :=
  .next (toneBurst x s)

/-- KEEPALIVE_SEND (R118). -/
def execKeepaliveSend (x : Fin 48) (s : State) : Host.Outcome State Fault Refusal :=
  .next (keepaliveSend x s)

end Sys2Proof.Machine
end

