-- ==== Sys2Proof/Machine/RowsTime.lean ====
section
/-! DEFINITION. The rows of the tick, the time bases and Ethernet ports, power, boot and security, and events by time. -/

namespace Sys2Proof.Machine

/-- TICK (R64). -/
def execTick (s : State) : Host.Outcome State Fault Refusal :=
  .next (tick s)

/-- SEAL_WINDOW_OPEN (R57). -/
def execSealWindowOpen (s : State) : Host.Outcome State Fault Refusal :=
  .next (sealWindowOpen s)

/-- CONSISTENCY_CHECK_DONE (R58). -/
def execConsistencyCheckDone (s : State) : Host.Outcome State Fault Refusal :=
  .next (checkDone s)

/-- SHED_CLOCK_RESTART (R72). -/
def execShedClockRestart (h : Fin 16) (s : State) : Host.Outcome State Fault Refusal :=
  .next (shedRestart h s)

/-- DONE_REPORT (R66). -/
def execDoneReport (u : BitVec 16) (s : State) : Host.Outcome State Fault Refusal :=
  .next (doneReport u s)

/-- KERNEL_LOAD_COMPLETE (R218). -/
def execKernelLoadComplete (n : Fin 256) (s : State) : Host.Outcome State Fault Refusal :=
  .next (loadComplete n s)

/-- SYNC (R409). -/
def execSync (port : Fin 2) (domain : BitVec 8) (seq : BitVec 16) (twoStep : Bool)
    (origin : PtpTime) (corr : Int) (s : State) : Host.Outcome State Fault Refusal :=
  .next (rxSync port domain.toNat seq twoStep origin corr s)

/-- FOLLOW_UP (R395). -/
def execFollowUp (port : Fin 2) (domain : BitVec 8) (seq : BitVec 16) (origin : PtpTime) (corr : Int) (s : State) :
    Host.Outcome State Fault Refusal :=
  .next (rxFollowUp port domain.toNat seq origin corr s)

/-- PDELAY_REQ (R411). -/
def execPdelayReq (port : Fin 2) (domain : BitVec 8) (seq : BitVec 16) (sender : BitVec 80) (s : State) :
    Host.Outcome State Fault Refusal :=
  .next (rxPdelayReq port domain.toNat seq sender s)

/-- PDELAY_RESP (R411). -/
def execPdelayResp (port : Fin 2) (domain : BitVec 8) (seq : BitVec 16) (t2 : PtpTime) (s : State) :
    Host.Outcome State Fault Refusal :=
  .next (rxPdelayResp port domain.toNat seq t2 s)

/-- PDELAY_RESP_FOLLOW_UP (R411). -/
def execPdelayRespFollowUp (port : Fin 2) (domain : BitVec 8) (seq : BitVec 16) (t3 : PtpTime) (s : State) :
    Host.Outcome State Fault Refusal :=
  .next (rxPdelayRespFollowUp port domain.toNat seq t3 s)

/-- ANNOUNCE (R410). -/
def execAnnounce (port : Fin 2) (domain : BitVec 8) (a : AnnounceMsg) (s : State) :
    Host.Outcome State Fault Refusal :=
  .next (rxAnnounce port domain.toNat a s)

/-- SIGNALING (R409). -/
def execSignaling (port : Fin 2) (domain : BitVec 8) (syncLog annLog linkLog : Int) (s : State) :
    Host.Outcome State Fault Refusal :=
  .next (rxSignaling port domain.toNat syncLog annLog linkLog s)

/-- PDELAY_TIMER (R411). -/
def execPdelayTimer (n : Fin 4) (s : State) : Host.Outcome State Fault Refusal :=
  .next (pdelayTimer n s)

/-- SYNC_TIMER (R410). -/
def execSyncTimer (n : Fin 4) (s : State) : Host.Outcome State Fault Refusal :=
  .next (syncTimer n s)

/-- ANNOUNCE_TIMER (R410). -/
def execAnnounceTimer (n : Fin 4) (s : State) : Host.Outcome State Fault Refusal :=
  .next (announceTimer n s)

/-- TX_TIMESTAMP (R408). -/
def execTxTimestamp (port : Fin 2) (id : BitVec 16) (n : Fin 4) (s : State) : Host.Outcome State Fault Refusal :=
  .next (txTimestamp port id n s)

/-- ETH_LINK_CHANGE (R402). -/
def execEthLinkChange (port : Fin 2) (up lock anDone : Bool) (s : State) : Host.Outcome State Fault Refusal :=
  .next (ethLinkChange port up lock anDone s)

/-- RECEIPT_TIMEOUT (R399). -/
def execReceiptTimeout (n : Fin 4) (s : State) : Host.Outcome State Fault Refusal :=
  .next (receiptTimeout n s)

/-- SLEW_COMPLETE (R395). -/
def execSlewComplete (n : Fin 4) (s : State) : Host.Outcome State Fault Refusal :=
  .next (slewDone n s)

/-- STEP_APPLY (R396). -/
def execStepApply (n : Fin 4) (s : State) : Host.Outcome State Fault Refusal :=
  .next (stepApply n s)

/-- PPS_IN_EDGE (R412). -/
def execPpsInEdge (s : State) : Host.Outcome State Fault Refusal :=
  .next (ppsInEdge s)

/-- PPS_OUT_EDGE (R413). -/
def execPpsOutEdge (s : State) : Host.Outcome State Fault Refusal :=
  .next (ppsOutEdge s)

/-- PPS_OUT_FALL (R413). -/
def execPpsOutFall (s : State) : Host.Outcome State Fault Refusal :=
  .next (ppsOutFall s)

/-- DOMAIN_DELAY_EXPIRY (R446). -/
def execDomainDelayExpiry (d : Fin 53) (s : State) : Host.Outcome State Fault Refusal :=
  .next (delayExpiry d s)

/-- DOMAIN_AGREE (R446). -/
def execDomainAgree (d : Fin 53) (s : State) : Host.Outcome State Fault Refusal :=
  .next (domainAgrees d s)

/-- ENTRY_COMPLETE (R448). -/
def execEntryComplete (s : State) : Host.Outcome State Fault Refusal :=
  .next (entryComplete s)

/-- WAKE_PIN (R452). -/
def execWakePin (also : BitVec 5) (s : State) : Host.Outcome State Fault Refusal :=
  .next (wakeSource 0 also s)

/-- RTC_ALARM (R452). -/
def execRtcAlarm (also : BitVec 5) (s : State) : Host.Outcome State Fault Refusal :=
  .next (rtcAlarm also s)

/-- PPS_WAKE (R452). -/
def execPpsWake (also : BitVec 5) (s : State) : Host.Outcome State Fault Refusal :=
  .next (wakeSource 2 also s)

/-- LINK_TONE_WAKE (R452). -/
def execLinkToneWake (x : Fin 48) (also : BitVec 5) (s : State) : Host.Outcome State Fault Refusal :=
  .next (toneWake x also s)

/-- PWRGOOD (R455). -/
def execPwrgood (fails : List (Fin 60)) (s : State) : Host.Outcome State Fault Refusal :=
  .next (pwrgoodRises fails s)

/-- PWRGOOD_TIMEOUT (R454). -/
def execPwrgoodTimeout (s : State) : Host.Outcome State Fault Refusal :=
  .next (pwrgoodTimeout s)

/-- BANK_CHECK (R455). -/
def execBankCheck (b : Fin 60) (ok : Bool) (s : State) : Host.Outcome State Fault Refusal :=
  .next (bankCheck b ok s)

/-- RESUME_STEP (R456). -/
def execResumeStep (s : State) : Host.Outcome State Fault Refusal :=
  .next (resumeStep s)

/-- BANK_REBUILD_DONE (R457). -/
def execBankRebuildDone (b : Fin 60) (s : State) : Host.Outcome State Fault Refusal :=
  .next (rebuildDone b s)

/-- BROWN_OUT (R552). -/
def execBrownOut (s : State) : Host.Outcome State Fault Refusal :=
  .next (brownOut s)

/-- THERMAL_TRIP (R553). -/
def execThermalTrip (s : State) : Host.Outcome State Fault Refusal :=
  .next (thermalTrip s)

/-- TEMPERATURE_CHANGE (R498). -/
def execTemperatureChange (temp : BitVec 9) (sensor : Fin 16) (s : State) : Host.Outcome State Fault Refusal :=
  .next (temperature temp sensor s)

/-- COLD_POWER_UP (R550). -/
def execColdPowerUp (s : State) : Host.Outcome State Fault Refusal :=
  .next (coldPowerUp s)

/-- COLD_BOOT (R467). -/
def execColdBoot (balls : StrapLevels) (katOk : Bool) (s : State) : Host.Outcome State Fault Refusal :=
  .next (coldBoot ⟨balls.twtAs.toNat, balls.bootSel.toNat, balls.mosSel.toNat, b01 balls.medSel⟩ katOk s)

/-- FIRMWARE_START (R467). -/
def execFirmwareStart (trained : Bool) (s : State) : Host.Outcome State Fault Refusal :=
  .next (firmwareStart trained s)

/-- GROOM_MISCOMPARE (R107). -/
def execGroomMiscompare (s : State) : Host.Outcome State Fault Refusal :=
  .next (groomMiscompare s)

/-- GROOM_RESTART_COMPLETE (R107). -/
def execGroomRestartComplete (s : State) : Host.Outcome State Fault Refusal :=
  .next (groomRestarted s)

/-- TRNG_HEALTH_FAIL (R478). -/
def execTrngHealthFail (s : State) : Host.Outcome State Fault Refusal :=
  .next (trngFail s)

/-- TRNG_RETEST (R478). -/
def execTrngRetest (ok : Bool) (s : State) : Host.Outcome State Fault Refusal :=
  .next (trngRetest ok s)

/-- OTP_PROGRAM_COMPLETE (R472). -/
def execOtpProgramComplete (ok : Bool) (s : State) : Host.Outcome State Fault Refusal :=
  .next (otpProgrammed ok s)

/-- FLASH_WRITE_COMPLETE (R483). -/
def execFlashWriteComplete (ok : Bool) (s : State) : Host.Outcome State Fault Refusal :=
  .next (flashWritten ok s)

/-- CREDENTIAL_EXPIRY (R475). -/
def execCredentialExpiry (h : Word) (s : State) : Host.Outcome State Fault Refusal :=
  .next (credExpiry h s)

/-- SUPPLY_LOSS (R551). -/
def execSupplyLoss (s : State) : Host.Outcome State Fault Refusal :=
  .next (supplyLoss s)

/-- EVENT_RECORD_WINDOW (R496). -/
def execEventRecordWindow (s : State) : Host.Outcome State Fault Refusal :=
  .next (recordWindow s)

end Sys2Proof.Machine
end

