-- ==== Sys2Proof/Machine/RowsWork.lean ====
section
/-! DEFINITION. The rows of the gates, stalls, frame store, heads, two-wire controllers, TWT0 and test resources. -/

namespace Sys2Proof.Machine

/-- FRAME_START (R172). -/
def execFrameStart (x : Fin 32) (head : PktHead) (frameNum : BitVec 16) (s : State) :
    Host.Outcome State Fault Refusal :=
  .next (sofArrives x head.stream.toNat frameNum (headerCorrected x head.corrected s))

/-- PIXEL_LINE (R170). -/
def execPixelLine (x : Fin 32) (head : PktHead) (dt : BitVec 6) (data : List Byte) (dmg : PktDamage) (s : State) :
    Host.Outcome State Fault Refusal :=
  .next (lineArrives x head.stream.toNat dt.toNat data dmg (headerCorrected x head.corrected s))

/-- EMBEDDED_DATA (R171). -/
def execEmbeddedData (x : Fin 32) (head : PktHead) (data : List Byte) (dmg : PktDamage) (s : State) :
    Host.Outcome State Fault Refusal :=
  .next (embeddedData x head.stream.toNat data dmg (headerCorrected x head.corrected s))

/-- FRAME_END (R175). -/
def execFrameEnd (x : Fin 32) (head : PktHead) (frameNum : BitVec 16) (s : State) :
    Host.Outcome State Fault Refusal :=
  .next (endArrives x head.stream.toNat frameNum (headerCorrected x head.corrected s))

/-- CSI2_PACKET (R169). -/
def execCsi2Packet (x : Fin 32) (stream dt : BitVec 6) (corrected : Bool) (dmg : PktDamage) (s : State) :
    Host.Outcome State Fault Refusal :=
  .next (otherPacket x stream.toNat dt.toNat dmg (headerCorrected x corrected s))

/-- FRAME_OPEN_TIMEOUT (R175). -/
def execFrameOpenTimeout (g : Fin 8) (c : Fin 16) (s : State) : Host.Outcome State Fault Refusal :=
  .next (openTimeout g c s)

/-- HDR_WINDOW_EXPIRY (R187). -/
def execHdrWindowExpiry (g k : Fin 8) (s : State) : Host.Outcome State Fault Refusal :=
  .next (hdrExpiry g k s)

/-- FRAME_STATUS_WAIT_TIMEOUT (R189). -/
def execFrameStatusWaitTimeout (g : Fin 8) (c : Fin 16) (s : State) : Host.Outcome State Fault Refusal :=
  .next (fsWaitTimeout g c s)

/-- CREDIT_RETURN (R191). -/
def execCreditReturn (r : RingRef) (lines recs : Nat) (s : State) : Host.Outcome State Fault Refusal :=
  .next (ringCredit r lines recs s)

/-- LINE_RUNAWAY (R209). -/
def execLineRunaway (n : Fin 256) (s : State) : Host.Outcome State Fault Refusal :=
  .next (lineRunaway n s)

/-- INPUT_LINE_ARRIVAL (R223). -/
def execInputLineArrival (n : Fin 4) (s : State) : Host.Outcome State Fault Refusal :=
  .next (inputLine n s)

/-- QUEUE_CREDIT_RETURN (R214). -/
def execQueueCreditReturn (n : Fin 256) (port : Fin 4) (s : State) : Host.Outcome State Fault Refusal :=
  .next (creditReturn n port s)

/-- HAYLOFT_TRANSFER_COMPLETE (R204). -/
def execHayloftTransferComplete (n : Fin 256) (s : State) : Host.Outcome State Fault Refusal :=
  .next (xferDone n s)

/-- MESH_LOAD_COMPLETE (R267). -/
def execMeshLoadComplete (m : Fin 64) (ok : Bool) (s : State) : Host.Outcome State Fault Refusal :=
  .next (meshLoadDone m ok s)

/-- SCRUB_STEP (R311). -/
def execScrubStep (r : ScrubRead) (overtaken : Bool) (s : State) : Host.Outcome State Fault Refusal :=
  .next (scrubStep r overtaken s)

/-- FS_MONITOR_WINDOW (R309). -/
def execFsMonitorWindow (counts : List Nat) (s : State) : Host.Outcome State Fault Refusal :=
  .next (monitorWindow counts s)

/-- LINE_HANDOVER (R329). -/
def execLineHandover (n : Fin 4) (s : State) : Host.Outcome State Fault Refusal :=
  .next (handOver n s)

/-- ECHO_DEADLINE (R350). -/
def execEchoDeadline (n : Fin 4) (r : Fin 16) (counter : Word) (s : State) : Host.Outcome State Fault Refusal :=
  .next (echoDeadline n r counter s)

/-- DIRECT_FRAME_TIMEOUT (R341). -/
def execDirectFrameTimeout (n : Fin 4) (s : State) : Host.Outcome State Fault Refusal :=
  .next (directTimeout n s)

/-- TW_TRANSFER_END (R420). -/
def execTwTransferEnd (n : Fin 4) (r : TwEnd) (s : State) : Host.Outcome State Fault Refusal :=
  .next (twTransferEnd n r s)

/-- BUS_FREE (R419). -/
def execBusFree (n : Fin 4) (s : State) : Host.Outcome State Fault Refusal :=
  .next (twBusFree n s)

/-- STRETCH_TIMEOUT (R423). -/
def execStretchTimeout (n : Fin 4) (s : State) : Host.Outcome State Fault Refusal :=
  .next (twStretch n s)

/-- BUS_STUCK (R424). -/
def execBusStuck (n : Fin 4) (s : State) : Host.Outcome State Fault Refusal :=
  .next (twStuck n s)

/-- STUCK_CLEAR (R424). -/
def execStuckClear (n : Fin 4) (s : State) : Host.Outcome State Fault Refusal :=
  .next (twUnstick n s)

/-- ATTENTION_REQUEST (R427). -/
def execAttentionRequest (n : Fin 4) (lowNs : Nat) (sclFell : Bool) (s : State) : Host.Outcome State Fault Refusal :=
  .next (twAttention n lowNs sclFell s)

/-- TWT0_PAGE_WRITE (R431). -/
def execTwt0PageWrite (data : List Byte) (s : State) : Host.Outcome State Fault Refusal :=
  .next (twtPageWrite data s)

/-- TWT0_PAGE_READ (R431). -/
def execTwt0PageRead (len : Nat) (s : State) : Host.Outcome State Fault Refusal :=
  .next (twtPageRead len s)

/-- TWT0_WINDOW_WRITE (R431). -/
def execTwt0WindowWrite (data : List Byte) (s : State) : Host.Outcome State Fault Refusal :=
  .next (twtWindowWrite data s)

/-- TWT0_WINDOW_READ (R431). -/
def execTwt0WindowRead (len : Nat) (s : State) : Host.Outcome State Fault Refusal :=
  .next (twtWindowRead len s)

/-- SUBMIT (R94). -/
def execSubmit (s : State) : Host.Outcome State Fault Refusal :=
  .next (submit s)

/-- DONE (R94). -/
def execDone (s : State) : Host.Outcome State Fault Refusal :=
  .next (twtDone s)

/-- TWT_PROTOCOL_ERROR (R432). -/
def execTwtProtocolError (s : State) : Host.Outcome State Fault Refusal :=
  .next (twtProto s)

/-- TWT_ATTENTION_OUT (R434). -/
def execTwtAttentionOut (s : State) : Host.Outcome State Fault Refusal :=
  .next (twtAttnOut s)

/-- TWT_ADDRESS_MATCH (R435). -/
def execTwtAddressMatch (addr : BitVec 7) (also : BitVec 5) (s : State) : Host.Outcome State Fault Refusal :=
  .next (twtMatch addr.toNat also s)

/-- PATTERN_LOCK (R510). -/
def execPatternLock (x : Fin 48) (inv : Bool) (s : State) : Host.Outcome State Fault Refusal :=
  .next (patternLock x inv s)

/-- PATTERN_LOST (R510). -/
def execPatternLost (x : Fin 48) (bits errs : Nat) (s : State) : Host.Outcome State Fault Refusal :=
  .next (patternLost x bits errs s)

/-- EYE_SCAN_DONE (R515). -/
def execEyeScanDone (grid : List Byte) (aborted : Bool) (s : State) : Host.Outcome State Fault Refusal :=
  .next (eyeEnd grid aborted s)

/-- INJECT_DONE (R513). -/
def execInjectDone (x : Fin 48) (injected : Nat) (s : State) : Host.Outcome State Fault Refusal :=
  .next (injectDone x injected s)

/-- MEMTEST_DONE (R516). -/
def execMemtestDone (fails : Nat) (addr mask : Word) (corr uncorr : Nat) (s : State) :
    Host.Outcome State Fault Refusal :=
  .next (memDone fails addr mask corr uncorr s)

/-- BYPASS (R519). -/
def execBypass (dr : List Bool) (s : State) : Host.Outcome State Fault Refusal :=
  .next (shiftBypass dr (setTap .bypass s))

/-- IDCODE (R519). -/
def execIdcode (s : State) : Host.Outcome State Fault Refusal :=
  .next ((setTap .idcode s).emit (.jtag s.idcode))

/-- SAMPLE_PRELOAD (R519). -/
def execSamplePreload (dr : List Bool) (s : State) : Host.Outcome State Fault Refusal :=
  .next (shiftBoundary dr (setTap .sample s))

/-- EXTEST (R519). -/
def execExtest (dr : List Bool) (s : State) : Host.Outcome State Fault Refusal :=
  .next (shiftBoundary dr (takePads .extest s))

/-- EXTEST_PULSE (R519). -/
def execExtestPulse (dr : List Bool) (s : State) : Host.Outcome State Fault Refusal :=
  .next (shiftBoundary dr (takePads .extestPulse s))

/-- EXTEST_TRAIN (R519). -/
def execExtestTrain (dr : List Bool) (s : State) : Host.Outcome State Fault Refusal :=
  .next (shiftBoundary dr (takePads .extestTrain s))

/-- CLAMP (R519). -/
def execClamp (dr : List Bool) (s : State) : Host.Outcome State Fault Refusal :=
  .next (shiftBypass dr (takePads .clamp s))

/-- HIGHZ (R519). -/
def execHighz (dr : List Bool) (s : State) : Host.Outcome State Fault Refusal :=
  .next (shiftBypass dr (takePads .highz s))

/-- TRST_ASSERT (R519). -/
def execTrstAssert (s : State) : Host.Outcome State Fault Refusal :=
  .next (setTap .idcode s)

end Sys2Proof.Machine
end

