-- ==== Sys2Proof/Machine/Dispatch.lean ====
section
/-! DEFINITION. The dispatch of a command to its meaning: one arm per row of the opcode table. -/

namespace Sys2Proof.Machine

def exec (i : Instr) (s : State) : Host.Outcome State Fault Refusal :=
  match i with
  | .ping p => Sys2Proof.Machine.execPing p s
  | .getId p => Sys2Proof.Machine.execGetId p s
  | .getState p => Sys2Proof.Machine.execGetState p s
  | .seal p => Sys2Proof.Machine.execSeal p s
  | .abortSeal p => Sys2Proof.Machine.execAbortSeal p s
  | .resumeReport p => Sys2Proof.Machine.execResumeReport p s
  | .eventRoute p => Sys2Proof.Machine.execEventRoute p s
  | .eventRead p => Sys2Proof.Machine.execEventRead p s
  | .regRead p => Sys2Proof.Machine.execRegRead p s
  | .regWrite p => Sys2Proof.Machine.execRegWrite p s
  | .stageQuery p => Sys2Proof.Machine.execStageQuery p s
  | .safeExit p => Sys2Proof.Machine.execSafeExit p s
  | .reset p => Sys2Proof.Machine.execReset p s
  | .configLoad p => Sys2Proof.Machine.execConfigLoad p s
  | .configSave p => Sys2Proof.Machine.execConfigSave p s
  | .laneSet p => Sys2Proof.Machine.execLaneSet p s
  | .laneState p => Sys2Proof.Machine.execLaneState p s
  | .laneStatus p => Sys2Proof.Machine.execLaneStatus p s
  | .laneBond p => Sys2Proof.Machine.execLaneBond p s
  | .rollCallSet p => Sys2Proof.Machine.execRollCallSet p s
  | .discover p => Sys2Proof.Machine.execDiscover p s
  | .partnerInfo p => Sys2Proof.Machine.execPartnerInfo p s
  | .triggerSet p => Sys2Proof.Machine.execTriggerSet p s
  | .triggerCal p => Sys2Proof.Machine.execTriggerCal p s
  | .linkGpio p => Sys2Proof.Machine.execLinkGpio p s
  | .repeaterSet p => Sys2Proof.Machine.execRepeaterSet p s
  | .streamOpen p => Sys2Proof.Machine.execStreamOpen p s
  | .streamClose p => Sys2Proof.Machine.execStreamClose p s
  | .streamCrop p => Sys2Proof.Machine.execStreamCrop p s
  | .streamTarget p => Sys2Proof.Machine.execStreamTarget p s
  | .streamTag p => Sys2Proof.Machine.execStreamTag p s
  | .hdrGroup p => Sys2Proof.Machine.execHdrGroup p s
  | .gateStatus p => Sys2Proof.Machine.execGateStatus p s
  | .gateFlush p => Sys2Proof.Machine.execGateFlush p s
  | .loadKernel p => Sys2Proof.Machine.execLoadKernel p s
  | .bind p => Sys2Proof.Machine.execBind p s
  | .setParam p => Sys2Proof.Machine.execSetParam p s
  | .yardDefine p => Sys2Proof.Machine.execYardDefine p s
  | .yardDissolve p => Sys2Proof.Machine.execYardDissolve p s
  | .unbind p => Sys2Proof.Machine.execUnbind p s
  | .lockstepPair p => Sys2Proof.Machine.execLockstepPair p s
  | .stallStatus p => Sys2Proof.Machine.execStallStatus p s
  | .yardQuery p => Sys2Proof.Machine.execYardQuery p s
  | .meshLoad p => Sys2Proof.Machine.execMeshLoad p s
  | .remapBind p => Sys2Proof.Machine.execRemapBind p s
  | .remapUnbind p => Sys2Proof.Machine.execRemapUnbind p s
  | .remapStatus p => Sys2Proof.Machine.execRemapStatus p s
  | .headSet p => Sys2Proof.Machine.execHeadSet p s
  | .headLanes p => Sys2Proof.Machine.execHeadLanes p s
  | .kiteSet p => Sys2Proof.Machine.execKiteSet p s
  | .kiteClear p => Sys2Proof.Machine.execKiteClear p s
  | .tetherSet p => Sys2Proof.Machine.execTetherSet p s
  | .tetherClear p => Sys2Proof.Machine.execTetherClear p s
  | .directSet p => Sys2Proof.Machine.execDirectSet p s
  | .directClear p => Sys2Proof.Machine.execDirectClear p s
  | .headStatus p => Sys2Proof.Machine.execHeadStatus p s
  | .witnessStatus p => Sys2Proof.Machine.execWitnessStatus p s
  | .codecSet p => Sys2Proof.Machine.execCodecSet p s
  | .codecStatus p => Sys2Proof.Machine.execCodecStatus p s
  | .paddockCreate p => Sys2Proof.Machine.execPaddockCreate p s
  | .paddockDelete p => Sys2Proof.Machine.execPaddockDelete p s
  | .paddockPolicy p => Sys2Proof.Machine.execPaddockPolicy p s
  | .markSet p => Sys2Proof.Machine.execMarkSet p s
  | .markClear p => Sys2Proof.Machine.execMarkClear p s
  | .paddockStatus p => Sys2Proof.Machine.execPaddockStatus p s
  | .dmaSet p => Sys2Proof.Machine.execDmaSet p s
  | .dmaStart p => Sys2Proof.Machine.execDmaStart p s
  | .dmaAbort p => Sys2Proof.Machine.execDmaAbort p s
  | .dmaStatus p => Sys2Proof.Machine.execDmaStatus p s
  | .tbSet p => Sys2Proof.Machine.execTbSet p s
  | .tbRead p => Sys2Proof.Machine.execTbRead p s
  | .tbAdjustSet p => Sys2Proof.Machine.execTbAdjustSet p s
  | .tbAdjustOffset p => Sys2Proof.Machine.execTbAdjustOffset p s
  | .tbPair p => Sys2Proof.Machine.execTbPair p s
  | .ppsSet p => Sys2Proof.Machine.execPpsSet p s
  | .tsRead p => Sys2Proof.Machine.execTsRead p s
  | .twSet p => Sys2Proof.Machine.execTwSet p s
  | .twXfer p => Sys2Proof.Machine.execTwXfer p s
  | .twStatus p => Sys2Proof.Machine.execTwStatus p s
  | .twtSet p => Sys2Proof.Machine.execTwtSet p s
  | .levelSet p => Sys2Proof.Machine.execLevelSet p s
  | .domainSet p => Sys2Proof.Machine.execDomainSet p s
  | .sleepEnterLeaveIdle p => Sys2Proof.Machine.execSleepEnterLeaveIdle p s
  | .sleepEnterIdle p => Sys2Proof.Machine.execSleepEnterIdle p s
  | .sleepEnterHold p => Sys2Proof.Machine.execSleepEnterHold p s
  | .sleepEnterStow p => Sys2Proof.Machine.execSleepEnterStow p s
  | .sleepEnterOff p => Sys2Proof.Machine.execSleepEnterOff p s
  | .padRelease p => Sys2Proof.Machine.execPadRelease p s
  | .wakeSet p => Sys2Proof.Machine.execWakeSet p s
  | .powerStatus p => Sys2Proof.Machine.execPowerStatus p s
  | .credOpenStepA p => Sys2Proof.Machine.execCredOpenStepA p s
  | .credOpenStepB p => Sys2Proof.Machine.execCredOpenStepB p s
  | .credClose p => Sys2Proof.Machine.execCredClose p s
  | .attest p => Sys2Proof.Machine.execAttest p s
  | .cameraAuth p => Sys2Proof.Machine.execCameraAuth p s
  | .keyRevokeOwner p => Sys2Proof.Machine.execKeyRevokeOwner p s
  | .keyRevokeVendor p => Sys2Proof.Machine.execKeyRevokeVendor p s
  | .keyRevokeSvn p => Sys2Proof.Machine.execKeyRevokeSvn p s
  | .debugUnlock p => Sys2Proof.Machine.execDebugUnlock p s
  | .trngRead p => Sys2Proof.Machine.execTrngRead p s
  | .otpRead p => Sys2Proof.Machine.execOtpRead p s
  | .fwLoad p => Sys2Proof.Machine.execFwLoad p s
  | .patternSet p => Sys2Proof.Machine.execPatternSet p s
  | .patternCheck p => Sys2Proof.Machine.execPatternCheck p s
  | .loopbackOff p => Sys2Proof.Machine.execLoopbackOff p s
  | .loopbackSerial p => Sys2Proof.Machine.execLoopbackSerial p s
  | .loopbackDigital p => Sys2Proof.Machine.execLoopbackDigital p s
  | .eyeScan p => Sys2Proof.Machine.execEyeScan p s
  | .errInjectStop p => Sys2Proof.Machine.execErrInjectStop p s
  | .errInjectSingle p => Sys2Proof.Machine.execErrInjectSingle p s
  | .errInjectRate p => Sys2Proof.Machine.execErrInjectRate p s
  | .errInjectBurst p => Sys2Proof.Machine.execErrInjectBurst p s
  | .memtestMarch p => Sys2Proof.Machine.execMemtestMarch p s
  | .memtestRead p => Sys2Proof.Machine.execMemtestRead p s
  | .diagRead p => Sys2Proof.Machine.execDiagRead p s
  | .commandUnknown opcode p => Sys2Proof.Machine.execCommandUnknown opcode p s
  | .chainTimeout src => Sys2Proof.Machine.execChainTimeout src s
  | .registerWrite off size full lo hi => Sys2Proof.Machine.execRegisterWrite off size full lo hi s
  | .tickCountLo wide => Sys2Proof.Machine.execTickCountLo wide s
  | .tbNs n wide => Sys2Proof.Machine.execTbNs n wide s
  | .ppsInNs wide => Sys2Proof.Machine.execPpsInNs wide s
  | .pwrRtcLo wide => Sys2Proof.Machine.execPwrRtcLo wide s
  | .testBitsLo x wide => Sys2Proof.Machine.execTestBitsLo x wide s
  | .cmdSqTail n tail words ok => Sys2Proof.Machine.execCmdSqTail n tail words ok s
  | .cmdRqHead n head ok => Sys2Proof.Machine.execCmdRqHead n head ok s
  | .cmdQEn n ctrl => Sys2Proof.Machine.execCmdQEn n ctrl s
  | .dmaCDoorbell c v => Sys2Proof.Machine.execDmaCDoorbell c v s
  | .dmaCAbort c v => Sys2Proof.Machine.execDmaCAbort c v s
  | .alarmAck n v => Sys2Proof.Machine.execAlarmAck n v s
  | .pchkClear x v => Sys2Proof.Machine.execPchkClear x v s
  | .ethMdioGo v => Sys2Proof.Machine.execEthMdioGo v s
  | .mdioComplete data => Sys2Proof.Machine.execMdioComplete data s
  | .bar2Read off len => Sys2Proof.Machine.execBar2Read off len s
  | .bar2Write off data => Sys2Proof.Machine.execBar2Write off data s
  | .hostBridgeReset kind => Sys2Proof.Machine.execHostBridgeReset kind s
  | .pcieD3hot d3 => Sys2Proof.Machine.execPcieD3hot d3 s
  | .dmaBackoff waiting => Sys2Proof.Machine.execDmaBackoff waiting s
  | .dmaTimerStart c => Sys2Proof.Machine.execDmaTimerStart c s
  | .descriptorFetch c words ok => Sys2Proof.Machine.execDescriptorFetch c words ok s
  | .descriptorDone c data ok moved => Sys2Proof.Machine.execDescriptorDone c data ok moved s
  | .tailReread c w => Sys2Proof.Machine.execTailReread c w s
  | .readbackComplete c ok => Sys2Proof.Machine.execReadbackComplete c ok s
  | .tick => Sys2Proof.Machine.execTick s
  | .sealWindowOpen => Sys2Proof.Machine.execSealWindowOpen s
  | .consistencyCheckDone => Sys2Proof.Machine.execConsistencyCheckDone s
  | .shedClockRestart h => Sys2Proof.Machine.execShedClockRestart h s
  | .doneReport u => Sys2Proof.Machine.execDoneReport u s
  | .kernelLoadComplete n => Sys2Proof.Machine.execKernelLoadComplete n s
  | .opNop st raw => Sys2Proof.Machine.execOpNop st raw s
  | .opAdd st raw => Sys2Proof.Machine.execOpAdd st raw s
  | .opSub st raw => Sys2Proof.Machine.execOpSub st raw s
  | .opAnd st raw => Sys2Proof.Machine.execOpAnd st raw s
  | .opOr st raw => Sys2Proof.Machine.execOpOr st raw s
  | .opXor st raw => Sys2Proof.Machine.execOpXor st raw s
  | .opShl st raw => Sys2Proof.Machine.execOpShl st raw s
  | .opShr st raw => Sys2Proof.Machine.execOpShr st raw s
  | .opSra st raw => Sys2Proof.Machine.execOpSra st raw s
  | .opMul st raw => Sys2Proof.Machine.execOpMul st raw s
  | .opMin st raw => Sys2Proof.Machine.execOpMin st raw s
  | .opMax st raw => Sys2Proof.Machine.execOpMax st raw s
  | .opSlt st raw => Sys2Proof.Machine.execOpSlt st raw s
  | .opSltu st raw => Sys2Proof.Machine.execOpSltu st raw s
  | .opAddi st raw => Sys2Proof.Machine.execOpAddi st raw s
  | .opAndi st raw => Sys2Proof.Machine.execOpAndi st raw s
  | .opOri st raw => Sys2Proof.Machine.execOpOri st raw s
  | .opShli st raw => Sys2Proof.Machine.execOpShli st raw s
  | .opShri st raw => Sys2Proof.Machine.execOpShri st raw s
  | .opSrai st raw => Sys2Proof.Machine.execOpSrai st raw s
  | .opMovi st raw => Sys2Proof.Machine.execOpMovi st raw s
  | .opBez st raw => Sys2Proof.Machine.execOpBez st raw s
  | .opBnz st raw => Sys2Proof.Machine.execOpBnz st raw s
  | .opBltz st raw => Sys2Proof.Machine.execOpBltz st raw s
  | .opJmp st raw => Sys2Proof.Machine.execOpJmp st raw s
  | .opJal st raw => Sys2Proof.Machine.execOpJal st raw s
  | .opJr st raw => Sys2Proof.Machine.execOpJr st raw s
  | .opLoop st raw => Sys2Proof.Machine.execOpLoop st raw s
  | .opGetp st raw => Sys2Proof.Machine.execOpGetp st raw s
  | .opGetid st raw => Sys2Proof.Machine.execOpGetid st raw s
  | .opEndt st raw => Sys2Proof.Machine.execOpEndt st raw s
  | .opEndl st raw => Sys2Proof.Machine.execOpEndl st raw s
  | .opTrap st raw => Sys2Proof.Machine.execOpTrap st raw s
  | .opFence st raw => Sys2Proof.Machine.execOpFence st raw s
  | .opVadd st raw => Sys2Proof.Machine.execOpVadd st raw s
  | .opVsub st raw => Sys2Proof.Machine.execOpVsub st raw s
  | .opVmin st raw => Sys2Proof.Machine.execOpVmin st raw s
  | .opVmax st raw => Sys2Proof.Machine.execOpVmax st raw s
  | .opVabsd st raw => Sys2Proof.Machine.execOpVabsd st raw s
  | .opVand st raw => Sys2Proof.Machine.execOpVand st raw s
  | .opVor st raw => Sys2Proof.Machine.execOpVor st raw s
  | .opVxor st raw => Sys2Proof.Machine.execOpVxor st raw s
  | .opVshl st raw => Sys2Proof.Machine.execOpVshl st raw s
  | .opVshr st raw => Sys2Proof.Machine.execOpVshr st raw s
  | .opVclamp st raw => Sys2Proof.Machine.execOpVclamp st raw s
  | .opVsplat st raw => Sys2Proof.Machine.execOpVsplat st raw s
  | .opVmul st raw => Sys2Proof.Machine.execOpVmul st raw s
  | .opVmac st raw => Sys2Proof.Machine.execOpVmac st raw s
  | .opVmacs st raw => Sys2Proof.Machine.execOpVmacs st raw s
  | .opVmsu st raw => Sys2Proof.Machine.execOpVmsu st raw s
  | .opVaclr st raw => Sys2Proof.Machine.execOpVaclr st raw s
  | .opVaread st raw => Sys2Proof.Machine.execOpVaread st raw s
  | .opVawrite st raw => Sys2Proof.Machine.execOpVawrite st raw s
  | .opVslide st raw => Sys2Proof.Machine.execOpVslide st raw s
  | .opVperm st raw => Sys2Proof.Machine.execOpVperm st raw s
  | .opVrsum st raw => Sys2Proof.Machine.execOpVrsum st raw s
  | .opPcmpeq st raw => Sys2Proof.Machine.execOpPcmpeq st raw s
  | .opPcmplt st raw => Sys2Proof.Machine.execOpPcmplt st raw s
  | .opPcmple st raw => Sys2Proof.Machine.execOpPcmple st raw s
  | .opPand st raw => Sys2Proof.Machine.execOpPand st raw s
  | .opPor st raw => Sys2Proof.Machine.execOpPor st raw s
  | .opPnot st raw => Sys2Proof.Machine.execOpPnot st raw s
  | .opVsel st raw => Sys2Proof.Machine.execOpVsel st raw s
  | .opVld st raw => Sys2Proof.Machine.execOpVld st raw s
  | .opVst st raw => Sys2Proof.Machine.execOpVst st raw s
  | .opVldb st raw => Sys2Proof.Machine.execOpVldb st raw s
  | .opVstb st raw => Sys2Proof.Machine.execOpVstb st raw s
  | .opVgather st raw => Sys2Proof.Machine.execOpVgather st raw s
  | .opSld st raw => Sys2Proof.Machine.execOpSld st raw s
  | .opSst st raw => Sys2Proof.Machine.execOpSst st raw s
  | .opQpush st raw => Sys2Proof.Machine.execOpQpush st raw s
  | .opQend st raw => Sys2Proof.Machine.execOpQend st raw s
  | .opQcred st raw => Sys2Proof.Machine.execOpQcred st raw s
  | .opQwait st raw => Sys2Proof.Machine.execOpQwait st raw s
  | .opQpop st raw => Sys2Proof.Machine.execOpQpop st raw s
  | .opQrel st raw => Sys2Proof.Machine.execOpQrel st raw s
  | .opHget st raw => Sys2Proof.Machine.execOpHget st raw s
  | .opHput st raw => Sys2Proof.Machine.execOpHput st raw s
  | .opHwait st raw => Sys2Proof.Machine.execOpHwait st raw s
  | .queueCreditReturn n port => Sys2Proof.Machine.execQueueCreditReturn n port s
  | .hayloftTransferComplete n => Sys2Proof.Machine.execHayloftTransferComplete n s
  | .inputLineArrival n => Sys2Proof.Machine.execInputLineArrival n s
  | .lineRunaway n => Sys2Proof.Machine.execLineRunaway n s
  | .meshLoadComplete m ok => Sys2Proof.Machine.execMeshLoadComplete m ok s
  | .partnerToneDetect x => Sys2Proof.Machine.execPartnerToneDetect x s
  | .trainComplete x r => Sys2Proof.Machine.execTrainComplete x r s
  | .trainTimeout x => Sys2Proof.Machine.execTrainTimeout x s
  | .detectHoldoffExpiry x => Sys2Proof.Machine.execDetectHoldoffExpiry x s
  | .alignLock x skewNs => Sys2Proof.Machine.execAlignLock x skewNs s
  | .alignTimeout x => Sys2Proof.Machine.execAlignTimeout x s
  | .alignmentLoss x => Sys2Proof.Machine.execAlignmentLoss x s
  | .eyeLowTimeout x => Sys2Proof.Machine.execEyeLowTimeout x s
  | .lossOfSignal x => Sys2Proof.Machine.execLossOfSignal x s
  | .keepaliveTimeout x => Sys2Proof.Machine.execKeepaliveTimeout x s
  | .pmAckTimeout x => Sys2Proof.Machine.execPmAckTimeout x s
  | .deepExitComplete x eye => Sys2Proof.Machine.execDeepExitComplete x eye s
  | .codeword x raw => Sys2Proof.Machine.execCodeword x raw s
  | .train x h req eye flags rates => Sys2Proof.Machine.execTrain x h req eye flags rates s
  | .eye x h eye hSteps vSteps => Sys2Proof.Machine.execEye x h eye hSteps vSteps s
  | .pm x h code => Sys2Proof.Machine.execPm x h code s
  | .keepalive x h => Sys2Proof.Machine.execKeepalive x h s
  | .calReq x h id => Sys2Proof.Machine.execCalReq x h id s
  | .calResp x h id turn t => Sys2Proof.Machine.execCalResp x h id turn t s
  | .calExchangeTimeout x => Sys2Proof.Machine.execCalExchangeTimeout x s
  | .trigger x h out pulse tick delay held => Sys2Proof.Machine.execTrigger x h out pulse tick delay held s
  | .trigAck x h tick => Sys2Proof.Machine.execTrigAck x h tick s
  | .trigAckTimeout x tick => Sys2Proof.Machine.execTrigAckTimeout x tick s
  | .i2cReq x h body => Sys2Proof.Machine.execI2cReq x h body s
  | .i2cResp x h status idx data => Sys2Proof.Machine.execI2cResp x h status idx data s
  | .tunnelTimeout x => Sys2Proof.Machine.execTunnelTimeout x s
  | .gpio x h levels mask => Sys2Proof.Machine.execGpio x h levels mask s
  | .gpioLevelChange x => Sys2Proof.Machine.execGpioLevelChange x s
  | .rollCall x h => Sys2Proof.Machine.execRollCall x h s
  | .rollCallPeriod => Sys2Proof.Machine.execRollCallPeriod s
  | .ident x h body => Sys2Proof.Machine.execIdent x h body s
  | .identTimeout x => Sys2Proof.Machine.execIdentTimeout x s
  | .authChal x h nonce => Sys2Proof.Machine.execAuthChal x h nonce s
  | .authResp x h key sig => Sys2Proof.Machine.execAuthResp x h key sig s
  | .authTimeout x => Sys2Proof.Machine.execAuthTimeout x s
  | .echo x h stream region counter crc => Sys2Proof.Machine.execEcho x h stream region counter crc s
  | .frameStatus x h body => Sys2Proof.Machine.execFrameStatus x h body s
  | .frameStatusWaitTimeout g c => Sys2Proof.Machine.execFrameStatusWaitTimeout g c s
  | .nak x h mtype => Sys2Proof.Machine.execNak x h mtype s
  | .partnerResumeTimeout x => Sys2Proof.Machine.execPartnerResumeTimeout x s
  | .frameStart x head frameNum => Sys2Proof.Machine.execFrameStart x head frameNum s
  | .pixelLine x head dt data dmg => Sys2Proof.Machine.execPixelLine x head dt data dmg s
  | .embeddedData x head data dmg => Sys2Proof.Machine.execEmbeddedData x head data dmg s
  | .frameEnd x head frameNum => Sys2Proof.Machine.execFrameEnd x head frameNum s
  | .csi2Packet x stream dt corrected dmg => Sys2Proof.Machine.execCsi2Packet x stream dt corrected dmg s
  | .frameOpenTimeout g c => Sys2Proof.Machine.execFrameOpenTimeout g c s
  | .hdrWindowExpiry g k => Sys2Proof.Machine.execHdrWindowExpiry g k s
  | .creditReturn r lines recs => Sys2Proof.Machine.execCreditReturn r lines recs s
  | .scrubStep r overtaken => Sys2Proof.Machine.execScrubStep r overtaken s
  | .fsMonitorWindow counts => Sys2Proof.Machine.execFsMonitorWindow counts s
  | .lineHandover n => Sys2Proof.Machine.execLineHandover n s
  | .echoDeadline n r counter => Sys2Proof.Machine.execEchoDeadline n r counter s
  | .directFrameTimeout n => Sys2Proof.Machine.execDirectFrameTimeout n s
  | .commandFrame port f => Sys2Proof.Machine.execCommandFrame port f s
  | .ethernetFrame port f => Sys2Proof.Machine.execEthernetFrame port f s
  | .sync port domain seq twoStep origin corr => Sys2Proof.Machine.execSync port domain seq twoStep origin corr s
  | .followUp port domain seq origin corr => Sys2Proof.Machine.execFollowUp port domain seq origin corr s
  | .pdelayReq port domain seq sender => Sys2Proof.Machine.execPdelayReq port domain seq sender s
  | .pdelayResp port domain seq t2 => Sys2Proof.Machine.execPdelayResp port domain seq t2 s
  | .pdelayRespFollowUp port domain seq t3 => Sys2Proof.Machine.execPdelayRespFollowUp port domain seq t3 s
  | .announce port domain a => Sys2Proof.Machine.execAnnounce port domain a s
  | .signaling port domain syncLog annLog linkLog => Sys2Proof.Machine.execSignaling port domain syncLog annLog linkLog s
  | .pdelayTimer n => Sys2Proof.Machine.execPdelayTimer n s
  | .syncTimer n => Sys2Proof.Machine.execSyncTimer n s
  | .announceTimer n => Sys2Proof.Machine.execAnnounceTimer n s
  | .txTimestamp port id n => Sys2Proof.Machine.execTxTimestamp port id n s
  | .ethLinkChange port up lock anDone => Sys2Proof.Machine.execEthLinkChange port up lock anDone s
  | .receiptTimeout n => Sys2Proof.Machine.execReceiptTimeout n s
  | .slewComplete n => Sys2Proof.Machine.execSlewComplete n s
  | .stepApply n => Sys2Proof.Machine.execStepApply n s
  | .ppsInEdge => Sys2Proof.Machine.execPpsInEdge s
  | .ppsOutEdge => Sys2Proof.Machine.execPpsOutEdge s
  | .ppsOutFall => Sys2Proof.Machine.execPpsOutFall s
  | .twTransferEnd n r => Sys2Proof.Machine.execTwTransferEnd n r s
  | .busFree n => Sys2Proof.Machine.execBusFree n s
  | .stretchTimeout n => Sys2Proof.Machine.execStretchTimeout n s
  | .busStuck n => Sys2Proof.Machine.execBusStuck n s
  | .stuckClear n => Sys2Proof.Machine.execStuckClear n s
  | .attentionRequest n lowNs sclFell => Sys2Proof.Machine.execAttentionRequest n lowNs sclFell s
  | .twt0PageWrite data => Sys2Proof.Machine.execTwt0PageWrite data s
  | .twt0PageRead len => Sys2Proof.Machine.execTwt0PageRead len s
  | .twt0WindowWrite data => Sys2Proof.Machine.execTwt0WindowWrite data s
  | .twt0WindowRead len => Sys2Proof.Machine.execTwt0WindowRead len s
  | .submit => Sys2Proof.Machine.execSubmit s
  | .done => Sys2Proof.Machine.execDone s
  | .twtProtocolError => Sys2Proof.Machine.execTwtProtocolError s
  | .twtAttentionOut => Sys2Proof.Machine.execTwtAttentionOut s
  | .twtAddressMatch addr also => Sys2Proof.Machine.execTwtAddressMatch addr also s
  | .domainDelayExpiry d => Sys2Proof.Machine.execDomainDelayExpiry d s
  | .domainAgree d => Sys2Proof.Machine.execDomainAgree d s
  | .entryComplete => Sys2Proof.Machine.execEntryComplete s
  | .wakePin also => Sys2Proof.Machine.execWakePin also s
  | .rtcAlarm also => Sys2Proof.Machine.execRtcAlarm also s
  | .ppsWake also => Sys2Proof.Machine.execPpsWake also s
  | .linkToneWake x also => Sys2Proof.Machine.execLinkToneWake x also s
  | .pwrgood fails => Sys2Proof.Machine.execPwrgood fails s
  | .pwrgoodTimeout => Sys2Proof.Machine.execPwrgoodTimeout s
  | .bankCheck b ok => Sys2Proof.Machine.execBankCheck b ok s
  | .resumeStep => Sys2Proof.Machine.execResumeStep s
  | .bankRebuildDone b => Sys2Proof.Machine.execBankRebuildDone b s
  | .brownOut => Sys2Proof.Machine.execBrownOut s
  | .thermalTrip => Sys2Proof.Machine.execThermalTrip s
  | .temperatureChange temp sensor => Sys2Proof.Machine.execTemperatureChange temp sensor s
  | .coldPowerUp => Sys2Proof.Machine.execColdPowerUp s
  | .coldBoot balls katOk => Sys2Proof.Machine.execColdBoot balls katOk s
  | .firmwareStart trained => Sys2Proof.Machine.execFirmwareStart trained s
  | .groomMiscompare => Sys2Proof.Machine.execGroomMiscompare s
  | .groomRestartComplete => Sys2Proof.Machine.execGroomRestartComplete s
  | .trngHealthFail => Sys2Proof.Machine.execTrngHealthFail s
  | .trngRetest ok => Sys2Proof.Machine.execTrngRetest ok s
  | .otpProgramComplete ok => Sys2Proof.Machine.execOtpProgramComplete ok s
  | .flashWriteComplete ok => Sys2Proof.Machine.execFlashWriteComplete ok s
  | .patternLock x inv => Sys2Proof.Machine.execPatternLock x inv s
  | .patternLost x bits errs => Sys2Proof.Machine.execPatternLost x bits errs s
  | .eyeScanDone grid aborted => Sys2Proof.Machine.execEyeScanDone grid aborted s
  | .injectDone x injected => Sys2Proof.Machine.execInjectDone x injected s
  | .memtestDone fails addr mask corr uncorr => Sys2Proof.Machine.execMemtestDone fails addr mask corr uncorr s
  | .bypass dr => Sys2Proof.Machine.execBypass dr s
  | .idcode => Sys2Proof.Machine.execIdcode s
  | .samplePreload dr => Sys2Proof.Machine.execSamplePreload dr s
  | .extest dr => Sys2Proof.Machine.execExtest dr s
  | .extestPulse dr => Sys2Proof.Machine.execExtestPulse dr s
  | .extestTrain dr => Sys2Proof.Machine.execExtestTrain dr s
  | .clamp dr => Sys2Proof.Machine.execClamp dr s
  | .highz dr => Sys2Proof.Machine.execHighz dr s
  | .trstAssert => Sys2Proof.Machine.execTrstAssert s
  | .abortBurstDone c moved data => Sys2Proof.Machine.execAbortBurstDone c moved data s
  | .completionTimeout c moved => Sys2Proof.Machine.execCompletionTimeout c moved s
  | .pcieLinkUp speed width => Sys2Proof.Machine.execPcieLinkUp speed width s
  | .credentialExpiry h => Sys2Proof.Machine.execCredentialExpiry h s
  | .supplyLoss => Sys2Proof.Machine.execSupplyLoss s
  | .detectToneBurst x => Sys2Proof.Machine.execDetectToneBurst x s
  | .keepaliveSend x => Sys2Proof.Machine.execKeepaliveSend x s
  | .eventRecordWindow => Sys2Proof.Machine.execEventRecordWindow s

end Sys2Proof.Machine
end

