-- ==== Sys2Proof/Machine/Transmit.lean ====
section
/-! DEFINITION. What the hub's lanes send on their own: training blocks (R121), codewords (R137–R143), back-channel packets
(R148) and eye reports (R117). One call sends one block, codeword or packet of each lane (log entry 23). -/

namespace Sys2Proof.Machine

/-! ### Training blocks (R121, Table LP-6) -/

/-- One bit of PRBS31, x^31 + x^28 + 1: the bit and the next state. -/
def prbsBit (st : BitVec 31) : Bool × BitVec 31 :=
  let b := st.getLsbD 30 != st.getLsbD 27
  (b, (st <<< 1) ||| (if b then 1 else 0))

/-- One byte of PRBS31, most significant bit first. -/
def prbsByte (st : BitVec 31) : Byte × BitVec 31 :=
  (List.range 8).foldl (fun (acc : Byte × BitVec 31) _ =>
    let (b, st) := prbsBit acc.2
    ((acc.1 <<< 1) ||| (if b then 1 else 0), st)) (0, st)

/-- Bytes of PRBS31, continuing from block to block. -/
def prbsBytes : Nat → BitVec 31 → List Byte × BitVec 31
  | 0, st => ([], st)
  | n + 1, st =>
    let (b, st) := prbsByte st
    let (bs, st) := prbsBytes n st
    (b :: bs, st)

/-- Bytes 15:0 of a training block (Table LP-6). -/
def State.blockHead (s : State) (x : Nat) : List Byte :=
  let l := s.lane x
  let lane := b01 (s.bonded x && x % 2 == 1) + 2 + 4 * b01 (s.flag (R.LANE_CTRL x) F.LANE_CTRL_ROLE)
  let preset := if s.flag (R.LANE_TXEQ x) F.LANE_TXEQ_CUSTOM then 0xFF else l.sentPreset
  [0xF0, 0xF0, 0x3C, 0x3C, 0xA5, 0xA5, 0x0F, 0x0F, if l.trained then 2 else 1, BitVec.ofNat 8 lane,
   BitVec.ofNat 8 (3 + 4 * l.rate), BitVec.ofNat 8 preset, 0, 0, 0, 0]

/-- A transmit lane in train sends a block. -/
def sendBlock (x : Nat) (s : State) : State :=
  let (bs, st) := prbsBytes 224 (s.lane x).prbs
  (s.emit (.block x (s.blockHead x ++ bs))).setLane x { s.lane x with prbs := st }

/-! ### Codewords (R137–R143, R148) -/

/-- A transmit lane that has trained sends its messages of training, CAL_REQ, in a codeword that stands alone (log
entry 39). -/
def sendTrainWord (x : Nat) (s : State) : State :=
  let (cells, s) := nextCells x [x] false (List.replicate 7 none) s
  emitWord x (sendWord true (scrSeed (s.laneOne x)) cells).1 s

/-- At an alignment codeword of its own a transmit lane enters the acknowledged state or leaves doze (R124), and a
committed TXEQ takes effect (R136). -/
def atOwnAlignment (x : Nat) (s : State) : State :=
  let s := if (s.lane x).newEq then
      (s.setFld (R.LANE_STATUS x) F.LANE_STATUS_PRESET_USED
        (if s.flag (R.LANE_TXEQ x) F.LANE_TXEQ_CUSTOM then 0 else s.fld (R.LANE_TXEQ x) F.LANE_TXEQ_PRESET)).setLane x
        { s.lane x with newEq := false }
    else s
  atAlignment x s

/-- The lanes whose messages go out in a transmit lane's codewords: both of a bond (R143). -/
def State.msgLanes (s : State) (x : Nat) : List Nat := if s.bonded x then [evenLane x, evenLane x + 1] else [x]

/-- A transmit lane sends its next codeword: its cells where it carries any, else IDLE cells (R128, R141). -/
def sendCodeword (x : Nat) (s : State) : State :=
  let s := if (s.lane x).txIndex = 0 then atOwnAlignment x s else s
  if !s.laneIn x [Ls.align, Ls.up, Ls.doze] then s else
  let idx := (s.lane x).txIndex
  let seed := if idx = 0 then scrSeed (s.laneOne x) else (s.lane x).txScr.toNat
  let (cells, s) :=
    if s.carriesCells x then nextCells (s.cellHome x) (s.msgLanes x) (s.laneState x == Ls.up) (List.replicate 7 none) s
    else (List.replicate 224 0, s)
  let (bs, st) := sendWord (idx == 0) seed cells
  emitWord x bs (s.setLane x { s.lane x with txIndex := (idx + 1) % 64, txScr := BitVec.ofNat 23 st })

/-- The bits of a transmit lane in test go to its balls or, in loopback, to its receive lane at the same rate (R512). -/
def testOut (x : Nat) (word : Bool) (bs : List Byte) (s : State) : State :=
  let (bs, s) := injectBytes x bs s
  let r := 2 * (x - 32)
  if s.looped r then
    (if s.fld (R.LANE_STATUS r) F.LANE_STATUS_RATE = s.fld (R.LANE_STATUS x) F.LANE_STATUS_RATE then rxWord r bs s else s)
  else s.emit (if word then .codeword x bs else .pattern x bs)

/-- A transmit lane in test sends the bits of its generator, or idle codewords (R509, R511); a changed PAT starts it anew. -/
def sendTest (x : Nat) (s : State) : State :=
  let pat := s.fld (R.TEST_PGEN x) F.TEST_PGEN_PAT
  let inv := s.flag (R.TEST_PGEN x) F.TEST_PGEN_INV
  let flip (bs : List Byte) : List Byte := if inv then bs.map (fun b => ~~~ b) else bs
  let g := SMap.get s.test.gen (Gen.start 0) x
  let renew := g.pat ≠ pat
  let g := if renew then Gen.start pat else g
  if pat = 0 then { s with test := { s.test with gen := SMap.put s.test.gen (Gen.start 0) x g } }
  else if pat = 7 then
    let s := { s with test := { s.test with gen := SMap.put s.test.gen (Gen.start 0) x g } }
    let idx := if renew then 0 else (s.lane x).txIndex
    let seed := if idx = 0 then scrSeed (s.laneOne x) else (s.lane x).txScr.toNat
    let (bs, st) := sendWord (idx == 0) seed (List.replicate 224 0)
    testOut x true (flip bs) (s.setLane x { s.lane x with txIndex := (idx + 1) % 64, txScr := BitVec.ofNat 23 st })
  else
    let (bits, g) := Gen.run pat (s.userPattern x) 1920 g
    testOut x false (flip (sentBytes bits)) { s with test := { s.test with gen := SMap.put s.test.gen (Gen.start 0) x g } }

/-- One turn of a transmit lane's forward transmitter; while it repeats, its codewords are its source's (R131). -/
def sendForward (x : Nat) (s : State) : State :=
  let l := s.lane x
  if s.dark (laneDomain x) || l.repeating then s
  else if s.laneState x = Ls.train then
    (if l.trained && !(l.msgs.isEmpty && l.msgCells.isEmpty) then sendTrainWord x s else sendBlock x s)
  else if s.laneIn x [Ls.align, Ls.up, Ls.doze] then sendCodeword x s
  else if s.laneIn x [Ls.test] then sendTest x s
  else s

/-! ### The back channel (R117, R148) -/

/-- A receive lane sends its next message as one packet behind the preamble (R148). -/
def sendBack (x : Nat) (s : State) : State :=
  if !s.linkLive x || (s.lane x).msgs.isEmpty then s else
  let (m, s) := takeMsg x s
  match m with
  | some m => s.emit (.backPacket x ([0xAA, 0xAA, 0xAA, 0xE2] ++ m.bytes))
  | none => s

/-- A receive lane that is up towards another hub reports its eye (R117, Table LK-4). -/
def reportEye (x : Nat) (s : State) : State :=
  if !s.laneUp x || s.partnerClass x != 4 then s else
  let w := s.laneEye x
  (s.sendReq x Mt.EYE 0 [BitVec.ofNat 8 (F.LANE_EYE_EYE_INDEX.get w), BitVec.ofNat 8 (F.LANE_EYE_H_STEPS.get w),
    BitVec.ofNat 8 (F.LANE_EYE_V_STEPS.get w), 0]).2

/-- Every lane's turn to send; with `eyes`, a millisecond has passed and the eyes are reported (R117). -/
def transmit (eyes : Bool) (s : State) : State :=
  let s := if eyes then (upTo 32).foldl (fun t x => reportEye x t) s else s
  let s := (upTo 32).foldl (fun t x => sendBack x t) s
  (upTo 16).foldl (fun t m => sendForward (32 + m) t) s

end Sys2Proof.Machine
end

