-- ==== Sys2Proof/Machine/Idle.lean ====
section
/-! DEFINITION. What the hub does on its own while no command waits (log entry 23): it takes up work held over a
sleep entry, and otherwise lets one 4 ns cycle of its clocks pass. -/

namespace Sys2Proof.Machine

/-- 4 ns of the RTC, a count of 32.768 kHz that runs in every state but Off (R453). -/
def rtcCycle (s : State) : State :=
  if s.pwr.resume = .asleep ∧ s.pwr.kind = .off then s else
  let acc := s.pwr.rtcNs + 4 * 32768
  if acc < 1000000000 then { s with pwr := { s.pwr with rtcNs := acc } }
  else { s with pwr := { s.pwr with rtcNs := acc - 1000000000, rtc := s.pwr.rtc + 1 } }

/-- The hub is powered and not on its way from a sleep. -/
def State.awake (s : State) : Bool := s.pwr.pwrgood && s.pwr.resume == .awake

/-- One idle cycle: the clocks run (R390), the 802.1AS stack takes its transmit stamps (R408), domains switched on
without a running tick become ready (R74), the frame that each Ethernet port is sending ends (R404), the lanes send (R137, R148), and
the groom goes on with what waits for it. -/
def idleCycle (s : State) : State :=
  let s := rtcCycle s
  if !s.awake then s else
  let s := s.clockCycle
  let s := if s.groom.up then consumeTx 1 (consumeTx 0 s) else s
  let s := if s.tg.running then s else comingReady s
  let s := transmit (decide (s.clk.localNs % 1000000 < 4)) (ethNext 1 (ethNext 0 s))
  groomTurn s

/-- The block on an empty queue: the oldest work held over a sleep entry goes on once the hub is awake again and no
entry is in progress (R446); else a cycle passes. -/
def idle (s : State) : State :=
  match s.pwr.heldWork with
  | w :: ws =>
    if s.awake && s.pwr.entry.isNone then runWork w { s with pwr := { s.pwr with heldWork := ws } } else idleCycle s
  | [] => idleCycle s

end Sys2Proof.Machine
end

