-- ==== Sys2Proof/WellFormed.lean ====
section
/-! DEFINITION. Operands a command can have as the spec forms it. The meanings are total: they answer for every
operand, well formed or not. -/

namespace Sys2Proof

/-- A packet as Table CM-1 lays it out: LEN fits its 12 bits, and TAG is not the reserved 0x0000 (R76). The internal
source of a configuration image sends no packets of its own. -/
def Packet.wf (p : Packet) : Bool :=
  decide (p.params.length ≤ 4095) && p.tag != 0 && p.src != .image

/-- Nanoseconds of a PTP timestamp (R389). -/
def PtpTime.wf (t : PtpTime) : Bool := decide (t.ns.toNat < 1000000000)

/-- Operands whose types do not already bound them. -/
def Instr.wf : Instr → Bool
  | .ping p | .getId p | .getState p | .seal p | .abortSeal p | .resumeReport p | .eventRoute p | .eventRead p
  | .regRead p | .regWrite p | .stageQuery p | .safeExit p | .reset p | .configLoad p | .configSave p | .laneSet p
  | .laneState p | .laneStatus p | .laneBond p | .rollCallSet p | .discover p | .partnerInfo p | .triggerSet p
  | .triggerCal p | .linkGpio p | .repeaterSet p | .streamOpen p | .streamClose p | .streamCrop p | .streamTarget p
  | .streamTag p | .hdrGroup p | .gateStatus p | .gateFlush p | .loadKernel p | .bind p | .setParam p | .yardDefine p
  | .yardDissolve p | .unbind p | .lockstepPair p | .stallStatus p | .yardQuery p | .meshLoad p | .remapBind p
  | .remapUnbind p | .remapStatus p | .headSet p | .headLanes p | .kiteSet p | .kiteClear p | .tetherSet p
  | .tetherClear p | .directSet p | .directClear p | .headStatus p | .witnessStatus p | .codecSet p | .codecStatus p
  | .paddockCreate p | .paddockDelete p | .paddockPolicy p | .markSet p | .markClear p | .paddockStatus p | .dmaSet p
  | .dmaStart p | .dmaAbort p | .dmaStatus p | .tbSet p | .tbRead p | .tbAdjustSet p | .tbAdjustOffset p | .tbPair p
  | .ppsSet p | .tsRead p | .twSet p | .twXfer p | .twStatus p | .twtSet p | .levelSet p | .domainSet p
  | .sleepEnterLeaveIdle p | .sleepEnterIdle p | .sleepEnterHold p | .sleepEnterStow p | .sleepEnterOff p
  | .padRelease p | .wakeSet p | .powerStatus p | .credOpenStepA p | .credOpenStepB p | .credClose p | .attest p
  | .cameraAuth p | .keyRevokeOwner p | .keyRevokeVendor p | .keyRevokeSvn p | .debugUnlock p | .trngRead p
  | .otpRead p | .fwLoad p | .patternSet p | .patternCheck p | .loopbackOff p | .loopbackSerial p
  | .loopbackDigital p | .eyeScan p | .errInjectStop p | .errInjectSingle p | .errInjectRate p | .errInjectBurst p
  | .memtestMarch p | .memtestRead p | .diagRead p | .commandUnknown _ p => p.wf
  | .registerWrite off size _ _ _ => decide (off + size ≤ 2 ^ 24 ∧ 0 < size)
  | .bar2Read off len => decide (off + len ≤ 2 ^ 28 ∧ 0 < len)
  | .bar2Write off data => decide (off + data.length ≤ 2 ^ 28 ∧ 0 < data.length)
  | .cmdSqTail _ _ words _ => words.length % 4 == 0
  | .descriptorFetch _ words ok => !ok || words.length == 8
  | .sync _ _ _ _ origin _ | .followUp _ _ _ origin _ => origin.wf
  | .pdelayResp _ _ _ t => t.wf
  | .pdelayRespFollowUp _ _ _ t => t.wf
  | .codeword _ raw => raw.length == 240
  | .i2cReq _ _ body => decide (5 ≤ body.length ∧ body.length ≤ 245)
  | .i2cResp _ _ _ _ data => decide (data.length ≤ 240)
  | .ident _ _ body => body.length == 32
  | .authChal _ _ nonce => nonce.length == 32
  | .authResp _ _ key sig => key.length == 97 && sig.length == 96
  | .frameStatus _ _ body => body.length == 16
  | .fsMonitorWindow counts => counts.length == 64
  | _ => true

end Sys2Proof
end

