-- ==== Sys2Proof/Safety.lean ====
section
/-! DEFINITION. What a safe run is, the invariant of the memories, and how a command that the groom takes alone goes on:
the terms the statements use. -/

namespace Sys2Proof.Machine

/-- The memories the spec gives addresses keep their canonical form: the hayloft, the frame store and the boot
flash, sparse over what an unlisted address reads as. -/
def State.memWf (s : State) : Bool :=
  SMap.wf s.hay (fun _ => 0) && SMap.wf s.store.mem (fun _ => 0) && SMap.wf s.sec.flash (fun _ => 0xFF)

/-- The registers keep their canonical form: sparse over their reset values. -/
def State.regsWf (s : State) : Bool := SMap.wf s.regs resetOf

/-- A command completes in a state: exec answers a next state. -/
def Completes (c : Instr) (s : State) : Prop := ∃ t, exec c s = .next t

/-- A state whose waiting commands all complete, one after the other, whatever the states between. -/
def Safe (s : State) : Prop := ∀ c ∈ s.pending, ∀ t, Completes c t

/-! ### A command that the groom takes alone -/

/-- A packet with its opcode. -/
def cmdOf (op : Nat) (p : Packet) : Cmd := ⟨BitVec.ofNat 16 op, p⟩

/-- What the packet's source shows while the groom has the command: TWT0's mailbox is BUSY (R94). -/
def onSource (p : Packet) (s : State) : State :=
  if p.src = .twt then s.setMbox { s.groom.mbox with busy := true, reject := false } else s

/-- The groom takes the packet at once and alone: it runs, nothing waits for it, the source is open and in no chain, and
a mailbox is free. `u` is the state in which its checks are made. -/
def Taken (p : Packet) (s u : State) : Prop :=
  groomTurn s = s ∧ s.groomRuns = true ∧ s.sourceOpen p.src = true ∧ s.chainOf p.src = none ∧ p.chain = false
    ∧ (p.src = .twt → s.groom.mbox.busy = false ∧ s.groom.mbox.ready = false) ∧ u = onSource p s

/-- A packet of an opcode is taken, carries no STAGE and passes the checks of Table CM-4. -/
def Runs (op : Nat) (p : Packet) (s u : State) : Prop :=
  Taken p s u ∧ p.stage = false ∧ checkCmd (cmdOf op p) none u = none ∧ limitChk (cmdOf op p) none u = none

/-- A packet of an opcode is taken, carries STAGE and passes the checks of Table CM-4. -/
def Stages (op : Nat) (p : Packet) (s u : State) : Prop :=
  Taken p s u ∧ p.stage = true ∧ checkCmd (cmdOf op p) none u = none ∧ limitChk (cmdOf op p) none u = none

/-- The commands that may carry STAGE, CONFIG_LOAD aside, with their opcodes (Table CM-9). -/
def stagedRow : Instr → Option (Nat × Packet)
  | .regWrite p => some (0x009, p)
  | .laneSet p => some (0x100, p)
  | .laneState p => some (0x101, p)
  | .laneBond p => some (0x103, p)
  | .rollCallSet p => some (0x104, p)
  | .triggerSet p => some (0x107, p)
  | .linkGpio p => some (0x109, p)
  | .repeaterSet p => some (0x10A, p)
  | .streamOpen p => some (0x200, p)
  | .streamClose p => some (0x201, p)
  | .streamCrop p => some (0x202, p)
  | .streamTarget p => some (0x203, p)
  | .streamTag p => some (0x204, p)
  | .hdrGroup p => some (0x205, p)
  | .loadKernel p => some (0x300, p)
  | .bind p => some (0x301, p)
  | .setParam p => some (0x302, p)
  | .yardDefine p => some (0x303, p)
  | .yardDissolve p => some (0x304, p)
  | .unbind p => some (0x305, p)
  | .lockstepPair p => some (0x306, p)
  | .meshLoad p => some (0x400, p)
  | .remapBind p => some (0x401, p)
  | .remapUnbind p => some (0x402, p)
  | .headSet p => some (0x500, p)
  | .headLanes p => some (0x501, p)
  | .kiteSet p => some (0x502, p)
  | .kiteClear p => some (0x503, p)
  | .tetherSet p => some (0x504, p)
  | .tetherClear p => some (0x505, p)
  | .directSet p => some (0x506, p)
  | .directClear p => some (0x507, p)
  | .codecSet p => some (0x600, p)
  | .paddockCreate p => some (0x700, p)
  | .paddockDelete p => some (0x701, p)
  | .paddockPolicy p => some (0x702, p)
  | .dmaSet p => some (0x800, p)
  | .tbSet p => some (0x900, p)
  | .tbPair p => some (0x903, p)
  | .ppsSet p => some (0x904, p)
  | .twSet p => some (0xA00, p)
  | .levelSet p => some (0xB00, p)
  | .domainSet p => some (0xB01, p)
  | _ => none

/-- The link messages that a lane takes as messages of its own: lane, header and the work that a sleep entry holds. -/
def laneMessage : Instr → Option (Nat × MsgHdr × Work)
  | .train x h req eye flags rates => some (x, h, .train x h req eye flags rates)
  | .eye x h eye _ _ => some (x, h, .eye x h eye)
  | .pm x h code => some (x, h, .pm x h code)
  | .keepalive x h => some (x, h, .keepalive x h)
  | .calReq x h id => some (x, h, .calReq x h id)
  | .trigger x h out pulse tick delay held => some (x, h, .trigger x h out pulse tick delay held)
  | .trigAck x h tick => some (x, h, .trigAck x h tick)
  | .i2cReq x h body => some (x, h, .i2cReq x h body)
  | .i2cResp x h status idx data => some (x, h, .i2cResp x h status idx data)
  | .gpio x h levels mask => some (x, h, .gpio x h levels mask)
  | .rollCall x h => some (x, h, .rollCall x h)
  | .authChal x h nonce => some (x, h, .authChal x h nonce)
  | .authResp x h key sig => some (x, h, .authResp x h key sig)
  | .echo x h stream region counter crc => some (x, h, .echo x h stream region counter crc)
  | .frameStatus x h body => some (x, h, .frameStatus x h body)
  | .nak x h mtype => some (x, h, .nak x h mtype)
  | _ => none

/-! ### A bundle that a stall issues -/

/-- The registers after a bundle: the program counter and loops, then what the scalar, vector and load/store slots
write (R203). -/
def afterBundle (raw : BitVec 128) (r : Regs) (se : SEff) (ve : VEff) (m : MEff) : Regs :=
  let r := advance raw se r
  let r := (match se.wr with | some (d, w) => r.sput d w | none => r).putV ve
  match m with
  | .sreg d w => r.sput d w
  | .vreg d v => r.vput d v
  | .qtake _ d w => r.sput d w
  | .qpop _ d v => r.vput d v
  | _ => r

/-- The parameter word that a bundle's GETP names (R211). -/
def paramOf (x : Stall) (raw : BitVec 128) : Word := w32 (leNat (readBytes x.store (paramBase + 4 * bf raw 27 20) 4))

/-- The effect of a bundle's scalar slot on stall `n`. -/
def scalarOf (n : Nat) (raw : BitVec 128) (s : State) : SEff :=
  scalarSlot raw (s.stall n).regs (paramOf (s.stall n) raw) ((s.getid n (bImm raw)).getD 0)

/-- The effect of a bundle's vector slot on stall `n`. -/
def vectorOf (n : Nat) (raw : BitVec 128) (s : State) : VEff := vectorSlot raw (s.stall n).regs (Config.freeWord s.fresh)

/-- The free vector of a pop beyond the current packet (log entry 15). -/
def freeVector (s : State) : BitVec 512 := vecOfBytes ((upTo 16).flatMap (fun i => wordBytes (Config.freeWord (s.fresh + i))))

/-- Stall `n`, in no lockstep pair, executes a legal bundle that no check of a library kernel stops (R238) and whose
load/store slot does not wait and has effect `m`. -/
def Issues (n : Nat) (raw : BitVec 128) (m : MEff) (s : State) : Prop :=
  s.executes n raw = true ∧ (s.stall n).lock = false ∧ s.libStop n raw = none ∧ (s.stall n).regs.pc.toNat ∉ (s.stall n).badBundles
    ∧ bundleOk raw = true ∧ memSlot n (s.stall n) raw (freeVector s) s = .ok (some m)

/-- The scalar slot of a legal bundle neither faults nor waits: a known GETID selector and a readable parameter word,
ENDT outside LINE mode and ENDL in it, no third loop, no TRAP, and no transfer that FENCE, ENDT or ENDL waits for, nor a
frame that a library kernel's ENDT waits for (R205 to R207, R209, R211, R236). -/
def ScalarPasses (n : Nat) (raw : BitVec 128) (s : State) : Prop :=
  let x := s.stall n
  (bS raw = 0x31 → s.getid n (bImm raw) ≠ none) ∧ (bS raw = 0x30 → x.bad (paramBase + 4 * bf raw 27 20) 4 = false)
    ∧ (bS raw = 0x38 → x.mode ≠ 2 ∧ x.xfers = [] ∧ s.libDone x = true) ∧ (bS raw = 0x39 → x.mode = 2 ∧ x.xfers = [])
    ∧ (bS raw = 0x3B → x.xfers = []) ∧ (bS raw = 0x26 → x.regs.sget (bSA raw) = 0 ∨ x.regs.loops.length < 2) ∧ bS raw ≠ 0x3A

/-- The state after stall `n`, in no lockstep pair, has issued a bundle with these effects: registers and stall store,
then what leaves the stall, then the end of a tick's or a line's work. -/
def issued (n : Nat) (i : Issue) (s : State) : State :=
  let t := { s with fresh := s.fresh + 16 }
  let t := applyOutside n i.mem (t.setStall n (applyLocal i (s.stall n)))
  match i.fin with
  | .none => t
  | .endt => endTick n t
  | .endl => endLine n t

/-- The fields of a bundle as Table ST-3 names them; `imm` is IMM20, whose low five bits are the register B. -/
structure BundleFields where
  format : Nat
  s : Nat
  sd : Nat
  sa : Nat
  imm : Nat
  v : Nat
  vd : Nat
  va : Nat
  vb : Nat
  vc : Nat
  pr : Nat
  prz : Nat
  sh : Nat
  rnd : Nat
  sat : Nat
  p12 : Nat
  u : Nat
  m : Nat
  vt : Nat
  base : Nat
  off : Nat
  mpr : Nat
  space : Nat
  imm32 : Nat
  deriving DecidableEq, Repr

/-- Every field fits its bits. -/
def BundleFields.wf (b : BundleFields) : Bool :=
  decide (b.format ≤ 1 ∧ b.s < 2 ^ 8 ∧ b.sd < 2 ^ 5 ∧ b.sa < 2 ^ 5 ∧ b.imm < 2 ^ 20 ∧ b.v < 2 ^ 9 ∧ b.vd < 2 ^ 6 ∧ b.va < 2 ^ 6
    ∧ b.vb < 2 ^ 6 ∧ b.vc < 2 ^ 6 ∧ b.pr < 2 ^ 3 ∧ b.prz < 2 ∧ b.sh < 2 ^ 6 ∧ b.rnd < 2 ^ 2 ∧ b.sat < 2 ∧ b.p12 < 2 ∧ b.u < 2
    ∧ b.m < 2 ^ 6 ∧ b.vt < 2 ^ 6 ∧ b.base < 2 ^ 5 ∧ b.off < 2 ^ 16 ∧ b.mpr < 2 ^ 3 ∧ b.space < 2 ^ 2 ∧ b.imm32 < 2 ^ 32)

/-- Bits 125:88 of a bundle: the load/store slot, or the long immediate. -/
def BundleFields.high (b : BundleFields) : Nat :=
  if b.format = 1 then b.imm32
  else b.m + 2 ^ 6 * b.vt + 2 ^ 12 * b.base + 2 ^ 17 * b.off + 2 ^ 33 * b.mpr + 2 ^ 36 * b.space

/-- The bundle of given fields (Table ST-3). -/
def BundleFields.raw (b : BundleFields) : BitVec 128 :=
  BitVec.ofNat 128 (b.format + 2 ^ 2 * b.s + 2 ^ 10 * b.sd + 2 ^ 15 * b.sa + 2 ^ 20 * b.imm + 2 ^ 40 * b.v + 2 ^ 49 * b.vd
    + 2 ^ 55 * b.va + 2 ^ 61 * b.vb + 2 ^ 67 * b.vc + 2 ^ 73 * b.pr + 2 ^ 76 * b.prz + 2 ^ 77 * b.sh + 2 ^ 83 * b.rnd
    + 2 ^ 85 * b.sat + 2 ^ 86 * b.p12 + 2 ^ 87 * b.u + 2 ^ 88 * b.high)

/-- The rows of Table ST-4 but NOP: the slot and opcode of each, its stall and bundle. -/
def isaRow : Instr → Option (SlotName × Nat × Nat × BitVec 128)
  | .opAdd st raw => some (.s, 0x01, st, raw)
  | .opSub st raw => some (.s, 0x02, st, raw)
  | .opAnd st raw => some (.s, 0x03, st, raw)
  | .opOr st raw => some (.s, 0x04, st, raw)
  | .opXor st raw => some (.s, 0x05, st, raw)
  | .opShl st raw => some (.s, 0x06, st, raw)
  | .opShr st raw => some (.s, 0x07, st, raw)
  | .opSra st raw => some (.s, 0x08, st, raw)
  | .opMul st raw => some (.s, 0x09, st, raw)
  | .opMin st raw => some (.s, 0x0A, st, raw)
  | .opMax st raw => some (.s, 0x0B, st, raw)
  | .opSlt st raw => some (.s, 0x0C, st, raw)
  | .opSltu st raw => some (.s, 0x0D, st, raw)
  | .opAddi st raw => some (.s, 0x10, st, raw)
  | .opAndi st raw => some (.s, 0x11, st, raw)
  | .opOri st raw => some (.s, 0x12, st, raw)
  | .opShli st raw => some (.s, 0x13, st, raw)
  | .opShri st raw => some (.s, 0x14, st, raw)
  | .opSrai st raw => some (.s, 0x15, st, raw)
  | .opMovi st raw => some (.s, 0x16, st, raw)
  | .opBez st raw => some (.s, 0x20, st, raw)
  | .opBnz st raw => some (.s, 0x21, st, raw)
  | .opBltz st raw => some (.s, 0x22, st, raw)
  | .opJmp st raw => some (.s, 0x23, st, raw)
  | .opJal st raw => some (.s, 0x24, st, raw)
  | .opJr st raw => some (.s, 0x25, st, raw)
  | .opLoop st raw => some (.s, 0x26, st, raw)
  | .opGetp st raw => some (.s, 0x30, st, raw)
  | .opGetid st raw => some (.s, 0x31, st, raw)
  | .opEndt st raw => some (.s, 0x38, st, raw)
  | .opEndl st raw => some (.s, 0x39, st, raw)
  | .opTrap st raw => some (.s, 0x3A, st, raw)
  | .opFence st raw => some (.s, 0x3B, st, raw)
  | .opVadd st raw => some (.v, 0x001, st, raw)
  | .opVsub st raw => some (.v, 0x002, st, raw)
  | .opVmin st raw => some (.v, 0x003, st, raw)
  | .opVmax st raw => some (.v, 0x004, st, raw)
  | .opVabsd st raw => some (.v, 0x005, st, raw)
  | .opVand st raw => some (.v, 0x006, st, raw)
  | .opVor st raw => some (.v, 0x007, st, raw)
  | .opVxor st raw => some (.v, 0x008, st, raw)
  | .opVshl st raw => some (.v, 0x009, st, raw)
  | .opVshr st raw => some (.v, 0x00A, st, raw)
  | .opVclamp st raw => some (.v, 0x00C, st, raw)
  | .opVsplat st raw => some (.v, 0x00D, st, raw)
  | .opVmul st raw => some (.v, 0x010, st, raw)
  | .opVmac st raw => some (.v, 0x020, st, raw)
  | .opVmacs st raw => some (.v, 0x021, st, raw)
  | .opVmsu st raw => some (.v, 0x022, st, raw)
  | .opVaclr st raw => some (.v, 0x023, st, raw)
  | .opVaread st raw => some (.v, 0x024, st, raw)
  | .opVawrite st raw => some (.v, 0x025, st, raw)
  | .opVslide st raw => some (.v, 0x030, st, raw)
  | .opVperm st raw => some (.v, 0x031, st, raw)
  | .opVrsum st raw => some (.v, 0x032, st, raw)
  | .opPcmpeq st raw => some (.v, 0x040, st, raw)
  | .opPcmplt st raw => some (.v, 0x041, st, raw)
  | .opPcmple st raw => some (.v, 0x042, st, raw)
  | .opPand st raw => some (.v, 0x043, st, raw)
  | .opPor st raw => some (.v, 0x044, st, raw)
  | .opPnot st raw => some (.v, 0x045, st, raw)
  | .opVsel st raw => some (.v, 0x046, st, raw)
  | .opVld st raw => some (.m, 0x01, st, raw)
  | .opVst st raw => some (.m, 0x02, st, raw)
  | .opVldb st raw => some (.m, 0x03, st, raw)
  | .opVstb st raw => some (.m, 0x04, st, raw)
  | .opVgather st raw => some (.m, 0x05, st, raw)
  | .opSld st raw => some (.m, 0x06, st, raw)
  | .opSst st raw => some (.m, 0x07, st, raw)
  | .opQpush st raw => some (.m, 0x08, st, raw)
  | .opQend st raw => some (.m, 0x09, st, raw)
  | .opQcred st raw => some (.m, 0x0A, st, raw)
  | .opQwait st raw => some (.m, 0x0B, st, raw)
  | .opQpop st raw => some (.m, 0x0C, st, raw)
  | .opQrel st raw => some (.m, 0x0D, st, raw)
  | .opHget st raw => some (.m, 0x10, st, raw)
  | .opHput st raw => some (.m, 0x11, st, raw)
  | .opHwait st raw => some (.m, 0x12, st, raw)
  | _ => none

end Sys2Proof.Machine
end

