-- ==== Sys2Proof/Certificates/Slice0/Obligations.lean ====
section
/-! DEFINITION. The statements about the model, one per obligation. In each, a command's conclusion is that exec answers a next
state, and which: a state written with the model's own operations, which change only what their names say. `u` is the state
in which the groom checks a packet, `Runs` and `Stages` say that it takes the packet alone and its checks pass (Safety.lean). -/

open Sys2Proof Sys2Proof.Machine

/-! ### The block as a whole: its queue, reset, registers and memories -/

/-- A step takes the command at the front of the queue and is exec of it with the queue's rest; on an empty queue the block
goes on by itself (log entry 23), and no word of the table spells a command (log entry 24). -/
def Obligations.StepRunsTheFrontCommand : Prop :=
  ∀ (c : Instr) (rest : List Instr) (s : State),
    step { s with pending := c :: rest } = exec c { s with pending := rest }
    ∧ step { s with pending := [] } = .next (idle { s with pending := [] })
    ∧ ∀ nbits w, decodeTableWord nbits w = none ∧ s.withFetchWord nbits w = s

/-- After reset the hub is in BOOT, every register holds its Reset column (R532), nothing waits, and registers and memories have
their canonical form; that the memories read 0, the flash 0xFF, is the model's choice (log entry 29). -/
def Obligations.ResetLeavesTheResetColumn : Prop :=
  State.reset.pending = [] ∧ State.reset.out = [] ∧ State.reset.dstate = .boot ∧ (∀ a, State.reset.reg a = resetOf a)
  ∧ State.reset.tg.running = false ∧ State.reset.tg.count = 0 ∧ State.reset.groom.staging.fill = []
  ∧ State.reset.groom.staging.future = [] ∧ State.reset.groom.staging.frozen = none
  ∧ (∀ n, (State.reset.stall n).state = .empty) ∧ State.reset.regsWf = true ∧ State.reset.memWf = true
  ∧ (∀ a n, State.reset.hayRead a n = List.replicate n 0 ∧ State.reset.fsRead a n = List.replicate n 0)

/-- A register reads back what was written to it, and no other register changes; setting a field keeps the fields beside it;
the registers keep their canonical form. -/
def Obligations.RegistersReadBack : Prop :=
  ∀ (a : Nat) (w : Word) (s : State), s.regsWf = true →
    (s.setReg a w).reg a = w ∧ (s.setReg a w).regsWf = true ∧ (∀ b, b ≠ a → (s.setReg a w).reg b = s.reg b)
    ∧ (∀ (f : Fld) (v : Nat), f.lo ≤ f.hi → f.hi < 32 → (s.setFld a f v).fld a f = v % 2 ^ f.width
      ∧ (s.setFld a f v).regsWf = true ∧ (∀ b, b ≠ a → (s.setFld a f v).reg b = s.reg b)
      ∧ (∀ g : Fld, g.lo ≤ g.hi → g.hi < 32 → (g.hi < f.lo ∨ f.hi < g.lo) → (s.setFld a f v).fld a g = s.fld a g))

/-- The hayloft and the frame store read back what was written, byte for byte, and every byte outside the written range is
unchanged, as are the registers; their canonical form is kept (log entry 29). -/
def Obligations.MemoriesReadBack : Prop :=
  ∀ (a : Nat) (bs : List Byte) (s : State), s.memWf = true →
    (s.hayWrite a bs).hayRead a bs.length = bs ∧ (s.fsWrite a bs).fsRead a bs.length = bs
    ∧ (s.hayWrite a bs).memWf = true ∧ (s.fsWrite a bs).memWf = true
    ∧ (∀ b n, b + n ≤ a ∨ a + bs.length ≤ b →
        (s.hayWrite a bs).hayRead b n = s.hayRead b n ∧ (s.fsWrite a bs).fsRead b n = s.fsRead b n)
    ∧ (∀ b n, (s.hayWrite a bs).fsRead b n = s.fsRead b n ∧ (s.fsWrite a bs).hayRead b n = s.hayRead b n)
    ∧ (∀ b, (s.hayWrite a bs).reg b = s.reg b ∧ (s.fsWrite a bs).reg b = s.reg b)

/-! ### Commands that the groom takes (chapters 03 to 18) -/

/-- Reads of the groom's own state answer OK with their tables' words (R101, Table CM-9, Table EV-7, Table PW-8,
Table BS-11) and change nothing but what the read itself consumes: EVENT_READ takes the oldest records, TRNG_READ draws
random words, or answers FAULT with detail 4 after a failed health test (R478), STAGE_QUERY and the sensor selectors of
DIAG_READ draw free values (log entries 1, 71 and 72).
Reads of a unit's status answer OK with the registers and records of that unit, and change nothing (R102, R135,
R164, R196, R231, R275, R303, R323, R359, R388, R416, R439). DMA_STATUS waits while the tail's re-read is outstanding
(R382). PATTERN_CHECK first brings the checker's counts up to now, and with CLEAR clears them behind the sample (R510).
REG_READ answers the register's present value, one word, or with WIDE two words read at once (R538). The first
register of a latched group also latches the others for its source, and these then answer what was latched (R363, R530);
a read of DMA_c_STATUS waits while the tail's re-read is outstanding (R382). -/
def Obligations.ReadCommandsAnswerTheirWords : Prop :=
  (∀ (p : Packet) (s u : State),
      (Runs 0x000 p s u → exec (.ping p) s = .next (finish (cmdOf 0x000 p) (Res.ok []) u))
      ∧ (Runs 0x001 p s u → exec (.getId p) s =
          .next (finish (cmdOf 0x001 p) (Res.ok [u.topId, u.topUnits, u.fwVer, u.sec.otp.serial]) u))
      ∧ (Runs 0x002 p s u → exec (.getState p) s =
          .next (finish (cmdOf 0x002 p)
            (Res.ok [w32 (u.dstate.code + 65536 * u.cause.toNat), w32 (u.tg.count.toNat / 2 ^ 32)]) u))
      ∧ (Runs 0x005 p s u → exec (.resumeReport p) s =
          .next (finish (cmdOf 0x005 p)
            (Res.ok (u.view R.PWR_RESUME :: u.pwr.resumeTick :: (upTo 60).map (fun b => u.view (R.PWR_BANK b)))) u))
      ∧ (Runs 0x007 p s u → exec (.eventRead p) s =
          .next (finish (cmdOf 0x007 p)
            (Res.ok (w32 (u.ev.log.drop (bits (wAt p.params 0) 3 0)).length
              :: (u.ev.log.take (bits (wAt p.params 0) 3 0)).flatMap Rec.words))
            { u with ev := { u.ev with log := u.ev.log.drop (bits (wAt p.params 0) 3 0) } }))
      ∧ (Runs 0x00A p s u → exec (.stageQuery p) s =
          .next (finish (cmdOf 0x00A p) (Res.ok ((Config.freeWords u.fresh).take 4095)) { u with fresh := u.fresh + 1 }))
      ∧ (Runs 0xB05 p s u → exec (.powerStatus p) s =
          .next (finish (cmdOf 0xB05 p) (Res.ok (u.views ((upTo 18).map (fun k => R.PWR_ON_LO + 4 * k)))) u))
      ∧ (∀ ws, ws = attestHead p.params u ++ (if bit (wAt p.params 8) 0 then [] else attestMeasure u
            ++ bytesWords ((Config.devicePublic u.sec.otp.uniqueSecret).take 97 ++ List.replicate 3 0)) →
          Runs 0xC02 p s u → exec (.attest p) s = .next (finish (cmdOf 0xC02 p)
            (Res.ok (ws ++ bytesWords (Config.deviceSign u.sec.otp.uniqueSecret (Config.sha384 (wordsBytes ws))))) u))
      ∧ (Runs 0xC06 p s u → u.sec.trngOk = true → exec (.trngRead p) s =
          .next (finish (cmdOf 0xC06 p)
            (Res.ok ((upTo (wAt p.params 0).toNat).map (fun i => Config.random (u.fresh + i))))
            (u.drawWords (wAt p.params 0).toNat).2))
      ∧ (Runs 0xC06 p s u → u.sec.trngOk = false → exec (.trngRead p) s =
          .next (finish (cmdOf 0xC06 p) (Res.err St.FAULT 4) u))
      ∧ (Runs 0xC07 p s u → exec (.otpRead p) s = .next (finish (cmdOf 0xC07 p) (Res.ok (otpWords u)) u))
      ∧ (Runs 0xE06 p s u → wAt p.params 0 = 3 → exec (.diagRead p) s =
          .next (finish (cmdOf 0xE06 p)
            (Res.ok [u.reg R.TEST_MEM_STATUS, u.reg R.TEST_MEM_ADDR, u.reg R.TEST_MEM_BITS, u.reg R.TEST_EYE_STATUS]) u))
      ∧ (Runs 0xE06 p s u → wAt p.params 0 = 2 → exec (.diagRead p) s =
          .next (finish (cmdOf 0xE06 p)
            (Res.ok ((upTo 48).map (fun x => w32 (u.laneState x + 256 * u.eyeNow x)))) u))
      ∧ (Runs 0xE06 p s u → wAt p.params 0 = 1 → exec (.diagRead p) s =
          .next (finish (cmdOf 0xE06 p)
            (Res.ok ((upTo 16).map (fun i => w32 (Config.freeNat (u.fresh + i) % 65536)))) { u with fresh := u.fresh + 16 }))
      ∧ (Runs 0xE06 p s u → wAt p.params 0 = 0 → exec (.diagRead p) s =
          .next (finish (cmdOf 0xE06 p)
            (Res.ok ((upTo 16).map (fun i => Config.freeWord (u.fresh + i)))) { u with fresh := u.fresh + 16 })))
  ∧ (∀ (p : Packet) (s u : State),
      let i := uIndex p.unit
      let x := (laneNo i).getD 0
      (Runs 0x102 p s u → exec (.laneStatus p) s =
          .next (finish (cmdOf 0x102 p) (Res.ok (u.views [R.LANE_STATUS x, R.LANE_EYE x, R.LANE_DFE_LO x, R.LANE_DFE_HI x,
            R.LANE_RTT x, R.LANE_CNT x])) u))
      ∧ (Runs 0x106 p s u → exec (.partnerInfo p) s =
          .next (finish (cmdOf 0x106 p) (Res.ok (u.reg (R.LINK_PARTNER x) :: u.reg (R.LINK_AUTH x) :: u.identWords x)) u))
      ∧ (Runs 0x206 p s u → exec (.gateStatus p) s =
          .next (finish (cmdOf 0x206 p) (Res.ok (u.views (gateStatusRegs i))) u))
      ∧ (Runs 0x307 p s u → uClass p.unit = 2 → exec (.stallStatus p) s =
          .next (finish (cmdOf 0x307 p)
            (Res.ok [u.stallStatus i, u.stallPc i, (u.stall i).usedCycles, (u.stall i).maxCycles]) u))
      ∧ (Runs 0x307 p s u → uClass p.unit = 3 → exec (.stallStatus p) s =
          .next (finish (cmdOf 0x307 p) (yardStatus i u) u))
      ∧ (Runs 0x308 p s u → exec (.yardQuery p) s = .next (finish (cmdOf 0x308 p) (Res.ok (u.yardQuery i)) u))
      ∧ (Runs 0x403 p s u → exec (.remapStatus p) s =
          .next (finish (cmdOf 0x403 p) (Res.ok (remapStatusWords i u)) u))
      ∧ (Runs 0x508 p s u → exec (.headStatus p) s =
          .next (finish (cmdOf 0x508 p) (Res.ok (u.views (headStatusRegs i))) u))
      ∧ (Runs 0x509 p s u → exec (.witnessStatus p) s =
          .next (finish (cmdOf 0x509 p) (Res.ok (u.views (witnessRegs i))) u))
      ∧ (Runs 0x601 p s u → exec (.codecStatus p) s =
          .next (finish (cmdOf 0x601 p) (Res.ok (u.views (codecStatusRegs i))) u))
      ∧ (Runs 0x705 p s u → exec (.paddockStatus p) s =
          .next (finish (cmdOf 0x705 p) (Res.ok (u.padReport i)) u))
      ∧ (Runs 0x803 p s u → u.tailOut i = false → exec (.dmaStatus p) s =
          .next (finish (cmdOf 0x803 p) (Res.ok (u.dmaWords i)) u))
      ∧ (Runs 0x803 p s u → u.tailOut i = true → exec (.dmaStatus p) s =
          .next (pushSlot (cmdOf 0x803 p) (some (.dmaStatus i)) none u))
      ∧ (Runs 0x901 p s u → exec (.tbRead p) s =
          .next (finish (cmdOf 0x901 p) (Res.ok (u.views [R.TB_NS i, R.TB_S_LO i, R.TB_S_HI i, R.TB_STATUS i, R.TB_RATE i,
            R.TB_OFFSET i, R.TB_GM_LO i, R.TB_GM_HI i])) u))
      ∧ (Runs 0x905 p s u → bits (wAt p.params 0) 1 0 = 0 → exec (.tsRead p) s =
          .next (finish (cmdOf 0x905 p) (Res.ok (u.views [R.PPS_IN_NS, R.PPS_IN_S_LO, R.PPS_IN_INFO])) u))
      ∧ (∀ k, Runs 0x905 p s u → bits (wAt p.params 0) 1 0 = k + 1 → exec (.tsRead p) s =
          .next (finish (cmdOf 0x905 p) (Res.ok (w32 (SMap.get u.clk.txts [] k).length
            :: (SMap.get u.clk.txts [] k).flatMap txWords)) u))
      ∧ (Runs 0xA02 p s u → exec (.twStatus p) s =
          .next (finish (cmdOf 0xA02 p) (Res.ok (u.views (twStatusRegs i))) u))
      ∧ (Runs 0xE01 p s u → exec (.patternCheck p) s =
          .next (finish (cmdOf 0xE01 p)
            (Res.ok [(checkerSample x u).reg (R.TEST_PCHK x), (checkerSample x u).reg (R.TEST_BITS_LO x),
              (checkerSample x u).reg (R.TEST_BITS_HI x), (checkerSample x u).reg (R.TEST_ERRS x),
              (checkerSample x u).reg (R.TEST_CELL x)])
            (if bit (wAt p.params 0) 0 then checkerClear x (checkerSample x u) else checkerSample x u))))
  ∧ (∀ (p : Packet) (s u : State),
      let a := bits (wAt p.params 0) 23 0
      let v := sampleFor a u
      (Runs 0x008 p s u → u.heldChan p.params = none → bit (wAt p.params 0) 24 = true →
        exec (.regRead p) s = .next (finish (cmdOf 0x008 p) (Res.ok [v.view a, v.view (a + 4)]) v))
      ∧ (Runs 0x008 p s u → u.heldChan p.params = none → bit (wAt p.params 0) 24 = false →
          (∀ g ∈ latchGroups, g.first ≠ a ∧ a ∉ g.rest) →
        exec (.regRead p) s = .next (finish (cmdOf 0x008 p) (Res.ok [v.view a]) v))
      ∧ (∀ g ∈ latchGroups, g.first = a → Runs 0x008 p s u → bit (wAt p.params 0) 24 = false →
        exec (.regRead p) s = .next (finish (cmdOf 0x008 p) (Res.ok [v.view a])
          { v with latches := SMap.put v.latches [] (64 * srcPath p.src + g.no) (v.views g.rest) }))
      ∧ (∀ g ∈ latchGroups, a ∈ g.rest → Runs 0x008 p s u → bit (wAt p.params 0) 24 = false →
        exec (.regRead p) s = .next (finish (cmdOf 0x008 p)
          (Res.ok [wAt (SMap.get v.latches [] (64 * srcPath p.src + g.no)) (g.rest.idxOf a)]) v))
      ∧ (∀ k, Runs 0x008 p s u → u.heldChan p.params = some k →
        exec (.regRead p) s = .next (pushSlot (cmdOf 0x008 p) (some (.dmaRead k)) none u)))

/-- SEAL of an empty set answers OK with detail 1 and records RESULT 3; of a set that passes the check it applies the
whole set; of one that fails it applies nothing and answers CHECK with the reason of Table TK-2 (R61, R65, R101). SAFE_EXIT
with no SAFE condition standing stops the ticks, closes an open seal window and goes to CONFIG, and answers FAULT 8 while one
stands (R501); RESET answers and starts the hub again (R468).
SLEEP_ENTER LEAVE_IDLE and IDLE act at once and answer PWR_ENTRY and the tick; HOLD, STOW and OFF begin a sleep
entry: the hub is in HOLD_ENTRY or STOW_ENTRY, nothing is staged, and the reply waits for the entry's end (R444, R445,
R449, Table PW-8). -/
def Obligations.SealsResetsAndSleepEntersAct : Prop :=
  (∀ (p : Packet) (s u : State),
      let v := comingReady (idleEnd u)
      let es := v.groom.staging.fill
      let t := { v with groom := { v.groom with staging := { v.groom.staging with fill := [] } } }
      (Runs 0x003 p s u → es = [] → exec (.seal p) s =
          .next (finish (cmdOf 0x003 p) ⟨St.OK, 1, [], false, none⟩ (noteSeal 3 0 0 t.tickLo t)))
      ∧ (Runs 0x003 p s u → es ≠ [] → verdict t es = .pass → exec (.seal p) s = .next (finish (cmdOf 0x003 p) (Res.ok [])
          (afterCommit ((noteSeal 1 0 es.length t.tickLo (commitSet es t)).raise Ev.COMMIT_DONE 0 0))))
      ∧ (∀ r tag unit, Runs 0x003 p s u → es ≠ [] → verdict t es = .fail r tag unit → exec (.seal p) s =
          .next (finish (cmdOf 0x003 p) (Res.err St.CHECK r)
            (((noteSeal 2 r es.length t.tickLo t).setReg R.COMMIT_FAIL_SRC (w32 (tag.toNat + 65536 * unit.toNat))).raise
              Ev.COMMIT_FAIL 0 0)))
      ∧ (Runs 0x00B p s u → u.ev.critHot = false → u.ev.trngBoot = false → exec (.safeExit p) s =
          .next (finish (cmdOf 0x00B p) (Res.ok []) ((closeWindow
            { u.setFlag R.TICK_CTRL F.TICK_CTRL_RUN false with tg := { u.tg with running := false } }).goTo .config 0x800B)))
      ∧ (Runs 0x00B p s u → u.ev.critHot = true ∨ u.ev.trngBoot = true → exec (.safeExit p) s =
          .next (finish (cmdOf 0x00B p) (Res.err St.FAULT 8) u))
      ∧ (Runs 0x00C p s u → exec (.reset p) s = .next (reset (finish (cmdOf 0x00C p) (Res.ok []) u))))
  ∧ (∀ (p : Packet) (s u : State),
      (Runs 0xB02 (kindPacket p 2 0 0) s u → exec (.sleepEnterLeaveIdle p) s =
          .next (finish (cmdOf 0xB02 (kindPacket p 2 0 0)) (Res.ok [(idleEnd u).view R.PWR_ENTRY, (idleEnd u).tickLo]) (idleEnd u)))
      ∧ (p.params ≠ [] → Runs 0xB02 (kindPacket p 2 0 1) s u → exec (.sleepEnterIdle p) s =
          .next (finish (cmdOf 0xB02 (kindPacket p 2 0 1)) (Res.ok [(idleBegin u).view R.PWR_ENTRY, (idleBegin u).tickLo])
            (idleBegin u)))
      ∧ (p.params ≠ [] → Runs 0xB02 (kindPacket p 2 0 2) s u → exec (.sleepEnterHold p) s =
          .next (entryGo (entryBegin .hold (bit (wAt (kindPacket p 2 0 2).params 0) 8)
            (pushSlot (cmdOf 0xB02 (kindPacket p 2 0 2)) (some .sleepEnter) none u))))
      ∧ (p.params ≠ [] → Runs 0xB02 (kindPacket p 2 0 3) s u → exec (.sleepEnterStow p) s =
          .next (entryGo (entryBegin .stow (bit (wAt (kindPacket p 2 0 3).params 0) 8)
            (pushSlot (cmdOf 0xB02 (kindPacket p 2 0 3)) (some .sleepEnter) none u))))
      ∧ (p.params ≠ [] → Runs 0xB02 (kindPacket p 2 0 4) s u → exec (.sleepEnterOff p) s =
          .next (entryGo (entryBegin .off (bit (wAt (kindPacket p 2 0 4).params 0) 8)
            (pushSlot (cmdOf 0xB02 (kindPacket p 2 0 4)) (some .sleepEnter) none u)))))

/-- ABORT_SEAL discards the set being filled and replies OK while no seal window is open; inside one it replies DEFERRED
and discards only the entries accepted since the window opened; a frozen set, the future entries and everything else stay
(R62). -/
def Obligations.AbortSealDiscardsTheSet : Prop :=
  ∀ (p : Packet) (s u : State),
    (Runs 0x004 p s u → u.groom.staging.frozen = none → exec (.abortSeal p) s =
        .next (finish (cmdOf 0x004 p) (Res.ok [])
          { u with groom := { u.groom with staging := { u.groom.staging with fill := [] } } }))
    ∧ (Runs 0x004 p s u → u.groom.staging.frozen ≠ none → exec (.abortSeal p) s =
        .next (finish (cmdOf 0x004 p) ⟨St.DEFERRED, 0, [], false, some (w32 (u.tg.count.toNat + 2))⟩
          { u with groom := { u.groom with staging :=
            { u.groom.staging with fill := u.groom.staging.fill.filter (fun e => !e.inWindow) } } }))

/-- REG_WRITE without STAGE writes registers without ST fields at once; ST registers that it names join the set being
filled as one entry, and where that set is full it answers BUSY and writes nothing (R52, R54, R538). EVENT_ROUTE writes the
routes of COUNT sources from FIRST on (R505), WAKE_SET writes the six wake registers (Table PW-8), TWT_SET the address and
ATTN_OUT (R430), PAD_RELEASE releases the pads named, or answers STATE 2 while a domain that owns one is on and not ready
(R451), GATE_FLUSH flushes the contexts named that are not free (R192).
An immediate LANE_STATE, LINK_GPIO, TB_SET, PPS_SET or TW_SET makes the setting of its staged form at once and the
units follow it (R128, R163, R393, R438); TB_ADJUST schedules a step to the value asked for, to apply at the next tick
(R397, R398). -/
def Obligations.ImmediateCommandsActAtOnce : Prop :=
  (∀ (p : Packet) (s u : State),
      let q := p.params
      let ws := (regAddrs q).zip (q.drop 1)
      (Runs 0x009 p s u → (∀ a ∈ regAddrs q, isST a = false) → exec (.regWrite p) s =
          .next (finish (cmdOf 0x009 p) (Res.ok []) (ws.foldl (fun t e => writeReg e.1 e.2 t) u)))
      ∧ (Runs 0x009 p s u → (∃ a ∈ regAddrs q, isST a = true) → u.groom.staging.fill.length < 4096 → ∃ t t',
          t = addEntry (.fill u.winOpen u.fillTick)
            ⟨0xFFFF, BitVec.ofNat 16 (bits (wAt q 0) 23 0 / 0x10000), .regs (ws.filter (fun e => isST e.1)), u.winOpen⟩ u
          ∧ t' = (if u.winOpen then t.incWrap R.DEFER_COUNT F.DEFER_COUNT_WRITES 1 else t)
          ∧ exec (.regWrite p) s = .next (finish (cmdOf 0x009 p) (joinRes (.fill u.winOpen u.fillTick))
            (ws.foldl (fun t e => writeReg e.1 e.2 t) t')))
      ∧ (Runs 0x009 p s u → (∃ a ∈ regAddrs q, isST a = true) → 4096 ≤ u.groom.staging.fill.length → exec (.regWrite p) s =
          .next (finish (cmdOf 0x009 p) (Res.err St.BUSY 1) u))
      ∧ (Runs 0x006 p s u → exec (.eventRoute p) s =
          .next (finish (cmdOf 0x006 p) (Res.ok [])
            ((upTo (q.length - 1)).foldl (fun t i => writeEvCtrl (bits (wAt q 0) 7 0 + i) (wAt q (1 + i)) t) u)))
      ∧ (Runs 0xB04 p s u → exec (.wakeSet p) s =
          .next (finish (cmdOf 0xB04 p) (Res.ok [])
            (([R.PWR_WAKE, R.PWR_WAKE_RX, R.PWR_WAKE_TX, R.PWR_RTC_ALARM_LO, R.PWR_RTC_ALARM_HI, R.PWR_RESUME_CTRL].zip q).foldl
              (fun t e => writeReg e.1 e.2 t) u)))
      ∧ (Runs 0xA03 p s u → ∃ t, t = (u.setFld R.TWT_CTRL F.TWT_CTRL_ADDR (bits (wAt q 0) 6 0)).setFlag R.TWT_CTRL
            F.TWT_CTRL_ATTN_OUT (bit (wAt q 0) 8)
          ∧ exec (.twtSet p) s = .next (finish (cmdOf 0xA03 p) (Res.ok [t.view R.TWT_CTRL]) t))
      ∧ (Runs 0xB03 p s u → (∀ d ∈ (onesOf (bits (wAt q 0) 7 0) 8).flatMap padOwners, u.domainOn d = true →
            u.domainReady d = true) → ∃ t, t = releasePads (bits (wAt q 0) 7 0) u
          ∧ exec (.padRelease p) s = .next (finish (cmdOf 0xB03 p) (Res.ok [t.view R.PWR_PADS]) t))
      ∧ (Runs 0xB03 p s u → (∃ d ∈ (onesOf (bits (wAt q 0) 7 0) 8).flatMap padOwners, u.domainOn d = true
          ∧ u.domainReady d = false) → exec (.padRelease p) s = .next (finish (cmdOf 0xB03 p) (Res.err St.STATE 2) u))
      ∧ (Runs 0x207 p s u → ∃ cs, cs = (onesOf (bits (wAt q 0) 15 0) 16).filter
            (fun c => u.ctxState (uIndex p.unit) c ≠ Gs.free)
          ∧ exec (.gateFlush p) s = .next (finish (cmdOf 0x207 p) (Res.ok [w32 (maskOf cs)])
            (cs.foldl (fun t c => flushCtx (uIndex p.unit) c t) u))))
  ∧ (∀ (p : Packet) (s u : State),
      let q := p.params
      let i := uIndex p.unit
      let x := (laneNo i).getD 0
      (Runs 0x101 p s u → exec (.laneState p) s =
          .next (finish (cmdOf 0x101 p) (Res.ok []) (reactLane u x (u.putSTs (laneTargetRegs x q u)))))
      ∧ (Runs 0x109 p s u → ∃ t, t = (u.setFld (R.LINK_GPIO x) F.LINK_GPIO_OUT (bits (wAt q 0) 7 0)).setFld (R.LINK_GPIO x)
            F.LINK_GPIO_MASK (bits (wAt q 0) 15 8)
          ∧ exec (.linkGpio p) s = .next (finish (cmdOf 0x109 p) (Res.ok [t.view (R.LINK_GPIO x)]) t))
      ∧ (Runs 0x900 p s u → exec (.tbSet p) s =
          .next (finish (cmdOf 0x900 p) (Res.ok []) (reactTime u (u.putSTs (tbSetRegs i q)))))
      ∧ (Runs 0x904 p s u → exec (.ppsSet p) s =
          .next (finish (cmdOf 0x904 p) (Res.ok []) (reactTime u (u.putSTs (ppsSetRegs q)))))
      ∧ (Runs 0xA00 p s u → exec (.twSet p) s =
          .next (finish (cmdOf 0xA00 p) (Res.ok []) (reactTw u (u.putSTs (twSetRegs i q)))))
      ∧ (∀ k v, (k = 0 ∨ k = 1) → Runs 0x902 (kindPacket p 1 0 k) s u → adjustTarget i (kindPacket p 1 0 k).params u = some v →
          ∃ t, t = (u.setTb i { u.tb i with step := some (v - u.tbFine i) }).setFlag (R.TB_STATUS i) F.TB_STATUS_STEP_PEND true
          ∧ exec (if k = 0 then .tbAdjustSet p else .tbAdjustOffset p) s =
            .next (finish (cmdOf 0x902 (kindPacket p 1 0 k))
              (Res.ok [t.view (R.TB_STATUS i), if t.tg.running then t.tickLo + 1 else t.tickLo]) t)))

/-- Commands that start work answer when it ends: until then their reply waits, and the work is in the state (R105,
R152, R159, R164, R267, R384, R420, R514, R516). Work of the same kind that already runs answers BUSY 3, a lane that is not
up answers at once with what its registers hold, and a test of a unit in use answers STATE (R164, R507, R514, R516).
Paddock marks are set on the slot that holds the sequence number, or on the newest, and cleared one or all; a number
that no slot holds answers RANGE 1 (R319). A DMA_START of an idle channel queues it, of a parked one lets it go on, and
otherwise does nothing (R378). Tests set their registers; a lane that does not allow them answers STATE (R509, R512,
R513). -/
def Obligations.WorkCommandsStartTheirWork : Prop :=
  (∀ (p : Packet) (s u : State),
      let q := p.params
      let i := uIndex p.unit
      let x := (laneNo i).getD 0
      (Runs 0x105 p s u → u.laneUp x = true → (u.link x).discover = false → exec (.discover p) s =
          .next (pushSlot (cmdOf 0x105 p) (some (.discover x)) none
            (callLane x (u.setLink x { u.link x with discover := true }))))
      ∧ (Runs 0x105 p s u → u.laneUp x = true → (u.link x).discover = true → exec (.discover p) s =
          .next (finish (cmdOf 0x105 p) (Res.err St.BUSY 3) u))
      ∧ (Runs 0x105 p s u → u.laneUp x = false → exec (.discover p) s =
          .next (finish (cmdOf 0x105 p) (Res.ok [u.reg (R.LINK_PARTNER x)]) u))
      ∧ (Runs 0x108 p s u → u.laneUp x = true → (u.link x).cal = none → exec (.triggerCal p) s =
          .next (pushSlot (cmdOf 0x108 p) (some (.triggerCal x)) none (calSend x ((wAt q 0).toNat - 1) [] true u)))
      ∧ (∀ c, Runs 0x108 p s u → u.laneUp x = true → (u.link x).cal = some c → exec (.triggerCal p) s =
          .next (if c.forCmd then finish (cmdOf 0x108 p) (Res.err St.BUSY 3) u
            else pushSlot (cmdOf 0x108 p) (some (.triggerCal x)) none (calSend x ((wAt q 0).toNat - 1) [] true (calDone x c u))))
      ∧ (Runs 0x108 p s u → u.laneUp x = false → exec (.triggerCal p) s =
          .next (finish (cmdOf 0x108 p) (Res.ok [0xFFFFFFFF, 0xFFFFFFFF]) u))
      ∧ (∀ l, Runs 0xC03 p s u → authLane (wAt q 0) = some l → u.laneUp l = true → u.partnerKnown l = true →
          u.partnerCap l 0 = true → (u.link l).auth = none → exec (.cameraAuth p) s =
          .next (pushSlot (cmdOf 0xC03 p) (some (.cameraAuth l)) none (authStart l true u)))
      ∧ (∀ l a, Runs 0xC03 p s u → authLane (wAt q 0) = some l → u.laneUp l = true → u.partnerKnown l = true →
          u.partnerCap l 0 = true → (u.link l).auth = some a → exec (.cameraAuth p) s =
          .next (if a.forCmd then finish (cmdOf 0xC03 p) (Res.err St.BUSY 3) u
            else pushSlot (cmdOf 0xC03 p) (some (.cameraAuth l)) none
              (u.setLink l { u.link l with auth := some { a with forCmd := true } })))
      ∧ (∀ l, Runs 0xC03 p s u → authLane (wAt q 0) = some l →
          u.laneUp l = false ∨ u.partnerKnown l = false ∨ u.partnerCap l 0 = false → exec (.cameraAuth p) s =
          .next (finish (cmdOf 0xC03 p) (Res.ok [if u.laneUp l then u.reg (R.LINK_AUTH l)
            else F.LINK_AUTH_RESULT.put 0 (u.reg (R.LINK_AUTH l))]) u))
      ∧ (Runs 0x400 p s u → exec (.meshLoad p) s =
          .next (pushSlot (cmdOf 0x400 p) (some (.meshLoad (bits (wAt q 0) 5 0))) none (meshLoadStart q none u)))
      ∧ (Runs 0x802 p s u → u.dmaState i = Ds.RUNNING → exec (.dmaAbort p) s =
          .next (pushSlot (cmdOf 0x802 p) (some (.dmaAbort i)) none (if (u.chan i).phase = .readback 3 then u
            else (u.setDmaState i Ds.ABORTING).setChan i { u.chan i with phase := .abortBurst })))
      ∧ (Runs 0x802 p s u → u.dmaState i = Ds.ABORTING → exec (.dmaAbort p) s =
          .next (pushSlot (cmdOf 0x802 p) (some (.dmaAbort i)) none u))
      ∧ (Runs 0x802 p s u → u.dmaState i = Ds.PARKED ∨ u.dmaState i = Ds.QUEUED → ∃ v r t,
          v = (if u.dmaState i = Ds.QUEUED then setDmaQueue (i / 4) ((u.dmaQueue (i / 4)).filter (· ≠ i)) u else u)
          ∧ r = (if u.dmaState i = Ds.QUEUED ∧ (u.chan i).resume = true then
              (match (u.chan i).desc with | some d => d.total | none => 0) else 0)
          ∧ t = dmaAborted i (w32 r) (v.setChan i { u.chan i with
              kept := [u.reg (R.DMA_CTRL i), u.reg (R.DMA_DBASE_HI i), u.reg (R.DMA_WB_LO i), u.reg (R.DMA_WB_HI i)] })
          ∧ exec (.dmaAbort p) s =
            .next (finish (cmdOf 0x802 p) (Res.ok [t.view (R.DMA_STATUS i), t.view (R.DMA_RESIDUE i)]) t))
      ∧ (Runs 0x802 p s u → u.dmaState i = Ds.OFF ∨ u.dmaState i = Ds.IDLE → exec (.dmaAbort p) s =
          .next (finish (cmdOf 0x802 p) (Res.ok [u.view (R.DMA_STATUS i), u.view (R.DMA_RESIDUE i)]) u))
      ∧ (∀ k, Runs 0xA01 p s u → twCtlOf i = some k → 8 ≤ (u.twc k).queue.length → exec (.twXfer p) s =
          .next (finish (cmdOf 0xA01 p) (Res.err St.BUSY 3) u))
      ∧ (∀ k, Runs 0xA01 p s u → twCtlOf i = some k → (u.twc k).queue.length < 8 →
          let result := if k < 32 then (if u.flag (R.TWC_CTRL k) F.TWC_CTRL_EN = false then Tw.DISABLED
              else if (u.twc k).stuck then Tw.BUS_STUCK else 0)
            else if (u.twc k).queue.isEmpty ∧ u.tunnelOk (k - 32) = false then Tw.NO_PARTNER else 0
          let queued := twShow k (u.setTwc k { u.twc k with serial := (u.twc k).serial + 1, queue := (u.twc k).queue
              ++ [⟨(u.twc k).serial, bits (wAt q 0) 6 0, bits (wAt q 0) 9 8,
                  (wordsBytes (q.drop 2)).take (bits (wAt q 0) 23 16), bits (wAt q 1) 7 0, 0⟩] })
          exec (.twXfer p) s = .next (if result ≠ 0 then finish (cmdOf 0xA01 p) (Res.ok (twPayload result 0 0 [] 0)) (twCount k result u)
            else pushSlot (cmdOf 0xA01 p) (some (.twXfer k (u.twc k).serial)) none
              (if 32 ≤ k ∧ (u.twc k).queue.isEmpty then tunnelSend (k - 32) queued else queued)))
      ∧ (Runs 0xE03 p s u → u.test.eye = none → u.laneIn x [Ls.up, Ls.doze, Ls.test] = true → ∃ v,
          v = (if u.measuresEye x then keepEye x u else u)
          ∧ exec (.eyeScan p) s = .next (pushSlot (cmdOf 0xE03 p) (some .eyeScan) none
            (({ v with test := { v.test with eye := some ⟨x, 64 / 2 ^ bits (wAt q 0) 9 8, 64 / 2 ^ bits (wAt q 0) 11 10,
                bits (wAt q 0) 4 0, u.eyeNow x⟩ } }).setReg R.TEST_EYE_STATUS (w32 (1 + 4 * x)))))
      ∧ (Runs 0xE03 p s u → u.test.eye ≠ none ∨ u.laneIn x [Ls.up, Ls.doze, Ls.test] = false → exec (.eyeScan p) s =
          .next (finish (cmdOf 0xE03 p) (if u.test.eye ≠ none then Res.err St.BUSY 3 else Res.err St.STATE 0) u))
      ∧ (∀ k, (k = 0 ∨ k = 1) → Runs 0xE05 (kindPacket p 0 0 k) s u →
          let live := if i < 0x210 then u.sliceLive (i - 0x200) else if i < 0x220 then u.shedLive (i - 0x210)
            else u.storeLive ((wAt (kindPacket p 0 0 k).params 1).toNat * 4096)
              ((wAt (kindPacket p 0 0 k).params 2).toNat * 4096)
          exec (if k = 0 then .memtestMarch p else .memtestRead p) s = .next (
            if u.test.mem ≠ none then finish (cmdOf 0xE05 (kindPacket p 0 0 k)) (Res.err St.BUSY 3) u
            else if live then finish (cmdOf 0xE05 (kindPacket p 0 0 k)) (Res.err St.STATE 0) u
            else pushSlot (cmdOf 0xE05 (kindPacket p 0 0 k)) (some .memtest) none
            ((((({ u with test := { u.test with mem := some ⟨i, bits (wAt (kindPacket p 0 0 k).params 0) 0 0,
                (wAt (kindPacket p 0 0 k).params 1).toNat * 4096, (wAt (kindPacket p 0 0 k).params 2).toNat * 4096⟩ } }).setReg
              R.TEST_MEM_STATUS (w32 (1 + 65536 * p.unit.toNat))).setReg R.TEST_MEM_ADDR 0).setReg R.TEST_MEM_BITS 0).setReg
              R.TEST_MEM_COUNT 0))))
  ∧ (∀ (p : Packet) (s u : State),
      let q := p.params
      let i := uIndex p.unit
      let x := (laneNo i).getD 0
      (∀ pad n, Runs 0x703 p s u → u.pad? i = some pad → n = (if wAt q 1 = 0xFFFFFFFF then pad.newest else wAt q 1) →
          exec (.markSet p) s = .next (match pad.slotOf n with
            | some _ => finish (cmdOf 0x703 p) (Res.ok [n])
              (u.setPad i { pad with marks := SMap.put pad.marks none (bits (wAt q 0) 1 0) (some ⟨n, false⟩) })
            | none => finish (cmdOf 0x703 p) (Res.err St.RANGE 1) u))
      ∧ (∀ pad, Runs 0x704 p s u → u.pad? i = some pad → exec (.markClear p) s =
          .next (finish (cmdOf 0x704 p) (Res.ok []) (u.setPad i { pad with
            marks := (if wAt q 0 = 0xFF then [] else SMap.put pad.marks none (bits (wAt q 0) 1 0) none) })))
      ∧ (Runs 0x703 p s u → u.pad? i = none → exec (.markSet p) s = .next (finish (cmdOf 0x703 p) (Res.err St.RANGE 1) u))
      ∧ (Runs 0x704 p s u → u.pad? i = none → exec (.markClear p) s = .next (finish (cmdOf 0x704 p) (Res.ok []) u))
      ∧ (Runs 0x801 p s u → ∃ t, t = (if u.dmaState i = Ds.IDLE then dmaQueueUp i false u
            else if u.dmaState i = Ds.PARKED then dmaQueueUp i true u else u)
          ∧ exec (.dmaStart p) s = .next (finish (cmdOf 0x801 p) (Res.ok [t.view (R.DMA_STATUS i)]) t))
      ∧ (Runs 0xE00 p s u → ∃ t, t = (setChecker x (F.TEST_PCHK_PAT.get (wAt q 1))
            (if 32 ≤ x then u.setReg (R.TEST_PGEN x) (wAt q 0 &&& 0xF) else u))
          ∧ exec (.patternSet p) s = .next (finish (cmdOf 0xE00 p) (Res.ok [])
            ((((if bit (wAt q 1) 6 then checkerClear x t else t)).setReg (R.TEST_USER_LO x) (wAt q 2)).setReg (R.TEST_USER_HI x)
              (wAt q 3))))
      ∧ (Runs 0xE02 (kindPacket p 1 0 0) s u → ∃ t, t = u.setFld (R.TEST_LOOP x) F.TEST_LOOP_KIND 0
          ∧ exec (.loopbackOff p) s = .next (finish (cmdOf 0xE02 (kindPacket p 1 0 0)) (Res.ok [t.reg (R.TEST_LOOP x)]) t))
      ∧ (∀ k, (k = 1 ∨ k = 2) → q ≠ [] → Runs 0xE02 (kindPacket p 1 0 k) s u → u.laneIn x [Ls.test] = true →
          u.laneIn (2 * (x - 32)) [Ls.test] = true → u.laneBound x = false → u.laneBound (2 * (x - 32)) = false →
          ∃ t, t = u.setFld (R.TEST_LOOP x) F.TEST_LOOP_KIND k
          ∧ exec (if k = 1 then .loopbackSerial p else .loopbackDigital p) s =
            .next (finish (cmdOf 0xE02 (kindPacket p 1 0 k)) (Res.ok [t.reg (R.TEST_LOOP x)]) t))
      ∧ (∀ k, (k = 1 ∨ k = 2) → q ≠ [] → Runs 0xE02 (kindPacket p 1 0 k) s u →
          u.laneIn x [Ls.test] = false ∨ u.laneIn (2 * (x - 32)) [Ls.test] = false ∨ u.laneBound x = true
            ∨ u.laneBound (2 * (x - 32)) = true →
          exec (if k = 1 then .loopbackSerial p else .loopbackDigital p) s =
            .next (finish (cmdOf 0xE02 (kindPacket p 1 0 k)) (Res.err St.STATE 0) u))
      ∧ (Runs 0xE04 (kindPacket p 1 0 0) s u → u.laneWitnessed x = false → ∃ t, t = injectStop x u
          ∧ exec (.errInjectStop p) s = .next (finish (cmdOf 0xE04 (kindPacket p 1 0 0)) (Res.ok [t.reg (R.TEST_INJ x)]) t))
      ∧ (∀ (k : Nat) (left : Option Nat), (k = 1 ∧ left = some 1
            ∨ k = 2 ∧ left = (if (wAt q 1).toNat = 0 then none else some (wAt q 1).toNat)
            ∨ k = 3 ∧ left = some (bits (wAt (kindPacket p 1 0 k).params 0) 23 16)) → q ≠ [] →
          Runs 0xE04 (kindPacket p 1 0 k) s u → u.laneWitnessed x = false →
          ∃ e t, e = bits (wAt (kindPacket p 1 0 k).params 0) 13 8
          ∧ t = ({ u with test := { u.test with inj := SMap.put u.test.inj none x (some
              ⟨k, left, e, if k = 2 then 2 ^ e - 1 else 0, 0⟩) } }).setReg (R.TEST_INJ x) (w32 (k + 4))
          ∧ exec (if k = 1 then .errInjectSingle p else if k = 2 then .errInjectRate p else .errInjectBurst p) s =
            .next (finish (cmdOf 0xE04 (kindPacket p 1 0 k)) (Res.ok [t.reg (R.TEST_INJ x)]) t))
      ∧ (∀ k, k < 4 → Runs 0xE04 (kindPacket p 1 0 k) s u → u.laneWitnessed x = true →
          exec (if k = 0 then .errInjectStop p else if k = 1 then .errInjectSingle p else if k = 2 then .errInjectRate p
            else .errInjectBurst p) s = .next (finish (cmdOf 0xE04 (kindPacket p 1 0 k)) (Res.err St.STATE 0) u)))

/-- Credentials: step A of CRED_OPEN answers a nonce for the source that is good for 10 s (R474), CRED_CLOSE ends a
handle of its source (R475), KEY_REVOKE answers with the OTP it leaves (R473), DEBUG_UNLOCK opens scopes and says so
(R479). Without random numbers step A answers FAULT 4 (R478), a KEY_REVOKE that would leave no signer RANGE, DEBUG_UNLOCK
of a part with DEBUG_DISABLE AUTH 4, and CONFIG_SAVE of a part without ALLOW_DEVSIG AUTH 4. Step B of CRED_OPEN, FW_LOAD and CONFIG_SAVE turn on a signature, which is free (log entry 2): they use up the
nonce, start the image or write it where it verifies, and answer why not where it does not (R474, R484, R485). -/
def Obligations.SecurityCommandsAct : Prop :=
  ∀ (p : Packet) (s u : State),
    let q := p.params
    (∀ ws t, Runs 0xC00 (kindPacket p 0 0 0) s u → u.sec.trngOk = true → u.drawWords 8 = (ws, t) →
        exec (.credOpenStepA p) s = .next (finish (cmdOf 0xC00 (kindPacket p 0 0 0)) (Res.ok ws)
          { t with sec := { t.sec with
            nonces := t.sec.nonces.filter (fun e => e.1 ≠ p.src) ++ [(p.src, ws, t.rtcNow + 10 * 32768)] } }))
    ∧ (Runs 0xC00 (kindPacket p 0 0 0) s u → u.sec.trngOk = false → exec (.credOpenStepA p) s =
        .next (finish (cmdOf 0xC00 (kindPacket p 0 0 0)) (Res.err St.FAULT 4) u))
    ∧ (q ≠ [] → Runs 0xC00 (kindPacket p 0 0 1) s u → ∃ r t, credOpenB p.src (kindPacket p 0 0 1).params u = (.now r, t)
        ∧ (r.status = St.OK → ∃ h, h ≠ 0 ∧ (∃ k ∈ t.sec.creds, k.handle = h ∧ k.src = p.src)
            ∧ (∀ e ∈ t.sec.nonces, e.1 ≠ p.src))
        ∧ exec (.credOpenStepB p) s = .next (finish (cmdOf 0xC00 (kindPacket p 0 0 1)) r t))
    ∧ (Runs 0xC01 p s u → exec (.credClose p) s = .next (finish (cmdOf 0xC01 p) (Res.ok [])
        { u with sec := { u.sec with
          creds := u.sec.creds.filter (fun k => !decide (k.handle = wAt q 0 ∧ k.src = p.src)) } }))
    ∧ (∀ k o, k < 3 → q ≠ [] → Runs 0xC04 (kindPacket p 1 0 k) s u → revoked (kindPacket p 1 0 k).params u = some o →
        ∃ key t, key = (if k = 0 then (wAt (kindPacket p 1 0 k).params 1).toNat else 0)
        ∧ t = (if k = 2 then { u with sec := { u.sec with otp := o } } else
            closeCreds key { u with sec := { u.sec with otp := o, cache := u.sec.cache.filter (fun e => e.key ≠ key) } })
        ∧ exec (if k = 0 then .keyRevokeOwner p else if k = 1 then .keyRevokeVendor p else .keyRevokeSvn p) s =
          .next (finish (cmdOf 0xC04 (kindPacket p 1 0 k)) (Res.ok [t.secKeys, t.secSvn]) t))
    ∧ (∀ k, k < 3 → q ≠ [] → Runs 0xC04 (kindPacket p 1 0 k) s u → revoked (kindPacket p 1 0 k).params u = none →
        exec (if k = 0 then .keyRevokeOwner p else if k = 1 then .keyRevokeVendor p else .keyRevokeSvn p) s =
          .next (finish (cmdOf 0xC04 (kindPacket p 1 0 k)) (Res.err St.RANGE 0) u))
    ∧ (Runs 0xC05 p s u → u.sec.otp.debugDisable = true → exec (.debugUnlock p) s =
        .next (finish (cmdOf 0xC05 p) (Res.err St.AUTH 4) u))
    ∧ (Runs 0xC05 p s u → u.sec.otp.debugDisable = false → ∃ t, t = ({ u with sec := { u.sec with
            debugScopes := u.sec.debugScopes ||| BitVec.ofNat 3 (bits (wAt q 0) 2 0) } }).raise Ev.DEBUG_UNLOCKED 0 0
        ∧ exec (.debugUnlock p) s = .next (finish (cmdOf 0xC05 p) (Res.ok [t.secStatus]) t))
    ∧ (∀ i f v, Runs 0xC08 p s u → u.sec.flashJobs.any (fun j => j.kind = 2) = false →
        verifyImg [1] false (.heap (wAt q 0).toNat (wAt q 1).toNat) u = (i, f, v) → exec (.fwLoad p) s =
        .next (match f with
          | some _ => finish (cmdOf 0xC08 p) (Res.err St.CHECK 9) v
          | none =>
            if v.dstate = .standalone then afterwards (cmdOf 0xC08 p) true (finish (cmdOf 0xC08 p) (Res.ok []) v)
            else pushSlot (cmdOf 0xC08 p) (some .flashFw) none { v with sec := { v.sec with flashJobs := v.sec.flashJobs
              ++ [⟨⟨1, v.otherSlot 1 (match v.sec.fw with | some (_, _, _, d) => d | none => 0), i.whole⟩, false, 2,
                i.payload.length⟩] } }))
    ∧ (Runs 0xC08 p s u → u.sec.flashJobs.any (fun j => j.kind = 2) = true → exec (.fwLoad p) s =
        .next (finish (cmdOf 0xC08 p) (Res.err St.BUSY 3) u))
    ∧ (Runs 0x00E p s u → u.sec.otp.allowDevsig = false → exec (.configSave p) s =
        .next (finish (cmdOf 0x00E p) (Res.err St.AUTH 4) u))
    ∧ (∀ d, Runs 0x00E p s u → u.sec.otp.allowDevsig = true → configSave.verifySlot0 u = some d →
        u.sec.flashJobs.any (fun j => j.kind = 1) = true → exec (.configSave p) s =
        .next (finish (cmdOf 0x00E p) (Res.err St.BUSY 3) u))
    ∧ (Runs 0x00E p s u → u.sec.otp.allowDevsig = true → u.sec.flashJobs.any (fun j => j.kind = 1) = false →
        exec (.configSave p) s = .next (match configSave.verifySlot0 u with
          | none => finish (cmdOf 0x00E p) (Res.err St.ABSENT 0) u
          | some _ => pushSlot (cmdOf 0x00E p) (some .flashSave) none (configSave u).2))

/-- A staged command that passes its checks joins the set its APPLY_TICK names as one entry, and answers STAGED, or
DEFERRED while a seal window is open, with the tick (R51, R53, R57, Table CM-3). A yard's entry answers its fan-out word
as well (R102), LOAD_KERNEL's keeps the version found at receipt (R218), and a staged REG_WRITE is an entry of register
writes (R52). A staged MESH_LOAD joins its set too; its mesh is copied from receipt on, and its reply, with the same status
and tick, waits for the copy's end (R267).
CONFIG_LOAD joins the set as an entry of its image where the image verifies, and answers type and version; where it
does not it answers RANGE or CHECK with detail 9 and stages nothing (R483). Whether it verifies turns on the signature
functions, which are free (log entry 2). -/
def Obligations.StagedCommandsJoinTheirSet : Prop :=
  ((∀ (c : Instr) (op : Nat) (p : Packet) (s u : State), stagedRow c = some (op, p) → op ≠ 0x400 → Stages op p s u →
      exec c s = .next (finish (cmdOf op p)
        { joinRes (u.joinOf p.applyTick) with
          payload := if fansOut op p.unit then [fanWord (reach (planYards u []) yardFuel [p.unit]) none] else []
          fanout := fansOut op p.unit }
        (addEntry (u.joinOf p.applyTick)
          ⟨p.tag, p.unit, if op = 9 then .regs ((regAddrs p.params).zip (p.params.drop 1))
            else .cmd (BitVec.ofNat 16 op) p.unit (entryParams op p.params u), false⟩ u)))
    ∧ (∀ (p : Packet) (s u : State), Stages 0x400 p s u → ∃ r t, r = joinRes (u.joinOf p.applyTick)
        ∧ t = addEntry (u.joinOf p.applyTick) ⟨p.tag, p.unit, .cmd 0x400 p.unit p.params, false⟩ u
        ∧ exec (.meshLoad p) s = .next (pushSlot (cmdOf 0x400 p) (some (.meshLoad (bits (wAt p.params 0) 5 0))) none
          (meshLoadStart p.params (some (r.status, r.tick.getD t.tickLo)) t))))
  ∧ (∀ (p : Packet) (s u v : State) (bad : Option (Nat × Nat)) (img : Option StagedImage),
      Stages 0x00D p s u → loadImage p.params u = (bad, img, v) →
      exec (.configLoad p) s = .next (match bad, img with
        | some (st, d), _ => finish (cmdOf 0x00D p) (Res.err st d) v
        | none, none => finish (cmdOf 0x00D p) (Res.err St.CHECK 9) v
        | none, some i =>
          match limitChk (cmdOf 0x00D p) none v with
          | some (st, d) => finish (cmdOf 0x00D p) (Res.err st d) v
          | none => finish (cmdOf 0x00D p) { joinRes (v.joinOf p.applyTick) with payload := [w32 i.type, i.imageVer] }
              (addEntry (v.joinOf p.applyTick) ⟨p.tag, p.unit, .image i, false⟩ v)))

/-- A command whose opcode Table CM-9 does not list answers UNKNOWN with detail 1, and one that fails a check answers the
status and detail of the first it fails; neither has an effect but a count of a dark access (R83, Table CM-4). One that
passes those but finds its set or its chain full, or its tick past, answers that, and is not staged (R53, R54). -/
def Obligations.FailedChecksOnlyAnswer : Prop :=
  (∀ (opcode : BitVec 16) (p : Packet) (s u : State), Taken p s u → opInfo opcode.toNat = none → p.params.length ≤ 60 →
      exec (.commandUnknown opcode p) s = .next (finish ⟨opcode, p⟩ (Res.err St.UNKNOWN 1) u))
  ∧ (∀ (opcode : BitVec 16) (p : Packet) (s u : State) (r : Res), Taken p s u → checkCmd ⟨opcode, p⟩ none u = some r →
      takeCmd opcode.toNat p s = finish ⟨opcode, p⟩ r (if r.status = St.DARK then darkAccess r.detail u else u))
  ∧ (∀ (c : Instr) (op : Nat) (p : Packet) (s u : State) (st d : Nat), stagedRow c = some (op, p) → Taken p s u → p.stage = true →
      checkCmd (cmdOf op p) none u = none → limitChk (cmdOf op p) none u = some (st, d) →
      exec c s = .next (finish (cmdOf op p) (fanned (cmdOf op p) [] u (Res.err st d)) u))

/-! ### The stall instruction set (chapter 07) -/

/-- Every row of Table ST-4 issues the whole bundle of a running stall that carries its opcode, and nothing otherwise
(R203): outside a lockstep pair a bundle that passes has all its effects; one that waits changes nothing, and one that faults
takes its fault, TRAP with the code in its IMM20. A library kernel also stops at its entry, or at its end, with the fault that
its own checks give (R238, log entry 26).
A lockstep pair executes its bundle on both stalls: where the compare unit sees the same of both, both are changed and
the primary's effects leave; where it sees a difference, or the checker waits, nothing leaves and the pair faults with
LOCKSTEP; a fault of the checker is the pair's fault (R222).
A legal bundle whose scalar slot passes and whose load/store slot is idle or passes issues. An access passes where it is
aligned, lies in the stall store or in a window that allows it, and meets no uncorrectable word; a push where the port has
credit and the packet has room, or meets a flush; QWAIT where a packet is complete and none is taken; HWAIT where no more
than OFF transfers are left (R207, R210, R212 to R215). -/
def Obligations.RowsIssueTheirBundle : Prop :=
  (∀ (c : Instr) (sl : SlotName) (op n : Nat) (raw : BitVec 128) (s : State), isaRow c = some (sl, op, n, raw) →
      (s.executes n raw = true → slotOp raw sl = op → s.libStop n raw = none →
        (∀ i, (s.stall n).lock = false → issueOn n (s.stall n) raw s = .ok (some i) → exec c s = .next (issued n i s))
        ∧ (issueOn n (s.stall n) raw s = .ok none → exec c s = .next s)
        ∧ (∀ f, issueOn n (s.stall n) raw s = .error f → exec c s = .next (stallFault n f
            (if f = Sf.TRAP then s.onPair n (fun y => { y with trapCode := bf raw 27 20 }) else s))))
      ∧ (∀ f k, s.executes n raw = true → slotOp raw sl = op → s.libStop n raw = some (f, k) → exec c s = .next (stallFault n f
          (if f = Sf.TRAP then s.onPair n (fun y => { y with trapCode := k }) else s)))
      ∧ (s.executes n raw = false ∨ slotOp raw sl ≠ op → exec c s = .next s))
  ∧ (∀ (c : Instr) (sl : SlotName) (op n : Nat) (raw raw' : BitVec 128) (s : State) (i : Issue),
      isaRow c = some (sl, op, n, raw) → s.executes n raw = true → slotOp raw sl = op → (s.stall n).lock = true →
      s.libStop n raw = none → raw' = SMap.get (s.stall (n + 1)).imem 0 (s.stall (n + 1)).regs.pc.toNat →
      issueOn n (s.stall n) raw s = .ok (some i) →
      (∀ j, issueOn n (s.stall (n + 1)) raw' s = .ok (some j) → compared i = compared j →
        exec c s = .next (match i.fin, applyOutside n i.mem (({ s.setStall (n + 1) (applyLocal j (s.stall (n + 1))) with
            fresh := s.fresh + 16 }).setStall n (applyLocal i (s.stall n))) with
          | .none, t => t
          | .endt, t => endTick n t
          | .endl, t => endLine n t))
      ∧ (∀ j, issueOn n (s.stall (n + 1)) raw' s = .ok (some j) → compared i ≠ compared j →
        exec c s = .next (stallFault n Sf.LOCKSTEP s))
      ∧ (issueOn n (s.stall (n + 1)) raw' s = .ok none → exec c s = .next (stallFault n Sf.LOCKSTEP s))
      ∧ (∀ f, issueOn n (s.stall (n + 1)) raw' s = .error f → exec c s = .next (stallFault n f s)))
  ∧ (∀ (st : Fin 256) (raw : BitVec 128) (s : State),
      let x := s.stall st
      let r := x.regs
      let addr (size : Nat) : Nat := (r.sget (bBASE raw) + BitVec.ofInt 32 (sext 16 (bOFF raw) * size)).toNat
      let ok (space : Nat) (write : Bool) (a size align : Nat) : Prop := a % align = 0
        ∧ (space = 0 → a + size ≤ if write then 0x1FC00 else 0x20000) ∧ (space = 1 → s.hayAllowed st write a size = true)
        ∧ (write = false → (space = 0 → x.bad a size = false) ∧ (space = 1 → s.hayPoor a size = false))
      let passes : Prop := ∃ m, memSlot st x raw (freeVector s) s = .ok (some m)
      let bytes := bOFF raw * 64
      let hay := (r.sget (bBASE raw)).toNat
      let loc := (r.sget (bVT raw % 32)).toNat
      (∀ m, Issues st raw m s → ScalarPasses st raw s → ∃ i, issueOn st x raw s = .ok (some i) ∧ i.mem = m)
      ∧ (bSPACE raw ≤ 1 →
        (bM raw = 0x00 → passes)
        ∧ (bM raw = 0x01 → ok (bSPACE raw) false (addr 64) 64 64 → passes)
        ∧ (bM raw = 0x02 → ok (bSPACE raw) true (addr 64) 64 64 → passes)
        ∧ (bM raw = 0x03 → ok (bSPACE raw) false (addr 32) 32 32 → passes)
        ∧ (bM raw = 0x04 → ok (bSPACE raw) true (addr 32) 32 32 → passes)
        ∧ (bM raw = 0x05 → bSPACE raw = 0 → (∀ k ∈ lanes16 (r.vget (bVT raw)), ok 0 false ((addr 64 + 2 * k) % 2 ^ 32) 2 2) → passes)
        ∧ (bM raw = 0x06 → ok (bSPACE raw) false (addr 4) 4 4 → passes)
        ∧ (bM raw = 0x07 → ok (bSPACE raw) true (addr 4) 4 4 → passes)
        ∧ (bM raw = 0x10 → hay % 64 = 0 → s.hayAllowed st false hay bytes = true → ok 0 true loc bytes 64 → passes)
        ∧ (bM raw = 0x11 → ok 1 true hay bytes 64 → ok 0 false loc bytes 64 → passes)
        ∧ (bM raw = 0x12 → x.xfers.length ≤ bOFF raw → passes))
      ∧ (∀ o, bM raw = 0x08 → x.out (bOFF raw % 4) = some o →
          (o.flushPending = true ∨ o.flushed = true ∨ o.cur + 1 ≤ Nat.min 64 (2 ^ o.log2Depth / 2) ∧ o.credits ≠ 0) → passes)
      ∧ (bM raw = 0x0B → (x.inp (bOFF raw % 4)).packets ≠ [] → (x.inp (bOFF raw % 4)).current = false → passes)
      ∧ (bM raw = 0x0C → (∀ a b o, s.producerOf st (bOFF raw % 4) = some (a, b, o) → s.hayPoor (o.base * 64
            + ((x.inp (bOFF raw % 4)).rd + (x.inp (bOFF raw % 4)).popped) % 2 ^ o.log2Depth * 64) 64 = false) → passes)
      ∧ ((bM raw = 0x09 ∨ bM raw = 0x0A ∨ bM raw = 0x0D) → passes))

/-- A bundle whose word is uncorrectable faults with ECC before anything else, an illegal one with ILLEGAL, TRAP with
TRAP; a GETID of an unknown selector, an ENDT in LINE mode, an ENDL outside it and a third nested loop are illegal (R198,
R200, R202, R205, R206, R207). -/
def Obligations.IllegalBundlesFault : Prop :=
  ∀ (n : Nat) (x : Stall) (raw : BitVec 128) (s : State),
    (x.regs.pc.toNat ∈ x.badBundles → issueOn n x raw s = .error Sf.ECC)
    ∧ (x.regs.pc.toNat ∉ x.badBundles → bundleOk raw = false → issueOn n x raw s = .error Sf.ILLEGAL)
    ∧ (x.regs.pc.toNat ∉ x.badBundles → bundleOk raw = true →
        (bS raw = 0x31 → s.getid n (bImm raw) = none → issueOn n x raw s = .error Sf.ILLEGAL)
        ∧ (bS raw = 0x38 → x.mode = 2 → issueOn n x raw s = .error Sf.ILLEGAL)
        ∧ (bS raw = 0x39 → x.mode ≠ 2 → issueOn n x raw s = .error Sf.ILLEGAL)
        ∧ (bS raw = 0x26 → x.regs.sget (bSA raw) ≠ 0 → 2 ≤ x.regs.loops.length → issueOn n x raw s = .error Sf.ILLEGAL)
        ∧ (bS raw = 0x3A → issueOn n x raw s = .error Sf.TRAP))

/-- The scalar operations of Table ST-4 write the register SD with their result, the program counter goes on, and the
bundle's other slots have their own effects; writes of s0 are discarded (R198, R204). GETP reads a parameter word (R211),
GETID a word of Table ST-5. -/
def Obligations.ScalarOpsWriteTheirResult : Prop :=
  ∀ (st : Fin 256) (raw : BitVec 128) (s : State) (m : MEff), Issues st raw m s →
    let r := (s.stall st).regs
    let a := r.sget (bSA raw)
    let b := r.sget (bSB raw)
    let imm := BitVec.ofInt 32 (bImm raw)
    let sh := b.toNat % 32
    let shi := imm.toNat % 32
    let put (w : Word) : Host.Outcome State Fault Refusal :=
      .next (issued st ⟨afterBundle raw r ⟨some (bSD raw, w), none, none⟩ (vectorOf st raw s) m, m, .none⟩ s)
    (bS raw = 0x01 → exec (.opAdd st raw) s = put (a + b))
    ∧ (bS raw = 0x02 → exec (.opSub st raw) s = put (a - b))
    ∧ (bS raw = 0x03 → exec (.opAnd st raw) s = put (a &&& b))
    ∧ (bS raw = 0x04 → exec (.opOr st raw) s = put (a ||| b))
    ∧ (bS raw = 0x05 → exec (.opXor st raw) s = put (a ^^^ b))
    ∧ (bS raw = 0x06 → exec (.opShl st raw) s = put (a <<< sh))
    ∧ (bS raw = 0x07 → exec (.opShr st raw) s = put (a >>> sh))
    ∧ (bS raw = 0x08 → exec (.opSra st raw) s = put (a.sshiftRight sh))
    ∧ (bS raw = 0x09 → exec (.opMul st raw) s = put (a * b))
    ∧ (bS raw = 0x0A → exec (.opMin st raw) s = put (if a.toInt ≤ b.toInt then a else b))
    ∧ (bS raw = 0x0B → exec (.opMax st raw) s = put (if b.toInt ≤ a.toInt then a else b))
    ∧ (bS raw = 0x0C → exec (.opSlt st raw) s = put (if a.toInt < b.toInt then 1 else 0))
    ∧ (bS raw = 0x0D → exec (.opSltu st raw) s = put (if a.toNat < b.toNat then 1 else 0))
    ∧ (bS raw = 0x10 → exec (.opAddi st raw) s = put (a + imm))
    ∧ (bS raw = 0x11 → exec (.opAndi st raw) s = put (a &&& imm))
    ∧ (bS raw = 0x12 → exec (.opOri st raw) s = put (a ||| imm))
    ∧ (bS raw = 0x13 → exec (.opShli st raw) s = put (a <<< shi))
    ∧ (bS raw = 0x14 → exec (.opShri st raw) s = put (a >>> shi))
    ∧ (bS raw = 0x15 → exec (.opSrai st raw) s = put (a.sshiftRight shi))
    ∧ (bS raw = 0x16 → exec (.opMovi st raw) s = put (bImm32 raw))
    ∧ (bS raw = 0x30 → (s.stall st).bad (paramBase + 4 * bf raw 27 20) 4 = false →
        exec (.opGetp st raw) s = put (paramOf (s.stall st) raw))
    ∧ (∀ w, bS raw = 0x31 → s.getid st (bImm raw) = some w → exec (.opGetid st raw) s = put w)

/-- Branches and jumps set the program counter: taken ones to PC + IMM20 modulo 2^12, JR to bits 11:0 of SA, JAL with the
next PC in SD; LOOP enters a loop of SA iterations from the next bundle to PC + IMM20. The last bundle of a loop goes back to
its first while iterations are left, and then ends the loop; two loops may end at one bundle. A LOOP of no iterations goes on
as after that last bundle, and one whose IMM20 names no bundle after itself as after itself (log entry 37; R204, R205). -/
def Obligations.BranchesAndLoopsMoveThePc : Prop :=
  ∀ (st : Fin 256) (raw : BitVec 128) (s : State) (m : MEff), Issues st raw m s →
    let r := (s.stall st).regs
    let a := r.sget (bSA raw)
    let dest := r.pc + BitVec.ofInt 12 (bImm raw)
    let go (se : SEff) : Host.Outcome State Fault Refusal :=
      .next (issued st ⟨afterBundle raw r se (vectorOf st raw s) m, m, .none⟩ s)
    let stay : SEff := ⟨none, none, none⟩
    let to_ (d : BitVec 12) : SEff := ⟨none, some d, none⟩
    let enter (k : Nat) : SEff := ⟨none, none, some k⟩
    (bS raw = 0x20 → exec (.opBez st raw) s = go (if a = 0 then to_ dest else stay))
    ∧ (bS raw = 0x21 → exec (.opBnz st raw) s = go (if a = 0 then stay else to_ dest))
    ∧ (bS raw = 0x22 → exec (.opBltz st raw) s = go (if a.toInt < 0 then to_ dest else stay))
    ∧ (bS raw = 0x23 → exec (.opJmp st raw) s = go (to_ dest))
    ∧ (bS raw = 0x24 → exec (.opJal st raw) s = go ⟨some (bSD raw, w32 (r.pc + 1).toNat), some dest, none⟩)
    ∧ (bS raw = 0x25 → exec (.opJr st raw) s = go (to_ (a.extractLsb' 0 12)))
    ∧ (bS raw = 0x26 → a = 0 ∨ r.loops.length < 2 → exec (.opLoop st raw) s = go (enter a.toNat))
    ∧ (∀ d, (advance raw (to_ d) r).pc = d ∧ (advance raw (to_ d) r).loops = r.loops)
    ∧ (∀ k, k ≠ 0 → 0 < bImm raw →
        advance raw (enter k) r = { r with pc := r.pc + 1, loops := (r.pc + 1, dest, k) :: r.loops })
    ∧ (∀ (se : SEff) (last : BitVec 12), (se = stay ∧ last = r.pc
          ∨ ∃ k, se = enter k ∧ (k = 0 ∧ 0 < bImm raw ∧ last = dest ∨ bImm raw ≤ 0 ∧ last = r.pc)) →
        (r.loops = [] → advance raw se r = { r with pc := last + 1 })
        ∧ (∀ first end_ left rest, r.loops = (first, end_, left) :: rest →
          (last ≠ end_ → advance raw se r = { r with pc := last + 1 })
          ∧ (last = end_ → 1 < left → advance raw se r = { r with pc := first, loops := (first, end_, left - 1) :: rest })
          ∧ (last = end_ → left ≤ 1 → advance raw se r = advance raw se { r with loops := rest })))

/-- NOP does nothing in its slot. FENCE, ENDT and ENDL wait while a hayloft transfer is under way, and a library kernel's
ENDT until its frame has come (R236); then FENCE goes on, ENDT ends the tick's work and ENDL one output line. TRAP faults the
stall with TRAP and keeps the code in its IMM20 (R204, R206, R209). -/
def Obligations.EndsTrapsAndFencesAct : Prop :=
  ∀ (st : Fin 256) (raw : BitVec 128) (s : State) (m : MEff), Issues st raw m s →
    let x := s.stall st
    let after := afterBundle raw x.regs ⟨none, none, none⟩ (vectorOf st raw s) m
    (bS raw = 0x00 → exec (.opNop st raw) s = .next (issued st ⟨after, m, .none⟩ s))
    ∧ (bS raw = 0x3B → x.xfers = [] → exec (.opFence st raw) s = .next (issued st ⟨after, m, .none⟩ s))
    ∧ (bS raw = 0x38 → x.mode ≠ 2 → x.xfers = [] → s.libDone x = true →
        exec (.opEndt st raw) s = .next (issued st ⟨after, m, .endt⟩ s))
    ∧ (bS raw = 0x39 → x.mode = 2 → x.xfers = [] → exec (.opEndl st raw) s = .next (issued st ⟨after, m, .endl⟩ s))
    ∧ (bS raw = 0x3A → exec (.opTrap st raw) s =
        .next (stallFault st Sf.TRAP (s.onPair st (fun y => { y with trapCode := bf raw 27 20 }))))
    ∧ (bS raw = 0x38 → x.mode ≠ 2 → s.libDone x = false → exec (.opEndt st raw) s = .next s)
    ∧ (x.xfers ≠ [] → (bS raw = 0x3B → exec (.opFence st raw) s = .next s)
        ∧ (bS raw = 0x38 → x.mode ≠ 2 → exec (.opEndt st raw) s = .next s)
        ∧ (bS raw = 0x39 → x.mode = 2 → exec (.opEndl st raw) s = .next s))

/-- The lane-wise vector operations of Table ST-4 write VD lane by lane under their predicate with the result of each
lane, saturated or narrowed as R201 says; VSPLAT writes the low half of a scalar to every lane, VAREAD narrows an
accumulator (R198, R200, R201, R204). -/
def Obligations.LaneOpsWriteTheirLanes : Prop :=
  ∀ (st : Fin 256) (raw : BitVec 128) (s : State) (i : Issue), s.executes st raw = true → (s.stall st).lock = false →
    s.libStop st raw = none → issueOn st (s.stall st) raw s = .ok (some i) →
    let r := (s.stall st).regs
    let p12 := bP12 raw
    let u := bU raw
    let a := r.operand p12 u (bVA raw)
    let b := r.operand p12 u (bVB raw)
    let lanes (c : Instr) (l : List Nat) : Prop :=
      exec c s = .next (issued st i s) ∧ i.regs = afterBundle raw r (scalarOf st raw s)
        (.vec (bVD raw) (masked 0 (r.pget (bPR raw)) (bPRZ raw) (r.raw p12 (bVD raw)) l)) i.mem
    let each (f : Int → Int → Nat) : List Nat := zip3 (fun x y _ => f x y) a b a
    (bV raw = 0x001 → lanes (.opVadd st raw) (each (fun x y => narrow16 (x + y) 0 0 (bSAT raw) u)))
    ∧ (bV raw = 0x002 → lanes (.opVsub st raw) (each (fun x y => narrow16 (x - y) 0 0 (bSAT raw) u)))
    ∧ (bV raw = 0x003 → lanes (.opVmin st raw) (each (fun x y => low16 (if x ≤ y then x else y))))
    ∧ (bV raw = 0x004 → lanes (.opVmax st raw) (each (fun x y => low16 (if y ≤ x then x else y))))
    ∧ (bV raw = 0x005 → lanes (.opVabsd st raw) (each (fun x y => low16 (if x ≤ y then y - x else x - y))))
    ∧ (bV raw = 0x006 → lanes (.opVand st raw) (each (fun x y => low16 x &&& low16 y)))
    ∧ (bV raw = 0x007 → lanes (.opVor st raw) (each (fun x y => low16 x ||| low16 y)))
    ∧ (bV raw = 0x008 → lanes (.opVxor st raw) (each (fun x y => low16 x ^^^ low16 y)))
    ∧ (bV raw = 0x009 → lanes (.opVshl st raw) (each (fun x _ => low16 (x * 2 ^ bSH raw))))
    ∧ (bV raw = 0x00A → lanes (.opVshr st raw) (each (fun x _ => narrow16 x (bSH raw) (bRND raw) (bSAT raw) u)))
    ∧ (bV raw = 0x00C → lanes (.opVclamp st raw) (zip3 (fun x y z => low16 (if z ≤ (if y ≤ x then x else y) then z
        else (if y ≤ x then x else y))) a b (r.operand p12 u (bVC raw))))
    ∧ (bV raw = 0x010 → lanes (.opVmul st raw) (each (fun x y => narrow16 (x * y) (bSH raw) (bRND raw) (bSAT raw) u)))
    ∧ (bV raw = 0x00D → lanes (.opVsplat st raw)
        (List.replicate (if p12 then 64 else 32) ((r.sget (bVA raw % 32)).toNat % 65536)))
    ∧ (bV raw = 0x024 → lanes (.opVaread st raw)
        ((r.acc p12 (bVA raw % 8)).map (fun x => narrow16 x (bSH raw) (bRND raw) (bSAT raw) u)))
    ∧ (bV raw = 0x031 → lanes (.opVperm st raw)
        ((r.raw p12 (bVC raw)).map (fun c => (r.joined p12 u (bVA raw) (bVB raw)).getD (c % 64) 0)))
    ∧ (bV raw = 0x046 → lanes (.opVsel st raw) ((upTo (if p12 then 64 else 32)).map (fun k =>
        if prBit (r.pget (bVC raw % 8)) k then (r.samples p12 u (bVA raw)).getD k 0
        else (r.samples p12 u (bVB raw)).getD k 0)))
    ∧ (bV raw = 0x030 → ∃ f : Nat → Nat, lanes (.opVslide st raw) ((upTo (if p12 then 64 else 32)).map (fun k =>
        (r.joined p12 u (bVA raw) (bVB raw)).getD (k + bSH raw) (f k))))

/-- The accumulator operations add, subtract, clear or load the 40-bit lanes of an accumulator under the predicate, modulo
2^40 (R199, R204); the sum of VRSUM goes to lane 0.
The predicate operations write a predicate register, never pr0, bit by bit: compares of the lanes of an operation that
is not paired, and AND, OR and NOT of predicates (R198, R204). The bits of a paired compare are free (log entry 15). -/
def Obligations.AccumulatorAndPredicateOpsAct : Prop :=
  (∀ (st : Fin 256) (raw : BitVec 128) (s : State) (i : Issue), s.executes st raw = true → (s.stall st).lock = false →
      s.libStop st raw = none → issueOn st (s.stall st) raw s = .ok (some i) →
      let r := (s.stall st).regs
      let p12 := bP12 raw
      let a := r.operand p12 (bU raw) (bVA raw)
      let b := r.operand p12 (bU raw) (bVB raw)
      let d := bVD raw % 8
      let old := r.acc p12 d
      let acc (c : Instr) (l : List Int) : Prop :=
        exec c s = .next (issued st i s) ∧ i.regs = afterBundle raw r (scalarOf st raw s)
          (.acc d (masked 0 (r.pget (bPR raw)) (bPRZ raw) old l)) i.mem
      (bV raw = 0x020 → acc (.opVmac st raw) (zip3 (fun z x y => z + x * y) old a b))
      ∧ (bV raw = 0x021 → acc (.opVmacs st raw)
          (zip3 (fun z x _ => z + x * sample p12 (bU raw) (r.sget (bVB raw % 32)).toNat) old a a))
      ∧ (bV raw = 0x022 → acc (.opVmsu st raw) (zip3 (fun z x y => z - x * y) old a b))
      ∧ (bV raw = 0x023 → acc (.opVaclr st raw) (List.replicate (if p12 then 64 else 32) 0))
      ∧ (bV raw = 0x025 → acc (.opVawrite st raw) (a.map (fun x => x * 2 ^ bSH raw)))
      ∧ (bV raw = 0x032 → acc (.opVrsum st raw)
          (a.foldl (· + ·) 0 :: List.replicate ((if p12 then 64 else 32) - 1) 0)))
  ∧ (∀ (st : Fin 256) (raw : BitVec 128) (s : State) (i : Issue), s.executes st raw = true → (s.stall st).lock = false →
      s.libStop st raw = none → issueOn st (s.stall st) raw s = .ok (some i) →
      let r := (s.stall st).regs
      let a := r.operand (bP12 raw) (bU raw) (bVA raw)
      let b := r.operand (bP12 raw) (bU raw) (bVB raw)
      let d := bVD raw % 8
      let pbits (k : Nat) : List Nat := (upTo 32).map (fun j => b01 (bit (r.pget (k % 8)) j))
      let pred (c : Instr) (l : List Nat) : Prop :=
        exec c s = .next (issued st i s) ∧ i.regs = afterBundle raw r (scalarOf st raw s)
          (.pred d (w32 (packLanes 1 (masked 0 (r.pget (bPR raw)) (bPRZ raw) ((upTo 32).map (fun j => b01 (bit (r.pget d) j)))
            l)))) i.mem
      let cmp (f : Int → Int → Bool) : List Nat := zip3 (fun x y _ => b01 (f x y)) a b a
      (bV raw = 0x040 → bP12 raw = false → pred (.opPcmpeq st raw) (cmp (fun x y => x == y)))
      ∧ (bV raw = 0x041 → bP12 raw = false → pred (.opPcmplt st raw) (cmp (fun x y => decide (x < y))))
      ∧ (bV raw = 0x042 → bP12 raw = false → pred (.opPcmple st raw) (cmp (fun x y => decide (x ≤ y))))
      ∧ (bP12 raw = true → (bV raw = 0x040 → ∃ l, pred (.opPcmpeq st raw) l)
          ∧ (bV raw = 0x041 → ∃ l, pred (.opPcmplt st raw) l) ∧ (bV raw = 0x042 → ∃ l, pred (.opPcmple st raw) l))
      ∧ (bV raw = 0x043 → pred (.opPand st raw)
          (zip3 (fun x y _ => x * y) (pbits (bVA raw)) (pbits (bVB raw)) (pbits 0)))
      ∧ (bV raw = 0x044 → pred (.opPor st raw)
          (zip3 (fun x y _ => Nat.min 1 (x + y)) (pbits (bVA raw)) (pbits (bVB raw)) (pbits 0)))
      ∧ (bV raw = 0x045 → pred (.opPnot st raw) ((pbits (bVA raw)).map (fun x => 1 - x))))

/-- Loads and stores of Table ST-4: the address is SBASE plus the signed offset in units of the access, it is aligned to
the access and lies in the stall store, or for SPACE 1 in a window of the binding; the bytes loaded or stored are those
(R204, R210, R212). -/
def Obligations.LoadsAndStoresMoveTheirBytes : Prop :=
  ∀ (st : Fin 256) (raw : BitVec 128) (s : State) (i : Issue), s.executes st raw = true → (s.stall st).lock = false →
    s.libStop st raw = none → issueOn st (s.stall st) raw s = .ok (some i) →
    let x := s.stall st
    let r := x.regs
    let vt := bVT raw
    let p := r.pget (bMPR raw)
    let addr (size : Nat) : Nat := (r.sget (bBASE raw) + BitVec.ofInt 32 (sext 16 (bOFF raw) * size)).toNat
    let load (size : Nat) : List Byte :=
      if bSPACE raw = 0 then readBytes x.store (addr size) size else s.hayRead (addr size) size
    let ok (write : Bool) (size : Nat) : Prop := addr size % size = 0
      ∧ (bSPACE raw = 0 → addr size + size ≤ if write then 0x1FC00 else 0x20000)
      ∧ (bSPACE raw = 1 → s.hayAllowed st write (addr size) size = true)
    let runs (c : Instr) : Prop := exec c s = .next (issued st i s)
      ∧ i.regs = afterBundle raw r (scalarOf st raw s) (vectorOf st raw s) i.mem
    let store (ws : List (Nat × Byte)) : MEff := if bSPACE raw = 0 then .local_ ws else .hay ws
    (bM raw = 0x01 → runs (.opVld st raw) ∧ ok false 64
        ∧ i.mem = .vreg vt (underPred p (r.vget vt) (vecOfBytes (load 64))))
    ∧ (bM raw = 0x02 → runs (.opVst st raw) ∧ ok true 64
        ∧ i.mem = store (laneBytes p 2 (addr 64) (vecBytes (r.vget vt))))
    ∧ (bM raw = 0x03 → runs (.opVldb st raw) ∧ ok false 32
        ∧ i.mem = .vreg vt (underPred p (r.vget vt) (ofLanes ((load 32).map (·.toNat)))))
    ∧ (bM raw = 0x04 → runs (.opVstb st raw) ∧ ok true 32
        ∧ i.mem = store (laneBytes p 1 (addr 32)
          ((lanes16 (r.vget vt)).map (fun v => BitVec.ofNat 8 (clampI 0 255 (sext 16 v)).toNat))))
    ∧ (bM raw = 0x06 → runs (.opSld st raw) ∧ ok false 4 ∧ i.mem = .sreg (vt % 32) (w32 (leNat (load 4))))
    ∧ (bM raw = 0x07 → runs (.opSst st raw) ∧ ok true 4
        ∧ i.mem = store (laneBytes 0xFFFFFFFF 4 (addr 4) (wordBytes (r.sget (vt % 32)))))
    ∧ (bM raw = 0x05 → runs (.opVgather st raw) ∧ bSPACE raw = 0 ∧ ∃ ls : List Nat, i.mem = .vreg vt (ofLanes ls)
        ∧ ls = (lanes16 (r.vget vt)).map (fun k => leNat (readBytes x.store ((addr 64 + 2 * k) % 2 ^ 32) 2)))

/-- Queue and transfer operations of Table ST-4: QPUSH and QEND act on the outbound port's queue, QWAIT takes the oldest
complete packet or waits for one, QPOP reads its next vector, QREL releases it, QCRED reads credits and FLUSHED; HGET and
HPUT start a transfer of OFF × 64 bytes, HWAIT waits until at most OFF transfers are left (R204, R213 to R215).
What a queue operation does outside its stall: a push within credit writes the vector into the queue's ring in the
hayloft, takes one credit and counts into the packet; QEND hands the packet's length to the consumer; QREL releases the
packet and starts its credits on their way back (R213, R214); a push or end that meets a flush sets FLUSHED instead, and
pushes are discarded until the next QEND (R215). -/
def Obligations.QueueAndTransferOpsAct : Prop :=
  (∀ (st : Fin 256) (raw : BitVec 128) (s : State), s.executes st raw = true → (s.stall st).lock = false →
      s.libStop st raw = none →
      let x := s.stall st
      let r := x.regs
      let p := bOFF raw % 4
      let vt := bVT raw
      let runs (c : Instr) (m : MEff) : Prop := ∀ i, issueOn st x raw s = .ok (some i) →
        exec c s = .next (issued st i s) ∧ i.mem = m
          ∧ i.regs = afterBundle raw r (scalarOf st raw s) (vectorOf st raw s) i.mem
      (bM raw = 0x08 → runs (.opQpush st raw) (.push p (r.vget vt)))
      ∧ (bM raw = 0x09 → runs (.opQend st raw) (.qend p))
      ∧ (∀ o, bM raw = 0x0A → x.out p = some o →
          runs (.opQcred st raw) (.sreg (vt % 32) (w32 (o.credits + 2 ^ 31 * b01 o.flushed))))
      ∧ (∀ len rest, bM raw = 0x0B → (x.inp p).packets = len :: rest →
          runs (.opQwait st raw) (.qtake p (vt % 32) (w32 len)))
      ∧ (bM raw = 0x0B → (x.inp p).packets = [] → memSlot st x raw (freeVector s) s = .ok none)
      ∧ (∀ len rest a b o, bM raw = 0x0C → (x.inp p).packets = len :: rest → s.producerOf st p = some (a, b, o) →
          (x.inp p).current = true → (x.inp p).popped < len →
          runs (.opQpop st raw) (.qpop p vt (vecOfBytes (s.hayRead
            (o.base * 64 + ((x.inp p).rd + (x.inp p).popped) % 2 ^ o.log2Depth * 64) 64))))
      ∧ (bM raw = 0x0D → runs (.opQrel st raw) (.qrel p))
      ∧ (bM raw = 0x10 → runs (.opHget st raw)
          (.xfer ⟨false, (r.sget (bBASE raw)).toNat, (r.sget (vt % 32)).toNat, bOFF raw * 64⟩))
      ∧ (bM raw = 0x11 → runs (.opHput st raw)
          (.xfer ⟨true, (r.sget (bBASE raw)).toNat, (r.sget (vt % 32)).toNat, bOFF raw * 64⟩))
      ∧ (bM raw = 0x12 → runs (.opHwait st raw) .none
          ∧ (bOFF raw < x.xfers.length → memSlot st x raw (freeVector s) s = .ok none)))
  ∧ (∀ (n p : Nat) (v : BitVec 512) (o : OutPort) (s : State), (s.stall n).out p = some o →
      let x := s.stall n
      (o.flushPending = false → o.flushed = false →
        applyOutside n (.push p v) s = (s.hayWrite (o.base * 64 + o.wr % 2 ^ o.log2Depth * 64) (vecBytes v)).setStall n
          (x.setOut p { o with credits := o.credits - 1, cur := o.cur + 1, wr := (o.wr + 1) % 2 ^ (o.log2Depth + 1) }))
      ∧ (o.flushPending = true → applyOutside n (.push p v) s = s.setStall n
          (x.setOut p { o with flushPending := false, flushed := true })
          ∧ applyOutside n (.qend p) s = s.setStall n (x.setOut p { o with flushPending := false, flushed := true }))
      ∧ (o.flushPending = false → o.flushed = true → applyOutside n (.push p v) s = s
          ∧ applyOutside n (.qend p) s = s.setStall n (x.setOut p { o with flushed := false, cur := 0 }))
      ∧ (o.flushPending = false → o.flushed = false →
          ∃ t, t = s.setStall n (x.setOut p { o with cur := 0 })
          ∧ applyOutside n (.qend p) s = t.setStall o.consumer ((t.stall o.consumer).setIn o.inPort
              { (t.stall o.consumer).inp o.inPort with packets := ((t.stall o.consumer).inp o.inPort).packets ++ [o.cur] }))
      ∧ (∀ q len rest a b oa, (x.inp q).packets = len :: rest → (x.inp q).current = true → s.producerOf n q = some (a, b, oa) →
          ∃ t, t = s.setStall n (x.setIn q ⟨rest, ((x.inp q).rd + len) % 2 ^ (oa.log2Depth + 1), false, 0⟩)
          ∧ ∀ ob, (t.stall a).out b = some ob → applyOutside n (.qrel q) s =
            t.setStall a ((t.stall a).setOut b { ob with returning := ob.returning ++ [len] })))

/-- Every field of a bundle stands where Table ST-3 puts it: what a bundle of given fields holds reads back. -/
def Obligations.BundleFieldsReadBack : Prop :=
  ∀ (b : BundleFields), b.wf = true →
    bFormat b.raw = b.format ∧ bS b.raw = b.s ∧ bSD b.raw = b.sd ∧ bSA b.raw = b.sa
    ∧ bSB b.raw = b.imm % 32 ∧ bImm b.raw = sext 20 b.imm ∧ bV b.raw = b.v ∧ bVD b.raw = b.vd ∧ bVA b.raw = b.va
    ∧ bVB b.raw = b.vb ∧ bVC b.raw = b.vc ∧ bPR b.raw = b.pr ∧ (bPRZ b.raw = decide (b.prz = 1)) ∧ bSH b.raw = b.sh
    ∧ bRND b.raw = b.rnd ∧ bSAT b.raw = decide (b.sat = 1) ∧ bP12 b.raw = decide (b.p12 = 1) ∧ bU b.raw = decide (b.u = 1)
    ∧ (b.format = 0 → bM b.raw = b.m ∧ bVT b.raw = b.vt ∧ bBASE b.raw = b.base ∧ bOFF b.raw = b.off ∧ bMPR b.raw = b.mpr
      ∧ bSPACE b.raw = b.space)
    ∧ (b.format = 1 → bM b.raw = 0 ∧ bImm32 b.raw = w32 b.imm32)

/-- A kernel launches with s, v, a and pr1–pr7 zero and the program counter at ENTRY; the stall store keeps its contents where
no parameter word waits to be shown (R199, R211). -/
def Obligations.KernelsLaunchFresh : Prop :=
  ∀ (tick : Word) (x : Stall),
    let y := launched tick x
    (∀ i, y.regs.sget i = 0 ∧ y.regs.vget i = 0 ∧ y.regs.aget i = 0 ∧ (i ≠ 0 → y.regs.pget i = 0)) ∧ y.regs.pget 0 = 0xFFFFFFFF
    ∧ (∀ k, x.kernel = some k → y.regs.pc = k.entry) ∧ y.regs.loops = [] ∧ y.launchTick = tick
    ∧ (x.params = [] → y.store = x.store) ∧ (x.state ≠ .checker → y.state = .running)

/-! ### The host bridge, its rings, DMA and the Ethernet ports (chapters 03, 12, 13, 19) -/

/-- A host write through BAR0 (R41, R52, R54, R362, R366, R369, R372): registers without ST fields take their words at once,
and those with ST fields join the set being filled as one entry, their other fields taking their bits at once; where the set is
full the whole write is dropped and logged. A write that is not 4 or 8 whole aligned bytes, that hits an unassigned page or a
dark register is dropped and logged with its reason; a fused-off set ignores it (R4). -/
def Obligations.RegisterWritesLandOrAreLogged : Prop :=
  ∀ (off size : Nat) (lo hi : Word) (s : State), off < 2 ^ 24 → s.bridgeOpen = true →
    let c (full : Bool) : Instr := .registerWrite off size full lo hi
    let whole : Prop := (size = 4 ∨ size = 8) ∧ off % size = 0
    let live : Prop := pageAssigned (off / 0x10000) = true ∧ fusedReg s.part.ab off = false ∧ s.darkReg off = false
    let ws : List (Nat × Word) := (off, lo) :: (if size = 8 then [(off + 4, hi)] else [])
    let st := ws.filter (fun e => isST e.1)
    (whole → live → st = [] → exec (c true) s = .next (ws.foldl (fun t e => writeReg e.1 e.2 t) s))
    ∧ (whole → live → st ≠ [] → s.groom.staging.fill.length < 4096 → ∃ t t',
        t = addEntry (.fill s.winOpen s.fillTick) ⟨0xFFFF, BitVec.ofNat 16 (off / 0x10000), .regs st, s.winOpen⟩ s
        ∧ t' = (if s.winOpen then t.incWrap R.DEFER_COUNT F.DEFER_COUNT_WRITES 1 else t)
        ∧ exec (c true) s = .next (ws.foldl (fun t e => writeReg e.1 e.2 t) t'))
    ∧ (whole → live → st ≠ [] → 4096 ≤ s.groom.staging.fill.length →
        exec (c true) s = .next ((pwFail 0 off 0 size Pw.STAGE_FULL s).raise Ev.STAGE_FULL 0 0))
    ∧ (¬ whole → exec (c true) s = .next (pwFail 0 off 0 size Pw.SIZE s))
    ∧ exec (c false) s = .next (pwFail 0 off 0 size Pw.SIZE s)
    ∧ (whole → pageAssigned (off / 0x10000) = false → exec (c true) s = .next (pwFail 0 off 0 size Pw.UNMAPPED s))
    ∧ (whole → pageAssigned (off / 0x10000) = true → fusedReg s.part.ab off = true → exec (c true) s = .next s)
    ∧ (whole → pageAssigned (off / 0x10000) = true → fusedReg s.part.ab off = false → s.darkReg off = true →
        exec (c true) s = .next (pwFail 0 off 0 size Pw.DARK (darkAccess (off / 0x10000) s)))

/-- A host write of 8 bytes that spans two registers with ST fields is one entry of one staging set (R52), counted
in DEFER_COUNT while a seal window is open (R57). -/
def Obligations.WideStagedWritesAreOneEntry : Prop :=
  ∀ (off : Nat) (lo hi : Word) (s : State), off < 2 ^ 24 → off % 8 = 0 → isST off = true → isST (off + 4) = true →
    s.bridgeOpen = true → fusedReg s.part.ab off = false → s.darkReg off = false → s.groom.staging.fill.length < 4096 →
    let e : Entry := ⟨0xFFFF, BitVec.ofNat 16 (off / 0x10000), .regs [(off, lo), (off + 4, hi)], s.winOpen⟩
    ∃ t, t = { s with groom := { s.groom with staging := { s.groom.staging with fill := s.groom.staging.fill ++ [e] } } }
      ∧ exec (.registerWrite off 8 true lo hi) s = .next (writeReg (off + 4) hi (writeReg off lo
          (if s.winOpen then t.incWrap R.DEFER_COUNT F.DEFER_COUNT_WRITES 1 else t)))

/-- Both halves of an aligned 8-byte access lie in one register set: they are dark or live together, fused off or present
together (R527). -/
def Obligations.AlignedAccessesStayInOneSet : Prop :=
  ∀ (a : Nat) (s : State), a % 8 = 0 → domainOf a = domainOf (a + 4) ∧ s.darkReg a = s.darkReg (a + 4)
    ∧ (∀ ab, fusedReg ab a = fusedReg ab (a + 4))

/-- The host's accesses beyond a window's end reach no address of the block: they stop with a fault, and every other command
always answers a next state (log entry 33). -/
def Obligations.OnlyAccessesOutsideTheWindowsStop : Prop :=
  ∀ (c : Instr) (s : State),
    (∀ r, exec c s ≠ .refused r)
    ∧ (exec c s = .fault .outsideWindow ↔
        (∃ off size full lo hi, c = .registerWrite off size full lo hi ∧ 2 ^ 24 ≤ off)
        ∨ (∃ off n, c = .bar2Read off n ∧ 2 ^ 28 < off + n)
        ∨ (∃ off data, c = .bar2Write off data ∧ 2 ^ 28 < off + data.length))
    ∧ ((∀ off size full lo hi, c ≠ .registerWrite off size full lo hi) → (∀ off n, c ≠ .bar2Read off n)
        → (∀ off data, c ≠ .bar2Write off data) → ∃ t, exec c s = .next t)

/-- Registers whose direct write is an operation of its own: enabling a ring pair zeroes its four pointers and disabling it
ends its traffic (R91; what becomes of its open chain and of ERR cleared by the host: log entry 73), a doorbell queues an idle channel (R378), an abort of a running channel makes it ABORTING (R384), a
write of a checker sets its pattern and with CLEAR zeroes its counters (R510), GO starts one MDIO operation (R405), ACK clears
an alarm that is not held (R353). -/
def Obligations.OwnStepRegistersAct : Prop :=
  ∀ (s : State), s.bridgeOpen = true →
    (∀ (n : Fin 4) (w : Word), s.regsWf = true → s.flag (R.CMD_Q_CTRL n) F.CMD_Q_CTRL_EN = false →
        F.CMD_Q_CTRL_EN.get w = 1 → ∃ t, exec (.cmdQEn n w) s = .next t
        ∧ t.reg (R.CMD_SQ_TAIL n) = 0 ∧ t.reg (R.CMD_SQ_HEAD n) = 0 ∧ t.reg (R.CMD_RQ_HEAD n) = 0
        ∧ t.reg (R.CMD_RQ_TAIL n) = 0 ∧ t.flag (R.CMD_Q_CTRL n) F.CMD_Q_CTRL_EN = true
        ∧ t.fld (R.CMD_Q_CTRL n) F.CMD_Q_CTRL_LOG2_UNITS = F.CMD_Q_CTRL_LOG2_UNITS.get w
        ∧ t.fld (R.CMD_Q_STATUS n) F.CMD_Q_STATUS_EV_DROP = 0)
    ∧ (∀ (n : Fin 4) (w : Word), s.flag (R.CMD_Q_CTRL n) F.CMD_Q_CTRL_EN = true → ∃ t,
        t = ((s.setFld (R.CMD_Q_CTRL n) F.CMD_Q_CTRL_LOG2_UNITS (F.CMD_Q_CTRL_LOG2_UNITS.get w)).setFld (R.CMD_Q_CTRL n)
          F.CMD_Q_CTRL_VECTOR (F.CMD_Q_CTRL_VECTOR.get w)).setFld (R.CMD_Q_CTRL n) F.CMD_Q_CTRL_EN (F.CMD_Q_CTRL_EN.get w)
        ∧ exec (.cmdQEn n w) s = .next (if t.flag (R.CMD_Q_CTRL n) F.CMD_Q_CTRL_EN then t else ringStop n t))
    ∧ (∀ (c : Fin 16) (v : Word), s.holdsWork 0x2F = false → s.dark 0x2F = false →
        (bit v 0 = true → exec (.dmaCDoorbell c v) s = .next (dmaDoorbell c s))
        ∧ (bit v 0 = false → exec (.dmaCDoorbell c v) s = .next s)
        ∧ (bit v 0 = true → exec (.dmaCAbort c v) s = .next (dmaAbort c s).2)
        ∧ (bit v 0 = false → exec (.dmaCAbort c v) s = .next s)
        ∧ (s.dmaState c = Ds.IDLE → ∃ t, t = ((s.setChan c { s.chan c with resume := false }).incWrap (R.DMA_CNT c)
              F.DMA_CNT_RUNS 1).setDmaState c Ds.QUEUED
            ∧ dmaDoorbell c s = dmaPump (c / 4) (setDmaQueue (c / 4) (t.dmaQueue (c / 4) ++ [c.val]) t))
        ∧ (s.dmaState c = Ds.RUNNING → (s.chan c).phase ≠ .readback 3 → (dmaAbort c s).2 =
            (s.setDmaState c Ds.ABORTING).setChan c { s.chan c with phase := .abortBurst })
        ∧ (s.dmaState c = Ds.OFF → dmaDoorbell c s = s ∧ (dmaAbort c s).2 = s))
    ∧ (∀ (n : Fin 4) (v : Word), s.dark 0x2D = false →
        (F.HEAD_ALARM_ACK.get v = 0 → exec (.alarmAck n v) s = .next (writePlain (R.HEAD_ALARM n) v s))
        ∧ (F.HEAD_ALARM_ACK.get v = 1 → ∃ t, t = writePlain (R.HEAD_ALARM n) v s
          ∧ exec (.alarmAck n v) s = .next (if t.fld (R.HEAD_WIT n) F.HEAD_WIT_CLEAR_N = 0
              ∧ t.flag (R.HEAD_ALARM n) F.HEAD_ALARM_ACTIVE = true ∧ (t.head n).held = false then witnessClear n t else t)))
    ∧ (∀ (x : Fin 48) (v : Word), fusedReg s.part.ab (R.TEST_PCHK x) = false → s.darkReg (R.TEST_PCHK x) = false →
        laneLacks (R.TEST_PCHK x) = false → ∃ t, t = setChecker x (F.TEST_PCHK_PAT.get v) s
        ∧ exec (.pchkClear x v) s = .next (if bit v 6 then checkerClear x t else t))
    ∧ (∀ (v : Word), s.dark 0x30 = false → s.flag R.ETH_MDIO_CMD F.ETH_MDIO_CMD_BUSY = false →
        (F.ETH_MDIO_CMD_GO.get v = 1 → ∃ t, t = writePlain R.ETH_MDIO_CMD v s
          ∧ exec (.ethMdioGo v) s = .next ((t.setFlag R.ETH_MDIO_CMD F.ETH_MDIO_CMD_BUSY true).emit
            (.mdio (F.ETH_MDIO_CMD_CL45.get v == 1) (F.ETH_MDIO_CMD_OP.get v) (F.ETH_MDIO_CMD_PHYAD.get v)
              (F.ETH_MDIO_CMD_REG.get v) ((t.reg R.ETH_MDIO_DATA).extractLsb' 0 16))))
        ∧ (F.ETH_MDIO_CMD_GO.get v = 0 → exec (.ethMdioGo v) s = .next (writePlain R.ETH_MDIO_CMD v s)))
    ∧ (∀ (v : Word), s.dark 0x30 = false → s.flag R.ETH_MDIO_CMD F.ETH_MDIO_CMD_BUSY = true →
        F.ETH_MDIO_CMD_GO.get v = 1 → exec (.ethMdioGo v) s = .next s)

/-- A 4-byte host read of the first register of a latched group returns it and latches the others of its group for BAR0; a
two-DW read returns two registers and leaves the latch alone; a fused-off register reads zero, a dark one all ones and is
recorded; while the host cannot reach BAR0 the read is unsupported (R4, R361, R363, R369, R530). -/
def Obligations.LatchedReadsKeepTheirGroup : Prop :=
  ∀ (wide : Bool) (s : State),
    let reads (c : Instr) (no first : Nat) (rest : List Nat) : Prop :=
      let v := sampleFor first s
      let live : Prop := s.bridgeOpen = true ∧ fusedReg s.part.ab first = false
      (s.bridgeOpen = false → exec c s = .next (s.emit .unsupported))
      ∧ (s.bridgeOpen = true → wide = true → first % 8 ≠ 0 → exec c s = .next (s.emit .unsupported))
      ∧ (s.bridgeOpen = true → (wide = true → first % 8 = 0) → fusedReg s.part.ab first = true → exec c s = .next
          (s.emit (.readData (List.replicate (1 + b01 wide) 0))))
      ∧ (live → (wide = true → first % 8 = 0) → s.darkReg first = true → exec c s = .next
          (darkAccess (first / 0x10000) (s.emit (.readData (List.replicate (1 + b01 wide) 0xFFFFFFFF)))))
      ∧ (live → wide = false → s.darkReg first = false → exec c s = .next
          (State.emit { v with latches := SMap.put v.latches [] (latchKey 0 no) (v.views rest) } (.readData [v.view first])))
      ∧ (live → wide = true → first % 8 = 0 → s.darkReg first = false →
          exec c s = .next (v.emit (.readData [v.view first, v.view (first + 4)])))
    reads (.tickCountLo wide) 0 R.TICK_COUNT_LO [R.TICK_COUNT_HI]
    ∧ (∀ n : Fin 4, reads (.tbNs n wide) (1 + n) (R.TB_NS n) [R.TB_S_LO n, R.TB_S_HI n])
    ∧ reads (.ppsInNs wide) 5 R.PPS_IN_NS [R.PPS_IN_S_LO, R.PPS_IN_INFO]
    ∧ reads (.pwrRtcLo wide) 6 R.PWR_RTC_LO [R.PWR_RTC_HI]
    ∧ (∀ x : Fin 48, reads (.testBitsLo x wide) (7 + x) (R.TEST_BITS_LO x) [R.TEST_BITS_HI x])

/-- The ring doorbells: a new TAIL is kept and the groom, as soon as it runs, takes the commands that stand before it; a
failed read or write of host memory stops the pair with ERR and CMDQ_ERR; room in the reply ring lets the groom go on (R89 to
R91).
The host's accesses of the frame store through BAR2 (R321, R367, R369, R372): a read returns the bytes from the paddock
heap, flagged where one is poisoned; a write stores exactly its enabled bytes, but one that meets a poisoned word only in part
is dropped and logged; an address outside the heap is refused or logged, a dark frame store reads all ones and its writes are
logged. -/
def Obligations.RingsAndBar2Accesses : Prop :=
  (∀ (n : Fin 4) (tail : BitVec 17) (words : List Word) (s : State), s.bridgeOpen = true → s.holdsWork 0x2F = false →
      let t := s.setFld (R.CMD_SQ_TAIL n) F.CMD_SQ_TAIL_TAIL tail.toNat
      let used := ringUsed (t.ringLog2 n) (t.fld (R.CMD_SQ_HEAD n) F.CMD_SQ_HEAD_HEAD) (t.fld (R.CMD_SQ_TAIL n) F.CMD_SQ_TAIL_TAIL)
      let r := writePlain (R.CMD_RQ_HEAD n) (w32 tail.toNat) s |>.pumpRing n
      (t.ringActive n = true → exec (.cmdSqTail n tail words true) s = .next
          (groomTurn (t.setPort n { t.port n with unserved := words.take (4 * used) })))
      ∧ (t.ringActive n = true → exec (.cmdSqTail n tail words false) s = .next (if t.groomRuns then ringFail n t else t))
      ∧ (t.ringActive n = false → ∀ ok, exec (.cmdSqTail n tail words ok) s = .next t)
      ∧ (r.bridgeOpen = true → r.groomRuns = true → r.ringActive n = true →
          exec (.cmdRqHead n tail true) s = .next (groomTurn r)
          ∧ exec (.cmdRqHead n tail false) s = .next (ringFail n r))
      ∧ (r.ringActive n = false ∨ r.groomRuns = false → ∀ ok, exec (.cmdRqHead n tail ok) s = .next r))
  ∧ (∀ (off : Nat) (s : State), s.bridgeOpen = true →
      (∀ n, off + n ≤ 2 ^ 28 → inHeap (s.bar2Phys off) n = true → s.bar2Dark (s.bar2Phys off) n = false →
        s.poisonIn (s.bar2Phys off) n = [] →
          exec (.bar2Read off n) s = .next (s.emit (.readBytes (s.fsRead (s.bar2Phys off) n) false)))
      ∧ (∀ n, off + n ≤ 2 ^ 28 → inHeap (s.bar2Phys off) n = true → s.bar2Dark (s.bar2Phys off) n = false →
        s.poisonIn (s.bar2Phys off) n ≠ [] → exec (.bar2Read off n) s = .next
          (((s.poisonIn (s.bar2Phys off) n).foldl (fun t g => noteUncorr g t) s).emit
            (.readBytes (s.fsRead (s.bar2Phys off) n) true)))
      ∧ (∀ (data : List (Option Byte)) (torn : List Nat), off + data.length ≤ 2 ^ 28 →
        inHeap (s.bar2Phys off) data.length = true → s.bar2Dark (s.bar2Phys off) data.length = false →
        torn = (s.poisonIn (s.bar2Phys off) data.length).filter (fun g => (upTo 16).any (fun j =>
          touches (s.bar2Phys off) data (g * 256 + 16 * j) 16 && !covers (s.bar2Phys off) data (g * 256 + 16 * j) 16)) →
        torn ≠ [] → exec (.bar2Write off data) s = .next (pwFail 1 off (s.bar2Phys off) data.length Pw.ECC
          (torn.foldl (fun t g => noteUncorr g t) s)))
      ∧ (∀ n, off + n ≤ 2 ^ 28 → inHeap (s.bar2Phys off) n = true → s.bar2Dark (s.bar2Phys off) n = true →
          exec (.bar2Read off n) s = .next (darkAccess 0x20 (s.emit (.readBytes (List.replicate n 0xFF) false))))
      ∧ (∀ n, off + n ≤ 2 ^ 28 → inHeap (s.bar2Phys off) n = false → exec (.bar2Read off n) s = .next (s.emit .unsupported))
      ∧ (∀ data : List (Option Byte), off + data.length ≤ 2 ^ 28 → inHeap (s.bar2Phys off) data.length = true →
        s.bar2Dark (s.bar2Phys off) data.length = false → s.poisonIn (s.bar2Phys off) data.length = [] →
        s.memWf = true → ∃ t, exec (.bar2Write off data) s = .next t
          ∧ t.regs = s.regs ∧ t.memWf = true ∧ ∀ a, t.fsRead a 1 =
            if s.bar2Phys off ≤ a ∧ a < s.bar2Phys off + data.length then
              [(data.getD (a - s.bar2Phys off) none).getD ((s.fsRead a 1).getD 0 0)] else s.fsRead a 1)
      ∧ (∀ data : List (Option Byte), off + data.length ≤ 2 ^ 28 → inHeap (s.bar2Phys off) data.length = true →
        s.bar2Dark (s.bar2Phys off) data.length = true →
          exec (.bar2Write off data) s = .next (pwFail 1 off (s.bar2Phys off) data.length Pw.DARK (darkAccess 0x20 s)))
      ∧ (∀ data : List (Option Byte), off + data.length ≤ 2 ^ 28 → inHeap (s.bar2Phys off) data.length = false →
          exec (.bar2Write off data) s = .next ((pwFail 1 off (s.bar2Phys off) data.length Pw.PROTECTED s).raise Ev.FS_PROTECT 0 0)))

/-- A running DMA channel goes from descriptor to descriptor: the 32 bytes are read, the data moves, then the next
descriptor is fetched, or the tail's word 0 is read again, or a read-back comes before a report; a clear tail bit goes on and a
set one ends the run parked or in a read-back; a P2H descriptor holds its slot (R380, R381, R383). A committed EN = 0 ends the
run behind its descriptor (Table HB-8). In D3hot the engine stands still (R361, log entry 44).
A failing channel stops with RESULT = ERROR and the code, after a read-back where it has written and the host can be
reached; an abort that has finished its burst ends after a read-back with RESULT = ABORTED: both write back, raise their event,
send their message and free the engine (R384, R386). A timer's period starts an idle or parked channel and is an OVERRUN of one
at work (R378, R379). -/
def Obligations.DmaRunsFetchMoveAndEnd : Prop :=
  (∀ (c : Fin 16) (s : State), s.dmaState c = Ds.RUNNING →
      let x := s.chan c
      (s.host.d3hot = false →
      (∀ ws d t, x.phase = .fetch → d = (⟨x.fetchAt, ws.take 8⟩ : Desc) →
        t = s.setChan c { x with desc := some d, phase := .data, moved := 0, p2hSeq := 0 } → t.descError d = 0 →
        (d.p2h = false → exec (.descriptorFetch c ws true) s = .next t)
        ∧ (∀ slot q a, d.p2h = true → t.p2hSlot d = some (slot, q, a) → exec (.descriptorFetch c ws true) s =
          .next (holdMark d.pad slot (readerDma c) (t.setChan c { t.chan c with p2hSeq := q }))))
      ∧ (∀ data d m t, x.phase = .data → x.desc = some d → s.descDark d = false → dmaMove c d.total d data s = (m, t) →
        m.err = 0 → exec (.descriptorDone c data true d.total) s = .next
          (if d.irq then (dmaRelease c t).setChan c { (dmaRelease c t).chan c with phase := .readback 0 } else dmaNext c (dmaRelease c t)))
      ∧ (∀ w p, x.phase = .tail p → x.disabling = false → bit w 0 = false →
        exec (.tailReread c (some w)) s = .next (groomTurn (dmaHeld c (dmaFetch c w s))))
      ∧ (∀ w, x.phase = .tail true → x.disabling = false → bit w 0 = true → exec (.tailReread c (some w)) s = .next
          (groomTurn (dmaHeld c (dmaPump (c / 4) ((s.setDmaState c Ds.PARKED).setChan c { s.chan c with phase := .none })))))
      ∧ (∀ w, x.phase = .tail false → x.disabling = false → bit w 0 = true → exec (.tailReread c (some w)) s = .next
          (groomTurn (dmaHeld c (s.setChan c { x with phase := .readback 1 }))))
      ∧ (∀ w p, x.phase = .tail p → x.disabling = true → exec (.tailReread c (some w)) s = .next
          (groomTurn (dmaHeld c (dmaDisabled c s))))
      ∧ (∀ d, x.phase = .readback 1 → x.desc = some d → exec (.readbackComplete c true) s =
          .next (if x.disabling then dmaDisabled c s else dmaPark c s))
      ∧ (∀ d, x.phase = .readback 0 → x.desc = some d → exec (.readbackComplete c true) s = .next
          (dmaNext c (dmaMessage c (dmaWriteBack c 0 (setDmaStatus c Ds.RUNNING 1 0 s))))))
      ∧ (∀ d, x.desc = some d → x.disabling = false → d.isEnd = false → dmaNext c s = dmaFetch c (wAt d.words 0) s)
      ∧ (∀ d, x.desc = some d → x.disabling = false → d.isEnd = true → dmaNext c s = s.setChan c { x with phase := .tail false })
      ∧ (x.disabling = true → dmaNext c s = dmaDisabled c s)
      ∧ (s.host.d3hot = true → ∀ ws ok data moved, exec (.descriptorFetch c ws ok) s = .next s
          ∧ exec (.descriptorDone c data ok moved) s = .next s ∧ exec (.readbackComplete c ok) s = .next s
          ∧ exec (.completionTimeout c moved) s = .next s))
  ∧ (∀ (c : Fin 16) (s : State),
      let x := s.chan c
      let ended (result code : Nat) (residue : Word) (ev : Nat) (t : State) : State :=
        let u := (setDmaStatus c (t.dmaRest c) result code t).setReg (R.DMA_RESIDUE c) residue
        dmaEnd c (dmaMessage c ((dmaWriteBack c residue u).raise ev (dmaUnit c) 0))
      let fails (code : Nat) (residue : Word) (t : State) : State :=
        if (t.chan c).wrote ∧ t.host.linkUp then
          dmaRelease c (t.setChan c { t.chan c with phase := .readback 3, err := some (code, residue) })
        else ended 3 code residue Ev.DMA_ERR t
      (s.host.d3hot = false →
      (s.dmaState c = Ds.RUNNING →
        (∀ d ok data moved, x.phase = .data → x.desc = some d → s.descDark d = true →
          exec (.descriptorDone c data ok moved) s = .next (fails De.DARK (w32 (d.total - Nat.min moved d.total)) s))
        ∧ (∀ d ok data moved m t, x.phase = .data → x.desc = some d → s.descDark d = false →
          dmaMove c (if ok then d.total else Nat.min moved d.total) d data s = (m, t) → m.err ≠ 0 ∨ ok = false →
          exec (.descriptorDone c data ok moved) s =
            .next (fails (if m.err = 0 then De.HOST else m.err) (w32 (d.total - m.bytes)) t))
        ∧ (∀ ws d t e, x.phase = .fetch → d = (⟨x.fetchAt, ws.take 8⟩ : Desc) →
          t = s.setChan c { x with desc := some d, phase := .data, moved := 0, p2hSeq := 0 } → e = t.descError d → e ≠ 0 →
          exec (.descriptorFetch c ws true) s = .next (fails e (w32 d.total)
            (if e = De.DARK ∧ (t.descRanges d).any (fun r => t.underTest r.1 r.2) then darkAccess 0x20 t else t)))
        ∧ (∀ ws moved r t, x.phase = .fetch → dmaResidue c s = (r, t) →
          exec (.descriptorFetch c ws false) s = .next (fails De.HOST r t)
          ∧ exec (.completionTimeout c moved) s = .next (fails De.HOST r t))
        ∧ (∀ p moved, x.phase = .tail p → exec (.completionTimeout c moved) s = .next (fails De.HOST 0 s)
          ∧ exec (.tailReread c none) s = .next (groomTurn (dmaHeld c (fails De.HOST 0 s))))
        ∧ (∀ code residue d ok, x.phase = .readback 3 → x.err = some (code, residue) → x.desc = some d →
          exec (.readbackComplete c ok) s = .next (ended 3 code residue Ev.DMA_ERR s))
        ∧ (∀ k d, k ≤ 1 → x.phase = .readback k → x.desc = some d →
          exec (.readbackComplete c false) s = .next (ended 3 De.HOST 0 Ev.DMA_ERR s)))
      ∧ (∀ d, s.dmaState c = Ds.ABORTING → x.phase = .readback 2 → x.desc = some d →
          exec (.readbackComplete c true) s = .next (ended 2 0 (w32 (d.total - x.moved)) Ev.DMA_ABORTED s)
          ∧ exec (.readbackComplete c false) s = .next (ended 3 De.HOST (w32 (d.total - x.moved)) Ev.DMA_ERR s))
      ∧ (∀ d data moved, s.dmaState c = Ds.ABORTING → x.phase = .abortBurst → x.desc = some d → x.moved ≠ 0 → x.wrote = true →
          exec (.abortBurstDone c moved data) s = .next (s.setChan c { x with phase := .readback 2 })))
      ∧ (s.holdsWork 0x2F = false → exec (.dmaTimerStart c) s = .next (
          if startIs 1 (fun _ => true) (s.reg (R.DMA_CTRL c)) = false ∨ s.dmaState c = Ds.OFF then s
          else if s.dmaState c = Ds.IDLE then dmaQueueUp c false s
          else if s.dmaState c = Ds.PARKED then dmaQueueUp c (!s.flag (R.DMA_CTRL c) F.DMA_CTRL_RESTART) s
          else (s.incSat (R.DMA_CNT c) F.DMA_CNT_OVERRUN 1).raise Ev.DMA_OVERRUN (dmaUnit c) 0)))

/-- A reset of the host bridge disables the ring pairs, stops every channel without write-back, clears the MSI-X page and
raises HB_RESET; all but a function-level reset count the link down (R374). D3hot closes the BARs (R361), back-off counts
its onset (R371), link training shows speed and width (R375). -/
def Obligations.HostBridgeResetsAndPower : Prop :=
  ∀ (s : State), s.dark 0x2F = false →
    (∀ (kind : HbReset) (t u : State), t = ((dmaStopAll ([(0 : Fin 4), 1, 2, 3].foldl (fun t n =>
          writeQCtrl n (F.CMD_Q_CTRL_EN.put 0 (t.reg (R.CMD_Q_CTRL n))) t) s)).resetRegs msixPage) →
        u = { t with host := { t.host with d3hot := false, backoff := false } } →
        (kind = .flr → exec (.hostBridgeReset kind) s = .next (u.raise Ev.HB_RESET 0 0))
        ∧ (kind ≠ .flr → ∃ v, v = ((State.setFld { u with host := { u.host with linkUp := false } } R.HB_LINK F.HB_LINK_SPEED
              0).setFld R.HB_LINK F.HB_LINK_WIDTH 0).incSat R.HB_LINK F.HB_LINK_DOWNS 1
          ∧ exec (.hostBridgeReset kind) s = .next (if kind = .linkDown then (v.raise Ev.HB_RESET 0 0).raise Ev.HB_LINK_DOWN 0 0
            else v.raise Ev.HB_RESET 0 0)))
    ∧ (∀ waiting, exec (.dmaBackoff waiting) s = .next
        (if waiting = true ∧ s.host.backoff = false then
          State.incSat { s with host := { s.host with backoff := true } } R.HB_BACKOFF F.HB_BACKOFF_COUNT 1
        else { s with host := { s.host with backoff := waiting } }))
    ∧ (∀ speed width : BitVec 3, exec (.pcieLinkUp speed width) s = .next
        ((State.setFld { s with host := { s.host with linkUp := true } } R.HB_LINK F.HB_LINK_SPEED speed.toNat).setFld R.HB_LINK
          F.HB_LINK_WIDTH width.toNat))
    ∧ (exec (.pcieD3hot true) s = .next (setD3hot true s) ∧ (setD3hot true s).bridgeOpen = false)
    ∧ (exec (.pcieD3hot false) s = .next (setD3hot false s) ∧ (setD3hot false s).host.d3hot = false)

/-- Ethernet frames (R92, R93, R403): a frame that the filter drops is counted; an accepted one is counted as good; of those
only EtherType 0x88B5 reaches the groom: the commands of a new SEQ wait with their sender until the groom takes them, a SEQ
among the sender's last 16 sends its stored replies again, and what does not fit is counted as discarded. Commands that
come while the groom does not run wait likewise (log entry 73). A port that is off takes no frame.
The groom takes the commands that wait one at a time: an URGENT one first, else the next of an open chain, else that of the
source whose turn it is, in the order of the rings, the Ethernet senders and TWT0 (R95, R105). A chain whose next command has
not come within 10 ms is discarded: its held commands answer CHECK with detail 0x00F1 (R87). An MDIO read ends with its data,
or ERR and 0xFFFF where no PHY drives it (R405). -/
def Obligations.EthernetFramesChainsAndMdio : Prop :=
  (∀ (port : Fin 2) (f : EthFrame) (s : State), s.holdsWork 0x30 = false →
      let t := s.incWrap (R.ETH_RX port) F.ETH_RX_GOOD 1
      let both (v : State) : Prop := exec (.ethernetFrame port f) s = .next v ∧ exec (.commandFrame port f) s = .next v
      (s.ethOn port = false → both s)
      ∧ (s.ethOn port = true →
      (s.frameOk port f = false → both (filtered port s))
      ∧ (s.frameOk port f = true → f.etherType ≠ 0x88B5 → both t)
      ∧ (s.frameOk port f = true → f.etherType = 0x88B5 →
          (t.fld R.CMD_ETH_CTRL F.CMD_ETH_CTRL_PORT_EN / 2 ^ port.val % 2 = 0 ∨ bAt f.payload 1 ≠ 1 ∨ t.sender f = none
              ∨ (∃ n, t.sender f = some n ∧ frameCmds n f = none) →
            both (t.incSat R.CMD_ETH_STATUS F.CMD_ETH_STATUS_DISCARD 1))
          ∧ (∀ n cs v p, t.fld R.CMD_ETH_CTRL F.CMD_ETH_CTRL_PORT_EN / 2 ^ port.val % 2 ≠ 0 → bAt f.payload 1 = 1 →
            t.sender f = some n → frameCmds n f = some cs →
            v = (⟨port, f.vlan, f.src, BitVec.ofNat 16 (bAt f.payload 2 + 256 * bAt f.payload 3)⟩ : Via) → p = t.port (8 + n.val) →
            (p.replay.find? (fun e => e.1 = v.seq) = none → both (groomTurn (t.setPort (8 + n.val)
              { p with last := v, replay := keepSeq p.replay v.seq, queue := p.queue ++ cs.map (fun c => (c, v)) })))
            ∧ (∀ e, p.replay.find? (fun e => e.1 = v.seq) = some e →
              both (resend v e.2 (t.setPort (8 + n.val) { p with last := v })))))))
  ∧ (∀ (s : State),
      (∀ src h, s.chainOf src = some h → exec (.chainTimeout src) s = .next (if (s.offer src).isSome then s
          else answerHeldAll src h.held (Res.err St.CHECK 0xF1) (setChain src none s)))
      ∧ (∀ src, s.chainOf src = none → exec (.chainTimeout src) s = .next s)
      ∧ (∀ k src c v len, s.nextCmd = some (src, c, v, len) → serve (k + 1) s = serve k (takeOne c (takeOff src v len s)))
      ∧ (∀ src o, s.groomRuns = true → s.offer src = some o → (s.chainOf src).any (·.key.isSome) = false →
          src ∈ sourcesFrom s.groom.turn → ∃ src' o', s.nextCmd = some (src', o')
          ∧ (o.1.pkt.urgent = true → o'.1.pkt.urgent = true)
          ∧ (o'.1.pkt.urgent = false → (s.chainOf src).isSome = true → (s.chainOf src').isSome = true))
      ∧ (s.dark 0x30 = false → s.flag R.ETH_MDIO_CMD F.ETH_MDIO_CMD_BUSY = true →
          ∃ t, t = s.setFlag R.ETH_MDIO_CMD F.ETH_MDIO_CMD_BUSY false
          ∧ ∀ data : Option (BitVec 16),
            ((if t.flag R.ETH_MDIO_CMD F.ETH_MDIO_CMD_CL45 then t.fld R.ETH_MDIO_CMD F.ETH_MDIO_CMD_OP = 3
                else t.fld R.ETH_MDIO_CMD F.ETH_MDIO_CMD_OP = 2) →
              exec (.mdioComplete data) s = .next ((t.setFlag R.ETH_MDIO_DATA F.ETH_MDIO_DATA_ERR data.isNone).setFld
                R.ETH_MDIO_DATA F.ETH_MDIO_DATA_DATA ((data.map (·.toNat)).getD 0xFFFF)))
            ∧ ((if t.flag R.ETH_MDIO_CMD F.ETH_MDIO_CMD_CL45 then t.fld R.ETH_MDIO_CMD F.ETH_MDIO_CMD_OP ≠ 3
                else t.fld R.ETH_MDIO_CMD F.ETH_MDIO_CMD_OP ≠ 2) → exec (.mdioComplete data) s = .next t)))

/-! ### Lanes and link messages (chapters 04 and 05) -/

/-- A lane in detect counts its own and the partner's tones, and two of each lead to train unless it holds off; the hold-off
ends. Training that takes too long fails. An attempt of a receive lane is its search, or the stored result of a fast start,
and its eye: with TRAIN_MIN reached at a rate that may stand, the lane has trained; else a fast start searches in full and
any other attempt has failed. An attempt of a transmit lane is what its partner reported. A failed attempt falls back one
rate, a pair in training together, or fails (R119 to R122, R128, Table LP-5). -/
def Obligations.LanesDetectAndTrain : Prop :=
  ∀ (x : Fin 48) (s : State),
    let l := s.lane x
    let least (t : State) : Nat := t.fld (R.LANE_THRESH x) F.LANE_THRESH_TRAIN_MIN
    let fall (y : Nat) (t : State) : State := noteRetrain y (t.setLane y { t.lane y with
      rate := l.rate - 1, attempts := (t.lane y).attempts + 1, trained := false })
    let fails : State := enterDetect x true (s.raise Ev.LANE_TRAIN_FAIL (laneUnit x) 0)
    (s.laneIn x [Ls.detect] = true →
      exec (.detectToneBurst x) s = .next (detectDone x ((s.emit (.tone x)).setLane x
        { l with ownBursts := Nat.min 2 (l.ownBursts + 1) }))
      ∧ (l.holdoff = false → exec (.partnerToneDetect x) s = .next (detectDone x (s.setLane x { l with partnerBursts := 2 })))
      ∧ (l.holdoff = true → exec (.partnerToneDetect x) s = .next s)
      ∧ exec (.detectHoldoffExpiry x) s = .next (s.setLane x { l with holdoff := false })
      ∧ (2 ≤ l.ownBursts → 2 ≤ l.partnerBursts → l.holdoff = false → detectDone x s = enterTrain x false s)
      ∧ (l.ownBursts < 2 ∨ l.partnerBursts < 2 ∨ l.holdoff = true → detectDone x s = s))
    ∧ (s.laneIn x [Ls.detect] = false → exec (.detectToneBurst x) s = .next s ∧ exec (.partnerToneDetect x) s = .next s
      ∧ exec (.detectHoldoffExpiry x) s = .next s)
    ∧ (s.laneIn x [Ls.train] = false → exec (.trainTimeout x) s = .next s ∧ ∀ r, exec (.trainComplete x r) s = .next s)
    ∧ (s.laneIn x [Ls.train] = true → exec (.trainTimeout x) s = .next fails)
    ∧ (l.trained = true → ∀ r, exec (.trainComplete x r) s = .next s)
    ∧ (s.laneIn x [Ls.train] = true → l.trained = false → 32 ≤ x.val → ∀ r,
      (∀ p, l.peer = some p → p.ready = true → least s ≤ p.eye → s.rateStands x = true → exec (.trainComplete x r) s =
          .next (trainOk x (if s.flag (R.LANE_TXEQ x) F.LANE_TXEQ_CUSTOM then 0 else l.sentPreset) p.follow s))
      ∧ ((∀ p, l.peer = some p → p.ready = false ∨ p.eye < least s ∨ s.rateStands x = false) →
          exec (.trainComplete x r) s = .next (attemptFailed x s)))
    ∧ (s.laneIn x [Ls.train] = true → l.trained = false → x.val < 32 → ∀ (r : TrainResult) (u v w : State) (b : Best) (eye : Nat),
      u = limitRate x r.partnerRate.toNat s → b = (if u.fastStart x then u.storedBest x else u.search x r) →
      eye = eyeIndex r.hSteps.toNat r.vSteps.toNat →
      v = setEye x eye r.hSteps.toNat r.vSteps.toNat (sendTrain x b.preset b.eye false
        (if u.fastStart x then u else (u.triedPresets x).foldl (fun t p => sendTrain x p 0 false t) u)) →
      w = ((((v.setFlag (R.LANE_STATUS x) F.LANE_STATUS_POL_INV r.polInv).setFld (R.LANE_STATUS x) F.LANE_STATUS_CTLE_USED
        b.ctle).setReg (R.LANE_DFE_LO x) (tapsOf 0 r.dfeLo)).setReg (R.LANE_DFE_HI x) (tapsOf 4 r.dfeHi)) →
      (least v ≤ eye → v.rateStands x = true → exec (.trainComplete x r) s = .next (trainOk x b.preset r.partnerFollow
        (sendTrain x b.preset eye true (if x.val % 2 = 0
          then w.setFlag (R.LANE_STATUS x) F.LANE_STATUS_REVERSED (w.bonded x && r.oddBlock) else w))))
      ∧ (eye < least v ∨ v.rateStands x = false →
        (u.fastStart x = true → exec (.trainComplete x r) s = .next (v.setLane x { v.lane x with full := true }))
        ∧ (u.fastStart x = false → exec (.trainComplete x r) s = .next (attemptFailed x v))))
    ∧ (s.flag (R.LANE_CTRL x) F.LANE_CTRL_FALLBACK = true → 0 < l.rate → s.repeats x = false → s.mateSet x = false →
      ((s.bonded x = false ∨ s.laneState (mate x) ≠ Ls.train) → attemptFailed x s = fall x s)
      ∧ (s.bonded x = true → s.laneState (mate x) = Ls.train → attemptFailed x s = fall (mate x) (fall x s)))
    ∧ (s.flag (R.LANE_CTRL x) F.LANE_CTRL_FALLBACK = false ∨ l.rate = 0 ∨ s.repeats x = true ∨ s.mateSet x = true →
      attemptFailed x s = fails)

/-- A lane in align reaches up at its lock, a pair when both lanes have locked within 32 ns, and trains again after 1 ms
without one; a lost alignment goes back to align; an eye below DROP_MIN retrains, or is reported where AUTO_RETRAIN is 0; a
lost signal, or in deep a transmit lane's lost keep-alive, drops the lane to detect with LANE_DOWN counted (R117, R119,
R128, R514, Table LP-5). -/
def Obligations.LanesAlignAndDrop : Prop :=
  ∀ (x : Fin 48) (s : State),
    let locked := s.setLane x { s.lane x with
      aligned := true, cwIndex := 1, scr := BitVec.ofNat 23 (scrAfterAlign (s.laneOne x)), missed := 0 }
    let up (y : Nat) (t : State) : State := pmRequest y (reachUp y t)
    let back (y : Nat) (t : State) : State := enterTrain y false (noteRetrain y t)
    let down := enterDetect x false ((s.incSat (R.LANE_CNT x) F.LANE_CNT_DOWNS 1).raise Ev.LANE_DOWN (laneUnit x) 0)
    (s.laneIn x [Ls.align] = true →
      (s.bonded x = false → ∀ skew, exec (.alignLock x skew) s = .next (up x locked))
      ∧ (s.bonded x = true → ∀ skew, 32 < skew → exec (.alignLock x skew) s = .next locked)
      ∧ (s.bonded x = true → ∀ skew, skew ≤ 32 →
        (locked.laneState (mate x) = Ls.up → exec (.alignLock x skew) s = .next (up x locked))
        ∧ (locked.laneState (mate x) = Ls.align → (locked.lane (mate x)).aligned = true →
          exec (.alignLock x skew) s = .next (up (mate x) (up x locked)))
        ∧ (locked.laneState (mate x) ≠ Ls.up → locked.laneState (mate x) ≠ Ls.align ∨ (locked.lane (mate x)).aligned = false →
          exec (.alignLock x skew) s = .next locked))
      ∧ (s.bonded x = false ∨ s.laneState (mate x) ≠ Ls.align → exec (.alignTimeout x) s = .next (back x s))
      ∧ (s.bonded x = true → s.laneState (mate x) = Ls.align → exec (.alignTimeout x) s = .next (back (mate x) (back x s))))
    ∧ (s.laneIn x [Ls.align] = false → (∀ skew, exec (.alignLock x skew) s = .next s) ∧ exec (.alignTimeout x) s = .next s)
    ∧ (s.laneIn x [Ls.up] = true → exec (.alignmentLoss x) s = .next (enterLane x Ls.align (noteRetrain x s)))
    ∧ (s.laneIn x [Ls.up] = false → exec (.alignmentLoss x) s = .next s)
    ∧ (s.laneIn x [Ls.up, Ls.doze] = true → (∀ e, s.test.eye = some e → e.lane ≠ x.val) →
      s.eyeNow x < s.fld (R.LANE_THRESH x) F.LANE_THRESH_DROP_MIN →
      exec (.eyeLowTimeout x) s = .next (if s.flag (R.LANE_CTRL x) F.LANE_CTRL_AUTO_RETRAIN then back x s
        else s.raise Ev.LANE_EYE_LOW (laneUnit x) 0))
    ∧ ((s.laneIn x [Ls.up, Ls.doze] = false ∨ (∃ e, s.test.eye = some e ∧ e.lane = x.val)
        ∨ s.fld (R.LANE_THRESH x) F.LANE_THRESH_DROP_MIN ≤ s.eyeNow x) → exec (.eyeLowTimeout x) s = .next s)
    ∧ (s.laneIn x [Ls.train, Ls.align, Ls.up, Ls.doze] = true → exec (.lossOfSignal x) s = .next down)
    ∧ (s.laneIn x [Ls.train, Ls.align, Ls.up, Ls.doze] = false → exec (.lossOfSignal x) s = .next s)
    ∧ (s.laneIn x [Ls.deep] = true → 32 ≤ x.val → exec (.keepaliveTimeout x) s = .next down)
    ∧ (s.laneIn x [Ls.deep] = false ∨ x.val < 32 → exec (.keepaliveTimeout x) s = .next s)

/-- Low power: the FOLLOW end acknowledges a request of doze or deep, the LEAD end refuses one; an acknowledgement ends the
request; both enter at the next alignment codeword; a request unanswered for 100 µs is sent twice more and then given up with
LANE_PM_NAK; deep ends by its exit sequence, into align where the eye still passes TRAIN_MIN and else into train with a full
search; the hub's keep-alives leave receive lanes in deep (R118, R124 to R126). -/
def Obligations.LanesEnterAndLeaveLowPower : Prop :=
  ∀ (x : Fin 48) (s : State),
    let l := s.lane x
    (∀ h : MsgHdr, s.holdsWork (laneDomain x) = false → s.linkLive x = true → h.crcOk = true →
      let reply (c : Nat) : State := s.sendMsg x Mt.PM h.seq.toNat h.port.toNat [BitVec.ofNat 8 c]
      (∀ c : Byte, c = 1 ∨ c = 2 → s.laneUp x = true → s.lead x = false →
          exec (.pm x h c) s = .next ((reply 3).setLane x { (reply 3).lane x with pmReq := none, pmNext := some (c.toNat + 4) }))
      ∧ (∀ c : Byte, c = 1 ∨ c = 2 → (s.laneUp x = false ∨ s.lead x = true) → exec (.pm x h c) s = .next (reply 5))
      ∧ (∀ t n, l.pmReq = some (t, n) → exec (.pm x h 3) s = .next (s.setLane x { l with pmReq := none, pmNext := some t }))
      ∧ (l.pmReq = none → exec (.pm x h 3) s = .next s)
      ∧ exec (.pm x h 4) s = .next (pmLeave x false (reply 3))
      ∧ (∀ c : Byte, c = 0 ∨ 4 < c.toNat → exec (.pm x h c) s = .next s))
    ∧ (∀ t n, l.pmReq = some (t, n) → n < 3 → exec (.pmAckTimeout x) s =
        .next (pmSend x (t - 4) (s.setLane x { l with pmReq := some (t, n + 1) })))
    ∧ (∀ t n, l.pmReq = some (t, n) → 3 ≤ n → exec (.pmAckTimeout x) s =
        .next ((s.setLane x { l with pmReq := none, pmExit := false, pmAsk := false }).raise Ev.LANE_PM_NAK (laneUnit x) 0))
    ∧ (l.pmReq = none → exec (.pmAckTimeout x) s = .next s)
    ∧ (s.pmWaits x = true → atAlignment x s = s)
    ∧ (∀ t, s.pmWaits x = false → s.laneState x = Ls.up → l.pmNext = some t → atAlignment x s = enterLow x t s)
    ∧ (s.pmWaits x = false → s.laneState x = Ls.doze → l.pmNext = none → l.pmExit = true → atAlignment x s = leaveDoze x s)
    ∧ (s.laneIn x [Ls.deep] = true → ∀ (hs vs : BitVec 6) (e : Byte) (i : Nat) (u v w : State),
        i = (if x.val < 32 then eyeIndex hs.toNat vs.toNat else e.toNat) →
        u = (if x.val < 32 then setEye x i hs.toNat vs.toNat s else setEye x i 0 0 s) →
        (∀ p c lo hi, x.val < 32 → (u.lane x).stored = some (p, c, lo, hi) → v =
          ((u.setFld (R.LANE_STATUS x) F.LANE_STATUS_CTLE_USED c).setReg (R.LANE_DFE_LO x) lo).setReg (R.LANE_DFE_HI x) hi) →
        (32 ≤ x.val ∨ (u.lane x).stored = none → v = u) →
        w = v.setLane x { v.lane x with pmExit := false } →
        (w.fld (R.LANE_THRESH x) F.LANE_THRESH_TRAIN_MIN ≤ i → exec (.deepExitComplete x ⟨hs, vs, e⟩) s =
          .next ((enterLane x Ls.align w).setLane x { (enterLane x Ls.align w).lane x with txIndex := 0 }))
        ∧ (i < w.fld (R.LANE_THRESH x) F.LANE_THRESH_TRAIN_MIN →
          exec (.deepExitComplete x ⟨hs, vs, e⟩) s = .next (enterTrain x true w)))
    ∧ (s.laneIn x [Ls.deep] = false → ∀ hs vs e, exec (.deepExitComplete x ⟨hs, vs, e⟩) s = .next s)
    ∧ (s.laneIn x [Ls.deep] = true → x.val < 32 → exec (.keepaliveSend x) s = .next (s.sendReq x Mt.KEEPALIVE 0 []).2)
    ∧ (s.laneIn x [Ls.deep] = false ∨ 32 ≤ x.val → exec (.keepaliveSend x) s = .next s)

/-- A link message reaches its effect only whole: on a lane that carries none it is nothing, one that fails its CRC is
counted (R147), and one for a lane that has agreed to a sleep entry waits (R446). -/
def Obligations.LinkMessagesArriveWhole : Prop :=
  ∀ (i : Instr) (x : Nat) (h : MsgHdr) (w : Work) (s : State), laneMessage i = some (x, h, w) →
    (s.holdsWork (laneDomain x) = true →
      exec i s = .next { s with pwr := { s.pwr with heldWork := s.pwr.heldWork ++ [w] } })
    ∧ (s.holdsWork (laneDomain x) = false → s.linkLive x = false → exec i s = .next s)
    ∧ (s.holdsWork (laneDomain x) = false → s.linkLive x = true → h.crcOk = false →
      exec i s = .next (s.incSat (R.LINK_MSG x) F.LINK_MSG_CRC_ERR 1))

/-- What link messages do on a lane that carries them, with a good CRC (R117, R121, R150 to R154, R161 to R163): training and
eye reports are kept, calibration and roll calls answered, triggers acknowledged or relayed, GPIO levels taken; a type that
the lane does not implement is answered NAK, and a repeater passes on what is not the hub's.
The hub as a partner answers an authentication challenge with its device key and a signature of the nonce, the
challenger's serial number (free where it has sent no IDENT), a lane byte (free, log entry 20) and its own IDENT (R161). -/
def Obligations.LinkMessagesHaveTheirEffect : Prop :=
  (∀ (x : Fin 48) (h : MsgHdr) (s : State), s.holdsWork (laneDomain x) = false → s.linkLive x = true → h.crcOk = true →
      let nak (t : Nat) : State := s.sendMsg x Mt.NAK h.seq.toNat h.port.toNat [BitVec.ofNat 8 t]
      let counted : State := s.incSat (R.LINK_MSG x) F.LINK_MSG_NAK 1
      (∀ req eye flags rates, (x.val < 32 → exec (.train x h req eye flags rates) s = .next (nak Mt.TRAIN))
        ∧ (32 ≤ x.val → s.laneState x ≠ Ls.train → exec (.train x h req eye flags rates) s = .next s)
        ∧ (32 ≤ x.val → s.laneState x = Ls.train → ∀ t u : State, t = setEye x eye.toNat 0 0 s →
          u = limitRate x (rates.toNat % 4) (t.setLane x { t.lane x with
            peer := some ⟨flags.getLsbD 0, eye.toNat, rates.toNat % 4, flags.getLsbD 2⟩ }) →
          exec (.train x h req eye flags rates) s = .next (if req.toNat < 8
              ∧ u.fld (R.LANE_TXEQ x) F.LANE_TXEQ_PRESET_MASK / 2 ^ req.toNat % 2 = 1 ∧ u.flag (R.LANE_TXEQ x) F.LANE_TXEQ_CUSTOM = false
            then u.setLane x { u.lane x with
              sentPreset := req.toNat, full := (u.lane x).full || req.toNat != (u.lane x).sentPreset } else u)))
      ∧ (∀ eye a b, (x.val < 32 → exec (.eye x h eye a b) s = .next (nak Mt.EYE))
        ∧ (32 ≤ x.val → exec (.eye x h eye a b) s = .next (setEye x eye.toNat 0 0 s)))
      ∧ ((x.val < 32 → exec (.keepalive x h) s = .next (nak Mt.KEEPALIVE)) ∧ (32 ≤ x.val → exec (.keepalive x h) s = .next s))
      ∧ (∀ id, exec (.calReq x h id) s = .next (State.sendMsg { s with fresh := s.fresh + 1 } x Mt.CAL_RESP h.seq.toNat h.port.toNat
          ([id, 0, 0, 0] ++ beBytes 4 (Config.freeWord s.fresh).toNat)))
      ∧ (∀ tick, tick ∈ (s.link x).trigs →
          exec (.trigAck x h tick) s = .next (s.setLink x { s.link x with trigs := (s.link x).trigs.erase tick }))
      ∧ (s.relayTo x = none →
          (∀ levels mask, exec (.gpio x h levels mask) s = .next (rxGpio x levels mask s))
          ∧ exec (.rollCall x h) s = .next (sendGpio x (s.sendMsg x Mt.IDENT h.seq.toNat h.port.toNat s.hubIdent))
          ∧ (∀ body, exec (.i2cReq x h body) s = .next (nak Mt.I2C_REQ))
          ∧ (∀ o p k d n, exec (.trigger x h o p k d n) s = .next (nak Mt.TRIGGER))
          ∧ (∀ tick, tick ∉ (s.link x).trigs →
            exec (.trigAck x h tick) s = .next (if x.val < 32 then s else nak Mt.TRIG_ACK))
          ∧ (∀ key sig, (s.link x).auth = none → exec (.authResp x h key sig) s = .next s)
          ∧ (32 ≤ x.val → ∀ body, exec (.frameStatus x h body) s = .next (nak Mt.FRAME_STATUS))
          ∧ (32 ≤ x.val → ∀ st r c v, exec (.echo x h st r c v) s = .next (rxEcho (x - 32) st.toNat r.toNat c v s)))
      ∧ (x.val < 32 → ∀ st r c v, exec (.echo x h st r c v) s = .next (nak Mt.ECHO))
      ∧ (x.val < 32 → ∀ body t, t = rxFrameStatus x body s →
          (t.relayTo x = none → exec (.frameStatus x h body) s = .next t)
          ∧ (∀ y, t.relayTo x = some y → exec (.frameStatus x h body) s =
            .next (t.sendMsg y Mt.FRAME_STATUS h.seq.toNat h.port.toNat body)))
      ∧ (∀ m : Byte, m.toNat = Mt.AUTH_CHAL → (counted.link x).auth.isSome = true →
          exec (.nak x h m) s = .next (authEnd x 2 0 counted))
      ∧ (∀ m : Byte, m.toNat ≠ Mt.AUTH_CHAL ∨ (counted.link x).auth.isSome = false →
          (counted.relayTo x = none → exec (.nak x h m) s = .next counted)
          ∧ (∀ y, counted.relayTo x = some y →
            exec (.nak x h m) s = .next (counted.sendMsg y Mt.NAK h.seq.toNat h.port.toNat [m])))
      ∧ (∀ y, s.relayTo x = some y →
          let pass (t : Nat) (b : List Byte) : State := s.sendMsg y t h.seq.toNat h.port.toNat b
          (∀ body, exec (.i2cReq x h body) s = .next (pass Mt.I2C_REQ body))
          ∧ (∀ levels mask, exec (.gpio x h levels mask) s = .next (pass Mt.GPIO [levels, mask]))
          ∧ exec (.rollCall x h) s = .next (pass Mt.ROLL_CALL [])
          ∧ (∀ nonce, exec (.authChal x h nonce) s = .next (pass Mt.AUTH_CHAL nonce))
          ∧ (∀ key sig, (s.link x).auth = none → exec (.authResp x h key sig) s = .next (pass Mt.AUTH_RESP (key ++ sig)))
          ∧ (∀ tick, tick ∉ (s.link x).trigs → exec (.trigAck x h tick) s = .next (pass Mt.TRIG_ACK (beBytes 2 tick.toNat)))
          ∧ (32 ≤ x.val → ∀ body, exec (.frameStatus x h body) s = .next (pass Mt.FRAME_STATUS body))
          ∧ (32 ≤ x.val → ∀ st r c v, exec (.echo x h st r c v) s =
            .next (pass Mt.ECHO ([st, r, 0, 0] ++ beBytes 4 c.toNat ++ beBytes 4 v.toNat)))
          ∧ (∀ o p k d (n : Nat) ns,
              ns = roundUpHalf ((d.toNat : Int) * 1000 - (n : Int) - s.oneWay (if x.val < 32 then x.val else y)) 1000 →
              (1000 ≤ ns → exec (.trigger x h o p k d n) s = .next (pass Mt.TRIGGER
                ([o, p] ++ beBytes 2 k.toNat ++ beBytes 4 (ns.toNat % 2 ^ 28))))
              ∧ (ns < 1000 → exec (.trigger x h o p k d n) s = .next (trigMiss y s)))))
  ∧ (∀ (x : Fin 48) (h : MsgHdr) (nonce : List Byte) (s : State), s.holdsWork (laneDomain x) = false → s.linkLive x = true →
      h.crcOk = true → s.relayTo x = none →
      let serial := match (s.link x).ident with
        | some b => beBytes 4 (identSerial b)
        | none => wordBytes (Config.freeWord (s.fresh + 1))
      exec (.authChal x h nonce) s = .next (State.sendMsg { s with fresh := s.fresh + 2 } x Mt.AUTH_RESP h.seq.toNat h.port.toNat
        (Config.devicePublic s.sec.otp.uniqueSecret ++ Config.deviceSign s.sec.otp.uniqueSecret (Config.sha384
          (nonce ++ serial ++ [(Config.freeWord s.fresh).extractLsb' 0 8] ++ s.hubIdent)))))

/-- Timers and schedules of the links: an exchange of a calibration that is answered counts T − TURN_PS and one left
unanswered, or answered with a bad CRC, is left out; the last one stores the mean, lets training go on to align and answers
TRIGGER_CAL (R123, R152); a trigger without TRIG_ACK is missed (R154); a changed driven GPIO level is sent (R163); a roll-call
boundary calls every enabled lane in up (R155). -/
def Obligations.LinkTimersAndCalibration : Prop :=
  ∀ (x : Fin 48) (s : State),
    (∀ h id turn t, s.holdsWork (laneDomain x) = true → exec (.calResp x h id turn t) s =
        .next { s with pwr := { s.pwr with heldWork := s.pwr.heldWork ++ [.calResp x h id turn t] } })
    ∧ (∀ h id turn t, s.holdsWork (laneDomain x) = false → s.linkLive x = false → exec (.calResp x h id turn t) s = .next s)
    ∧ (∀ (h : MsgHdr) (id : Byte) turn t, s.holdsWork (laneDomain x) = false → s.linkLive x = true → h.crcOk = true →
        (∀ c, (s.link x).cal = some c → c.id = id.toNat → exec (.calResp x h id turn t) s =
          .next (calNext x { c with answered := c.answered ++ [(t + 2 ^ 24 - turn.toNat % 2 ^ 24) % 2 ^ 24] } s))
        ∧ ((∀ c, (s.link x).cal = some c → c.id ≠ id.toNat) → exec (.calResp x h id turn t) s = .next s))
    ∧ (∀ (h : MsgHdr) id turn t u, s.holdsWork (laneDomain x) = false → s.linkLive x = true → h.crcOk = false →
        u = s.incSat (R.LINK_MSG x) F.LINK_MSG_CRC_ERR 1 →
        (∀ c, (s.link x).cal = some c → exec (.calResp x h id turn t) s = .next (calNext x c u))
        ∧ ((s.link x).cal = none → exec (.calResp x h id turn t) s = .next u))
    ∧ (∀ c, (s.link x).cal = some c → exec (.calExchangeTimeout x) s = .next (calNext x c s))
    ∧ ((s.link x).cal = none → exec (.calExchangeTimeout x) s = .next s)
    ∧ (∀ c, 0 < c.left → calNext x c s = calSend x (c.left - 1) c.answered c.forCmd s)
    ∧ (∀ c t, c.left = 0 → t = s.setLink x { s.link x with cal := none } →
        (c.answered = [] → c.forCmd = true → calNext x c s = t.answerEvery (.triggerCal x) (Res.ok [0xFFFFFFFF, 0xFFFFFFFF]))
        ∧ (c.forCmd = false → ∀ u m, m = c.answered.foldl (· + ·) 0 / c.answered.length →
          u = t.setFld (R.LANE_RTT x) F.LANE_RTT_RTT_PS m →
          calNext x c s = if u.laneIn x [Ls.train] then
            (enterLane x Ls.align u).setLane x { (enterLane x Ls.align u).lane x with txIndex := 0 } else u)
        ∧ (c.answered ≠ [] → c.forCmd = true → ∀ m hi lo, m = c.answered.foldl (· + ·) 0 / c.answered.length →
          hi = c.answered.foldl Nat.max 0 → lo = c.answered.foldl Nat.min hi →
          calNext x c s = (t.setFld (R.LANE_RTT x) F.LANE_RTT_RTT_PS m).answerEvery (.triggerCal x)
            (Res.ok [w32 m, w32 (hi - lo)])))
    ∧ (∀ tick, tick ∈ (s.link x).trigs → exec (.trigAckTimeout x tick) s =
        .next (trigMiss x (s.setLink x { s.link x with trigs := (s.link x).trigs.erase tick })))
    ∧ (∀ tick, tick ∉ (s.link x).trigs → exec (.trigAckTimeout x tick) s = .next s)
    ∧ (s.laneUp x = false → exec (.gpioLevelChange x) s = .next s)
    ∧ (∀ o m, s.laneUp x = true → o = s.fld (R.LINK_GPIO x) F.LINK_GPIO_OUT → m = s.fld (R.LINK_GPIO x) F.LINK_GPIO_MASK →
        let sent := State.sendReq (s.setLink x { s.link x with gpioSent := some (o, m) }) x Mt.GPIO 0 [BitVec.ofNat 8 o, BitVec.ofNat 8 m]
        (∀ k, (s.link x).gpioSent = some (k, m) →
          (BitVec.ofNat 8 o &&& BitVec.ofNat 8 m) = (BitVec.ofNat 8 k &&& BitVec.ofNat 8 m) → exec (.gpioLevelChange x) s = .next s)
        ∧ (∀ k n, (s.link x).gpioSent = some (k, n) →
          n ≠ m ∨ (BitVec.ofNat 8 o &&& BitVec.ofNat 8 m) ≠ (BitVec.ofNat 8 k &&& BitVec.ofNat 8 m) →
          exec (.gpioLevelChange x) s = .next sent.2)
        ∧ ((s.link x).gpioSent = none → exec (.gpioLevelChange x) s = .next (if m = 0 then s else sent.2)))
    ∧ exec .rollCallPeriod s = .next ((upTo 48).foldl (fun t y =>
        if (if y < 32 then bit (t.reg R.LINK_ROLL_RX_EN) y else bit (t.reg R.LINK_ROLL_TX_EN) (y - 32)) && t.laneUp y
        then callLane y t else t) s)

/-- Partners (R155 to R160, R459): the first valid IDENT of a lane in up records the partner, one of the same partner keeps
it, and a refused one keeps its record; a call unanswered is a miss, which at MISS_LIMIT loses the partner; an authentication
ends passed where the key is allowed and the signature verifies, else failed, or as a timeout; a partner not back after a
resume is lost. -/
def Obligations.PartnersComeAndGo : Prop :=
  ∀ (x : Fin 48) (h : MsgHdr) (b : List Byte) (s : State),
    let t := s.setLink x { s.link x with calling := false }
    let missed := s.fld (R.LINK_PARTNER x) F.LINK_PARTNER_MISSED
    let kept : State := t.setFld (R.LINK_PARTNER x) F.LINK_PARTNER_MISSED 0
    (s.holdsWork (laneDomain x) = true → exec (.ident x h b) s =
        .next { s with pwr := { s.pwr with heldWork := s.pwr.heldWork ++ [.ident x h b] } })
    ∧ (s.holdsWork (laneDomain x) = false → s.laneUp x = false → exec (.ident x h b) s = .next s)
    ∧ (s.holdsWork (laneDomain x) = false → s.laneUp x = true → h.crcOk = true → b.length = 32 →
      ((s.link x).calling = false → s.partnerKnown x = true →
        (s.relayTo x = none → exec (.ident x h b) s = .next s)
        ∧ (∀ y, s.relayTo x = some y → exec (.ident x h b) s = .next (s.sendMsg y Mt.IDENT h.seq.toNat h.port.toNat b)))
      ∧ ((s.link x).calling = true → ∀ k, (t.link x).ident = some k →
        (k.take 8 = b.take 8 ∨ t.partner x = Ps.refused → exec (.ident x h b) s = .next (answerDiscover x true kept))
        ∧ (k.take 8 ≠ b.take 8 → t.partner x ≠ Ps.refused →
          exec (.ident x h b) s = .next (answerDiscover x true (newPartner x b (losePartner x false t)))))
      ∧ ((s.link x).ident = none → (t.link x).ident = none →
        exec (.ident x h b) s = .next (answerDiscover x true (newPartner x b (resumeIdent x b t)))))
    ∧ (∀ u, s.holdsWork (laneDomain x) = false → s.laneUp x = true → h.crcOk = false ∨ b.length ≠ 32 →
        u = (if h.crcOk then s else s.incSat (R.LINK_MSG x) F.LINK_MSG_CRC_ERR 1) →
        exec (.ident x h b) s = .next (if (u.link x).calling then rollMiss x u else u))
    ∧ (s.laneUp x = true → (s.link x).calling = true → exec (.identTimeout x) s = .next (rollMiss x s))
    ∧ (s.laneUp x = false ∨ (s.link x).calling = false → exec (.identTimeout x) s = .next s)
    ∧ (∀ u, u = t.setFld (R.LINK_PARTNER x) F.LINK_PARTNER_MISSED (satAdd (t.fld (R.LINK_PARTNER x) F.LINK_PARTNER_MISSED) 1 15) →
        (u.partnerKnown x = true → u.partner x ≠ Ps.refused → u.fld R.LINK_ROLL F.LINK_ROLL_MISS_LIMIT ≤ missed + 1 →
          rollMiss x s = answerDiscover x false (losePartner x false u))
        ∧ (u.partnerKnown x = false ∨ u.partner x = Ps.refused ∨ missed + 1 < u.fld R.LINK_ROLL F.LINK_ROLL_MISS_LIMIT →
          rollMiss x s = answerDiscover x false u))
    ∧ (∀ key sig a, s.holdsWork (laneDomain x) = false → s.linkLive x = true → h.crcOk = true → (s.link x).auth = some a →
        (a.nonce = [] → exec (.authResp x h key sig) s = .next s)
        ∧ (a.nonce ≠ [] → (∀ k ∈ s.sec.allow, k ≠ Config.sha384 key) → exec (.authResp x h key sig) s = .next (authEnd x 2 0 s))
        ∧ (∀ i, a.nonce ≠ [] → s.sec.allow.findIdx? (· == Config.sha384 key) = some i →
          exec (.authResp x h key sig) s = .next (if Config.ecdsaVerify key (Config.sha384 (s.authMessage x a.nonce)) sig
            then authEnd x 1 i s else authEnd x 2 0 s)))
    ∧ exec (.authTimeout x) s = .next (authEnd x 3 0 s)
    ∧ (∀ r e, (s.link x).auth = none → authEnd x r e s = s)
    ∧ (x.val ∉ s.pwr.awaitPartner → exec (.partnerResumeTimeout x) s = .next s)
    ∧ (∀ v w, x.val ∈ s.pwr.awaitPartner → v = { s with pwr := { s.pwr with
          awaitPartner := s.pwr.awaitPartner.filter (· ≠ x), idents := SMap.erase s.pwr.idents x } } →
        w = (if x.val < 32 then closeLaneCtxs x 2 (tunnelDown x v) else v) →
        (v.partnerKnown x = true → exec (.partnerResumeTimeout x) s = .next (losePartner x false v))
        ∧ (v.partnerKnown x = false →
          exec (.partnerResumeTimeout x) s = .next (checkLinks (w.raise Ev.PARTNER_LOST (laneUnit x) 0))))

/-- 240 bytes at a receive lane, past its injection point: in up or doze a codeword, whose cells are taken and repeated, and
which is counted where symbols were corrected; one beyond correction is counted and damages what is in progress, and the
fourth missing alignment codeword in a row loses alignment; in align a trial for the alignment codeword; in train the messages
of an alignment codeword; in test raw bits for the checker or an idle codeword; a looped lane takes nothing (R119, R131, R138
to R144, R510 to R513).
A tunnelled two-wire transaction ends with the response that carries its SEQ, or by its time limit; a response of no
transaction of the hub's is passed on or dropped (R162, R429). -/
def Obligations.CodewordsAndTunnels : Prop :=
  (∀ (x : Fin 32) (raw : List Byte) (s : State),
      (s.looped x = true ∨ raw.length ≠ 240 → exec (.codeword x raw) s = .next s)
      ∧ (s.looped x = false → raw.length = 240 → ∀ (got : List Byte) (v : State), injectBytes x raw s = (got, v) →
        let bytes := got.map (·.toNat)
        let home := v.cellHome x
        let bits (cw fixed : List Nat) (hit : Bool) (seed : Nat) : List Nat := (scramble ((if hit then fixed else cw).take 224) seed).1
        let corr (hit : Bool) (t : State) : State := if hit then t.incSat (R.LINK_FEC_CORR x) F.LINK_FEC_CORR_CORR 1 else t
        let uncorr (t : State) : State := t.incSat (R.LINK_FEC_UNCORR x) F.LINK_FEC_UNCORR_UNCORR 1
        let cwAt (i : Nat) : List Nat := if i = 0 then maskParity bytes else bytes
        let seedAt (i : Nat) : Nat := if i = 0 then scrSeed (v.laneOne x) else (v.lane x).scr.toNat
        let took (i : Nat) : State :=
          let u := v.setLane home { v.lane home with delivered := [] }
          let w := u.setLane x { u.lane x with
            cwIndex := (i + 1) % 64, scr := BitVec.ofNat 23 (scramble ((cwAt i).take 224) (seedAt i)).2 }
          if i = 0 then repeatSwitch x w else w
        (∀ i cw seed, s.laneIn x [Ls.up, Ls.doze] = true → i = (v.lane x).cwIndex → cw = cwAt i → seed = seedAt i →
          (∀ fixed hit, rsDecode cw = some (fixed, hit) → ∀ d t u, d = bits cw fixed hit seed → t = corr hit (took i) →
            u = (cellsOf d).foldl (takeCell x)
              (repeatWord x got i seed (some d) (if i = 0 then t.setLane x { t.lane x with missed := 0 } else t)) →
            exec (.codeword x raw) s = .next (if i = 0 then atAlignment x u else u))
          ∧ (rsDecode cw = none → ∀ t u, t = damageCells x (repeatWord x got i seed none (uncorr (took i))) →
            u = t.setLane x { t.lane x with missed := (t.lane x).missed + 1 } →
            (i ≠ 0 → exec (.codeword x raw) s = .next t)
            ∧ (i = 0 → exec (.codeword x raw) s = .next (if 4 ≤ (u.lane x).missed then alignmentLoss x u else u))))
        ∧ (s.laneIn x [Ls.align] = true → exec (.codeword x raw) s = .next (trialWord x bytes v))
        ∧ (s.laneIn x [Ls.train] = true → exec (.codeword x raw) s =
          .next (trainWord x bytes (v.setLane home { v.lane home with delivered := [] })))
        ∧ (s.laneIn x [Ls.test] = true → s.fld (R.TEST_PCHK x) F.TEST_PCHK_PAT ≠ 7 →
          exec (.codeword x raw) s = .next (checkBits x (sentBits got) v))
        ∧ (∀ i cw seed, s.laneIn x [Ls.test] = true → s.fld (R.TEST_PCHK x) F.TEST_PCHK_PAT = 7 →
          i = (if isAlignWord bytes then 0 else (v.lane x).cwIndex) → cw = cwAt i → seed = seedAt i →
          (rsDecode cw = none → exec (.codeword x raw) s = .next (uncorr (took i)))
          ∧ (∀ fixed hit, rsDecode cw = some (fixed, hit) → exec (.codeword x raw) s =
            .next (checkerCount x 1792 (((bits cw fixed hit seed).map ones8).foldl (· + ·) 0) (corr hit (took i)))))
        ∧ (s.laneIn x [Ls.train, Ls.align, Ls.up, Ls.doze, Ls.test] = false → exec (.codeword x raw) s = .next v)))
  ∧ (∀ (x : Fin 32) (h : MsgHdr) (s : State),
      let k := s.twc (32 + x)
      (s.holdsWork (laneDomain x) = false → s.linkLive x = true → h.crcOk = true → ∀ st i d,
        (k.active = true → k.reqSeq = h.seq.toNat →
          exec (.i2cResp x h st i d) s = .next (tunnelResp x h.seq.toNat st.toNat i.toNat d s))
        ∧ (k.active = false ∨ k.reqSeq ≠ h.seq.toNat →
          (s.relayTo x = none → exec (.i2cResp x h st i d) s = .next s)
          ∧ (∀ y, s.relayTo x = some y →
            exec (.i2cResp x h st i d) s = .next (s.sendMsg y Mt.I2C_RESP h.seq.toNat h.port.toNat ([st, i] ++ d)))))
      ∧ (k.active = true → exec (.tunnelTimeout x) s = .next (tunnelEnd x Tw.TUNNEL_TIMEOUT 0 [] s))
      ∧ (k.active = false → exec (.tunnelTimeout x) s = .next s))

/-- Descrambling is the same operation as scrambling (R140): from the same seed it gives the bytes back and ends in the same
state. -/
def Obligations.DescramblingIsScrambling : Prop :=
  ∀ (bs : List Nat) (seed : Nat), scramble (scramble bs seed).1 seed = (bs, (scramble bs seed).2)

/-! ### Ticks, time bases, power states, boot and security (chapters 02, 13, 15, 16, 20) -/

/-- A staged set is frozen as the seal window opens, with what the next tick's future entries join (R53, R57); its check ends
with a verdict (R58); at the tick it takes effect whole if it passed and not at all if it failed, was void or its check had
not ended (R60, R61; which entry COMMIT_FAIL_SRC then names is the model's choice, log entry 73); the tick counts, gates check
the period that ends, and every unit then starts the tick's work (R43, R64, R178); an entry's tick is its stop instant
(R445). -/
def Obligations.TicksSealAndApplySets : Prop :=
  ∀ (s : State),
    let g := s.groom.staging
    let next := s.tg.count.toNat + 2
    let void := !s.groom.up || s.groom.restarting || s.dstate == .safe
    (s.sealing = true → g.frozen = none → exec .sealWindowOpen s = .next { s with groom := { s.groom with
        staging := ⟨(g.future.filter (fun e => e.1 = next)).map (·.2), g.future.filter (fun e => e.1 ≠ next),
          some ⟨g.fill, void, none⟩⟩ } })
    ∧ (s.sealing = false ∨ g.frozen ≠ none → exec .sealWindowOpen s = .next s)
    ∧ (∀ f : Frozen, g.frozen = some f → f.void = false → f.entries ≠ [] → f.verdict = none → s.groom.up = true →
        exec .consistencyCheckDone s = .next { s with groom := { s.groom with
          staging := { g with frozen := some { f with verdict := some (verdict s f.entries) } } } })
    ∧ ((∀ f : Frozen, g.frozen = some f → f.void = true ∨ f.entries = [] ∨ f.verdict ≠ none ∨ s.groom.up = false) →
        exec .consistencyCheckDone s = .next s)
    ∧ (s.tg.running = false → exec .tick s = .next s)
    ∧ (s.tg.running = true → s.pwr.entry ≠ none → exec .tick s = .next (stopInstant s))
    ∧ (s.tg.running = true → s.pwr.entry = none →
        let f := if s.sealing && !s.winOpen then freeze s else s
        let a := gatesTick (padsTick (applySteps (applyRebuilt (comingReady { f with tg := { f.tg with
          count := f.tg.count + 1, since := f.tg.since + 1, first := false } })).newRecordPeriod))
        let b := forceDue (sealDue a)
        let c := if f.tg.first = true ∨ a.tickSrc ≠ b.tickSrc ∨ a.reg R.TICK_PERIOD ≠ b.reg R.TICK_PERIOD then b.reanchor else b
        exec .tick s = .next (recover (tickWork (standTick (stopClocks a c)))))
    ∧ (g.frozen = none → sealDue s = closeWindow s)
    ∧ (∀ f : Frozen, g.frozen = some f →
        let t := { s with groom := { s.groom with staging := { g with
          frozen := none, fill := g.fill.map (fun e => { e with inWindow := false }) } } }
        (f.void = true → sealDue s = t)
        ∧ (f.void = false → f.entries = [] → sealDue s = noteSeal 3 0 0 t.tickLo t)
        ∧ (f.void = false → f.entries ≠ [] → f.verdict = some .pass → sealDue s =
            afterCommit ((noteSeal 1 0 f.entries.length t.tickLo (commitSet f.entries t)).raise Ev.COMMIT_DONE 0 0))
        ∧ (∀ r tag unit, f.void = false → f.entries ≠ [] → f.verdict = some (.fail r tag unit) → sealDue s =
            ((noteSeal 2 r f.entries.length t.tickLo t).setReg R.COMMIT_FAIL_SRC
              (w32 (tag.toNat + 65536 * unit.toNat))).raise Ev.COMMIT_FAIL 0 0)
        ∧ (∀ e es, f.void = false → f.entries = e :: es → f.verdict = none → sealDue s =
            ((noteSeal 2 8 f.entries.length t.tickLo t).setReg R.COMMIT_FAIL_SRC
              (w32 (e.tag.toNat + 65536 * e.unit.toNat))).raise Ev.COMMIT_FAIL 0 0))

/-- Work of a tick ends: a stall or yard whose work and transfers are done reports, a remap engine ends its frame, a head
reports its last one, a kernel copy loads the stall, a shed's stalls launch as its clocks restart, and a record period begins
anew where no tick runs (R26, R66, R72, R218, R496). -/
def Obligations.WorkOfATickEnds : Prop :=
  ∀ (s : State),
    (∀ n : Nat, n < 4096 →
      let x := s.stall n
      let report := exec (.doneReport (BitVec.ofNat 16 (0x2000 + n))) s
      (x.state ≠ .running → x.xfers = [] → x.launchOnRestart = false →
        (x.owesDone = true → report = .next ((s.setStall n { x with owesDone := false, late := false, truncIn := false }).emit
          (.doneReport (BitVec.ofNat 16 (stallUnit n)) x.launchTick (doneStatus (x.state == .fault) x.truncIn) x.usedCycles x.late)))
        ∧ (x.owesDone = false → report = .next s))
      ∧ (x.state = .running ∨ x.xfers ≠ [] ∨ x.launchOnRestart = true → report = .next s))
    ∧ (∀ i : Nat, i < 4096 → exec (.doneReport (BitVec.ofNat 16 (0x3000 + i))) s = .next (remapFollow (reportYard i s)))
    ∧ (∀ i y tick, s.yard? i = some y → y.owes = some tick → s.yardReady y = true → reportYard i s = yardReport y tick s)
    ∧ (∀ n : Nat, n < 4096 → exec (.doneReport (BitVec.ofNat 16 (0x4000 + n))) s = .next (remapDone n s))
    ∧ (∀ n : Nat, n < 4096 →
        (∀ o, (s.head n).owes = some o → exec (.doneReport (BitVec.ofNat 16 (0x5000 + n))) s = .next
          (dmaHead n (State.emit (s.setHead n { s.head n with owes := none })
            (.doneReport (BitVec.ofNat 16 (headUnit n)) o.tick o.status 0 o.late))))
        ∧ ((s.head n).owes = none → exec (.doneReport (BitVec.ofNat 16 (0x5000 + n))) s = .next s))
    ∧ (∀ u : BitVec 16, u.toNat < 0x2000 ∨ 0x6000 ≤ u.toNat → exec (.doneReport u) s = .next s)
    ∧ (∀ (n : Fin 256) o t, (s.stall n).loadingObj = some o → t = s.onPair n (fun y => { loadObject o y with state := .loaded }) →
        exec (.kernelLoadComplete n) s = .next (if (t.stall n).lock
          then t.setStall (n / 2 * 2 + 1) { t.stall (n / 2 * 2 + 1) with state := .checker } else t))
    ∧ (∀ n : Fin 256, (s.stall n).loadingObj = none → exec (.kernelLoadComplete n) s = .next s)
    ∧ (∀ (h : Fin 16) t, t = { s with pwr := { s.pwr with stoppedSheds := s.pwr.stoppedSheds.filter (· ≠ h.val) } } →
        exec (.shedClockRestart h) s = .next ((upTo 16).foldl (fun a i => if (a.stall (16 * h + i)).launchOnRestart
          then a.onPair (16 * h + i) (launched (a.stall (16 * h + i)).launchTick) else a) t)
        ∧ ((∀ i, i < 16 → (t.stall (16 * h + i)).launchOnRestart = false) → exec (.shedClockRestart h) s = .next t))
    ∧ (s.tg.running = false → exec .eventRecordWindow s = .next { s with ev := { s.ev with written := [] } })
    ∧ (s.tg.running = true → exec .eventRecordWindow s = .next s)

/-- gPTP messages for a time base that is bound to their port and domain are counted as good frames and handled; an event
message for none is counted as filtered, any other is only counted; a port that does not receive takes none (R394, R402,
R403, R407 to R411). -/
def Obligations.GptpMessagesReachTheirInstance : Prop :=
  ∀ (port : Fin 2) (domain : BitVec 8) (seq : BitVec 16) (s : State),
    let t := s.incWrap (R.ETH_RX port) F.ETH_RX_GOOD 1
    let events (r : Host.Outcome State Fault Refusal) : Prop :=
      (∀ two o c, exec (.sync port domain seq two o c) s = r) ∧ (∀ q, exec (.pdelayReq port domain seq q) s = r)
      ∧ (∀ q, exec (.pdelayResp port domain seq q) s = r)
    let general (r : Host.Outcome State Fault Refusal) : Prop :=
      (∀ o c, exec (.followUp port domain seq o c) s = r) ∧ (∀ q, exec (.pdelayRespFollowUp port domain seq q) s = r)
      ∧ (∀ a, exec (.announce port domain a) s = r) ∧ (∀ a b c, exec (.signaling port domain a b c) s = r)
    (s.ethUp port = false → events (.next s) ∧ general (.next s))
    ∧ (s.ethUp port = true → s.gptpOf port domain.toNat = none →
      events (.next (s.incSat (R.ETH_RX port) F.ETH_RX_FILTERED 1)) ∧ general (.next t))
    ∧ (∀ n, s.ethUp port = true → s.gptpOf port domain.toNat = some n →
      let g := t.gptp n
      let slave (u : State) : Prop := u.tbSlave n = true ∧ u.asCapable n = true
      (∀ o c, exec (.sync port domain seq true o c) s =
          .next (t.setGptp n { g with sync := some (seq, t.rxStamp port n, t.clk.localNs) }))
      ∧ (∀ o c, slave t → exec (.sync port domain seq false o c) s = .next
          (ownMeasurement n (t.rxStamp port n - (fineOf o + c + t.linkDelay n)) (fineOf o + c + t.linkDelay n) t.clk.localNs t))
      ∧ (∀ o c, ¬ slave t → exec (.sync port domain seq false o c) s = .next t)
      ∧ (∀ rx lc o c u, g.sync = some (seq, rx, lc) → u = t.setGptp n { g with sync := none } →
          (slave u → exec (.followUp port domain seq o c) s = .next
            (ownMeasurement n (rx - (fineOf o + c + t.linkDelay n)) (fineOf o + c + t.linkDelay n) lc u))
          ∧ (¬ slave u → exec (.followUp port domain seq o c) s = .next u))
      ∧ ((∀ rx lc, g.sync ≠ some (seq, rx, lc)) → ∀ o c, exec (.followUp port domain seq o c) s = .next t)
      ∧ (∀ q u, u = t.setGptp n { g with pdRespTo := some (seq, q) } →
          exec (.pdelayReq port domain seq q) s = .next (gptpSend n ptpPdelayResp seq (u.rxStamp port n) u))
      ∧ (∀ q, exec (.pdelayResp port domain seq q) s = .next (match g.pdReq with
          | some (k, some _) => if k = seq then t.setGptp n { g with pdResp := some (seq, fineOf q, t.rxStamp port n) } else t
          | _ => t))
      ∧ (∀ t1 t2 t4 q turn d u, g.pdReq = some (seq, some t1) → g.pdResp = some (seq, t2, t4) →
          turn = (match g.pdLast with
            | some (a3, a4) => if t4 - a4 = 0 then t4 - t1 else Int.tdiv ((t4 - t1) * (fineOf q - a3)) (t4 - a4)
            | none => t4 - t1) →
          d = Int.tdiv (turn - (fineOf q - t2)) 2 →
          u = t.setGptp n { g with
            pdReq := none, pdResp := none, pdLast := some (fineOf q, t4), linkDelay := d, asCapable := true, lost := 0 } →
          exec (.pdelayRespFollowUp port domain seq q) s = .next (u.setFld (R.TB_LINKMEAS n) F.TB_LINKMEAS_DELAY_PS
            (if (Int.tdiv (d * 1000) 65536).toNat ≤ F.TB_LINKMEAS_DELAY_PS.max then (Int.tdiv (d * 1000) 65536).toNat
              else F.TB_LINKMEAS_DELAY_PS.max)))
      ∧ ((∀ t1 t2 t4, g.pdReq = some (seq, some t1) → g.pdResp ≠ some (seq, t2, t4)) →
          ∀ q, exec (.pdelayRespFollowUp port domain seq q) s = .next t)
      ∧ (∀ a u better,
          better = Config.bmcaBetter (dataset a.prio1.toNat a.clockClass.toNat a.accuracy.toNat a.variance.toNat a.prio2.toNat
            a.gm.toNat a.steps.toNat a.sender.toNat) (dataset (t.fld (R.TB_GPTP n) F.TB_GPTP_PRIO1) 248 0 0
              (t.fld (R.TB_GPTP n) F.TB_GPTP_PRIO2) (t.ownIdentity n).toNat 0 0) →
          u = t.setFld (R.TB_STATUS n) F.TB_STATUS_PORT_STATE 1 →
          (t.fld (R.TB_GPTP n) F.TB_GPTP_ROLE = 2 → exec (.announce port domain a) s = .next t)
          ∧ (t.fld (R.TB_GPTP n) F.TB_GPTP_ROLE ≠ 2 → t.fld (R.TB_GPTP n) F.TB_GPTP_ROLE = 1 ∨ better = true →
            exec (.announce port domain a) s = .next (gmChange n a.gm (if u.tbState n = 0
              then (u.setTb n { u.tb n with hist := [] }).setTbState n 1 else u)))
          ∧ (t.fld (R.TB_GPTP n) F.TB_GPTP_ROLE ≠ 2 → t.fld (R.TB_GPTP n) F.TB_GPTP_ROLE ≠ 1 → better = false →
            exec (.announce port domain a) s = .next (becomeMaster n t)))
      ∧ (∀ a b c, exec (.signaling port domain a b c) s = .next (t.setGptp n { g with asked := some (a, b, c) })))

/-- The 802.1AS timers send as the instance's part asks (R410, R411); transmit stamps queue up to 16 deep (R408); a port's
link is shown and its downs counted (R402); a receipt timeout enters HOLDOVER where no partner takes over, a slew ends at the
last F, and a step moves the time base by its amount (R395, R396, R399, R400). How many lost responses end asCapable is
presumed (log entry 7).
PPS pins: an accepted edge on PPS_IN is captured with the reading of its time base, one within 500 ms of the last is a
glitch (R412); PPS_OUT pulses with its time base, or skips, and falls after its width (R413); without the groom neither
acts. -/
def Obligations.TimeBasesAndPpsPins : Prop :=
  (∀ (n : Fin 4) (port : Fin 2) (s : State),
      let g := s.gptp n
      let ok := s.ethUp (s.fld (R.TB_GPTP n) F.TB_GPTP_PORT)
      let link := s.flag (R.ETH_STATUS port) F.ETH_STATUS_LINK
      (s.tbMaster n = true → ok = true →
          exec (.syncTimer n) s = .next (gptpSend n ptpSync g.syncSeq 0
            (s.setGptp n { g with syncSent := some g.syncSeq, syncSeq := g.syncSeq + 1 }))
          ∧ exec (.announceTimer n) s = .next (gptpSend n ptpAnnounce g.annSeq 0 (s.setGptp n { g with annSeq := g.annSeq + 1 })))
      ∧ (s.tbMaster n = false ∨ ok = false → exec (.syncTimer n) s = .next s ∧ exec (.announceTimer n) s = .next s)
      ∧ (∀ lost, s.tbMode n = 1 → s.flag (R.TB_GPTP n) F.TB_GPTP_PDELAY_EN = true → ok = true →
          lost = (if g.pdReq.isSome then g.lost + 1 else g.lost) →
          exec (.pdelayTimer n) s = .next (gptpSend n ptpPdelayReq g.pdSeq 0 (s.setGptp n { g with
            lost := lost, asCapable := g.asCapable && decide (lost ≤ 9), pdReq := some (g.pdSeq, none), pdResp := none,
            pdSeq := g.pdSeq + 1 })))
      ∧ (s.tbMode n ≠ 1 ∨ s.flag (R.TB_GPTP n) F.TB_GPTP_PDELAY_EN = false ∨ ok = false → exec (.pdelayTimer n) s = .next s)
      ∧ (s.dark 0x30 = true → (∀ id, exec (.txTimestamp port id n) s = .next s)
          ∧ ∀ up lock an, exec (.ethLinkChange port up lock an) s = .next s)
      ∧ (∀ id q, s.dark 0x30 = false → q = SMap.get s.clk.txts [] port → q.length < 16 → exec (.txTimestamp port id n) s =
          .next { s with clk := { s.clk with txts := SMap.put s.clk.txts [] port (q ++ [⟨id, n, s.epoch n,
            ((s.tbFine n : Int) + finePs (s.fld (R.ETH_TX_LAT port) F.ETH_TX_LAT_LAT_PS)).toNat⟩]) } })
      ∧ (∀ id t, s.dark 0x30 = false → 16 ≤ (SMap.get s.clk.txts [] port).length →
          t = s.incSat (R.ETH_TXTS port) F.ETH_TXTS_OVERFLOW 1 → exec (.txTimestamp port id n) s =
            .next ((if (t.gptp n).syncSent = some id then t.setGptp n { t.gptp n with syncSent := none } else t).raise Ev.TS_OVERFLOW 0 0))
      ∧ (∀ up lock an t, s.dark 0x30 = false →
          t = ((s.setFlag (R.ETH_STATUS port) F.ETH_STATUS_LINK up).setFlag (R.ETH_STATUS port) F.ETH_STATUS_LOCK
            lock).setFlag (R.ETH_STATUS port) F.ETH_STATUS_AN_DONE an →
          exec (.ethLinkChange port up lock an) s = .next
            (if link = true ∧ up = false then t.incSat (R.ETH_LINKCNT port) F.ETH_LINKCNT_DOWNS 1 else t))
      ∧ (∀ p u, s.tbFree n = false → p = s.fld (R.TB_PAIR n) F.TB_PAIR_PARTNER →
          u = (if s.switched n then s else if s.flag (R.TB_PAIR n) F.TB_PAIR_EN = true ∧ s.tbState p ≠ 4 then switchOver n s
            else holdover n s) →
          exec (.receiptTimeout n) s = .next (if u.tbState n = 4
            then (u.primariesOf n).foldl (fun t a => if t.switched a then holdover a t else t) u else u))
      ∧ (s.tbFree n = true → exec (.receiptTimeout n) s = .next s)
      ∧ (∀ t, s.tbState n = 3 → t = s.setTb n { s.tb n with remain := 0 } → exec (.slewComplete n) s =
          .next ((t.setRateEff n ((t.tb n).f.getD 0)).setTbState n 2))
      ∧ (s.tbState n ≠ 3 → exec (.slewComplete n) s = .next s)
      ∧ (∀ d t u, s.tg.running = false → (s.tb n).step = some d →
          t = cancelStep n (s.setTb n { s.tb n with val := (((s.tb n).val : Int) + d * 2 ^ 32).toNat % tbTop }) →
          u = (if d < 0 then (t.setFld (R.TB_STATUS n) F.TB_STATUS_EPOCH (t.epoch n + 1)).incSat (R.TB_CNT n) F.TB_CNT_BACKSTEPS 1
            else t.incSat (R.TB_CNT n) F.TB_CNT_STEPS 1) →
          exec (.stepApply n) s = .next (u.raise Ev.TB_STEP (tbUnit n) (evArg (b01 (decide (d < 0))) (u.epoch n) 0)))
      ∧ (s.tg.running = true ∨ (s.tb n).step = none → exec (.stepApply n) s = .next s))
  ∧ (∀ (s : State),
      let n := s.fld R.PPS_OUT_CTRL F.PPS_OUT_CTRL_SRC
      let runs : Prop := s.flag R.PPS_OUT_CTRL F.PPS_OUT_CTRL_EN = true ∧ s.groom.up = true
        ∧ (s.flag R.PPS_OUT_CTRL F.PPS_OUT_CTRL_GATE = false ∨ s.tbState n = 2)
      (s.flag R.PPS_IN_CTRL F.PPS_IN_CTRL_EN = false ∨ s.groom.up = false → exec .ppsInEdge s = .next s)
      ∧ (s.flag R.PPS_IN_CTRL F.PPS_IN_CTRL_EN = true → s.groom.up = true →
        (∀ a, s.clk.ppsInAt = some a → s.clk.localNs - a < 500000000 →
          exec .ppsInEdge s = .next (s.incSat R.PPS_IN_CNT F.PPS_IN_CNT_GLITCHES 1))
        ∧ ((∀ a, s.clk.ppsInAt = some a → 500000000 ≤ s.clk.localNs - a) → ∀ t m v u w,
          t = State.incWrap { s with clk := { s.clk with ppsInAt := some s.clk.localNs } } R.PPS_IN_CNT F.PPS_IN_CNT_EDGES 1 →
          m = t.fld R.PPS_IN_CTRL F.PPS_IN_CTRL_TB → v = t.tbWhole m - t.fld R.PPS_IN_CTRL F.PPS_IN_CTRL_DLY_NS →
          u = (t.setReg R.PPS_IN_NS (w32 (v % 1000000000))).setReg R.PPS_IN_S_LO (w32 (v / 1000000000)) →
          w = u.setReg R.PPS_IN_INFO (w32 (v / 1000000000 / 2 ^ 32 % 65536 + 65536 * u.epoch m + 2 ^ 24 * m)) →
          exec .ppsInEdge s = .next (((upTo 4).filter (fun k => w.tbMode k == 2)).foldl (fun t k => ppsMeasure k t) w)))
      ∧ (¬ runs → exec .ppsOutEdge s = .next s)
      ∧ (runs → (∀ a, s.clk.ppsOutAt = some a → s.clk.localNs - a < 500000000 →
          exec .ppsOutEdge s = .next (s.incSat R.PPS_OUT_CNT F.PPS_OUT_CNT_SKIPPED 1))
        ∧ ((∀ a, s.clk.ppsOutAt = some a → 500000000 ≤ s.clk.localNs - a) → exec .ppsOutEdge s = .next
          (State.incWrap { s with clk := { s.clk with ppsOutAt := some s.clk.localNs, ppsOut := true } } R.PPS_OUT_CNT
            F.PPS_OUT_CNT_PULSES 1)))
      ∧ exec .ppsOutFall s = .next { s with clk := { s.clk with ppsOut := false } })

/-- The handshake of a sleep entry: a domain's delay ends with its agreement, or refuses the entry with what still blocks it
(R446, R447); once all have agreed the hub's groom stops, the frame store refreshes itself, PWR_REQ is released, and debug
scopes end, but for a wake that came too late to stop the entry (R448 to R450).
A wake source that is enabled aborts an entry not yet agreed, is kept for one that has been, wakes a hub that sleeps in
Hold or Stow, and ends Idle; one that is not enabled, a tone on a lane not named, or an alarm that does not match does nothing,
and Off has no wake source (R447, R448, R452 to R454). -/
def Obligations.SleepEntriesAndWakes : Prop :=
  (∀ (s : State),
      (s.pwr.entry = none → (∀ d, exec (.domainDelayExpiry d) s = .next s ∧ exec (.domainAgree d) s = .next s)
        ∧ exec .entryComplete s = .next s)
      ∧ (∀ (e : EntrySt) (d : Fin 53), s.pwr.entry = some e →
        (e.delaying = some d.val → (∀ r b, s.blocker d = some (r, b) → exec (.domainDelayExpiry d) s = .next (s.endEntry 1 d r 0))
          ∧ (s.blocker d = none → exec (.domainDelayExpiry d) s = .next (askDomains (d + 1) (abandonShed d s)))
          ∧ (s.answerOf d = .agree → exec (.domainAgree d) s = .next (askDomains (d + 1) s))
          ∧ (s.answerOf d ≠ .agree → exec (.domainAgree d) s = .next s))
        ∧ (e.delaying ≠ some d.val → exec (.domainDelayExpiry d) s = .next s ∧ exec (.domainAgree d) s = .next s)
        ∧ (e.agreed = false → exec .entryComplete s = .next s)
        ∧ (e.agreed = true → ∃ t, exec .entryComplete s = .next t
          ∧ t.pwr.entry = none ∧ t.pwr.kind = e.kind ∧ t.pwr.pwrgood = false ∧ t.groom.up = false ∧ t.store.selfRefresh = true
          ∧ t.sec.debugScopes = 0
          ∧ (t.pwr.resume = .asleep ∧ t.pwr.pwrReq = false ∨ e.kind ≠ .off ∧ t.pwr.resume = .waitPwrgood ∧ t.pwr.pwrReq = true))))
  ∧ (∀ (s : State) (also : BitVec 5),
      let m (own : Nat) : Nat := (BitVec.ofNat 5 own ||| also).toNat &&& bits (s.reg R.PWR_WAKE) 4 0
      let woken (k : Nat) : State := wake (m k) s
      let alarm := (s.reg R.PWR_RTC_ALARM_LO).toNat + 2 ^ 32 * bits (s.reg R.PWR_RTC_ALARM_HI) 15 0
      exec (.wakePin also) s = .next (woken 1)
      ∧ exec (.ppsWake also) s = .next (woken 4)
      ∧ (∀ x : Fin 48, (if x.val < 32 then bit (s.reg R.PWR_WAKE_RX) x else bit (s.reg R.PWR_WAKE_TX) (x - 32)) = true →
          exec (.linkToneWake x also) s = .next (woken 16))
      ∧ (∀ x : Fin 48, (if x.val < 32 then bit (s.reg R.PWR_WAKE_RX) x else bit (s.reg R.PWR_WAKE_TX) (x - 32)) = false →
          exec (.linkToneWake x also) s = .next s)
      ∧ (s.pwr.rtc.toNat = alarm → exec (.rtcAlarm also) s = .next (woken 8))
      ∧ (s.pwr.rtc.toNat ≠ alarm → exec (.rtcAlarm also) s = .next s)
      ∧ (∀ k, m k = 0 → woken k = s)
      ∧ (∀ k e, m k ≠ 0 → s.pwr.entry = some e → e.agreed = false → woken k = s.endEntry 2 0xFF 0 (m k))
      ∧ (∀ k e, m k ≠ 0 → s.pwr.entry = some e → e.agreed = true →
          woken k = { s with pwr := { s.pwr with lateWake := s.pwr.lateWake ||| m k } })
      ∧ (∀ k, m k ≠ 0 → s.pwr.entry = none → s.pwr.resume = .asleep → s.pwr.kind ≠ .off →
          woken k = wakeNow (m k) s ∧ (woken k).pwr.pwrReq = true ∧ (woken k).pwr.resume = .waitPwrgood)
      ∧ (∀ k, m k ≠ 0 → s.pwr.entry = none → s.pwr.resume = .asleep → s.pwr.kind = .off → woken k = s)
      ∧ (∀ k, m k ≠ 0 → s.pwr.entry = none → s.pwr.resume ≠ .asleep → woken k = idleEnd s))

/-- A resume: PWRGOOD after a wake starts the groom with its banks, banks are checked wave by wave, and once none is left
the hub takes up its work (R455 to R458); PWRGOOD that stays away releases PWR_REQ (R454); a failed bank's rebuild
applies at once where no tick runs, else at the next tick (R457).
The supplies: a brown-out leads to a cold boot, a thermal trip and the loss of the rails to Off, after which the hub
powers up cold (R550 to R553); a temperature is kept and its thresholds raise their events once, until it has fallen by 5 °C
(R498). -/
def Obligations.ResumesSuppliesAndTemperature : Prop :=
  (∀ (s : State),
      (s.pwr.pwrgood = true ∨ s.pwr.pwrReq = false → ∀ fails, exec (.pwrgood fails) s = .next s)
      ∧ (∀ t, s.pwr.pwrgood = false → s.pwr.pwrReq = true → t = { s with pwr := { s.pwr with pwrgood := true } } →
        (∀ fails : List (Fin 60), s.pwr.resume = .waitPwrgood → (∀ b ∈ fails, b.val < 0x33) →
            exec (.pwrgood fails) s = .next (groomResumes t))
        ∧ (∀ (fails : List (Fin 60)) (b : Fin 60), s.pwr.resume = .waitPwrgood → b ∈ fails → 0x33 ≤ b.val →
            exec (.pwrgood fails) s = .next (coldStart true t))
        ∧ (∀ fails, s.pwr.resume ≠ .waitPwrgood → exec (.pwrgood fails) s = .next t))
      ∧ (s.pwr.resume = .waitPwrgood → exec .pwrgoodTimeout s = .next { s with pwr := { s.pwr with
          pwrReq := false, resume := .asleep, pmicTimeouts := s.pwr.pmicTimeouts + 1 } })
      ∧ (s.pwr.resume ≠ .waitPwrgood → exec .pwrgoodTimeout s = .next s)
      ∧ (∀ (b : Fin 60) t, s.checkable b = true → t = { s with pwr := { s.pwr with toCheck := s.pwr.toCheck.filter (fun c => c != b.val) } } →
          (dramBank b = false → exec (.bankCheck b true) s = .next (settleDram (makeReady [b.val] t))
            ∧ exec (.bankCheck b false) s = .next (settleDram (bankFails b t)))
          ∧ (dramBank b = true → exec (.bankCheck b false) s = .next (coldStart true s)
            ∧ ∀ u, u = settleDram (makeReady [b.val] t) →
              exec (.bankCheck b true) s = .next (if u.pwr.toCheck.any dramBank then u else storePass u)))
      ∧ (∀ (b : Fin 60) ok, s.checkable b = false → exec (.bankCheck b ok) s = .next s)
      ∧ (s.pwr.resume ≠ .checking ∨ s.pwr.toCheck ≠ [] → exec .resumeStep s = .next s)
      ∧ (s.pwr.resume = .checking → s.pwr.toCheck = [] →
        let t := resumeClocks ((s.pwr.rtc.toNat - s.pwr.entryRtc) * 1000000000 / 32768)
          (forgetLate { s with pwr := { s.pwr with resume := .awake, resumeTick := s.tickLo } })
        let u := (t.setFld R.PWR_RESUME F.PWR_RESUME_TIME
          (satAdd 0 ((t.pwr.rtc.toNat - t.pwr.wakeRtc) * 10000 / 32768) 0xFFFF)).raise Ev.RESUME_DONE 0 0
        let v := releasePads (u.fld R.PWR_RESUME_CTRL F.PWR_RESUME_CTRL_AUTO_PADS) u
        let gpio := v.pwr.gpio ||| BitVec.ofNat 16 (v.fld R.PWR_RESUME_CTRL F.PWR_RESUME_CTRL_CAMPWR)
        let w := { v with pwr := { v.pwr with gpio := gpio, awaitPartner := v.pwr.idents.map (·.1) } }
        let ticks := w.dstate == .run || w.dstate == .degraded || (w.dstate == .safe && w.flag R.TICK_CTRL F.TICK_CTRL_RUN)
        let r := checkDirects (wantLanes (if ticks then startTicks w else w))
        exec .resumeStep s = .next (if r.tg.running then r else applyRebuilt r))
      ∧ (∀ (b : Fin 60) t, b.val ∈ s.pwr.rebuild → b.val ∉ s.pwr.rebuilt → s.groom.up = true →
          t = { s with pwr := { s.pwr with rebuilt := s.pwr.rebuilt ++ [b.val] } } →
          exec (.bankRebuildDone b) s = .next (if s.pwr.resume = .awake ∧ s.tg.running = false then applyRebuilt t else t))
      ∧ (∀ b : Fin 60, b.val ∉ s.pwr.rebuild ∨ b.val ∈ s.pwr.rebuilt ∨ s.groom.up = false → exec (.bankRebuildDone b) s = .next s))
  ∧ (∀ (s : State),
      (s.pwr.pwrgood = true → s.pwr.resume ≠ .asleep → exec .brownOut s =
          .next { coldStart false s with sec := { (coldStart false s).sec with bootFault := true } })
      ∧ (s.pwr.pwrgood = false ∨ s.pwr.resume = .asleep → exec .brownOut s = .next s)
      ∧ (∀ good, s.dstate ≠ .holdEntry → s.dstate ≠ .stowEntry → ∃ t, coldStart good s = t ∧ t.dstate = .boot
          ∧ t.pwr.pwrReq = true ∧ t.pwr.pwrgood = good ∧ t.regs = State.reset.regs ∧ t.sec.flash = s.sec.flash ∧ t.sec.otp = s.sec.otp)
      ∧ (s.pwr.pwrgood = true → ∃ t, exec .thermalTrip s = .next t ∧ t.pwr.pwrReq = false ∧ t.pwr.kind = .off
          ∧ t.pwr.resume = .asleep ∧ t.sec.bootFault = true)
      ∧ (s.pwr.pwrgood = false → exec .thermalTrip s = .next s)
      ∧ (∃ t, exec .supplyLoss s = .next t ∧ t.pwr.kind = .off ∧ t.pwr.resume = .asleep ∧ t.pwr.pwrgood = false
          ∧ t.store.mem = [] ∧ t.hay = [] ∧ t.sec.otp = s.sec.otp ∧ t.sec.flash = s.sec.flash)
      ∧ (s.pwr.resume = .asleep → s.pwr.kind = .off → s.sec.bootFault = false → exec .coldPowerUp s = .next (coldStart false s))
      ∧ (s.pwr.resume ≠ .asleep ∨ s.pwr.kind ≠ .off ∨ s.sec.bootFault = true → exec .coldPowerUp s = .next s)
      ∧ (∀ temp sensor, s.pwr.pwrgood = false ∨ s.pwr.resume = .asleep ∨ s.pwr.resume = .waitPwrgood →
          exec (.temperatureChange temp sensor) s = .next s)
      ∧ (∀ (temp : BitVec 9) (sensor : Fin 16) (t u v : State) (c warn crit : Int),
          s.pwr.pwrgood = true → s.pwr.resume ≠ .asleep → s.pwr.resume ≠ .waitPwrgood →
          c = sext 9 temp.toNat → t = s.setFld R.EV_TEMP F.EV_TEMP_TEMP temp.toNat →
          warn = t.fld R.EV_TEMP F.EV_TEMP_WARN_C → crit = t.fld R.EV_TEMP F.EV_TEMP_CRIT_C →
          u = { t with ev := { t.ev with
            warnArmed := t.ev.warnArmed || decide (c ≤ warn - 5), critArmed := t.ev.critArmed || decide (c ≤ crit - 5),
            critHot := t.ev.critHot && decide (crit - 5 ≤ c) } } →
          v = (if u.ev.warnArmed = true ∧ warn ≤ c
            then State.raise { u with ev := { u.ev with warnArmed := false } } Ev.TEMP_WARN 0 (evArg sensor 0 0) else u) →
          exec (.temperatureChange temp sensor) s = .next (if v.ev.critArmed = true ∧ crit ≤ c
            then State.raise { v with ev := { v.ev with critArmed := false, critHot := true } } Ev.TEMP_CRIT 0 (evArg sensor 0 0)
            else v)))

/-- The boot: the ROM takes the straps, tests itself and finds firmware or goes STANDALONE (R467, R486); verified firmware
starts with the frame store keyed or kept, or in SAFE without a TRNG; a miscompare of the groom cores stops it, empties its
log and raises GROOM_MISCOMPARE, and the restart brings it back DEGRADED, or in SAFE after a second one within 1 s or where
that event is routed so (R107, R467, R468, R478). -/
def Obligations.BootsAndRestarts : Prop :=
  ∀ (s : State),
    (∀ (b : StrapLevels) (ok : Bool) (a : Straps) (v t u : State),
      s.dstate = .boot → s.pwr.pwrgood = true → s.sec.fwReady = false → s.sec.fw = none →
      a = ⟨b.twtAs.toNat, b.bootSel.toNat, b.mosSel.toNat, b01 b.medSel⟩ →
      v = (if s.evStatus Ev.STATE_CHANGE then s else s.moveTo .boot 0xF000) →
      t = State.setFld { v with sec := { v.sec with strapBalls := a, straps := a, trngOk := ok, bootFault := !ok } }
        R.TWT_CTRL F.TWT_CTRL_ADDR (strapAddr b.twtAs.toNat) →
      u = { t with pwr := { t.pwr with startNs := t.clk.localNs } } →
      (ok = false → exec (.coldBoot b ok) s = .next u)
      ∧ (ok = true → u.sec.straps.bootSel = 1 ∨ u.directory = none → exec (.coldBoot b ok) s = .next (enterStandalone u))
      ∧ (∀ copy xspi l w good codes x, ok = true → u.sec.straps.bootSel ≠ 1 → u.directory = some (copy, xspi, l) →
          w = (let y := u.setFld R.SEC_BOOT F.SEC_BOOT_DIR_COPY copy; { y with sec := { y.sec with xspi := xspi } }) →
          firstGood 1 (w.candidates 1) w = (good, codes, x) →
          (good = none → exec (.coldBoot b ok) s = .next (enterStandalone (noteRejects codes x)))
          ∧ (∀ e i z, good = some (e, i) → z = ((noteRejects codes x).setFld R.SEC_BOOT F.SEC_BOOT_FW_SLOT e.slot).setFld
              R.SEC_BOOT F.SEC_BOOT_FW_KEY i.key →
            exec (.coldBoot b ok) s =
              .next { z with sec := { z.sec with fw := some (w32 i.ver, i.svn, i.key, i.digest), fwReady := true } })))
    ∧ (s.dstate ≠ .boot ∨ s.pwr.pwrgood = false ∨ s.sec.fwReady = true ∨ s.sec.fw ≠ none → ∀ b ok, exec (.coldBoot b ok) s = .next s)
    ∧ (∀ t trained, s.dstate = .boot → s.sec.fwReady = true →
      t = tellPmic { s with sec := { s.sec with fwReady := false, warm := false }, groom := { s.groom with up := true } } →
      (s.sec.warm = true ∧ trained = true → ∀ u, u = { t with store := { t.store with selfRefresh := false } } →
        exec (.firmwareStart trained) s = .next (firmwareSteps ((settleDram (allReady u)).goTo .config 0xF001)))
      ∧ (s.sec.warm = false ∨ trained = false → t.sec.trngOk = true → exec (.firmwareStart trained) s = .next
          (firmwareSteps ((settleDram (allReady (keyStore t))).goTo .config 0xF001)))
      ∧ (s.sec.warm = false ∨ trained = false → t.sec.trngOk = false → ∀ u,
          u = makeReady ((upTo 0x34).filter (fun d => t.domainOn d && d != 0x31 && d != 0x32)) t →
          exec (.firmwareStart trained) s = .next (State.goTo { u with ev := { u.ev with trngBoot := true } } .safe Ev.TRNG_FAIL)))
    ∧ (∀ trained, s.dstate ≠ .boot ∨ s.sec.fwReady = false → exec (.firmwareStart trained) s = .next s)
    ∧ (s.groom.up = true → s.groom.restarting = false →
      let again := match s.groom.lastMiscompare with | some t => decide (s.localMs < t + 1000) | none => false
      let g := { s.groom with
        up := false, restarting := true, safeAfterRestart := s.groom.safeAfterRestart || again, lastMiscompare := some s.localMs,
        chains := [], slots := [], mbox := { s.groom.mbox with busy := false },
        ports := s.groom.ports.map (fun (e : Nat × Port) => (e.1, e.2.restarted)) }
      exec .groomMiscompare s = .next ((State.discardStaged ((upTo 4).foldl (fun t n =>
        t.setFlag (R.CMD_Q_STATUS n) F.CMD_Q_STATUS_STALL false) { s with ev := { s.ev with log := [] }, groom := g })).raiseBase
          Ev.GROOM_MISCOMPARE 0 0))
    ∧ (s.groom.up = false ∨ s.groom.restarting = true → exec .groomMiscompare s = .next s)
    ∧ (∀ t u routed, s.groom.restarting = true →
        t = { s with groom := { s.groom with up := true, restarting := false, restarted := true, safeAfterRestart := false } } →
        u = t.deliverDeferred.settleLost →
        routed = (u.evStatus Ev.GROOM_MISCOMPARE && u.evEn Ev.GROOM_MISCOMPARE
          && u.flag (R.EV_CTRL Ev.GROOM_MISCOMPARE) F.EV_CTRL_SAFE) →
        exec .groomRestartComplete s = .next (if s.groom.safeAfterRestart || routed then u.enterSafe Ev.GROOM_MISCOMPARE
          else u.degrade Ev.GROOM_MISCOMPARE))
    ∧ (s.groom.restarting = false → exec .groomRestartComplete s = .next s)

/-- The security block's own events: a failed health test refuses draws until a retest passes (R478), a key slot's
programming ends PROGRAMMED or DEFECTIVE, but a revoked slot stays revoked (R472), a flash write ends and its command is
answered (R483 to R485), and a handle whose life has run out frees its slot (R475). -/
def Obligations.SecurityEventsAct : Prop :=
  ∀ (s : State),
    (s.dark 0x33 = false → exec .trngHealthFail s = .next
        ((State.incSat { s with sec := { s.sec with trngOk := false } } R.SEC_TRNG F.SEC_TRNG_HEALTH_FAILS 1).raise Ev.TRNG_FAIL 0 0))
    ∧ (s.dark 0x33 = true → exec .trngHealthFail s = .next s)
    ∧ (s.dark 0x33 = false → s.sec.trngOk = false → exec (.trngRetest true) s = .next
        (State.raise { s with sec := { s.sec with trngOk := true } } Ev.TRNG_RECOVERED 0 0))
    ∧ (∀ ok, s.dark 0x33 = true ∨ s.sec.trngOk = true ∨ ok = false → exec (.trngRetest ok) s = .next s)
    ∧ (∀ k h rest ok t, s.sec.otpJobs = (k, h) :: rest →
        t = { s with sec := { s.sec with otpJobs := rest, otp := { s.sec.otp with
          slotState := SMap.put s.sec.otp.slotState 0 k (if s.sec.otp.slot k = 3 then 3 else if ok then 1 else 2),
          ownerHash := SMap.put s.sec.otp.ownerHash 0 k h } } } →
        exec (.otpProgramComplete ok) s = .next (if ok then t else t.raise Ev.OTP_FAIL 0 0))
    ∧ (s.sec.otpJobs = [] → ∀ ok, exec (.otpProgramComplete ok) s = .next s)
    ∧ (∀ j rest t, s.sec.flashJobs = j :: rest → t = { s with sec := { s.sec with flashJobs := rest } } →
        (j.kind = 0 → exec (.flashWriteComplete true) s = .next ((storeImage j t).raise Ev.CONFIG_WRITTEN 0 0)
          ∧ exec (.flashWriteComplete false) s = .next t)
        ∧ (j.kind = 1 → exec (.flashWriteComplete true) s = .next ((storeImage j t).answer .flashSave (Res.ok [w32 j.payloadBytes]))
          ∧ exec (.flashWriteComplete false) s = .next (t.answer .flashSave (Res.err St.FAULT 6)))
        ∧ (1 < j.kind → exec (.flashWriteComplete true) s = .next ((storeImage j t).answer .flashFw (Res.ok []))
          ∧ exec (.flashWriteComplete false) s = .next (t.answer .flashFw (Res.err St.FAULT 6))))
    ∧ (s.sec.flashJobs = [] → ∀ ok, exec (.flashWriteComplete ok) s = .next s)
    ∧ (∀ h, exec (.credentialExpiry h) s = .next { s with sec := { s.sec with creds := s.sec.creds.map (fun k =>
        if k.handle = h ∧ k.expires ≤ s.rtcNow then { k with live := false } else k) } })

/-! ### Gates, stalls, the frame store and heads (chapters 06, 07, 08, 10, 11) -/

/-- Frames open and close: a packet's corrected header is counted; a frame start with no context is counted, one on a frame in
progress closes it first, and one of a READY partner is counted, claims its slot or its records and opens the frame, or
discards it whole; a frame end closes with the cause of what is missing; another packet is counted by its damage, its type or
its context; an open timeout, a group's window and a wait for FRAME_STATUS end; a lane that carries no cells delivers nothing,
and in STANDALONE stream 0 is the ROM personality's (R168, R169, R172, R174, R175, R177, R187, R189, R191, R487). -/
def Obligations.FramesOpenAndClose : Prop :=
  ∀ (x : Fin 32) (stream : BitVec 6) (num : BitVec 16) (cor : Bool) (s0 : State),
    let g := x.val / 4
    let s := if cor && s0.carries x then s0.incSat (R.GATE_PKT g) F.GATE_PKT_HDR_CORR 1 else s0
    let lost (u : State) : State := u.incSat (R.GATE_DROP g) F.GATE_DROP_NOMATCH 1
    (s.holdsWork (laneDomain x) = true → exec (.frameStart x ⟨stream, cor⟩ num) s0 = .next s)
    ∧ (s.carries x = false → exec (.frameStart x ⟨stream, cor⟩ num) s0 = .next s ∧ exec (.frameEnd x ⟨stream, cor⟩ num) s0 = .next s
      ∧ ∀ dt dmg, exec (.csi2Packet x stream dt cor dmg) s0 = .next s)
    ∧ (s.carries x = true → s.dstate = .standalone → stream.toNat = 0 →
      (s.holdsWork (laneDomain x) = false → exec (.frameStart x ⟨stream, cor⟩ num) s0 = .next (standSof x s))
      ∧ exec (.frameEnd x ⟨stream, cor⟩ num) s0 = .next (standEnd x s))
    ∧ (s.carries x = true → s.dstate ≠ .standalone ∨ stream.toNat ≠ 0 →
      (s.matchCtx x stream.toNat = none → exec (.frameEnd x ⟨stream, cor⟩ num) s0 = .next (lost s)
        ∧ (s.holdsWork (laneDomain x) = false → exec (.frameStart x ⟨stream, cor⟩ num) s0 = .next (lost s)))
      ∧ (∀ c, s.matchCtx x stream.toNat = some c → (s.ctx g c).frame = none →
        (s.ctxState g c = Gs.opened → exec (.frameEnd x ⟨stream, cor⟩ num) s0 = .next (lost s))
        ∧ (s.ctxState g c ≠ Gs.opened → exec (.frameEnd x ⟨stream, cor⟩ num) s0 = .next s))
      ∧ (∀ c f, s.matchCtx x stream.toNat = some c → (s.ctx g c).frame = some f →
        exec (.frameEnd x ⟨stream, cor⟩ num) s0 = .next (closeFrame g c (if f.outLines < f.set.gw.outH then 2 else 0)
          (s.setCtx g c { s.ctx g c with frame := some { f with
            eofDelta := w32 (s.clk.localNs - f.captured), fnumMismatch := num ≠ f.frameNum } })))
      ∧ (∀ c0 u, s.matchCtx x stream.toNat = some c0 → u = closeFrame g c0 3 s → s.holdsWork (laneDomain x) = false →
        (u.matchCtx x stream.toNat = none → exec (.frameStart x ⟨stream, cor⟩ num) s0 = .next u)
        ∧ ∀ c, u.matchCtx x stream.toNat = some c →
          (u.fld (R.LINK_PARTNER x) F.LINK_PARTNER_STATE ≠ 3 → exec (.frameStart x ⟨stream, cor⟩ num) s0 = .next u)
          ∧ (u.fld (R.LINK_PARTNER x) F.LINK_PARTNER_STATE = 3 →
            ∃ v t, v = closeFrame g c 3 u
            ∧ t = v.setCtx g c { v.ctx g c with starts := (v.ctx g c).starts + 1, dropping := false }
            ∧ ((t.gwords g c).kind ≠ 1 → (t.tagRing g c (t.gwords g c)).isSome = false ∨ 2 ≤ (t.ctx g c).recCred →
                exec (.frameStart x ⟨stream, cor⟩ num) s0 = .next (openFrame x g c num none t))
            ∧ ((t.gwords g c).kind ≠ 1 → (t.tagRing g c (t.gwords g c)).isSome = true → (t.ctx g c).recCred < 2 →
                exec (.frameStart x ⟨stream, cor⟩ num) s0 = .next (gateRaise Ev.GATE_CREDIT g c 0 (discardFrame g c t)))
            ∧ (∀ r w, (t.gwords g c).kind = 1 →
                claimSlot (F.GATE_TARGET_PADDOCK.get (t.gwords g c).target) (t.gwords g c).samples t = (r, w) →
                (∀ i, r = some i → exec (.frameStart x ⟨stream, cor⟩ num) s0 = .next (openFrame x g c num (some i) w))
                ∧ (r = none → exec (.frameStart x ⟨stream, cor⟩ num) s0 = .next (discardFrame g c w)))))
      ∧ (∀ t c, (discardFrame g c t).regs = ((t.incSat (R.GATE_CREDIT g) F.GATE_CREDIT_DROPS 1).incSat (R.GATE_CNT g c)
          F.GATE_CNT_TRUNC 1).regs))
    ∧ (s.carries x = true → ∀ (dt : BitVec 6) dmg, let d := countDamage g dmg s
        (dmg = .header → exec (.csi2Packet x stream dt cor dmg) s0 = .next d)
        ∧ (dmg ≠ .header → supportedDt dt.toNat = false →
          (dmg = .good ∨ dmg = .trunc → exec (.csi2Packet x stream dt cor dmg) s0 =
              .next (d.incSat (R.GATE_DROP2 g) F.GATE_DROP2_DT_DROP 1))
          ∧ (dmg ≠ .good → dmg ≠ .trunc → exec (.csi2Packet x stream dt cor dmg) s0 = .next d))
        ∧ (dmg ≠ .header → supportedDt dt.toNat = true → d.matchCtx x stream.toNat = none →
          (dmg = .good ∨ dmg = .trunc → exec (.csi2Packet x stream dt cor dmg) s0 = .next (lost d))
          ∧ (dmg ≠ .good → dmg ≠ .trunc → exec (.csi2Packet x stream dt cor dmg) s0 = .next d))
        ∧ (∀ c, dmg ≠ .header → supportedDt dt.toNat = true → d.matchCtx x stream.toNat = some c →
          ((d.ctx g c).frame = none → d.ctxState g c = Gs.opened → exec (.csi2Packet x stream dt cor dmg) s0 = .next (lost d))
          ∧ ((d.ctx g c).frame = none → d.ctxState g c ≠ Gs.opened → exec (.csi2Packet x stream dt cor dmg) s0 = .next d)
          ∧ (∀ f, (d.ctx g c).frame = some f → (dmg = .trunc → exec (.csi2Packet x stream dt cor dmg) s0 =
                .next (closeFrame g c 1 d))
            ∧ (dmg ≠ .trunc → exec (.csi2Packet x stream dt cor dmg) s0 = .next d))))
    ∧ (∀ (h : Fin 8) (c : Fin 16), ((s0.ctx h c).frame = none → exec (.frameOpenTimeout h c) s0 = .next s0)
        ∧ (∀ f, (s0.ctx h c).frame = some f → exec (.frameOpenTimeout h c) s0 = .next (closeFrame h c 6 s0))
        ∧ ((s0.ctx h c).waitFs = true → exec (.frameStatusWaitTimeout h c) s0 =
            .next (tryClose h c (s0.setCtx h c { s0.ctx h c with waitFs := false })))
        ∧ ((s0.ctx h c).waitFs = false → exec (.frameStatusWaitTimeout h c) s0 = .next s0))
    ∧ (∀ h k : Fin 8, (s0.inst h k = none → exec (.hdrWindowExpiry h k) s0 = .next s0)
        ∧ (∀ i, s0.inst h k = some i → exec (.hdrWindowExpiry h k) s0 =
            .next (checkInst h k (s0.setInst h k (some { i with expired := true })))))

/-- Picture data lands: damage is counted by its cause, and a packet that finds no frame is counted once; a pixel line of a
frame in progress counts its pixels and is taken, whole or as a damaged line; a cut packet closes the frame truncated; embedded
data is written behind its slot's tag; and a ring's consumer returns credits up to the ring's depth (R168 to R171, R173, R174,
R191 to R194). -/
def Obligations.PicturesAndCreditsLand : Prop :=
  ∀ (x : Fin 32) (stream dt : BitVec 6) (data : List Byte) (cor : Bool) (dmg : PktDamage) (s0 : State),
    let g := x.val / 4
    let s := if cor && s0.carries x then s0.incSat (R.GATE_PKT g) F.GATE_PKT_HDR_CORR 1 else s0
    let d := countDamage g dmg s
    let lost (u : State) : State := u.incSat (R.GATE_DROP g) F.GATE_DROP_NOMATCH 1
    let dropped (u : State) : State := u.incSat (R.GATE_DROP2 g) F.GATE_DROP2_DT_DROP 1
    (dmg = .good ∨ dmg = .trunc → d = s)
    ∧ (dmg = .header → d = s.incSat (R.GATE_PKT g) F.GATE_PKT_HDR_UNCORR 1)
    ∧ (dmg = .crc ∨ dmg = .cut → d = s.incSat (R.GATE_DROP g) F.GATE_DROP_CRC_ERR 1)
    ∧ (dmg = .overrun → d = (s.incSat (R.GATE_DROP2 g) F.GATE_DROP2_OVERRUN 1).raise Ev.GATE_OVERRUN (gateUnit g) 0)
    ∧ (s.carries x = false → exec (.pixelLine x ⟨stream, cor⟩ dt data dmg) s0 = .next s
      ∧ exec (.embeddedData x ⟨stream, cor⟩ data dmg) s0 = .next s)
    ∧ (s.carries x = true → s.dstate = .standalone → stream.toNat = 0 →
        exec (.pixelLine x ⟨stream, cor⟩ dt data dmg) s0 = .next (standLine x dt.toNat data dmg d))
    ∧ (s.carries x = true → dmg = .header →
      (s.dstate ≠ .standalone ∨ stream.toNat ≠ 0 → exec (.pixelLine x ⟨stream, cor⟩ dt data dmg) s0 = .next d)
      ∧ exec (.embeddedData x ⟨stream, cor⟩ data dmg) s0 = .next d)
    ∧ (s.carries x = true → s.dstate ≠ .standalone ∨ stream.toNat ≠ 0 → dmg ≠ .header →
      (supportedDt dt.toNat = false →
        (dmg = .good ∨ dmg = .trunc → exec (.pixelLine x ⟨stream, cor⟩ dt data dmg) s0 = .next (dropped d))
        ∧ (dmg ≠ .good → dmg ≠ .trunc → exec (.pixelLine x ⟨stream, cor⟩ dt data dmg) s0 = .next d))
      ∧ (supportedDt dt.toNat = true → d.matchCtx x stream.toNat = none →
        (dmg = .good ∨ dmg = .trunc → exec (.pixelLine x ⟨stream, cor⟩ dt data dmg) s0 = .next (lost d))
        ∧ (dmg ≠ .good → dmg ≠ .trunc → exec (.pixelLine x ⟨stream, cor⟩ dt data dmg) s0 = .next d))
      ∧ (∀ c, supportedDt dt.toNat = true → d.matchCtx x stream.toNat = some c → (d.ctx g c).frame = none →
        ((d.ctx g c).dropping = true → (d.ctx g c).flushMark = true → exec (.pixelLine x ⟨stream, cor⟩ dt data dmg) s0 =
            .next ((d.setCtx g c { d.ctx g c with flushMark := false }).emit (.flushMarker (gateRingRef g c))))
        ∧ ((d.ctx g c).dropping = false ∨ (d.ctx g c).flushMark = false →
          (dt.toNat = (d.effective g c).dt ∨ d.ctxState g c = Gs.opened →
            exec (.pixelLine x ⟨stream, cor⟩ dt data dmg) s0 = .next (lost d))
          ∧ (dt.toNat ≠ (d.effective g c).dt → d.ctxState g c ≠ Gs.opened →
            exec (.pixelLine x ⟨stream, cor⟩ dt data dmg) s0 = .next d)))
      ∧ (∀ c f, supportedDt dt.toNat = true → d.matchCtx x stream.toNat = some c → (d.ctx g c).frame = some f →
          (dmg = .trunc → exec (.pixelLine x ⟨stream, cor⟩ dt data dmg) s0 = .next (closeFrame g c 1 d))
          ∧ (dmg ≠ .trunc → dt.toNat ≠ f.set.gw.dt → exec (.pixelLine x ⟨stream, cor⟩ dt data dmg) s0 = .next d)
          ∧ (dmg ≠ .trunc → dt.toNat = f.set.gw.dt →
            ∃ t y, t = d.setGate g { d.gate g with pixels :=
              (d.gate g).pixels + data.length / (groupSize dt.toNat).1 * (groupSize dt.toNat).2 / perPixel dt.toNat }
            ∧ y = (if dmg = .cut then { f with damaged := true } else f)
            ∧ (dmg = .good → wholePixels dt.toNat data.length = true → exec (.pixelLine x ⟨stream, cor⟩ dt data dmg) s0 =
                .next (takeLineOf g c y (some (unpackLine dt.toNat data)) t))
            ∧ (dmg ≠ .good ∨ wholePixels dt.toNat data.length = false → exec (.pixelLine x ⟨stream, cor⟩ dt data dmg) s0 =
                .next (takeLineOf g c y none t)))))
    ∧ (s.carries x = true → dmg ≠ .header →
      (d.matchCtx x stream.toNat = none →
        (dmg = .good ∨ dmg = .trunc → exec (.embeddedData x ⟨stream, cor⟩ data dmg) s0 = .next (lost d))
        ∧ (dmg ≠ .good → dmg ≠ .trunc → exec (.embeddedData x ⟨stream, cor⟩ data dmg) s0 = .next d))
      ∧ (∀ c, d.matchCtx x stream.toNat = some c → (d.ctx g c).frame = none →
        (d.ctxState g c = Gs.opened → exec (.embeddedData x ⟨stream, cor⟩ data dmg) s0 = .next (lost d))
        ∧ (d.ctxState g c = Gs.wait → F.GATE_CTRL_EMB.get (d.gwords g c).ctrl ≠ 1 ∨ (d.gwords g c).kind ≠ 1 →
          exec (.embeddedData x ⟨stream, cor⟩ data dmg) s0 = .next (dropped d))
        ∧ (d.ctxState g c = Gs.wait → F.GATE_CTRL_EMB.get (d.gwords g c).ctrl = 1 → (d.gwords g c).kind = 1 →
          exec (.embeddedData x ⟨stream, cor⟩ data dmg) s0 = .next d)
        ∧ (d.ctxState g c ≠ Gs.wait → d.ctxState g c ≠ Gs.opened → exec (.embeddedData x ⟨stream, cor⟩ data dmg) s0 = .next d))
      ∧ (∀ c f, d.matchCtx x stream.toNat = some c → (d.ctx g c).frame = some f →
          (dmg = .trunc → exec (.embeddedData x ⟨stream, cor⟩ data dmg) s0 = .next (closeFrame g c 1 d))
          ∧ (dmg ≠ .trunc → F.GATE_CTRL_EMB.get f.set.gw.ctrl ≠ 1 ∨ f.set.gw.kind ≠ 1 →
              exec (.embeddedData x ⟨stream, cor⟩ data dmg) s0 = .next (dropped d))
          ∧ (dmg ≠ .trunc → F.GATE_CTRL_EMB.get f.set.gw.ctrl = 1 → f.set.gw.kind = 1 →
            (f.slot = none ∨ d.pad? (F.GATE_TARGET_PADDOCK.get f.set.gw.target) = none →
              exec (.embeddedData x ⟨stream, cor⟩ data dmg) s0 = .next (dropped d))
            ∧ ∀ i p, f.slot = some i → d.pad? (F.GATE_TARGET_PADDOCK.get f.set.gw.target) = some p →
              ∃ bs, bs = data.take (4032 - f.embBytes) ∧ exec (.embeddedData x ⟨stream, cor⟩ data dmg) s0 =
                .next (keepFrame g c { f with embBytes := f.embBytes + bs.length,
                                              embLost := f.embLost || decide (bs.length < data.length) }
                  (d.fsStore (p.slotAddr i + 64 + f.embBytes) bs).2))))
    ∧ (∀ (h : Fin 8) (c : Fin 16) lines recs, exec (.creditReturn (.gate h c) lines recs) s0 = .next (s0.setCtx h c
        { s0.ctx h c with lineCred := satAdd (s0.ctx h c).lineCred lines (s0.ringDepth h c (s0.effective h c)),
                          recCred := satAdd (s0.ctx h c).recCred recs 16 }))
    ∧ (∀ p k lines recs, ((s0.pad? p.val).bind (fun y => y.fill k.val) = none →
          exec (.creditReturn (.fill p k) lines recs) s0 = .next s0)
        ∧ ∀ f, (s0.pad? p.val).bind (fun y => y.fill k.val) = some f → exec (.creditReturn (.fill p k) lines recs) s0 =
          .next (pumpFill p k fillFuel (setFill p k { f with
            lineCred := satAdd f.lineCred lines (2 ^ f.log2Depth), recCred := satAdd f.recCred recs 16 } s0)))

/-- Work of stalls and remappers ends: a LINE-mode stall that runs away faults; an input line continues a waiting pair, is late
for one that still runs, and is nothing to a head without a direct path or to a pair that is not running one; returned credits
reach the producer; a hayloft transfer moves its bytes, or faults on an uncorrectable word or, in a pair, on a difference of
address, length or data; a mesh copy fails or swaps in (R207, R209, R214, R222 to R224, R267). -/
def Obligations.StallAndMeshWorkEnds : Prop :=
  ∀ (s : State),
    (∀ n : Fin 256, let y := s.stall n
      (y.mode = 2 → y.state = .running → exec (.lineRunaway n) s = .next (stallFault n Sf.RUNAWAY s))
      ∧ (y.mode ≠ 2 ∨ y.state ≠ .running → exec (.lineRunaway n) s = .next s)
      ∧ (∀ (p : Fin 4) o len rest, y.out p = some o → o.returning = len :: rest → exec (.queueCreditReturn n p) s = .next
          (s.setStall n (y.setOut p { o with credits := satAdd o.credits len (2 ^ o.log2Depth), returning := rest })))
      ∧ (∀ p : Fin 4, (∀ o, y.out p = some o → o.returning = []) → exec (.queueCreditReturn n p) s = .next s)
      ∧ (y.xfers = [] → exec (.hayloftTransferComplete n) s = .next s)
      ∧ (∀ t rest, y.xfers = t :: rest →
          let u := s.onPair n (fun z => { z with xfers := rest })
          let bs := readBytes y.store t.loc t.bytes
          (t.put = true → y.bad t.loc t.bytes = true →
              exec (.hayloftTransferComplete n) s = .next (stallFault n Sf.ECC u))
          ∧ (t.put = true → y.bad t.loc t.bytes = false → y.lock = false → exec (.hayloftTransferComplete n) s =
              .next (u.hayWrite t.hay bs))
          ∧ (t.put = true → y.bad t.loc t.bytes = false → y.lock = true →
            ((s.stall (n + 1)).xfers.head? ≠ some t ∨ xferData t (s.stall (n + 1)) s ≠ some bs →
              exec (.hayloftTransferComplete n) s = .next (stallFault n Sf.LOCKSTEP u))
            ∧ ((s.stall (n + 1)).xfers.head? = some t → xferData t (s.stall (n + 1)) s = some bs →
              exec (.hayloftTransferComplete n) s = .next (u.hayWrite t.hay bs)))
          ∧ (t.put = false → s.hayPoor t.hay t.bytes = true →
              exec (.hayloftTransferComplete n) s = .next (stallFault n Sf.ECC u))
          ∧ (t.put = false → s.hayPoor t.hay t.bytes = false → exec (.hayloftTransferComplete n) s =
              .next (u.onPair n (fun z => { z with store := writeBytes z.store t.loc (s.hayRead t.hay t.bytes) })))))
    ∧ (∀ h : Fin 4, ((s.head h).direct = false → exec (.inputLineArrival h) s = .next s)
        ∧ (∀ n, (s.head h).direct = true → n = s.fld (R.HEAD_DIR_SRC h) F.HEAD_DIR_SRC_PAIR →
          ((s.stall n).lock = false ∨ (s.stall n).mode ≠ 2 ∨ (s.stall n).ready = [] →
            exec (.inputLineArrival h) s = .next s)
          ∧ ((s.stall n).lock = true → (s.stall n).mode = 2 → (s.stall n).ready ≠ [] →
            ((s.stall n).state = .running → (s.stall n).haveLine = true →
              exec (.inputLineArrival h) s = .next (s.raise Ev.PAIR_LINE_LATE (stallUnit n) 0))
            ∧ ((s.stall n).state = .running → (s.stall n).haveLine = false →
              exec (.inputLineArrival h) s = .next (takeLine n s))
            ∧ ((s.stall n).state ≠ .running → (s.stall n).waitLine = true →
              exec (.inputLineArrival h) s = .next (takeLine n s))
            ∧ ((s.stall n).state ≠ .running → (s.stall n).waitLine = false →
              exec (.inputLineArrival h) s = .next s))))
    ∧ (∀ m : Fin 64, ((s.mesh m).loading = none → ∀ ok, exec (.meshLoadComplete m ok) s = .next s)
        ∧ (∀ b src bs good u, (s.mesh m).loading = some (b, src) → s.fsLoad src (b.gw * b.gh * 8) = (bs, good, u) →
          ∃ v, v = u.setMesh m { s.mesh m with loading := none, reply := none }
          ∧ ∃ w, w = (if (s.mesh m).held then unstageMesh m v else v)
          ∧ ∃ z, z = w.setMesh m { w.mesh m with held := false }
          ∧ (∀ ok, ok = false ∨ good = false → exec (.meshLoadComplete m ok) s =
              .next (showMesh m (z.answerEvery (.meshLoad m) (Res.err St.FAULT 5))))
          ∧ (good = true → (upTo (b.gw * b.gh)).all (fun i => nodeOk ((bs.drop (8 * i)).take 8)) = false →
              exec (.meshLoadComplete m true) s = .next (showMesh m (z.answerEvery (.meshLoad m) (Res.err St.RANGE 3))))
          ∧ (good = true → (upTo (b.gw * b.gh)).all (fun i => nodeOk ((bs.drop (8 * i)).take 8)) = true →
              ∃ h, h = v.hayWrite b.at_ (bs ++ List.replicate (b.bytes - bs.length) 0)
              ∧ ∃ t, t = showMesh m (h.setMesh m { h.mesh m with next := some b })
              ∧ ((s.mesh m).reply = none → exec (.meshLoadComplete m true) s =
                  .next (t.answerEvery (.meshLoad m) (Res.ok [t.reg (R.MESH_STATUS m)])))
              ∧ (∀ st k, (s.mesh m).reply = some (st, k) → exec (.meshLoadComplete m true) s =
                  .next (t.answerEvery (.meshLoad m)
                    { Res.ok [t.reg (R.MESH_STATUS m)] with status := st, tick := some k })))))

/-- The frame store and the heads: the scrubber reads or skips a granule, counts what it found and ends its pass at the last
one (R311, R517); a monitor window shows its traffic, and from its floor on counts the busiest channel of an unbalanced one and
reports it once sustained (R309); a canvas line is handed over (R329); an echo deadline judges its echo (R350, R353); a direct
path without a frame holds NOSOURCE (R341). -/
def Obligations.StoreAndHeadsGoOn : Prop :=
  ∀ (s : State),
    (s.fsDark = false → s.store.selfRefresh = false → s.flag R.FS_SCRUB F.FS_SCRUB_EN = true →
      ∀ g r o, g = s.fld R.FS_SCRUB_POS F.FS_SCRUB_POS_GRANULE →
      ∃ u, (s.underTest (g * 256) 256 = true → u = s)
      ∧ (s.underTest (g * 256) 256 = false → r = .uncorrectable ∨ s.store.poison.contains g = true →
        (o = true ∨ s.store.poison.contains g = true → u = noteUncorr g s)
        ∧ (o = false → s.store.poison.contains g = false →
            u = noteUncorr g { s with store := { s.store with poison := s.store.poison ++ [g] } }))
      ∧ (s.underTest (g * 256) 256 = false → s.store.poison.contains g = false →
          (r = .corrected → u = noteCorr g s) ∧ (r = .clean → u = s))
      ∧ (g + 1 ≠ fsGranules → exec (.scrubStep r o) s =
          .next ((u.setFld R.FS_SCRUB_POS F.FS_SCRUB_POS_GRANULE (g + 1)).setFlag R.FS_STATUS F.FS_STATUS_SCRUB_BUSY true))
      ∧ (g + 1 = fsGranules → exec (.scrubStep r o) s =
          .next (((u.setFld R.FS_SCRUB_POS F.FS_SCRUB_POS_GRANULE 0).setFlag R.FS_STATUS F.FS_STATUS_SCRUB_BUSY false).incSat
            R.FS_SCRUB_POS F.FS_SCRUB_POS_PASSES 1)))
    ∧ (s.fsDark = true ∨ s.store.selfRefresh = true ∨ s.flag R.FS_SCRUB F.FS_SCRUB_EN = false →
        ∀ r o, exec (.scrubStep r o) s = .next s)
    ∧ (∀ counts, s.fsDark = false → s.store.selfRefresh = false → ∃ w, w = showTraffic counts s
        ∧ ((counts.take 64).sum < w.monFloor → exec (.fsMonitorWindow counts) s = .next w)
        ∧ (w.monFloor ≤ (counts.take 64).sum → unbalanced counts (w.fld R.FS_MON F.FS_MON_RATIO) = false →
          ∃ t, t = (upTo 64).foldl (fun u n => State.setFld u (R.FS_CH_OCC n) F.FS_CH_OCC_OVER 0) w
          ∧ exec (.fsMonitorWindow counts) s = .next { t with store := { t.store with imbCount := 0, imbRaised := false } })
        ∧ (w.monFloor ≤ (counts.take 64).sum → unbalanced counts (w.fld R.FS_MON F.FS_MON_RATIO) = true →
          ∃ t, t = (upTo 64).foldl (fun u n => if n == busiest counts then State.incSat u (R.FS_CH_OCC n) F.FS_CH_OCC_OVER 1
            else State.setFld u (R.FS_CH_OCC n) F.FS_CH_OCC_OVER 0) w
          ∧ ∃ v, v = { t with store := { t.store with imbCount := t.store.imbCount + 1 } }
          ∧ (t.store.imbRaised = true ∨ t.store.imbCount + 1 < v.fld R.FS_MON F.FS_MON_SUSTAIN →
              exec (.fsMonitorWindow counts) s = .next v)
          ∧ (t.store.imbRaised = false → v.fld R.FS_MON F.FS_MON_SUSTAIN ≤ t.store.imbCount + 1 →
              exec (.fsMonitorWindow counts) s = .next (State.raise { v with store := { v.store with imbRaised := true } }
                Ev.FS_IMBALANCE 0 (evArg (busiest counts) 0 0)))))
    ∧ (∀ counts i, busiest counts < 64 ∧ (i < 64 → counts.getD i 0 ≤ counts.getD (busiest counts) 0))
    ∧ (s.fsDark = true ∨ s.store.selfRefresh = true → ∀ counts, exec (.fsMonitorWindow counts) s = .next s)
    ∧ (∀ n : Fin 4,
        ((s.head n).frame = none → exec (.lineHandover n) s = .next s)
        ∧ (∀ f, (s.head n).frame = some f →
          (((handLine n s).head n).direct = true → ((handLine n s).head n).frame = none →
            exec (.lineHandover n) s = .next (dmaHead n (handLine n s)))
          ∧ (((handLine n s).head n).direct = false ∨ ((handLine n s).head n).frame ≠ none →
            exec (.lineHandover n) s = .next (handLine n s)))
        ∧ ((s.head n).direct = true → s.flag (R.HEAD_CTRL n) F.HEAD_CTRL_EN = true → (s.head n).nosource = false →
            s.sleepStopped = false → exec (.directFrameTimeout n) s =
            .next ((holdCond n Wc.NOSOURCE (s.setReg (R.HEAD_DIR_STATUS n)
              (w32 (8 + (s.reg (R.HEAD_DIR_STATUS n)).toNat / 256 % 256 * 256)))).raise (Ev.DIRECT_NOSOURCE + n) (headUnit n) 0))
        ∧ ((s.head n).direct = false ∨ s.flag (R.HEAD_CTRL n) F.HEAD_CTRL_EN = false ∨ (s.head n).nosource = true
            ∨ s.sleepStopped = true → exec (.directFrameTimeout n) s = .next s)
        ∧ (∀ (r : Fin 16) (k : Word),
          ((s.region n r).awaits.find? (fun a => a.counter = k) = none → exec (.echoDeadline n r k) s = .next s)
          ∧ (∀ a, (s.region n r).awaits.find? (fun b => b.counter = k) = some a →
            ∃ u t, u = s.setRegion n r { s.region n r with awaits := (s.region n r).awaits.filter (fun b => b ≠ a) }
            ∧ (a.echoed = false → t = regionFail n r Wc.MISSING u)
            ∧ (a.echoed = true → a.ok = true → t = (u.setFld (R.HEAD_TSTAT n r) F.HEAD_TSTAT_LAST_CAUSE 0).incSat
                (R.HEAD_TSTAT n r) F.HEAD_TSTAT_PASS 1)
            ∧ (a.echoed = true → a.ok = false → t = u)
            ∧ exec (.echoDeadline n r k) s = .next (countSpans n (t.setHead n { t.head n with
              spans := (t.head n).spans.map (fun p => if p.serial = a.serial then { p with waiting := p.waiting - 1 } else p) })))))

/-- The address hash (R307, R308), for every key: each of the 64 granules of a 16 KiB-aligned block lies on a pseudo-channel of
its own, and granules with the same A[13:8] differ by the parity vector of the difference of A[31:14]. -/
def Obligations.TheHashSpreadsEveryBlock : Prop :=
  ∀ (masks : List (BitVec 18)) (block : Nat), block < 2 ^ 18 →
    (∀ i, i < 64 → pseudoChannel masks (block * 2 ^ 14 + i * 256) < 64)
    ∧ (∀ i j, i < 64 → j < 64 →
        pseudoChannel masks (block * 2 ^ 14 + i * 256) = pseudoChannel masks (block * 2 ^ 14 + j * 256) → i = j)
    ∧ (∀ c, c < 64 → ∃ i, i < 64 ∧ pseudoChannel masks (block * 2 ^ 14 + i * 256) = c)
    ∧ (∀ other i, other < 2 ^ 18 → i < 64 →
        (pseudoChannel masks (block * 2 ^ 14 + i * 256)) ^^^ (pseudoChannel masks (other * 2 ^ 14 + i * 256)) =
          pseudoChannel masks ((block ^^^ other) * 2 ^ 14))

/-! ### The line codec (chapter 09) -/

/-- The line codec's residual (R290): the quantised residual is the sign of e times (abs(e) + E) ÷ Q, its multiple of Q is the
nearest to e and within E of it, the clamped reconstruction is within E of the sample, and E = 0 gives q = e and r = x. -/
def Obligations.ResidualsAreNearestMultiples : Prop :=
  ∀ (bw bound x p : Nat), 8 ≤ bw → bw ≤ 16 → x ≤ 2 ^ bw - 1 → p ≤ 2 ^ bw - 1 →
    let e : Int := (x : Int) - p
    let q := quantise e bound
    let step : Int := 2 * (bound : Int) + 1
    let r := reconstruct bw p q bound
    q = e.sign * ((e.natAbs + bound : Nat) / (2 * bound + 1 : Nat) : Nat)
    ∧ (r : Int) = max 0 (min (2 ^ bw - 1) ((p : Int) + q * step))
    ∧ (e - q * step).natAbs ≤ bound ∧ (∀ m : Int, (e - q * step).natAbs ≤ (e - m * step).natAbs)
    ∧ ((x : Int) - r).natAbs ≤ bound ∧ (bound = 0 → q = e ∧ r = x)

/-- The line codec (R285): a line that the hub codes under a profile decodes to the samples of the coder's reconstruction, with
the guarantee of its mode for every sample (limited to BW bits, R282): equal in lossless mode, within E in bounded-error mode,
within EFR in fixed-rate mode; a fixed-rate line has exactly its size and every other line at most the worst case. -/
def Obligations.CodedLinesKeepTheirGuarantee : Prop :=
  ∀ (pr : Prof) (xs : List Nat), 8 ≤ pr.bw → pr.bw ≤ 16 → pr.layout ≤ 4 → paramOk pr.mode pr.param = true →
    1 ≤ xs.length → xs.length ≤ 2 ^ 15 →
    let c := encodeLine pr xs
    let lim := xs.map (fun x => Nat.min x (2 ^ pr.bw - 1))
    let e := if pr.mode = 1 then 0 else if pr.mode = 2 then eTab pr.param else efr pr.bw pr.param
    decodeLine c.bytes xs.length pr.bw pr.layout = .ok (c.recon, c.esc)
    ∧ c.recon.length = xs.length ∧ (∀ i, i < xs.length → ((lim.getD i 0 : Int) - c.recon.getD i 0).natAbs ≤ e)
    ∧ (pr.mode = 1 → c.recon = lim)
    ∧ (pr.mode = 3 → c.bytes.length = ceilDiv (32 + xs.length * pr.param) 8)
    ∧ (pr.mode ≠ 3 → c.bytes.length ≤ worstLine pr xs.length)

/-! ### Two-wire buses, the target TWT0 and the test resources (chapters 03, 14 and 18) -/

/-- A local two-wire controller: a free bus starts the oldest transfer; its end answers with the result, or tries again after
an arbitration lost in data; a stretch and a stuck bus end transfers, and an attention request of 4 µs or more is counted where
the controller is enabled, hears requests and is idle (R419, R420, R422 to R427). -/
def Obligations.TwoWireTransfersEnd : Prop :=
  ∀ (n : Fin 4) (s : State),
    let k := s.twc n
    (∀ x rest, k.queue = x :: rest → k.active = false → k.stuck = false →
      (x.op ≠ 2 → x.op ≠ 3 → exec (.busFree n) s = .next (twShow n ((twBegin n s).emit
          (.twoWire n x.addr (BitVec.ofNat 8 (2 * x.addr) :: x.wdata)))))
      ∧ (x.op = 2 → exec (.busFree n) s = .next (twShow n ((twBegin n s).emit
          (.twoWire n x.addr (BitVec.ofNat 8 (2 * x.addr + 1) :: x.wdata)))))
      ∧ (x.op = 3 → exec (.busFree n) s = .next (twShow n ((twBegin n s).emit
          (.twoWire n x.addr (BitVec.ofNat 8 (2 * x.addr) :: (x.wdata ++ [BitVec.ofNat 8 (2 * x.addr + 1)])))))))
    ∧ (k.queue = [] ∨ k.active = true ∨ k.stuck = true → exec (.busFree n) s = .next s)
    ∧ (∀ x rest, k.queue = x :: rest → k.active = true →
      (∀ d, exec (.twTransferEnd n (.ok d)) s = .next (twEnd n Tw.OK 0 0 (twRead x d) s))
      ∧ exec (.twTransferEnd n .addrNack) s = .next (twEnd n Tw.ADDR_NACK 0 0 [] s)
      ∧ (∀ i, exec (.twTransferEnd n (.dataNack i)) s = .next (twEnd n Tw.DATA_NACK i.toNat 0 [] s))
      ∧ exec (.twTransferEnd n .arbCond) s =
          .next (twEnd n Tw.ARB_LOST_COND 0 0 [] (s.incSat (R.TWC_ARB n) F.TWC_ARB_COND 1))
      ∧ (∀ pos, ∃ t, t = (s.incSat (R.TWC_ARB n) F.TWC_ARB_DATA 1).setFld (R.TWC_STATUS n) F.TWC_STATUS_BITPOS pos.toNat
        ∧ (F.TWC_CTRL_RETRIES.get k.ctrl < x.attempts →
            exec (.twTransferEnd n (.arbData pos)) s = .next (twEnd n Tw.ARB_LOST_DATA 0 pos.toNat [] t))
        ∧ (x.attempts ≤ F.TWC_CTRL_RETRIES.get k.ctrl →
            exec (.twTransferEnd n (.arbData pos)) s = .next (twShow n (t.setTwc n { k with active := false })))))
    ∧ (k.active = false ∨ k.queue = [] → (∀ r, exec (.twTransferEnd n r) s = .next s) ∧ exec (.stretchTimeout n) s = .next s)
    ∧ (∀ c result nack pos x rest d, (s.twc c).queue = x :: rest → ∃ t, t = twShow c (twCount c result
          (s.setTwc c { s.twc c with queue := rest, active := false }))
        ∧ twEnd c result nack pos d s = t.answer (.twXfer c x.serial) (Res.ok (twPayload result nack pos d x.attempts)))
    ∧ (k.active = true → exec (.stretchTimeout n) s = .next (twEnd n Tw.STRETCH_TIMEOUT 0 0 [] s))
    ∧ (k.active = true ∨ k.stuck = true ∨ s.flag (R.TWC_CTRL n) F.TWC_CTRL_EN = false → exec (.busStuck n) s = .next s)
    ∧ (k.active = false → k.stuck = false → s.flag (R.TWC_CTRL n) F.TWC_CTRL_EN = true →
        exec (.busStuck n) s = .next (twEndAll n Tw.BUS_STUCK k.queue.length
          ((twShow n (s.setTwc n { k with stuck := true })).raise Ev.TW_STUCK (twUnit n) 0)))
    ∧ (k.stuck = true → exec (.stuckClear n) s = .next (twShow n (s.setTwc n { k with stuck := false })))
    ∧ (k.stuck = false → exec (.stuckClear n) s = .next s)
    ∧ (∀ ns fell, (ns < 4000 ∨ fell = true ∨ s.flag (R.TWC_CTRL n) F.TWC_CTRL_EN = false
          ∨ s.flag (R.TWC_CTRL n) F.TWC_CTRL_ATTN_EN = false ∨ k.active = true ∨ k.stuck = true →
          exec (.attentionRequest n ns fell) s = .next s)
      ∧ (4000 ≤ ns → s.flag (R.TWC_CTRL n) F.TWC_CTRL_EN = true → s.flag (R.TWC_CTRL n) F.TWC_CTRL_ATTN_EN = true →
          k.active = false → k.stuck = false → exec (.attentionRequest n ns false) s =
          .next (((s.setFlag (R.TWC_ATTN n) F.TWC_ATTN_PEND true).incSat (R.TWC_ATTN n) F.TWC_ATTN_COUNT 1).raise Ev.TW_ATTN
            (twUnit n) 0)))

/-- TWT0: without its clock it answers nothing, and within 50 µs of the match that woke the hub it acknowledges nothing; else a
page write takes one byte and refuses the rest, a window write sets the pointer and writes on from it, but into the command
page not while BUSY, and reads answer byte by byte; SUBMIT gives the mailbox's command to the groom or is refused, DONE frees
the reply; a misplaced START is counted; the attention line calls once a reply; the window address wakes a hub that lets it
(R94, R431 to R436). -/
def Obligations.Twt0Answers : Prop :=
  ∀ (s : State),
    let ack := s.incWrap R.TWT_XFER F.TWT_XFER_TRANS 1
    let deaf := s.incSat R.TWT_XFER F.TWT_XFER_NACKS 1
    (∀ t, s.pwr.matched = some t → (s.twtMuted = true ↔ s.pwr.resume ≠ .awake ∧ s.rtcFine < t + 50000 * 32768))
    ∧ (s.pwr.matched = none → s.twtMuted = false)
    ∧ (s.twtAwake = true → s.twtMuted = false →
      exec (.twt0PageWrite []) s = .next ack ∧ exec (.twt0WindowWrite []) s = .next ack
      ∧ (∀ b rest, exec (.twt0PageWrite (b :: rest)) s = .next ((ack.setFld R.TWT_STATUS F.TWT_STATUS_PAGE b.toNat).incSat
          R.TWT_XFER F.TWT_XFER_NACKS rest.length))
      ∧ (∀ n, exec (.twt0PageRead n) s = .next ((upTo n).foldl (fun t _ => t.emit (.twtByte (BitVec.ofNat 8 t.twtPage))) ack))
      ∧ (∀ b rest, exec (.twt0WindowWrite (b :: rest)) s = .next
          (rest.foldl twtWindowWrite.twtPut (ack.setFld R.TWT_STATUS F.TWT_STATUS_POINTER b.toNat)))
      ∧ (∀ n, exec (.twt0WindowRead n) s = .next
          ((upTo n).foldl (fun t _ => twtStep ((twtByteAt t).2.emit (.twtByte (twtByteAt t).1))) ack)))
    ∧ (∀ t c, (t.twtLive = true → t.twtPage = 1 → t.groom.mbox.busy = true → twtWindowWrite.twtPut t c =
          t.incSat R.TWT_XFER F.TWT_XFER_NACKS 1)
      ∧ (t.twtLive = true → t.twtPage = 1 → t.groom.mbox.busy = false → twtWindowWrite.twtPut t c =
          twtStep (t.setMbox { t.groom.mbox with cmd := SMap.put t.groom.mbox.cmd 0 t.twtPointer c }))
      ∧ (t.twtLive = false ∨ t.twtPage ≠ 1 → twtWindowWrite.twtPut t c = twtStep t))
    ∧ (s.twtAwake = true → s.twtMuted = true → (∀ d, exec (.twt0PageWrite d) s = .next deaf)
      ∧ (∀ d, exec (.twt0WindowWrite d) s = .next deaf) ∧ (∀ n, exec (.twt0PageRead n) s = .next deaf)
      ∧ (∀ n, exec (.twt0WindowRead n) s = .next deaf))
    ∧ (s.twtAwake = true →
        exec .twtProtocolError s = .next ((s.incSat R.TWT_CNT F.TWT_CNT_PROTO 1).raise Ev.TWT_PROTO 0xB200 0))
    ∧ (s.twtAwake = false → exec .twtProtocolError s = .next s ∧ (∀ d, exec (.twt0PageWrite d) s = .next s)
      ∧ (∀ d, exec (.twt0WindowWrite d) s = .next s) ∧ (∀ n, exec (.twt0PageRead n) s = .next s)
      ∧ (∀ n, exec (.twt0WindowRead n) s = .next s))
    ∧ (s.twtLive = true → exec .done s = .next (s.setMbox { s.groom.mbox with ready := false, rpl := [], attn := false }))
    ∧ (s.twtLive = false → exec .done s = .next s)
    ∧ (s.twtLive = true → s.twtAwake = true → s.groom.mbox.attn = true →
        exec .twtAttentionOut s = .next ((s.setMbox { s.groom.mbox with attn := false }).emit .twtAttn))
    ∧ (s.twtLive = false ∨ s.twtAwake = false ∨ s.groom.mbox.attn = false → exec .twtAttentionOut s = .next s)
    ∧ (∀ t, t = groomTurn s →
      (t.twtLive = false → exec .submit s = .next (t.setMbox { t.groom.mbox with reject := true }))
      ∧ (t.twtLive = true → t.groom.mbox.busy = true ∨ t.groom.mbox.ready = true →
          exec .submit s = .next (t.setMbox { t.groom.mbox with reject := true }))
      ∧ (t.twtLive = true → t.groom.mbox.busy = false → t.groom.mbox.ready = false →
        ∃ ws c rest, ws = bytesWords ((upTo 256).map (fun i => SMap.get t.groom.mbox.cmd 0 i))
        ∧ parsePacket .twt (ws ++ List.replicate (bits (wAt ws 1) 27 16 - 60) 0) = some (c, rest)
        ∧ exec .submit s = .next (takeOne c (t.setMbox { t.groom.mbox with busy := true, reject := false }))))
    ∧ (∀ a also, s.flag R.PWR_WAKE F.PWR_WAKE_EN_TWT = true → a.toNat = s.fld R.TWT_CTRL F.TWT_CTRL_ADDR →
        ∃ t, t = (if s.twtAwake then s else { s with pwr := { s.pwr with matched := some s.rtcFine } })
        ∧ exec (.twtAddressMatch a also) s = .next (wake (t.wakeMask 2 also) t))
    ∧ (∀ a also, s.flag R.PWR_WAKE F.PWR_WAKE_EN_TWT = false ∨ a.toNat ≠ s.fld R.TWT_CTRL F.TWT_CTRL_ADDR →
        exec (.twtAddressMatch a also) s = .next s)

/-- Test resources: a checker locks and loses its lock, an eye scan, an injection of a set number of errors and a memory test
end and answer (R510, R513, R515 to R517).
Boundary scan (R519): BYPASS, CLAMP and HIGHZ shift data through one bit that captures 0, IDCODE shifts out the hub's
identification, the boundary instructions shift out what the pads show (free, log entry 10) and keep what was shifted in;
those that take the pads raise BSCAN_ACTIVE, and TRST# loads IDCODE. -/
def Obligations.TestResourcesAndBoundaryScan : Prop :=
  (∀ (x : Fin 48) (s : State),
      (s.laneIn x [Ls.test] = true → s.fld (R.TEST_PCHK x) F.TEST_PCHK_PAT ≠ 0 → s.flag (R.TEST_PCHK x) F.TEST_PCHK_LOCK = false →
          ∀ inv, exec (.patternLock x inv) s = .next ((((s.setCheck x Checker.fresh).setFlag (R.TEST_PCHK x) F.TEST_PCHK_LOCK
            true).setFlag (R.TEST_PCHK x) F.TEST_PCHK_INV_SEEN inv).raise Ev.PATTERN_LOCK (testUnit x) 0))
      ∧ (s.laneIn x [Ls.test] = false ∨ s.fld (R.TEST_PCHK x) F.TEST_PCHK_PAT = 0
          ∨ s.flag (R.TEST_PCHK x) F.TEST_PCHK_LOCK = true → ∀ inv, exec (.patternLock x inv) s = .next s)
      ∧ (s.laneIn x [Ls.test] = true → s.flag (R.TEST_PCHK x) F.TEST_PCHK_LOCK = true →
          ∀ n e, exec (.patternLost x n e) s = .next ((State.incSat (checkerCount x n e ((s.setCheck x Checker.fresh).setFlag
            (R.TEST_PCHK x) F.TEST_PCHK_LOCK false)) (R.TEST_CELL x) F.TEST_CELL_RELOCKS 1).raise Ev.PATTERN_LOST (testUnit x) 0))
      ∧ (s.laneIn x [Ls.test] = false ∨ s.flag (R.TEST_PCHK x) F.TEST_PCHK_LOCK = false →
          ∀ n e, exec (.patternLost x n e) s = .next s)
      ∧ (∀ (t : State) (bits errs n : Nat), n = t.testBits x + bits → checkerCount x bits errs t =
          ((t.setReg (R.TEST_BITS_LO x) (w32 n)).setFld (R.TEST_BITS_HI x) F.TEST_BITS_HI_BITS (n / 2 ^ 32)).incSat (R.TEST_ERRS x)
            F.TEST_ERRS_ERRS errs)
      ∧ (s.test.eye = none → ∀ grid b, exec (.eyeScanDone grid b) s = .next s)
      ∧ (∀ e grid b, s.test.eye = some e → ∃ got, got = grid.take (e.cols * e.rows)
        ∧ ∃ t u, t = { s with test := { s.test with eye := none } }
        ∧ u = (((t.setFlag R.TEST_EYE_STATUS F.TEST_EYE_STATUS_BUSY false).setFlag R.TEST_EYE_STATUS F.TEST_EYE_STATUS_ABORTED
            b).setFld R.TEST_EYE_STATUS F.TEST_EYE_STATUS_DONE got.length).raise Ev.EYE_SCAN_DONE (testUnit e.lane) 0
        ∧ exec (.eyeScanDone grid b) s = .next (u.answerEvery .eyeScan (Res.ok
            (w32 (e.cols + 256 * e.rows + 65536 * b01 b + 2 ^ 24 * e.eyeAtStart)
              :: bytesWords (got ++ List.replicate (e.cols * e.rows - got.length) 0xFF)))))
      ∧ (∀ i n k, SMap.get s.test.inj none x.val = some i → i.left = some n →
          ∃ t, t = { s with test := { s.test with inj := SMap.put s.test.inj none x none } }
          ∧ exec (.injectDone x k) s = .next (((t.setFlag (R.TEST_INJ x) F.TEST_INJ_ACTIVE false).setFld (R.TEST_INJ x)
              F.TEST_INJ_INJECTED (Nat.min (i.count + Nat.min (k - i.count) n) (2 ^ 24 - 1))).raise Ev.INJECT_DONE (testUnit x) 0))
      ∧ (SMap.get s.test.inj none x.val = none → ∀ k, exec (.injectDone x k) s = .next s)
      ∧ (∀ i k, SMap.get s.test.inj none x.val = some i → i.left = none → exec (.injectDone x k) s = .next s)
      ∧ (s.test.mem = none → ∀ f a m c u, exec (.memtestDone f a m c u) s = .next s)
      ∧ (∀ j fails a m c u n, s.test.mem = some j → n = (if j.unit = 0x220 ∧ j.algo = 1 then u else fails) →
          ∃ t, t = memCounts j a c u (memAfter j { s with test := { s.test with mem := none } })
          ∧ ∃ v, v = (t.setFlag R.TEST_MEM_STATUS F.TEST_MEM_STATUS_BUSY false).setFld R.TEST_MEM_STATUS
              F.TEST_MEM_STATUS_RESULT (if n = 0 then 1 else 2)
          ∧ ∃ w, w = (if n = 0 then State.raise (State.setReg v R.TEST_MEM_COUNT 0) Ev.MEMTEST_DONE (0xE000 + j.unit) 0
              else State.raise (State.raise (State.setReg (State.setReg (State.setReg v R.TEST_MEM_ADDR a) R.TEST_MEM_BITS m)
                R.TEST_MEM_COUNT (w32 (Nat.min n (2 ^ 32 - 1)))) Ev.MEMTEST_DONE (0xE000 + j.unit) 0)
                Ev.MEMTEST_FAIL (0xE000 + j.unit) 0)
          ∧ exec (.memtestDone fails a m c u) s = .next (w.answerEvery .memtest (Res.ok [w.reg R.TEST_MEM_STATUS,
              w.reg R.TEST_MEM_ADDR, w.reg R.TEST_MEM_BITS, w.reg R.TEST_MEM_COUNT])))
      ∧ (∀ (j : MemTest) a c u (t : State), (j.unit ≠ 0x220 ∨ j.algo ≠ 1 → memCounts j a c u t = t)
          ∧ (j.unit = 0x220 → j.algo = 1 → memCounts j a c u t = (upTo u).foldl (fun b _ => noteUncorr (a.toNat / 256) b)
              ((upTo c).foldl (fun b _ => noteCorr (a.toNat / 256) b) t))))
  ∧ (∀ (dr : List Bool) (s : State),
      let tap (i : TapInstr) : State := { s with test := { s.test with tap := i } }
      let took (i : TapInstr) : State := State.raise (tap i) Ev.BSCAN_ACTIVE 0 0
      let seen (n : Nat) : List Bool := (upTo dr.length).map (fun i => Config.freeNat (n + i) % 2 == 1)
      let kept (t : State) : State := State.emit { t with
        fresh := t.fresh + dr.length, test := { t.test with bsr := dr } } (.jtag (seen t.fresh))
      exec (.bypass dr) s = .next (State.emit (tap .bypass) (.jtag ((false :: dr).take dr.length)))
      ∧ exec (.clamp dr) s = .next (State.emit (took .clamp) (.jtag ((false :: dr).take dr.length)))
      ∧ exec (.highz dr) s = .next (State.emit (took .highz) (.jtag ((false :: dr).take dr.length)))
      ∧ exec .idcode s = .next (State.emit (tap .idcode) (.jtag s.idcode))
      ∧ exec (.samplePreload dr) s = .next (kept (tap .sample))
      ∧ exec (.extest dr) s = .next (kept (took .extest))
      ∧ exec (.extestPulse dr) s = .next (kept (took .extestPulse))
      ∧ exec (.extestTrain dr) s = .next (kept (took .extestTrain))
      ∧ exec .trstAssert s = .next (tap .idcode)
      ∧ s.idcode.length = 32 ∧ s.idcode.head? = some true)
end

