-- ==== Sys2Proof/Laws/Fields.lean ====
section
/-! SUPPORT. Reading a field after writing one (R10): the field written reads the low bits of the value, and every other
bit of the word stays. -/

namespace Sys2Proof.Machine

theorem Fld.get_testBit (f : Fld) (w : Word) (i : Nat) :
    (f.get w).testBit i = (decide (i < f.width) && w.getLsbD (f.lo + i)) := by
  unfold Fld.get
  rw [Nat.testBit_mod_two_pow, Nat.testBit_div_two_pow, BitVec.getLsbD, Nat.add_comm]

theorem Fld.mask_testBit (f : Fld) (i : Nat) :
    f.mask.testBit i = (decide (f.lo ≤ i) && decide (i - f.lo < f.width)) := by
  unfold Fld.mask Fld.max
  rw [Nat.testBit_mul_two_pow, Nat.testBit_two_pow_sub_one]

/-- A bit of a word after a field is written. -/
theorem Fld.put_getLsbD (f : Fld) (v : Nat) (w : Word) (i : Nat) (hi : i < 32) :
    (f.put v w).getLsbD i =
      if f.lo ≤ i ∧ i - f.lo < f.width then v.testBit (i - f.lo) else w.getLsbD i := by
  unfold Fld.put
  simp only [BitVec.getLsbD_or, BitVec.getLsbD_and, BitVec.getLsbD_not, BitVec.getLsbD_ofNat, hi, decide_true,
    Bool.true_and, Fld.mask_testBit, Nat.testBit_mul_two_pow, Nat.testBit_mod_two_pow]
  by_cases h1 : f.lo ≤ i <;> by_cases h2 : i - f.lo < f.width <;> simp [h1, h2]

/-- The field written reads the low bits of the value. -/
theorem Fld.get_put (f : Fld) (v : Nat) (w : Word) (h : f.hi < 32) (hl : f.lo ≤ f.hi) :
    f.get (f.put v w) = v % 2 ^ f.width := by
  apply Nat.eq_of_testBit_eq
  intro i
  rw [Fld.get_testBit, Nat.testBit_mod_two_pow]
  by_cases hw : i < f.width
  · have : f.lo + i < 32 := by unfold Fld.width at hw; omega
    rw [Fld.put_getLsbD _ _ _ _ this]
    simp [hw]
  · simp [hw]

/-- A field apart from the one written reads as before. -/
theorem Fld.get_put_other (f g : Fld) (v : Nat) (w : Word) (hg : g.hi < 32)
    (hd : f.hi < g.lo ∨ g.hi < f.lo) : g.get (f.put v w) = g.get w := by
  apply Nat.eq_of_testBit_eq
  intro i
  rw [Fld.get_testBit, Fld.get_testBit]
  by_cases hw : i < g.width
  · have h32 : g.lo + i < 32 := by unfold Fld.width at hw; omega
    rw [Fld.put_getLsbD _ _ _ _ h32, if_neg]
    unfold Fld.width at hw ⊢; omega
  · simp [hw]

end Sys2Proof.Machine
end

