-- ==== Sys2Proof/Laws/Cmd.lean ====
section
/-! SUPPORT. How a command that the groom takes alone goes on: it runs, joins a set, or answers why not. -/

namespace Sys2Proof.Machine

theorem onSource_chainOf (p : Packet) (s : State) (src : Source) : (onSource p s).chainOf src = s.chainOf src := by
  unfold onSource; split <;> rfl

/-- A command that is taken alone goes to the groom in the state its source shows meanwhile. -/
theorem takeCmd_taken {op : Nat} {p : Packet} {s u : State} (h : Taken p s u) :
    takeCmd op p s = takeOne (cmdOf op p) u := by
  obtain ⟨hq, hr, ho, _, _, hm, rfl⟩ := h
  have hv : s.sourceLive p.src = true := by unfold State.sourceOpen at ho; exact (Bool.and_eq_true_iff.mp ho).1
  unfold takeCmd
  simp only [hq, hr, ho, hv, Bool.not_true, Bool.or_self, if_false, Bool.false_eq_true]
  unfold onSource
  by_cases ht : p.src = .twt
  · obtain ⟨hb, hy⟩ := hm ht
    simp only [ht, if_true, mailbox, hb, hy, hr, Bool.not_true, Bool.or_self, if_false, Bool.false_eq_true]
    rfl
  · simp only [ht, if_false]
    rfl

/-- Taking a command of no chain is its receipt and what follows it. -/
theorem takeOne_alone {c : Cmd} {u : State} (hc : u.chainOf c.pkt.src = none) (hp : c.pkt.chain = false) :
    takeOne c u = match receive c none u with
      | (.fail r, v) => finish c r v
      | (.stage e, v) => (match accept e v with
        | (r, none, w) => finish c r w
        | (_, some k, w) => pushSlot c (some k) none w)
      | (.run, v) => (execOne c v).2.2 := by
  unfold takeOne
  simp only [hc, hp, Bool.false_eq_true, if_false]
  all_goals
    rcases receive c none u with ⟨r, v⟩
    cases r <;> rfl

/-- A command that runs has the effect of its opcode. -/
theorem takeCmd_runs {op : Nat} {p : Packet} {s u : State} (h : Runs op p s u) :
    takeCmd op p s = (execOne (cmdOf op p) u).2.2 := by
  obtain ⟨ht, hs, hk, hl⟩ := h
  have hc : u.chainOf p.src = none := by rw [ht.2.2.2.2.2.2, onSource_chainOf]; exact ht.2.2.2.1
  have hr : receive (cmdOf op p) none u = (.run, u) := by
    have hs' : (cmdOf op p).pkt.stage = false := hs
    unfold receive; simp only [hk, hl, hs', Bool.not_false, if_true]
  rw [takeCmd_taken ht, takeOne_alone (c := cmdOf op p) hc ht.2.2.2.2.1, hr]

/-- A command that runs and answers at once. -/
theorem takeCmd_answers {op : Nat} {p : Packet} {s u v : State} {r : Res} (h : Runs op p s u)
    (ha : act (cmdOf op p) u = (.now r, v)) :
    takeCmd op p s = afterwards (cmdOf op p) (decide (r.status < 3)) (finish (cmdOf op p) r v) := by
  rw [takeCmd_runs h]; unfold execOne; rw [ha]

/-- A command that runs and whose reply waits for its work. -/
theorem takeCmd_waits {op : Nat} {p : Packet} {s u v : State} {k : WaitKey} (h : Runs op p s u)
    (ha : act (cmdOf op p) u = (.wait k, v)) :
    takeCmd op p s = afterwards (cmdOf op p) false (pushSlot (cmdOf op p) (some k) none v) := by
  rw [takeCmd_runs h]; unfold execOne; rw [ha]

/-- A command that fails a check answers why. -/
theorem takeCmd_fails {op : Nat} {p : Packet} {s u : State} {r : Res} (h : Taken p s u)
    (hk : checkCmd (cmdOf op p) none u = some r) :
    takeCmd op p s = finish (cmdOf op p) r (if r.status = St.DARK then darkAccess r.detail u else u) := by
  have hc : u.chainOf p.src = none := by rw [h.2.2.2.2.2.2, onSource_chainOf]; exact h.2.2.2.1
  have hr : receive (cmdOf op p) none u = (.fail r, if r.status = St.DARK then darkAccess r.detail u else u) := by
    unfold receive; simp only [hk]
  rw [takeCmd_taken h, takeOne_alone (c := cmdOf op p) hc h.2.2.2.2.1, hr]

/-- The KIND bits that a KIND row's packet carries. -/
theorem kindPacket_bits (p : Packet) (hi lo k : Nat) (hh : hi < 32) (hl : lo ≤ hi) (hp : p.params ≠ []) :
    bits (wAt (kindPacket p hi lo k).params 0) hi lo = k % 2 ^ (hi + 1 - lo) := by
  unfold kindPacket
  cases h : p.params with
  | nil => exact absurd h hp
  | cons w ws => exact Fld.get_put ⟨hi, lo⟩ k w hh hl

/-- KIND 0 is carried by every packet. -/
theorem kindPacket_bits_zero (p : Packet) (hi lo : Nat) (hh : hi < 32) (hl : lo ≤ hi) :
    bits (wAt (kindPacket p hi lo 0).params 0) hi lo = 0 := by
  by_cases hp : p.params = []
  · unfold kindPacket; rw [hp]; simp [wAt, bits, Fld.get]
  · rw [kindPacket_bits p hi lo 0 hh hl hp, Nat.zero_mod]

/-- A command that joins a set: its entry and its answer, or the work that its reply waits for. -/
theorem takeCmd_stages {op : Nat} {p : Packet} {s u v : State} {h : Held} (hs : Stages op p s u)
    (he : entryOf (cmdOf op p) u = (.ok h, v)) (hl : limitChk (cmdOf op p) none v = none) :
    takeCmd op p s = match accept (fanPayload (cmdOf op p) [] h v) v with
      | (r, none, w) => finish (cmdOf op p) r w
      | (_, some k, w) => pushSlot (cmdOf op p) (some k) none w := by
  obtain ⟨ht, hst, hk, _⟩ := hs
  have hc : u.chainOf p.src = none := by rw [ht.2.2.2.2.2.2, onSource_chainOf]; exact ht.2.2.2.1
  have hst' : (cmdOf op p).pkt.stage = true := hst
  have hr : receive (cmdOf op p) none u = (.stage (fanPayload (cmdOf op p) [] h v), v) := by
    unfold receive; simp only [hk, hst', Bool.not_true, Bool.false_eq_true, if_false, he, hl]
  rw [takeCmd_taken ht, takeOne_alone (c := cmdOf op p) hc ht.2.2.2.2.1, hr]

end Sys2Proof.Machine
end

