-- ==== Sys2Proof/Laws/Fec.lean ====
section
/-! SUPPORT. The Reed–Solomon decoder by its three outcomes: a clean codeword, one beyond correction, a corrected one;
and syndromes of codewords that begin with zeros. -/

namespace Sys2Proof.Machine

theorem gmulBits_zero (b n : Nat) : gmulBits 0 b n 0 = 0 := by
  induction n generalizing b with
  | zero => rfl
  | succ n ih => simp [gmulBits, ih, gx]

theorem gevalHigh_zeros (n : Nat) (t : List Nat) (x : Nat) : gevalHigh (List.replicate n 0 ++ t) x = gevalHigh t x := by
  induction n with
  | zero => rfl
  | succ n ih => simpa [gevalHigh, List.replicate_succ, gmul, gmulBits_zero] using ih

theorem syndromes_zeros (n : Nat) (t : List Nat) : syndromes (List.replicate n 0 ++ t) = syndromes t := by
  simp [syndromes, gevalHigh_zeros]

theorem rsDecode_clean {cw : List Nat} (h : (syndromes cw).all (· == 0) = true) : rsDecode cw = some (cw, false) := by
  unfold rsDecode; simp only [h, if_true]

theorem rsDecode_lost {cw : List Nat} (h : (syndromes cw).all (· == 0) = false) (hl : 8 < (locate (syndromes cw)).len) :
    rsDecode cw = none := by
  unfold rsDecode; simp only [h]; simp; intro _; omega

/-- The bytes of a received word, corrected where they are in error by the locator and evaluator polynomials, and
whether each was. -/
def rsFixed (cw : List Nat) : List (Nat × Bool) :=
  (List.range cw.length).map (fun j =>
    let p := cw.length - 1 - j
    let xinv := gpow ((255 - p) % 255)
    let c := cw.getD j 0
    let l := locate (syndromes cw)
    let omega := ((List.range 16).map (fun n =>
      (List.range (n + 1)).foldl (fun acc i => acc ^^^ gmul (l.lam.getD i 0) ((syndromes cw).getD (n - i) 0)) 0))
    if gevalLow l.lam xinv = 0 then
      (c ^^^ gmul (gpow p) (gmul (gevalLow omega xinv) (ginv (gevalLow (gderiv l.lam) xinv))), true)
    else (c, false))

theorem rsDecode_corrected {cw out : List Nat} {fixed : List (Nat × Bool)} (hs : (syndromes cw).all (· == 0) = false)
    (hf : fixed = rsFixed cw) (hl : (locate (syndromes cw)).len ≤ 8)
    (hr : (fixed.filter (·.2)).length = (locate (syndromes cw)).len)
    (ho : fixed.map (·.1) = out) (hz : (syndromes out).all (· == 0) = true) : rsDecode cw = some (out, true) := by
  unfold rsDecode
  simp only [hs]
  rw [if_neg (by simp)]
  subst ho
  unfold rsFixed at hf
  simp only [← hf]
  rw [if_pos ⟨hl, hr, hz⟩]

end Sys2Proof.Machine
end

