-- ==== Sys2Proof/Laws/SMap.lean ====
section
/-! SUPPORT. Sparse maps: a read after a write, and the canonical form that every write keeps. -/

namespace Sys2Proof.Machine

theorem SMap.find_insert_self {α : Type} (m : SMap α) (a : Nat) (v : α) : (m.insert a v).find a = some v := by
  induction m with
  | nil => simp [SMap.insert, SMap.find]
  | cons e m ih =>
    obtain ⟨k, w⟩ := e
    unfold SMap.insert
    split
    · simp [SMap.find]
    · split
      · simp [SMap.find]
      · unfold SMap.find; simp_all

theorem SMap.find_insert_other {α : Type} (m : SMap α) (a b : Nat) (v : α) (h : b ≠ a) :
    (m.insert a v).find b = m.find b := by
  induction m with
  | nil =>
    unfold SMap.insert SMap.find
    rw [if_neg (fun e => h e.symm)]
    split <;> simp [SMap.find]
  | cons e m ih =>
    obtain ⟨k, w⟩ := e
    unfold SMap.insert
    split
    · rename_i hk; subst hk
      unfold SMap.find
      simp only [if_neg (Ne.symm h)]
    · split
      · rename_i hk hlt
        conv => lhs; unfold SMap.find
        rw [if_neg (fun e => h e.symm)]
        split
        · rename_i hb
          unfold SMap.find
          rw [if_neg (by omega), if_pos (by omega)]
        · rfl
      · unfold SMap.find
        rw [ih]

/-- Rising keys may start lower. -/
theorem SMap.risingFrom_mono {α : Type} (m : SMap α) (lo lo' : Nat) (h : m.risingFrom lo = true) (hl : lo' ≤ lo) :
    m.risingFrom lo' = true := by
  cases m with
  | nil => rfl
  | cons e m =>
    obtain ⟨k, w⟩ := e
    unfold SMap.risingFrom at h ⊢
    simp only [Bool.and_eq_true, decide_eq_true_eq] at h ⊢
    exact ⟨by omega, h.2⟩

theorem SMap.find_below {α : Type} (m : SMap α) (lo a : Nat) (h : m.risingFrom lo = true) (ha : a < lo) :
    m.find a = none := by
  cases m with
  | nil => rfl
  | cons e m =>
    obtain ⟨k, w⟩ := e
    unfold SMap.risingFrom at h
    simp only [Bool.and_eq_true, decide_eq_true_eq] at h
    unfold SMap.find
    rw [if_neg (by omega), if_pos (by omega)]

theorem SMap.find_erase_self {α : Type} (m : SMap α) (lo a : Nat) (h : m.risingFrom lo = true) :
    (m.erase a).find a = none := by
  induction m generalizing lo with
  | nil => rfl
  | cons e m ih =>
    obtain ⟨k, w⟩ := e
    unfold SMap.risingFrom at h
    simp only [Bool.and_eq_true, decide_eq_true_eq] at h
    unfold SMap.erase
    split
    · rename_i hk; subst hk; exact SMap.find_below m _ _ h.2 (by omega)
    · split
      · unfold SMap.find; simp_all
      · unfold SMap.find; simp_all [ih (k + 1) h.2]

theorem SMap.find_erase_other {α : Type} (m : SMap α) (lo a b : Nat) (h : m.risingFrom lo = true) (hb : b ≠ a) :
    (m.erase a).find b = m.find b := by
  induction m generalizing lo with
  | nil => rfl
  | cons e m ih =>
    obtain ⟨k, w⟩ := e
    unfold SMap.risingFrom at h
    simp only [Bool.and_eq_true, decide_eq_true_eq] at h
    unfold SMap.erase
    split
    · rename_i hk; subst hk
      conv => rhs; unfold SMap.find
      rw [if_neg (fun e => hb e.symm)]
      split
      · rename_i hlt; exact SMap.find_below m _ _ h.2 (by omega)
      · rfl
    · split
      · rfl
      · unfold SMap.find; rw [ih (k + 1) h.2]

theorem SMap.risingFrom_insert {α : Type} (m : SMap α) (lo a : Nat) (v : α) (h : m.risingFrom lo = true) (ha : lo ≤ a) :
    (m.insert a v).risingFrom lo = true := by
  induction m generalizing lo with
  | nil => simp [SMap.insert, SMap.risingFrom, ha]
  | cons e m ih =>
    obtain ⟨k, w⟩ := e
    unfold SMap.risingFrom at h
    simp only [Bool.and_eq_true, decide_eq_true_eq] at h
    unfold SMap.insert
    split
    · rename_i hk; subst hk; simp [SMap.risingFrom, h]
    · split
      · simp only [SMap.risingFrom, Bool.and_eq_true, decide_eq_true_eq]
        exact ⟨ha, by omega, h.2⟩
      · simp only [SMap.risingFrom, Bool.and_eq_true, decide_eq_true_eq]
        exact ⟨h.1, ih (k + 1) h.2 (by omega)⟩

theorem SMap.risingFrom_erase {α : Type} (m : SMap α) (lo a : Nat) (h : m.risingFrom lo = true) :
    (m.erase a).risingFrom lo = true := by
  induction m generalizing lo with
  | nil => rfl
  | cons e m ih =>
    obtain ⟨k, w⟩ := e
    have h0 := h
    unfold SMap.risingFrom at h
    simp only [Bool.and_eq_true, decide_eq_true_eq] at h
    unfold SMap.erase
    split
    · exact SMap.risingFrom_mono m _ _ h.2 (by omega)
    · split
      · exact h0
      · simp only [SMap.risingFrom, Bool.and_eq_true, decide_eq_true_eq]
        exact ⟨h.1, ih (k + 1) h.2⟩

theorem SMap.mem_insert {α : Type} (m : SMap α) (a : Nat) (v : α) (e : Nat × α) (h : e ∈ m.insert a v) :
    e = (a, v) ∨ e ∈ m := by
  induction m with
  | nil => simp_all [SMap.insert]
  | cons x m ih =>
    obtain ⟨k, w⟩ := x
    unfold SMap.insert at h
    split at h
    · rcases List.mem_cons.mp h with h | h
      · exact .inl h
      · exact .inr (List.mem_cons_of_mem _ h)
    · split at h
      · rcases List.mem_cons.mp h with h | h
        · exact .inl h
        · exact .inr h
      · rcases List.mem_cons.mp h with h | h
        · exact .inr (h ▸ List.mem_cons_self)
        · rcases ih h with h | h
          · exact .inl h
          · exact .inr (List.mem_cons_of_mem _ h)

theorem SMap.mem_erase {α : Type} (m : SMap α) (a : Nat) (e : Nat × α) (h : e ∈ m.erase a) : e ∈ m := by
  induction m with
  | nil => exact h
  | cons x m ih =>
    obtain ⟨k, w⟩ := x
    unfold SMap.erase at h
    split at h
    · exact List.mem_cons_of_mem _ h
    · split at h
      · exact h
      · rcases List.mem_cons.mp h with h | h
        · exact h ▸ List.mem_cons_self
        · exact List.mem_cons_of_mem _ (ih h)

/-- A write keeps the canonical form. -/
theorem SMap.wf_put {α : Type} [DecidableEq α] (m : SMap α) (d : Nat → α) (a : Nat) (v : α) (h : m.wf d = true) :
    (m.put (d a) a v).wf d = true := by
  unfold SMap.wf at h ⊢
  simp only [Bool.and_eq_true, List.all_eq_true, decide_eq_true_eq] at h ⊢
  unfold SMap.put
  split
  · exact ⟨SMap.risingFrom_erase m 0 a h.1, fun e he => h.2 e (SMap.mem_erase m a e he)⟩
  · rename_i hv
    refine ⟨SMap.risingFrom_insert m 0 a v h.1 (Nat.zero_le a), fun e he => ?_⟩
    rcases SMap.mem_insert m a v e he with rfl | he
    · exact hv
    · exact h.2 e he

/-- A key reads what was written to it. -/
theorem SMap.get_put_self {α : Type} [DecidableEq α] (m : SMap α) (d : Nat → α) (a : Nat) (v : α) (h : m.wf d = true) :
    (m.put (d a) a v).get (d a) a = v := by
  unfold SMap.wf at h
  simp only [Bool.and_eq_true] at h
  unfold SMap.get SMap.put
  split
  · rename_i hv; rw [SMap.find_erase_self m 0 a h.1, hv]; rfl
  · rw [SMap.find_insert_self]; rfl

/-- Other keys read as before. -/
theorem SMap.get_put_other {α : Type} [DecidableEq α] (m : SMap α) (d : Nat → α) (a b : Nat) (v x : α) (h : m.wf d = true)
    (hb : b ≠ a) : (m.put (d a) a v).get x b = m.get x b := by
  unfold SMap.wf at h
  simp only [Bool.and_eq_true] at h
  unfold SMap.get SMap.put
  split
  · rw [SMap.find_erase_other m 0 a b h.1 hb]
  · rw [SMap.find_insert_other m a b v hb]

end Sys2Proof.Machine
end

