-- ==== Sys2Proof/Laws/Ops.lean ====
section
/-! SUPPORT. What the shared operations over registers and byte memories do, said once: what they store reads back, what
they do not store is as before, and the canonical forms are kept. -/

namespace Sys2Proof.Machine

/-! ### Registers -/

theorem State.reg_setReg_self (a : Nat) (w : Word) (s : State) (h : s.regsWf = true) : (s.setReg a w).reg a = w :=
  SMap.get_put_self s.regs resetOf a w h

theorem State.reg_setReg_other (a b : Nat) (w : Word) (s : State) (h : s.regsWf = true) (hb : b ≠ a) :
    (s.setReg a w).reg b = s.reg b := SMap.get_put_other s.regs resetOf a b w _ h hb

/-- Storing a register keeps the registers' canonical form. -/
theorem State.regsWf_setReg (a : Nat) (w : Word) (s : State) (h : s.regsWf = true) : (s.setReg a w).regsWf = true :=
  SMap.wf_put s.regs resetOf a w h

theorem State.fld_setFld_self (a : Nat) (f : Fld) (v : Nat) (s : State) (h : s.regsWf = true) (h1 : f.lo ≤ f.hi)
    (h2 : f.hi < 32) : (s.setFld a f v).fld a f = v % 2 ^ f.width := by
  unfold State.fld State.setFld
  rw [State.reg_setReg_self _ _ _ h, Fld.get_put _ _ _ h2 h1]

theorem State.fld_setFld_beside (a : Nat) (f g : Fld) (v : Nat) (s : State) (h : s.regsWf = true) (hg : g.hi < 32)
    (hd : f.hi < g.lo ∨ g.hi < f.lo) : (s.setFld a f v).fld a g = s.fld a g := by
  unfold State.fld State.setFld
  rw [State.reg_setReg_self _ _ _ h, Fld.get_put_other _ _ _ _ hg hd]

theorem State.reset_regsWf : State.reset.regsWf = true := rfl

/-! ### Byte memories -/

theorem writeBytes_wf (bs : List Byte) : ∀ (m : SMap Byte) (a : Nat), SMap.wf m (fun _ => 0) = true →
    SMap.wf (writeBytes m a bs) (fun _ => 0) = true := by
  induction bs with
  | nil => intro m a h; exact h
  | cons b bs ih => intro m a h; exact ih _ _ (SMap.wf_put m (fun _ => 0) a b h)

theorem putBytes_wf (ws : List (Nat × Byte)) : ∀ m : SMap Byte, SMap.wf m (fun _ => 0) = true →
    SMap.wf (putBytes m ws) (fun _ => 0) = true := by
  induction ws with
  | nil => intro m h; exact h
  | cons e ws ih => intro m h; exact ih _ (SMap.wf_put m (fun _ => 0) e.1 e.2 h)

/-- A byte outside the written range reads as before. -/
theorem get_writeBytes_outside (bs : List Byte) : ∀ (m : SMap Byte) (a c : Nat), SMap.wf m (fun _ => 0) = true →
    (c < a ∨ a + bs.length ≤ c) → (writeBytes m a bs).get 0 c = m.get 0 c := by
  induction bs with
  | nil => intro m a c _ _; rfl
  | cons b bs ih =>
    intro m a c h hc
    simp only [List.length_cons] at hc
    unfold writeBytes
    rw [ih _ _ _ (SMap.wf_put m (fun _ => 0) a b h) (by omega)]
    exact SMap.get_put_other m (fun _ => 0) a c b 0 h (by omega)

/-- A byte of the written range reads as written. -/
theorem get_writeBytes_inside (bs : List Byte) : ∀ (m : SMap Byte) (a i : Nat), SMap.wf m (fun _ => 0) = true →
    i < bs.length → (writeBytes m a bs).get 0 (a + i) = bs.getD i 0 := by
  induction bs with
  | nil => intro m a i _ hi; exact absurd hi (Nat.not_lt_zero i)
  | cons b bs ih =>
    intro m a i h hi
    unfold writeBytes
    cases i with
    | zero =>
      rw [get_writeBytes_outside bs _ _ _ (SMap.wf_put m (fun _ => 0) a b h) (by omega)]
      exact SMap.get_put_self m (fun _ => 0) a b h
    | succ i =>
      have := ih (SMap.put m 0 a b) (a + 1) i (SMap.wf_put m (fun _ => 0) a b h) (by simpa using hi)
      rw [show a + (i + 1) = a + 1 + i by omega, this]
      rfl

/-- Every operation on the hayloft, the frame store and the boot flash keeps the memories' canonical form, which the reset
state has. -/
theorem State.memWf_hayWrite (a : Nat) (bs : List Byte) (s : State) (h : s.memWf = true) : (s.hayWrite a bs).memWf = true := by
  unfold State.memWf at h ⊢
  simp only [Bool.and_eq_true] at h ⊢
  exact ⟨⟨writeBytes_wf bs _ _ h.1.1, h.1.2⟩, h.2⟩

theorem State.memWf_fsWrite (a : Nat) (bs : List Byte) (s : State) (h : s.memWf = true) : (s.fsWrite a bs).memWf = true := by
  unfold State.memWf at h ⊢
  simp only [Bool.and_eq_true] at h ⊢
  exact ⟨⟨h.1.1, writeBytes_wf bs _ _ h.1.2⟩, h.2⟩

theorem SMap.wf_filter {α : Type} [DecidableEq α] (m : SMap α) (d : Nat → α) (p : Nat × α → Bool) (h : m.wf d = true) :
    SMap.wf (m.filter p) d = true := by
  have rise : ∀ (m : SMap α) (lo : Nat), m.risingFrom lo = true → SMap.risingFrom lo (m.filter p) = true := by
    intro m
    induction m with
    | nil => intro lo h; rfl
    | cons e m ih =>
      intro lo h
      obtain ⟨k, w⟩ := e
      unfold SMap.risingFrom at h
      simp only [Bool.and_eq_true, decide_eq_true_eq] at h
      rw [List.filter_cons]
      split
      · unfold SMap.risingFrom; simp only [Bool.and_eq_true, decide_eq_true_eq]; exact ⟨h.1, ih _ h.2⟩
      · exact SMap.risingFrom_mono _ _ _ (ih _ h.2) (by omega)
  unfold SMap.wf at h ⊢
  simp only [Bool.and_eq_true, List.all_eq_true, decide_eq_true_eq] at h ⊢
  exact ⟨rise m 0 h.1, fun e he => h.2 e (List.mem_filter.mp he).1⟩

/-- Emptying a range of a memory keeps its canonical form. -/
theorem zeroRange_wf (m : SMap Byte) (a n : Nat) (h : SMap.wf m (fun _ => 0) = true) :
    SMap.wf (zeroRange m a n) (fun _ => 0) = true := SMap.wf_filter m _ _ h

/-- Writing the boot flash keeps its canonical form. -/
theorem State.memWf_flashWrite (a n : Nat) (bs : List Byte) (s : State) (h : s.memWf = true) :
    (flashWrite a n bs s).memWf = true := by
  have puts : ∀ (bs : List Byte) (acc : SMap Byte × Nat), SMap.wf acc.1 (fun _ => 0xFF) = true →
      SMap.wf (bs.foldl (fun (acc : SMap Byte × Nat) b => (SMap.put acc.1 0xFF acc.2 b, acc.2 + 1)) acc).1
        (fun _ => 0xFF) = true := by
    intro bs
    induction bs with
    | nil => intro acc h; exact h
    | cons b bs ih => intro acc h; exact ih _ (SMap.wf_put acc.1 (fun _ => 0xFF) acc.2 b h)
  unfold State.memWf at h ⊢
  simp only [Bool.and_eq_true] at h ⊢
  exact ⟨h.1, puts bs _ (SMap.wf_filter _ _ _ h.2)⟩

theorem State.reset_memWf : State.reset.memWf = true := rfl

/-! ### Staging -/

/-- A write of ST registers joins the set being filled as one entry, and counts as deferred while a window is open. -/
theorem stageRegs_room (page : Nat) (ws : List (Nat × Word)) (s : State) (h : s.groom.staging.fill.length < 4096) :
    stageRegs page ws s = (true, if s.winOpen then
      (addEntry (.fill s.winOpen s.fillTick) ⟨0xFFFF, BitVec.ofNat 16 page, .regs ws, s.winOpen⟩ s).incWrap R.DEFER_COUNT
        F.DEFER_COUNT_WRITES 1
      else addEntry (.fill s.winOpen s.fillTick) ⟨0xFFFF, BitVec.ofNat 16 page, .regs ws, s.winOpen⟩ s) := by
  unfold stageRegs
  rw [if_neg (by omega)]

/-- A full set takes nothing. -/
theorem stageRegs_full (page : Nat) (ws : List (Nat × Word)) (s : State) (h : 4096 ≤ s.groom.staging.fill.length) :
    stageRegs page ws s = (false, s) := by
  unfold stageRegs
  rw [if_pos h]

/-! ### Events -/

/-- A reserved source never raises (R491). -/
theorem State.raise_reserved (n unit : Nat) (arg : Word) (s : State) (h : evReserved n = true) :
    s.raise n unit arg = s := by
  unfold State.raise
  rw [if_pos h]

/-! ### Shared operations -/

/-- Without an injection bytes pass a lane as they are (R513). -/
theorem injectBytes_off (x : Nat) (bs : List Byte) (s : State) (h : SMap.get s.test.inj none x = none) :
    injectBytes x bs s = (bs, s) := by
  unfold injectBytes
  rw [h]

/-- TWT0 goes on only with its clock, and not within 50 µs of the match that woke the hub (R435, R436). -/
theorem twtAnswer_awake (go : State → State) (s : State) (h : s.twtAwake = true) (hm : s.twtMuted = false) :
    twtAnswer go s = go (twtAcked s) := by
  simp [twtAnswer, h, hm]

theorem twtAnswer_muted (go : State → State) (s : State) (h : s.twtAwake = true) (hm : s.twtMuted = true) :
    twtAnswer go s = twtNacked 1 s := by
  simp [twtAnswer, h, hm]

theorem twtAnswer_asleep (go : State → State) (s : State) (h : s.twtAwake = false) : twtAnswer go s = s := by
  simp [twtAnswer, h]

/-- Where nothing waits, the groom serves nothing (R105). -/
theorem serve_idle (k : Nat) (s : State) (h : s.nextCmd = none) : serve k s = s := by
  cases k with
  | zero => rfl
  | succ k => unfold serve; rw [h]

end Sys2Proof.Machine
end

