-- ==== Sys2Proof/Laws/State.lean ====
section
/-! SUPPORT. What each update of the state leaves alone: one lemma per field per update, so that no proof unfolds a record
update. -/

namespace Sys2Proof.Machine

variable (s : State)

section
variable (o : Out)
@[simp] theorem State.emit_pending : (s.emit o).pending = s.pending := rfl
@[simp] theorem State.emit_fresh : (s.emit o).fresh = s.fresh := rfl
@[simp] theorem State.emit_part : (s.emit o).part = s.part := rfl
@[simp] theorem State.emit_dstate : (s.emit o).dstate = s.dstate := rfl
@[simp] theorem State.emit_cause : (s.emit o).cause = s.cause := rfl
@[simp] theorem State.emit_regs : (s.emit o).regs = s.regs := rfl
@[simp] theorem State.emit_latches : (s.emit o).latches = s.latches := rfl
@[simp] theorem State.emit_groom : (s.emit o).groom = s.groom := rfl
@[simp] theorem State.emit_tg : (s.emit o).tg = s.tg := rfl
@[simp] theorem State.emit_ev : (s.emit o).ev = s.ev := rfl
@[simp] theorem State.emit_host : (s.emit o).host = s.host := rfl
@[simp] theorem State.emit_clk : (s.emit o).clk = s.clk := rfl
@[simp] theorem State.emit_pwr : (s.emit o).pwr = s.pwr := rfl
@[simp] theorem State.emit_sec : (s.emit o).sec = s.sec := rfl
@[simp] theorem State.emit_lanes : (s.emit o).lanes = s.lanes := rfl
@[simp] theorem State.emit_links : (s.emit o).links = s.links := rfl
@[simp] theorem State.emit_gates : (s.emit o).gates = s.gates := rfl
@[simp] theorem State.emit_stalls : (s.emit o).stalls = s.stalls := rfl
@[simp] theorem State.emit_yards : (s.emit o).yards = s.yards := rfl
@[simp] theorem State.emit_hay : (s.emit o).hay = s.hay := rfl
@[simp] theorem State.emit_store : (s.emit o).store = s.store := rfl
@[simp] theorem State.emit_remaps : (s.emit o).remaps = s.remaps := rfl
@[simp] theorem State.emit_meshes : (s.emit o).meshes = s.meshes := rfl
@[simp] theorem State.emit_heads : (s.emit o).heads = s.heads := rfl
@[simp] theorem State.emit_codecAcc : (s.emit o).codecAcc = s.codecAcc := rfl
@[simp] theorem State.emit_tw : (s.emit o).tw = s.tw := rfl
@[simp] theorem State.emit_test : (s.emit o).test = s.test := rfl
@[simp] theorem State.emit_stand : (s.emit o).stand = s.stand := rfl
@[simp] theorem State.emit_dissolved : (s.emit o).dissolved = s.dissolved := rfl
@[simp] theorem State.emit_hayBad : (s.emit o).hayBad = s.hayBad := rfl
@[simp] theorem State.emit_ethTx : (s.emit o).ethTx = s.ethTx := rfl
end

section
variable (a : Nat) (w : Word)
@[simp] theorem State.setReg_pending : (s.setReg a w).pending = s.pending := rfl
@[simp] theorem State.setReg_out : (s.setReg a w).out = s.out := rfl
@[simp] theorem State.setReg_fresh : (s.setReg a w).fresh = s.fresh := rfl
@[simp] theorem State.setReg_part : (s.setReg a w).part = s.part := rfl
@[simp] theorem State.setReg_dstate : (s.setReg a w).dstate = s.dstate := rfl
@[simp] theorem State.setReg_cause : (s.setReg a w).cause = s.cause := rfl
@[simp] theorem State.setReg_latches : (s.setReg a w).latches = s.latches := rfl
@[simp] theorem State.setReg_groom : (s.setReg a w).groom = s.groom := rfl
@[simp] theorem State.setReg_tg : (s.setReg a w).tg = s.tg := rfl
@[simp] theorem State.setReg_ev : (s.setReg a w).ev = s.ev := rfl
@[simp] theorem State.setReg_host : (s.setReg a w).host = s.host := rfl
@[simp] theorem State.setReg_clk : (s.setReg a w).clk = s.clk := rfl
@[simp] theorem State.setReg_pwr : (s.setReg a w).pwr = s.pwr := rfl
@[simp] theorem State.setReg_sec : (s.setReg a w).sec = s.sec := rfl
@[simp] theorem State.setReg_lanes : (s.setReg a w).lanes = s.lanes := rfl
@[simp] theorem State.setReg_links : (s.setReg a w).links = s.links := rfl
@[simp] theorem State.setReg_gates : (s.setReg a w).gates = s.gates := rfl
@[simp] theorem State.setReg_stalls : (s.setReg a w).stalls = s.stalls := rfl
@[simp] theorem State.setReg_yards : (s.setReg a w).yards = s.yards := rfl
@[simp] theorem State.setReg_hay : (s.setReg a w).hay = s.hay := rfl
@[simp] theorem State.setReg_store : (s.setReg a w).store = s.store := rfl
@[simp] theorem State.setReg_remaps : (s.setReg a w).remaps = s.remaps := rfl
@[simp] theorem State.setReg_meshes : (s.setReg a w).meshes = s.meshes := rfl
@[simp] theorem State.setReg_heads : (s.setReg a w).heads = s.heads := rfl
@[simp] theorem State.setReg_codecAcc : (s.setReg a w).codecAcc = s.codecAcc := rfl
@[simp] theorem State.setReg_tw : (s.setReg a w).tw = s.tw := rfl
@[simp] theorem State.setReg_test : (s.setReg a w).test = s.test := rfl
@[simp] theorem State.setReg_stand : (s.setReg a w).stand = s.stand := rfl
@[simp] theorem State.setReg_dissolved : (s.setReg a w).dissolved = s.dissolved := rfl
@[simp] theorem State.setReg_hayBad : (s.setReg a w).hayBad = s.hayBad := rfl
@[simp] theorem State.setReg_ethTx : (s.setReg a w).ethTx = s.ethTx := rfl
end

section
variable (a : Nat) (f : Fld) (v : Nat)
@[simp] theorem State.setFld_pending : (s.setFld a f v).pending = s.pending := rfl
@[simp] theorem State.setFld_out : (s.setFld a f v).out = s.out := rfl
@[simp] theorem State.setFld_fresh : (s.setFld a f v).fresh = s.fresh := rfl
@[simp] theorem State.setFld_part : (s.setFld a f v).part = s.part := rfl
@[simp] theorem State.setFld_dstate : (s.setFld a f v).dstate = s.dstate := rfl
@[simp] theorem State.setFld_cause : (s.setFld a f v).cause = s.cause := rfl
@[simp] theorem State.setFld_latches : (s.setFld a f v).latches = s.latches := rfl
@[simp] theorem State.setFld_groom : (s.setFld a f v).groom = s.groom := rfl
@[simp] theorem State.setFld_tg : (s.setFld a f v).tg = s.tg := rfl
@[simp] theorem State.setFld_ev : (s.setFld a f v).ev = s.ev := rfl
@[simp] theorem State.setFld_host : (s.setFld a f v).host = s.host := rfl
@[simp] theorem State.setFld_clk : (s.setFld a f v).clk = s.clk := rfl
@[simp] theorem State.setFld_pwr : (s.setFld a f v).pwr = s.pwr := rfl
@[simp] theorem State.setFld_sec : (s.setFld a f v).sec = s.sec := rfl
@[simp] theorem State.setFld_lanes : (s.setFld a f v).lanes = s.lanes := rfl
@[simp] theorem State.setFld_links : (s.setFld a f v).links = s.links := rfl
@[simp] theorem State.setFld_gates : (s.setFld a f v).gates = s.gates := rfl
@[simp] theorem State.setFld_stalls : (s.setFld a f v).stalls = s.stalls := rfl
@[simp] theorem State.setFld_yards : (s.setFld a f v).yards = s.yards := rfl
@[simp] theorem State.setFld_hay : (s.setFld a f v).hay = s.hay := rfl
@[simp] theorem State.setFld_store : (s.setFld a f v).store = s.store := rfl
@[simp] theorem State.setFld_remaps : (s.setFld a f v).remaps = s.remaps := rfl
@[simp] theorem State.setFld_meshes : (s.setFld a f v).meshes = s.meshes := rfl
@[simp] theorem State.setFld_heads : (s.setFld a f v).heads = s.heads := rfl
@[simp] theorem State.setFld_codecAcc : (s.setFld a f v).codecAcc = s.codecAcc := rfl
@[simp] theorem State.setFld_tw : (s.setFld a f v).tw = s.tw := rfl
@[simp] theorem State.setFld_test : (s.setFld a f v).test = s.test := rfl
@[simp] theorem State.setFld_stand : (s.setFld a f v).stand = s.stand := rfl
@[simp] theorem State.setFld_dissolved : (s.setFld a f v).dissolved = s.dissolved := rfl
@[simp] theorem State.setFld_hayBad : (s.setFld a f v).hayBad = s.hayBad := rfl
@[simp] theorem State.setFld_ethTx : (s.setFld a f v).ethTx = s.ethTx := rfl
end

section
variable (a : Nat) (f : Fld) (v : Bool)
@[simp] theorem State.setFlag_pending : (s.setFlag a f v).pending = s.pending := rfl
@[simp] theorem State.setFlag_out : (s.setFlag a f v).out = s.out := rfl
@[simp] theorem State.setFlag_fresh : (s.setFlag a f v).fresh = s.fresh := rfl
@[simp] theorem State.setFlag_part : (s.setFlag a f v).part = s.part := rfl
@[simp] theorem State.setFlag_dstate : (s.setFlag a f v).dstate = s.dstate := rfl
@[simp] theorem State.setFlag_cause : (s.setFlag a f v).cause = s.cause := rfl
@[simp] theorem State.setFlag_latches : (s.setFlag a f v).latches = s.latches := rfl
@[simp] theorem State.setFlag_groom : (s.setFlag a f v).groom = s.groom := rfl
@[simp] theorem State.setFlag_tg : (s.setFlag a f v).tg = s.tg := rfl
@[simp] theorem State.setFlag_ev : (s.setFlag a f v).ev = s.ev := rfl
@[simp] theorem State.setFlag_host : (s.setFlag a f v).host = s.host := rfl
@[simp] theorem State.setFlag_clk : (s.setFlag a f v).clk = s.clk := rfl
@[simp] theorem State.setFlag_pwr : (s.setFlag a f v).pwr = s.pwr := rfl
@[simp] theorem State.setFlag_sec : (s.setFlag a f v).sec = s.sec := rfl
@[simp] theorem State.setFlag_lanes : (s.setFlag a f v).lanes = s.lanes := rfl
@[simp] theorem State.setFlag_links : (s.setFlag a f v).links = s.links := rfl
@[simp] theorem State.setFlag_gates : (s.setFlag a f v).gates = s.gates := rfl
@[simp] theorem State.setFlag_stalls : (s.setFlag a f v).stalls = s.stalls := rfl
@[simp] theorem State.setFlag_yards : (s.setFlag a f v).yards = s.yards := rfl
@[simp] theorem State.setFlag_hay : (s.setFlag a f v).hay = s.hay := rfl
@[simp] theorem State.setFlag_store : (s.setFlag a f v).store = s.store := rfl
@[simp] theorem State.setFlag_remaps : (s.setFlag a f v).remaps = s.remaps := rfl
@[simp] theorem State.setFlag_meshes : (s.setFlag a f v).meshes = s.meshes := rfl
@[simp] theorem State.setFlag_heads : (s.setFlag a f v).heads = s.heads := rfl
@[simp] theorem State.setFlag_codecAcc : (s.setFlag a f v).codecAcc = s.codecAcc := rfl
@[simp] theorem State.setFlag_tw : (s.setFlag a f v).tw = s.tw := rfl
@[simp] theorem State.setFlag_test : (s.setFlag a f v).test = s.test := rfl
@[simp] theorem State.setFlag_stand : (s.setFlag a f v).stand = s.stand := rfl
@[simp] theorem State.setFlag_dissolved : (s.setFlag a f v).dissolved = s.dissolved := rfl
@[simp] theorem State.setFlag_hayBad : (s.setFlag a f v).hayBad = s.hayBad := rfl
@[simp] theorem State.setFlag_ethTx : (s.setFlag a f v).ethTx = s.ethTx := rfl
end

section
variable (a : Nat) (f : Fld) (v : Nat)
@[simp] theorem State.incSat_pending : (s.incSat a f v).pending = s.pending := rfl
@[simp] theorem State.incSat_out : (s.incSat a f v).out = s.out := rfl
@[simp] theorem State.incSat_fresh : (s.incSat a f v).fresh = s.fresh := rfl
@[simp] theorem State.incSat_part : (s.incSat a f v).part = s.part := rfl
@[simp] theorem State.incSat_dstate : (s.incSat a f v).dstate = s.dstate := rfl
@[simp] theorem State.incSat_cause : (s.incSat a f v).cause = s.cause := rfl
@[simp] theorem State.incSat_latches : (s.incSat a f v).latches = s.latches := rfl
@[simp] theorem State.incSat_groom : (s.incSat a f v).groom = s.groom := rfl
@[simp] theorem State.incSat_tg : (s.incSat a f v).tg = s.tg := rfl
@[simp] theorem State.incSat_ev : (s.incSat a f v).ev = s.ev := rfl
@[simp] theorem State.incSat_host : (s.incSat a f v).host = s.host := rfl
@[simp] theorem State.incSat_clk : (s.incSat a f v).clk = s.clk := rfl
@[simp] theorem State.incSat_pwr : (s.incSat a f v).pwr = s.pwr := rfl
@[simp] theorem State.incSat_sec : (s.incSat a f v).sec = s.sec := rfl
@[simp] theorem State.incSat_lanes : (s.incSat a f v).lanes = s.lanes := rfl
@[simp] theorem State.incSat_links : (s.incSat a f v).links = s.links := rfl
@[simp] theorem State.incSat_gates : (s.incSat a f v).gates = s.gates := rfl
@[simp] theorem State.incSat_stalls : (s.incSat a f v).stalls = s.stalls := rfl
@[simp] theorem State.incSat_yards : (s.incSat a f v).yards = s.yards := rfl
@[simp] theorem State.incSat_hay : (s.incSat a f v).hay = s.hay := rfl
@[simp] theorem State.incSat_store : (s.incSat a f v).store = s.store := rfl
@[simp] theorem State.incSat_remaps : (s.incSat a f v).remaps = s.remaps := rfl
@[simp] theorem State.incSat_meshes : (s.incSat a f v).meshes = s.meshes := rfl
@[simp] theorem State.incSat_heads : (s.incSat a f v).heads = s.heads := rfl
@[simp] theorem State.incSat_codecAcc : (s.incSat a f v).codecAcc = s.codecAcc := rfl
@[simp] theorem State.incSat_tw : (s.incSat a f v).tw = s.tw := rfl
@[simp] theorem State.incSat_test : (s.incSat a f v).test = s.test := rfl
@[simp] theorem State.incSat_stand : (s.incSat a f v).stand = s.stand := rfl
@[simp] theorem State.incSat_dissolved : (s.incSat a f v).dissolved = s.dissolved := rfl
@[simp] theorem State.incSat_hayBad : (s.incSat a f v).hayBad = s.hayBad := rfl
@[simp] theorem State.incSat_ethTx : (s.incSat a f v).ethTx = s.ethTx := rfl
end

section
variable (a : Nat) (f : Fld) (v : Nat)
@[simp] theorem State.incWrap_pending : (s.incWrap a f v).pending = s.pending := rfl
@[simp] theorem State.incWrap_out : (s.incWrap a f v).out = s.out := rfl
@[simp] theorem State.incWrap_fresh : (s.incWrap a f v).fresh = s.fresh := rfl
@[simp] theorem State.incWrap_part : (s.incWrap a f v).part = s.part := rfl
@[simp] theorem State.incWrap_dstate : (s.incWrap a f v).dstate = s.dstate := rfl
@[simp] theorem State.incWrap_cause : (s.incWrap a f v).cause = s.cause := rfl
@[simp] theorem State.incWrap_latches : (s.incWrap a f v).latches = s.latches := rfl
@[simp] theorem State.incWrap_groom : (s.incWrap a f v).groom = s.groom := rfl
@[simp] theorem State.incWrap_tg : (s.incWrap a f v).tg = s.tg := rfl
@[simp] theorem State.incWrap_ev : (s.incWrap a f v).ev = s.ev := rfl
@[simp] theorem State.incWrap_host : (s.incWrap a f v).host = s.host := rfl
@[simp] theorem State.incWrap_clk : (s.incWrap a f v).clk = s.clk := rfl
@[simp] theorem State.incWrap_pwr : (s.incWrap a f v).pwr = s.pwr := rfl
@[simp] theorem State.incWrap_sec : (s.incWrap a f v).sec = s.sec := rfl
@[simp] theorem State.incWrap_lanes : (s.incWrap a f v).lanes = s.lanes := rfl
@[simp] theorem State.incWrap_links : (s.incWrap a f v).links = s.links := rfl
@[simp] theorem State.incWrap_gates : (s.incWrap a f v).gates = s.gates := rfl
@[simp] theorem State.incWrap_stalls : (s.incWrap a f v).stalls = s.stalls := rfl
@[simp] theorem State.incWrap_yards : (s.incWrap a f v).yards = s.yards := rfl
@[simp] theorem State.incWrap_hay : (s.incWrap a f v).hay = s.hay := rfl
@[simp] theorem State.incWrap_store : (s.incWrap a f v).store = s.store := rfl
@[simp] theorem State.incWrap_remaps : (s.incWrap a f v).remaps = s.remaps := rfl
@[simp] theorem State.incWrap_meshes : (s.incWrap a f v).meshes = s.meshes := rfl
@[simp] theorem State.incWrap_heads : (s.incWrap a f v).heads = s.heads := rfl
@[simp] theorem State.incWrap_codecAcc : (s.incWrap a f v).codecAcc = s.codecAcc := rfl
@[simp] theorem State.incWrap_tw : (s.incWrap a f v).tw = s.tw := rfl
@[simp] theorem State.incWrap_test : (s.incWrap a f v).test = s.test := rfl
@[simp] theorem State.incWrap_stand : (s.incWrap a f v).stand = s.stand := rfl
@[simp] theorem State.incWrap_dissolved : (s.incWrap a f v).dissolved = s.dissolved := rfl
@[simp] theorem State.incWrap_hayBad : (s.incWrap a f v).hayBad = s.hayBad := rfl
@[simp] theorem State.incWrap_ethTx : (s.incWrap a f v).ethTx = s.ethTx := rfl
end

section
variable (x : Nat) (l : LaneDyn)
@[simp] theorem State.setLane_pending : (s.setLane x l).pending = s.pending := rfl
@[simp] theorem State.setLane_out : (s.setLane x l).out = s.out := rfl
@[simp] theorem State.setLane_fresh : (s.setLane x l).fresh = s.fresh := rfl
@[simp] theorem State.setLane_part : (s.setLane x l).part = s.part := rfl
@[simp] theorem State.setLane_dstate : (s.setLane x l).dstate = s.dstate := rfl
@[simp] theorem State.setLane_cause : (s.setLane x l).cause = s.cause := rfl
@[simp] theorem State.setLane_regs : (s.setLane x l).regs = s.regs := rfl
@[simp] theorem State.setLane_latches : (s.setLane x l).latches = s.latches := rfl
@[simp] theorem State.setLane_groom : (s.setLane x l).groom = s.groom := rfl
@[simp] theorem State.setLane_tg : (s.setLane x l).tg = s.tg := rfl
@[simp] theorem State.setLane_ev : (s.setLane x l).ev = s.ev := rfl
@[simp] theorem State.setLane_host : (s.setLane x l).host = s.host := rfl
@[simp] theorem State.setLane_clk : (s.setLane x l).clk = s.clk := rfl
@[simp] theorem State.setLane_pwr : (s.setLane x l).pwr = s.pwr := rfl
@[simp] theorem State.setLane_sec : (s.setLane x l).sec = s.sec := rfl
@[simp] theorem State.setLane_links : (s.setLane x l).links = s.links := rfl
@[simp] theorem State.setLane_gates : (s.setLane x l).gates = s.gates := rfl
@[simp] theorem State.setLane_stalls : (s.setLane x l).stalls = s.stalls := rfl
@[simp] theorem State.setLane_yards : (s.setLane x l).yards = s.yards := rfl
@[simp] theorem State.setLane_hay : (s.setLane x l).hay = s.hay := rfl
@[simp] theorem State.setLane_store : (s.setLane x l).store = s.store := rfl
@[simp] theorem State.setLane_remaps : (s.setLane x l).remaps = s.remaps := rfl
@[simp] theorem State.setLane_meshes : (s.setLane x l).meshes = s.meshes := rfl
@[simp] theorem State.setLane_heads : (s.setLane x l).heads = s.heads := rfl
@[simp] theorem State.setLane_codecAcc : (s.setLane x l).codecAcc = s.codecAcc := rfl
@[simp] theorem State.setLane_tw : (s.setLane x l).tw = s.tw := rfl
@[simp] theorem State.setLane_test : (s.setLane x l).test = s.test := rfl
@[simp] theorem State.setLane_stand : (s.setLane x l).stand = s.stand := rfl
@[simp] theorem State.setLane_dissolved : (s.setLane x l).dissolved = s.dissolved := rfl
@[simp] theorem State.setLane_hayBad : (s.setLane x l).hayBad = s.hayBad := rfl
@[simp] theorem State.setLane_ethTx : (s.setLane x l).ethTx = s.ethTx := rfl
end

section
variable (x : Nat) (l : LinkDyn)
@[simp] theorem State.setLink_pending : (s.setLink x l).pending = s.pending := rfl
@[simp] theorem State.setLink_out : (s.setLink x l).out = s.out := rfl
@[simp] theorem State.setLink_fresh : (s.setLink x l).fresh = s.fresh := rfl
@[simp] theorem State.setLink_part : (s.setLink x l).part = s.part := rfl
@[simp] theorem State.setLink_dstate : (s.setLink x l).dstate = s.dstate := rfl
@[simp] theorem State.setLink_cause : (s.setLink x l).cause = s.cause := rfl
@[simp] theorem State.setLink_regs : (s.setLink x l).regs = s.regs := rfl
@[simp] theorem State.setLink_latches : (s.setLink x l).latches = s.latches := rfl
@[simp] theorem State.setLink_groom : (s.setLink x l).groom = s.groom := rfl
@[simp] theorem State.setLink_tg : (s.setLink x l).tg = s.tg := rfl
@[simp] theorem State.setLink_ev : (s.setLink x l).ev = s.ev := rfl
@[simp] theorem State.setLink_host : (s.setLink x l).host = s.host := rfl
@[simp] theorem State.setLink_clk : (s.setLink x l).clk = s.clk := rfl
@[simp] theorem State.setLink_pwr : (s.setLink x l).pwr = s.pwr := rfl
@[simp] theorem State.setLink_sec : (s.setLink x l).sec = s.sec := rfl
@[simp] theorem State.setLink_lanes : (s.setLink x l).lanes = s.lanes := rfl
@[simp] theorem State.setLink_gates : (s.setLink x l).gates = s.gates := rfl
@[simp] theorem State.setLink_stalls : (s.setLink x l).stalls = s.stalls := rfl
@[simp] theorem State.setLink_yards : (s.setLink x l).yards = s.yards := rfl
@[simp] theorem State.setLink_hay : (s.setLink x l).hay = s.hay := rfl
@[simp] theorem State.setLink_store : (s.setLink x l).store = s.store := rfl
@[simp] theorem State.setLink_remaps : (s.setLink x l).remaps = s.remaps := rfl
@[simp] theorem State.setLink_meshes : (s.setLink x l).meshes = s.meshes := rfl
@[simp] theorem State.setLink_heads : (s.setLink x l).heads = s.heads := rfl
@[simp] theorem State.setLink_codecAcc : (s.setLink x l).codecAcc = s.codecAcc := rfl
@[simp] theorem State.setLink_tw : (s.setLink x l).tw = s.tw := rfl
@[simp] theorem State.setLink_test : (s.setLink x l).test = s.test := rfl
@[simp] theorem State.setLink_stand : (s.setLink x l).stand = s.stand := rfl
@[simp] theorem State.setLink_dissolved : (s.setLink x l).dissolved = s.dissolved := rfl
@[simp] theorem State.setLink_hayBad : (s.setLink x l).hayBad = s.hayBad := rfl
@[simp] theorem State.setLink_ethTx : (s.setLink x l).ethTx = s.ethTx := rfl
end

section
variable (g : Nat) (d : GateDyn)
@[simp] theorem State.setGate_pending : (s.setGate g d).pending = s.pending := rfl
@[simp] theorem State.setGate_out : (s.setGate g d).out = s.out := rfl
@[simp] theorem State.setGate_fresh : (s.setGate g d).fresh = s.fresh := rfl
@[simp] theorem State.setGate_part : (s.setGate g d).part = s.part := rfl
@[simp] theorem State.setGate_dstate : (s.setGate g d).dstate = s.dstate := rfl
@[simp] theorem State.setGate_cause : (s.setGate g d).cause = s.cause := rfl
@[simp] theorem State.setGate_regs : (s.setGate g d).regs = s.regs := rfl
@[simp] theorem State.setGate_latches : (s.setGate g d).latches = s.latches := rfl
@[simp] theorem State.setGate_groom : (s.setGate g d).groom = s.groom := rfl
@[simp] theorem State.setGate_tg : (s.setGate g d).tg = s.tg := rfl
@[simp] theorem State.setGate_ev : (s.setGate g d).ev = s.ev := rfl
@[simp] theorem State.setGate_host : (s.setGate g d).host = s.host := rfl
@[simp] theorem State.setGate_clk : (s.setGate g d).clk = s.clk := rfl
@[simp] theorem State.setGate_pwr : (s.setGate g d).pwr = s.pwr := rfl
@[simp] theorem State.setGate_sec : (s.setGate g d).sec = s.sec := rfl
@[simp] theorem State.setGate_lanes : (s.setGate g d).lanes = s.lanes := rfl
@[simp] theorem State.setGate_links : (s.setGate g d).links = s.links := rfl
@[simp] theorem State.setGate_stalls : (s.setGate g d).stalls = s.stalls := rfl
@[simp] theorem State.setGate_yards : (s.setGate g d).yards = s.yards := rfl
@[simp] theorem State.setGate_hay : (s.setGate g d).hay = s.hay := rfl
@[simp] theorem State.setGate_store : (s.setGate g d).store = s.store := rfl
@[simp] theorem State.setGate_remaps : (s.setGate g d).remaps = s.remaps := rfl
@[simp] theorem State.setGate_meshes : (s.setGate g d).meshes = s.meshes := rfl
@[simp] theorem State.setGate_heads : (s.setGate g d).heads = s.heads := rfl
@[simp] theorem State.setGate_codecAcc : (s.setGate g d).codecAcc = s.codecAcc := rfl
@[simp] theorem State.setGate_tw : (s.setGate g d).tw = s.tw := rfl
@[simp] theorem State.setGate_test : (s.setGate g d).test = s.test := rfl
@[simp] theorem State.setGate_stand : (s.setGate g d).stand = s.stand := rfl
@[simp] theorem State.setGate_dissolved : (s.setGate g d).dissolved = s.dissolved := rfl
@[simp] theorem State.setGate_hayBad : (s.setGate g d).hayBad = s.hayBad := rfl
@[simp] theorem State.setGate_ethTx : (s.setGate g d).ethTx = s.ethTx := rfl
end

section
variable (g c : Nat) (x : GCtx)
@[simp] theorem State.setCtx_pending : (s.setCtx g c x).pending = s.pending := rfl
@[simp] theorem State.setCtx_out : (s.setCtx g c x).out = s.out := rfl
@[simp] theorem State.setCtx_fresh : (s.setCtx g c x).fresh = s.fresh := rfl
@[simp] theorem State.setCtx_part : (s.setCtx g c x).part = s.part := rfl
@[simp] theorem State.setCtx_dstate : (s.setCtx g c x).dstate = s.dstate := rfl
@[simp] theorem State.setCtx_cause : (s.setCtx g c x).cause = s.cause := rfl
@[simp] theorem State.setCtx_regs : (s.setCtx g c x).regs = s.regs := rfl
@[simp] theorem State.setCtx_latches : (s.setCtx g c x).latches = s.latches := rfl
@[simp] theorem State.setCtx_groom : (s.setCtx g c x).groom = s.groom := rfl
@[simp] theorem State.setCtx_tg : (s.setCtx g c x).tg = s.tg := rfl
@[simp] theorem State.setCtx_ev : (s.setCtx g c x).ev = s.ev := rfl
@[simp] theorem State.setCtx_host : (s.setCtx g c x).host = s.host := rfl
@[simp] theorem State.setCtx_clk : (s.setCtx g c x).clk = s.clk := rfl
@[simp] theorem State.setCtx_pwr : (s.setCtx g c x).pwr = s.pwr := rfl
@[simp] theorem State.setCtx_sec : (s.setCtx g c x).sec = s.sec := rfl
@[simp] theorem State.setCtx_lanes : (s.setCtx g c x).lanes = s.lanes := rfl
@[simp] theorem State.setCtx_links : (s.setCtx g c x).links = s.links := rfl
@[simp] theorem State.setCtx_stalls : (s.setCtx g c x).stalls = s.stalls := rfl
@[simp] theorem State.setCtx_yards : (s.setCtx g c x).yards = s.yards := rfl
@[simp] theorem State.setCtx_hay : (s.setCtx g c x).hay = s.hay := rfl
@[simp] theorem State.setCtx_store : (s.setCtx g c x).store = s.store := rfl
@[simp] theorem State.setCtx_remaps : (s.setCtx g c x).remaps = s.remaps := rfl
@[simp] theorem State.setCtx_meshes : (s.setCtx g c x).meshes = s.meshes := rfl
@[simp] theorem State.setCtx_heads : (s.setCtx g c x).heads = s.heads := rfl
@[simp] theorem State.setCtx_codecAcc : (s.setCtx g c x).codecAcc = s.codecAcc := rfl
@[simp] theorem State.setCtx_tw : (s.setCtx g c x).tw = s.tw := rfl
@[simp] theorem State.setCtx_test : (s.setCtx g c x).test = s.test := rfl
@[simp] theorem State.setCtx_stand : (s.setCtx g c x).stand = s.stand := rfl
@[simp] theorem State.setCtx_dissolved : (s.setCtx g c x).dissolved = s.dissolved := rfl
@[simp] theorem State.setCtx_hayBad : (s.setCtx g c x).hayBad = s.hayBad := rfl
@[simp] theorem State.setCtx_ethTx : (s.setCtx g c x).ethTx = s.ethTx := rfl
end

section
variable (n : Nat) (x : Stall)
@[simp] theorem State.setStall_pending : (s.setStall n x).pending = s.pending := rfl
@[simp] theorem State.setStall_out : (s.setStall n x).out = s.out := rfl
@[simp] theorem State.setStall_fresh : (s.setStall n x).fresh = s.fresh := rfl
@[simp] theorem State.setStall_part : (s.setStall n x).part = s.part := rfl
@[simp] theorem State.setStall_dstate : (s.setStall n x).dstate = s.dstate := rfl
@[simp] theorem State.setStall_cause : (s.setStall n x).cause = s.cause := rfl
@[simp] theorem State.setStall_regs : (s.setStall n x).regs = s.regs := rfl
@[simp] theorem State.setStall_latches : (s.setStall n x).latches = s.latches := rfl
@[simp] theorem State.setStall_groom : (s.setStall n x).groom = s.groom := rfl
@[simp] theorem State.setStall_tg : (s.setStall n x).tg = s.tg := rfl
@[simp] theorem State.setStall_ev : (s.setStall n x).ev = s.ev := rfl
@[simp] theorem State.setStall_host : (s.setStall n x).host = s.host := rfl
@[simp] theorem State.setStall_clk : (s.setStall n x).clk = s.clk := rfl
@[simp] theorem State.setStall_pwr : (s.setStall n x).pwr = s.pwr := rfl
@[simp] theorem State.setStall_sec : (s.setStall n x).sec = s.sec := rfl
@[simp] theorem State.setStall_lanes : (s.setStall n x).lanes = s.lanes := rfl
@[simp] theorem State.setStall_links : (s.setStall n x).links = s.links := rfl
@[simp] theorem State.setStall_gates : (s.setStall n x).gates = s.gates := rfl
@[simp] theorem State.setStall_yards : (s.setStall n x).yards = s.yards := rfl
@[simp] theorem State.setStall_hay : (s.setStall n x).hay = s.hay := rfl
@[simp] theorem State.setStall_store : (s.setStall n x).store = s.store := rfl
@[simp] theorem State.setStall_remaps : (s.setStall n x).remaps = s.remaps := rfl
@[simp] theorem State.setStall_meshes : (s.setStall n x).meshes = s.meshes := rfl
@[simp] theorem State.setStall_heads : (s.setStall n x).heads = s.heads := rfl
@[simp] theorem State.setStall_codecAcc : (s.setStall n x).codecAcc = s.codecAcc := rfl
@[simp] theorem State.setStall_tw : (s.setStall n x).tw = s.tw := rfl
@[simp] theorem State.setStall_test : (s.setStall n x).test = s.test := rfl
@[simp] theorem State.setStall_stand : (s.setStall n x).stand = s.stand := rfl
@[simp] theorem State.setStall_dissolved : (s.setStall n x).dissolved = s.dissolved := rfl
@[simp] theorem State.setStall_hayBad : (s.setStall n x).hayBad = s.hayBad := rfl
@[simp] theorem State.setStall_ethTx : (s.setStall n x).ethTx = s.ethTx := rfl
end

section
variable (c : Nat) (x : Chan)
@[simp] theorem State.setChan_pending : (s.setChan c x).pending = s.pending := rfl
@[simp] theorem State.setChan_out : (s.setChan c x).out = s.out := rfl
@[simp] theorem State.setChan_fresh : (s.setChan c x).fresh = s.fresh := rfl
@[simp] theorem State.setChan_part : (s.setChan c x).part = s.part := rfl
@[simp] theorem State.setChan_dstate : (s.setChan c x).dstate = s.dstate := rfl
@[simp] theorem State.setChan_cause : (s.setChan c x).cause = s.cause := rfl
@[simp] theorem State.setChan_regs : (s.setChan c x).regs = s.regs := rfl
@[simp] theorem State.setChan_latches : (s.setChan c x).latches = s.latches := rfl
@[simp] theorem State.setChan_groom : (s.setChan c x).groom = s.groom := rfl
@[simp] theorem State.setChan_tg : (s.setChan c x).tg = s.tg := rfl
@[simp] theorem State.setChan_ev : (s.setChan c x).ev = s.ev := rfl
@[simp] theorem State.setChan_clk : (s.setChan c x).clk = s.clk := rfl
@[simp] theorem State.setChan_pwr : (s.setChan c x).pwr = s.pwr := rfl
@[simp] theorem State.setChan_sec : (s.setChan c x).sec = s.sec := rfl
@[simp] theorem State.setChan_lanes : (s.setChan c x).lanes = s.lanes := rfl
@[simp] theorem State.setChan_links : (s.setChan c x).links = s.links := rfl
@[simp] theorem State.setChan_gates : (s.setChan c x).gates = s.gates := rfl
@[simp] theorem State.setChan_stalls : (s.setChan c x).stalls = s.stalls := rfl
@[simp] theorem State.setChan_yards : (s.setChan c x).yards = s.yards := rfl
@[simp] theorem State.setChan_hay : (s.setChan c x).hay = s.hay := rfl
@[simp] theorem State.setChan_store : (s.setChan c x).store = s.store := rfl
@[simp] theorem State.setChan_remaps : (s.setChan c x).remaps = s.remaps := rfl
@[simp] theorem State.setChan_meshes : (s.setChan c x).meshes = s.meshes := rfl
@[simp] theorem State.setChan_heads : (s.setChan c x).heads = s.heads := rfl
@[simp] theorem State.setChan_codecAcc : (s.setChan c x).codecAcc = s.codecAcc := rfl
@[simp] theorem State.setChan_tw : (s.setChan c x).tw = s.tw := rfl
@[simp] theorem State.setChan_test : (s.setChan c x).test = s.test := rfl
@[simp] theorem State.setChan_stand : (s.setChan c x).stand = s.stand := rfl
@[simp] theorem State.setChan_dissolved : (s.setChan c x).dissolved = s.dissolved := rfl
@[simp] theorem State.setChan_hayBad : (s.setChan c x).hayBad = s.hayBad := rfl
@[simp] theorem State.setChan_ethTx : (s.setChan c x).ethTx = s.ethTx := rfl
end

section
variable (n : Nat) (t : Tb)
@[simp] theorem State.setTb_pending : (s.setTb n t).pending = s.pending := rfl
@[simp] theorem State.setTb_out : (s.setTb n t).out = s.out := rfl
@[simp] theorem State.setTb_fresh : (s.setTb n t).fresh = s.fresh := rfl
@[simp] theorem State.setTb_part : (s.setTb n t).part = s.part := rfl
@[simp] theorem State.setTb_dstate : (s.setTb n t).dstate = s.dstate := rfl
@[simp] theorem State.setTb_cause : (s.setTb n t).cause = s.cause := rfl
@[simp] theorem State.setTb_regs : (s.setTb n t).regs = s.regs := rfl
@[simp] theorem State.setTb_latches : (s.setTb n t).latches = s.latches := rfl
@[simp] theorem State.setTb_groom : (s.setTb n t).groom = s.groom := rfl
@[simp] theorem State.setTb_tg : (s.setTb n t).tg = s.tg := rfl
@[simp] theorem State.setTb_ev : (s.setTb n t).ev = s.ev := rfl
@[simp] theorem State.setTb_host : (s.setTb n t).host = s.host := rfl
@[simp] theorem State.setTb_pwr : (s.setTb n t).pwr = s.pwr := rfl
@[simp] theorem State.setTb_sec : (s.setTb n t).sec = s.sec := rfl
@[simp] theorem State.setTb_lanes : (s.setTb n t).lanes = s.lanes := rfl
@[simp] theorem State.setTb_links : (s.setTb n t).links = s.links := rfl
@[simp] theorem State.setTb_gates : (s.setTb n t).gates = s.gates := rfl
@[simp] theorem State.setTb_stalls : (s.setTb n t).stalls = s.stalls := rfl
@[simp] theorem State.setTb_yards : (s.setTb n t).yards = s.yards := rfl
@[simp] theorem State.setTb_hay : (s.setTb n t).hay = s.hay := rfl
@[simp] theorem State.setTb_store : (s.setTb n t).store = s.store := rfl
@[simp] theorem State.setTb_remaps : (s.setTb n t).remaps = s.remaps := rfl
@[simp] theorem State.setTb_meshes : (s.setTb n t).meshes = s.meshes := rfl
@[simp] theorem State.setTb_heads : (s.setTb n t).heads = s.heads := rfl
@[simp] theorem State.setTb_codecAcc : (s.setTb n t).codecAcc = s.codecAcc := rfl
@[simp] theorem State.setTb_tw : (s.setTb n t).tw = s.tw := rfl
@[simp] theorem State.setTb_test : (s.setTb n t).test = s.test := rfl
@[simp] theorem State.setTb_stand : (s.setTb n t).stand = s.stand := rfl
@[simp] theorem State.setTb_dissolved : (s.setTb n t).dissolved = s.dissolved := rfl
@[simp] theorem State.setTb_hayBad : (s.setTb n t).hayBad = s.hayBad := rfl
@[simp] theorem State.setTb_ethTx : (s.setTb n t).ethTx = s.ethTx := rfl
end

section
variable (k : Nat) (p : Port)
@[simp] theorem State.setPort_pending : (s.setPort k p).pending = s.pending := rfl
@[simp] theorem State.setPort_out : (s.setPort k p).out = s.out := rfl
@[simp] theorem State.setPort_fresh : (s.setPort k p).fresh = s.fresh := rfl
@[simp] theorem State.setPort_part : (s.setPort k p).part = s.part := rfl
@[simp] theorem State.setPort_dstate : (s.setPort k p).dstate = s.dstate := rfl
@[simp] theorem State.setPort_cause : (s.setPort k p).cause = s.cause := rfl
@[simp] theorem State.setPort_regs : (s.setPort k p).regs = s.regs := rfl
@[simp] theorem State.setPort_latches : (s.setPort k p).latches = s.latches := rfl
@[simp] theorem State.setPort_tg : (s.setPort k p).tg = s.tg := rfl
@[simp] theorem State.setPort_ev : (s.setPort k p).ev = s.ev := rfl
@[simp] theorem State.setPort_host : (s.setPort k p).host = s.host := rfl
@[simp] theorem State.setPort_clk : (s.setPort k p).clk = s.clk := rfl
@[simp] theorem State.setPort_pwr : (s.setPort k p).pwr = s.pwr := rfl
@[simp] theorem State.setPort_sec : (s.setPort k p).sec = s.sec := rfl
@[simp] theorem State.setPort_lanes : (s.setPort k p).lanes = s.lanes := rfl
@[simp] theorem State.setPort_links : (s.setPort k p).links = s.links := rfl
@[simp] theorem State.setPort_gates : (s.setPort k p).gates = s.gates := rfl
@[simp] theorem State.setPort_stalls : (s.setPort k p).stalls = s.stalls := rfl
@[simp] theorem State.setPort_yards : (s.setPort k p).yards = s.yards := rfl
@[simp] theorem State.setPort_hay : (s.setPort k p).hay = s.hay := rfl
@[simp] theorem State.setPort_store : (s.setPort k p).store = s.store := rfl
@[simp] theorem State.setPort_remaps : (s.setPort k p).remaps = s.remaps := rfl
@[simp] theorem State.setPort_meshes : (s.setPort k p).meshes = s.meshes := rfl
@[simp] theorem State.setPort_heads : (s.setPort k p).heads = s.heads := rfl
@[simp] theorem State.setPort_codecAcc : (s.setPort k p).codecAcc = s.codecAcc := rfl
@[simp] theorem State.setPort_tw : (s.setPort k p).tw = s.tw := rfl
@[simp] theorem State.setPort_test : (s.setPort k p).test = s.test := rfl
@[simp] theorem State.setPort_stand : (s.setPort k p).stand = s.stand := rfl
@[simp] theorem State.setPort_dissolved : (s.setPort k p).dissolved = s.dissolved := rfl
@[simp] theorem State.setPort_hayBad : (s.setPort k p).hayBad = s.hayBad := rfl
@[simp] theorem State.setPort_ethTx : (s.setPort k p).ethTx = s.ethTx := rfl
end

section
variable (n : Nat) (x : Paddock)
@[simp] theorem State.setPad_pending : (s.setPad n x).pending = s.pending := rfl
@[simp] theorem State.setPad_out : (s.setPad n x).out = s.out := rfl
@[simp] theorem State.setPad_fresh : (s.setPad n x).fresh = s.fresh := rfl
@[simp] theorem State.setPad_part : (s.setPad n x).part = s.part := rfl
@[simp] theorem State.setPad_dstate : (s.setPad n x).dstate = s.dstate := rfl
@[simp] theorem State.setPad_cause : (s.setPad n x).cause = s.cause := rfl
@[simp] theorem State.setPad_regs : (s.setPad n x).regs = s.regs := rfl
@[simp] theorem State.setPad_latches : (s.setPad n x).latches = s.latches := rfl
@[simp] theorem State.setPad_groom : (s.setPad n x).groom = s.groom := rfl
@[simp] theorem State.setPad_tg : (s.setPad n x).tg = s.tg := rfl
@[simp] theorem State.setPad_ev : (s.setPad n x).ev = s.ev := rfl
@[simp] theorem State.setPad_host : (s.setPad n x).host = s.host := rfl
@[simp] theorem State.setPad_clk : (s.setPad n x).clk = s.clk := rfl
@[simp] theorem State.setPad_pwr : (s.setPad n x).pwr = s.pwr := rfl
@[simp] theorem State.setPad_sec : (s.setPad n x).sec = s.sec := rfl
@[simp] theorem State.setPad_lanes : (s.setPad n x).lanes = s.lanes := rfl
@[simp] theorem State.setPad_links : (s.setPad n x).links = s.links := rfl
@[simp] theorem State.setPad_gates : (s.setPad n x).gates = s.gates := rfl
@[simp] theorem State.setPad_stalls : (s.setPad n x).stalls = s.stalls := rfl
@[simp] theorem State.setPad_yards : (s.setPad n x).yards = s.yards := rfl
@[simp] theorem State.setPad_hay : (s.setPad n x).hay = s.hay := rfl
@[simp] theorem State.setPad_remaps : (s.setPad n x).remaps = s.remaps := rfl
@[simp] theorem State.setPad_meshes : (s.setPad n x).meshes = s.meshes := rfl
@[simp] theorem State.setPad_heads : (s.setPad n x).heads = s.heads := rfl
@[simp] theorem State.setPad_codecAcc : (s.setPad n x).codecAcc = s.codecAcc := rfl
@[simp] theorem State.setPad_tw : (s.setPad n x).tw = s.tw := rfl
@[simp] theorem State.setPad_test : (s.setPad n x).test = s.test := rfl
@[simp] theorem State.setPad_stand : (s.setPad n x).stand = s.stand := rfl
@[simp] theorem State.setPad_dissolved : (s.setPad n x).dissolved = s.dissolved := rfl
@[simp] theorem State.setPad_hayBad : (s.setPad n x).hayBad = s.hayBad := rfl
@[simp] theorem State.setPad_ethTx : (s.setPad n x).ethTx = s.ethTx := rfl
end

section
variable (m : Mbox)
@[simp] theorem State.setMbox_pending : (s.setMbox m).pending = s.pending := rfl
@[simp] theorem State.setMbox_out : (s.setMbox m).out = s.out := rfl
@[simp] theorem State.setMbox_fresh : (s.setMbox m).fresh = s.fresh := rfl
@[simp] theorem State.setMbox_part : (s.setMbox m).part = s.part := rfl
@[simp] theorem State.setMbox_dstate : (s.setMbox m).dstate = s.dstate := rfl
@[simp] theorem State.setMbox_cause : (s.setMbox m).cause = s.cause := rfl
@[simp] theorem State.setMbox_regs : (s.setMbox m).regs = s.regs := rfl
@[simp] theorem State.setMbox_latches : (s.setMbox m).latches = s.latches := rfl
@[simp] theorem State.setMbox_tg : (s.setMbox m).tg = s.tg := rfl
@[simp] theorem State.setMbox_ev : (s.setMbox m).ev = s.ev := rfl
@[simp] theorem State.setMbox_host : (s.setMbox m).host = s.host := rfl
@[simp] theorem State.setMbox_clk : (s.setMbox m).clk = s.clk := rfl
@[simp] theorem State.setMbox_pwr : (s.setMbox m).pwr = s.pwr := rfl
@[simp] theorem State.setMbox_sec : (s.setMbox m).sec = s.sec := rfl
@[simp] theorem State.setMbox_lanes : (s.setMbox m).lanes = s.lanes := rfl
@[simp] theorem State.setMbox_links : (s.setMbox m).links = s.links := rfl
@[simp] theorem State.setMbox_gates : (s.setMbox m).gates = s.gates := rfl
@[simp] theorem State.setMbox_stalls : (s.setMbox m).stalls = s.stalls := rfl
@[simp] theorem State.setMbox_yards : (s.setMbox m).yards = s.yards := rfl
@[simp] theorem State.setMbox_hay : (s.setMbox m).hay = s.hay := rfl
@[simp] theorem State.setMbox_store : (s.setMbox m).store = s.store := rfl
@[simp] theorem State.setMbox_remaps : (s.setMbox m).remaps = s.remaps := rfl
@[simp] theorem State.setMbox_meshes : (s.setMbox m).meshes = s.meshes := rfl
@[simp] theorem State.setMbox_heads : (s.setMbox m).heads = s.heads := rfl
@[simp] theorem State.setMbox_codecAcc : (s.setMbox m).codecAcc = s.codecAcc := rfl
@[simp] theorem State.setMbox_tw : (s.setMbox m).tw = s.tw := rfl
@[simp] theorem State.setMbox_test : (s.setMbox m).test = s.test := rfl
@[simp] theorem State.setMbox_stand : (s.setMbox m).stand = s.stand := rfl
@[simp] theorem State.setMbox_dissolved : (s.setMbox m).dissolved = s.dissolved := rfl
@[simp] theorem State.setMbox_hayBad : (s.setMbox m).hayBad = s.hayBad := rfl
@[simp] theorem State.setMbox_ethTx : (s.setMbox m).ethTx = s.ethTx := rfl
end

section
variable (c : Nat) (x : TwCtl)
@[simp] theorem State.setTwc_pending : (s.setTwc c x).pending = s.pending := rfl
@[simp] theorem State.setTwc_out : (s.setTwc c x).out = s.out := rfl
@[simp] theorem State.setTwc_fresh : (s.setTwc c x).fresh = s.fresh := rfl
@[simp] theorem State.setTwc_part : (s.setTwc c x).part = s.part := rfl
@[simp] theorem State.setTwc_dstate : (s.setTwc c x).dstate = s.dstate := rfl
@[simp] theorem State.setTwc_cause : (s.setTwc c x).cause = s.cause := rfl
@[simp] theorem State.setTwc_regs : (s.setTwc c x).regs = s.regs := rfl
@[simp] theorem State.setTwc_latches : (s.setTwc c x).latches = s.latches := rfl
@[simp] theorem State.setTwc_groom : (s.setTwc c x).groom = s.groom := rfl
@[simp] theorem State.setTwc_tg : (s.setTwc c x).tg = s.tg := rfl
@[simp] theorem State.setTwc_ev : (s.setTwc c x).ev = s.ev := rfl
@[simp] theorem State.setTwc_host : (s.setTwc c x).host = s.host := rfl
@[simp] theorem State.setTwc_clk : (s.setTwc c x).clk = s.clk := rfl
@[simp] theorem State.setTwc_pwr : (s.setTwc c x).pwr = s.pwr := rfl
@[simp] theorem State.setTwc_sec : (s.setTwc c x).sec = s.sec := rfl
@[simp] theorem State.setTwc_lanes : (s.setTwc c x).lanes = s.lanes := rfl
@[simp] theorem State.setTwc_links : (s.setTwc c x).links = s.links := rfl
@[simp] theorem State.setTwc_gates : (s.setTwc c x).gates = s.gates := rfl
@[simp] theorem State.setTwc_stalls : (s.setTwc c x).stalls = s.stalls := rfl
@[simp] theorem State.setTwc_yards : (s.setTwc c x).yards = s.yards := rfl
@[simp] theorem State.setTwc_hay : (s.setTwc c x).hay = s.hay := rfl
@[simp] theorem State.setTwc_store : (s.setTwc c x).store = s.store := rfl
@[simp] theorem State.setTwc_remaps : (s.setTwc c x).remaps = s.remaps := rfl
@[simp] theorem State.setTwc_meshes : (s.setTwc c x).meshes = s.meshes := rfl
@[simp] theorem State.setTwc_heads : (s.setTwc c x).heads = s.heads := rfl
@[simp] theorem State.setTwc_codecAcc : (s.setTwc c x).codecAcc = s.codecAcc := rfl
@[simp] theorem State.setTwc_test : (s.setTwc c x).test = s.test := rfl
@[simp] theorem State.setTwc_stand : (s.setTwc c x).stand = s.stand := rfl
@[simp] theorem State.setTwc_dissolved : (s.setTwc c x).dissolved = s.dissolved := rfl
@[simp] theorem State.setTwc_hayBad : (s.setTwc c x).hayBad = s.hayBad := rfl
@[simp] theorem State.setTwc_ethTx : (s.setTwc c x).ethTx = s.ethTx := rfl
end

section
variable (n : Nat) (h : Head)
@[simp] theorem State.setHead_pending : (s.setHead n h).pending = s.pending := rfl
@[simp] theorem State.setHead_out : (s.setHead n h).out = s.out := rfl
@[simp] theorem State.setHead_fresh : (s.setHead n h).fresh = s.fresh := rfl
@[simp] theorem State.setHead_part : (s.setHead n h).part = s.part := rfl
@[simp] theorem State.setHead_dstate : (s.setHead n h).dstate = s.dstate := rfl
@[simp] theorem State.setHead_cause : (s.setHead n h).cause = s.cause := rfl
@[simp] theorem State.setHead_regs : (s.setHead n h).regs = s.regs := rfl
@[simp] theorem State.setHead_latches : (s.setHead n h).latches = s.latches := rfl
@[simp] theorem State.setHead_groom : (s.setHead n h).groom = s.groom := rfl
@[simp] theorem State.setHead_tg : (s.setHead n h).tg = s.tg := rfl
@[simp] theorem State.setHead_ev : (s.setHead n h).ev = s.ev := rfl
@[simp] theorem State.setHead_host : (s.setHead n h).host = s.host := rfl
@[simp] theorem State.setHead_clk : (s.setHead n h).clk = s.clk := rfl
@[simp] theorem State.setHead_pwr : (s.setHead n h).pwr = s.pwr := rfl
@[simp] theorem State.setHead_sec : (s.setHead n h).sec = s.sec := rfl
@[simp] theorem State.setHead_lanes : (s.setHead n h).lanes = s.lanes := rfl
@[simp] theorem State.setHead_links : (s.setHead n h).links = s.links := rfl
@[simp] theorem State.setHead_gates : (s.setHead n h).gates = s.gates := rfl
@[simp] theorem State.setHead_stalls : (s.setHead n h).stalls = s.stalls := rfl
@[simp] theorem State.setHead_yards : (s.setHead n h).yards = s.yards := rfl
@[simp] theorem State.setHead_hay : (s.setHead n h).hay = s.hay := rfl
@[simp] theorem State.setHead_store : (s.setHead n h).store = s.store := rfl
@[simp] theorem State.setHead_remaps : (s.setHead n h).remaps = s.remaps := rfl
@[simp] theorem State.setHead_meshes : (s.setHead n h).meshes = s.meshes := rfl
@[simp] theorem State.setHead_codecAcc : (s.setHead n h).codecAcc = s.codecAcc := rfl
@[simp] theorem State.setHead_tw : (s.setHead n h).tw = s.tw := rfl
@[simp] theorem State.setHead_test : (s.setHead n h).test = s.test := rfl
@[simp] theorem State.setHead_stand : (s.setHead n h).stand = s.stand := rfl
@[simp] theorem State.setHead_dissolved : (s.setHead n h).dissolved = s.dissolved := rfl
@[simp] theorem State.setHead_hayBad : (s.setHead n h).hayBad = s.hayBad := rfl
@[simp] theorem State.setHead_ethTx : (s.setHead n h).ethTx = s.ethTx := rfl
end

section
variable (n r : Nat) (d : RegionDyn)
@[simp] theorem State.setRegion_pending : (s.setRegion n r d).pending = s.pending := rfl
@[simp] theorem State.setRegion_out : (s.setRegion n r d).out = s.out := rfl
@[simp] theorem State.setRegion_fresh : (s.setRegion n r d).fresh = s.fresh := rfl
@[simp] theorem State.setRegion_part : (s.setRegion n r d).part = s.part := rfl
@[simp] theorem State.setRegion_dstate : (s.setRegion n r d).dstate = s.dstate := rfl
@[simp] theorem State.setRegion_cause : (s.setRegion n r d).cause = s.cause := rfl
@[simp] theorem State.setRegion_regs : (s.setRegion n r d).regs = s.regs := rfl
@[simp] theorem State.setRegion_latches : (s.setRegion n r d).latches = s.latches := rfl
@[simp] theorem State.setRegion_groom : (s.setRegion n r d).groom = s.groom := rfl
@[simp] theorem State.setRegion_tg : (s.setRegion n r d).tg = s.tg := rfl
@[simp] theorem State.setRegion_ev : (s.setRegion n r d).ev = s.ev := rfl
@[simp] theorem State.setRegion_host : (s.setRegion n r d).host = s.host := rfl
@[simp] theorem State.setRegion_clk : (s.setRegion n r d).clk = s.clk := rfl
@[simp] theorem State.setRegion_pwr : (s.setRegion n r d).pwr = s.pwr := rfl
@[simp] theorem State.setRegion_sec : (s.setRegion n r d).sec = s.sec := rfl
@[simp] theorem State.setRegion_lanes : (s.setRegion n r d).lanes = s.lanes := rfl
@[simp] theorem State.setRegion_links : (s.setRegion n r d).links = s.links := rfl
@[simp] theorem State.setRegion_gates : (s.setRegion n r d).gates = s.gates := rfl
@[simp] theorem State.setRegion_stalls : (s.setRegion n r d).stalls = s.stalls := rfl
@[simp] theorem State.setRegion_yards : (s.setRegion n r d).yards = s.yards := rfl
@[simp] theorem State.setRegion_hay : (s.setRegion n r d).hay = s.hay := rfl
@[simp] theorem State.setRegion_store : (s.setRegion n r d).store = s.store := rfl
@[simp] theorem State.setRegion_remaps : (s.setRegion n r d).remaps = s.remaps := rfl
@[simp] theorem State.setRegion_meshes : (s.setRegion n r d).meshes = s.meshes := rfl
@[simp] theorem State.setRegion_codecAcc : (s.setRegion n r d).codecAcc = s.codecAcc := rfl
@[simp] theorem State.setRegion_tw : (s.setRegion n r d).tw = s.tw := rfl
@[simp] theorem State.setRegion_test : (s.setRegion n r d).test = s.test := rfl
@[simp] theorem State.setRegion_stand : (s.setRegion n r d).stand = s.stand := rfl
@[simp] theorem State.setRegion_dissolved : (s.setRegion n r d).dissolved = s.dissolved := rfl
@[simp] theorem State.setRegion_hayBad : (s.setRegion n r d).hayBad = s.hayBad := rfl
@[simp] theorem State.setRegion_ethTx : (s.setRegion n r d).ethTx = s.ethTx := rfl
end

section
variable (n : Nat) (r : Remap)
@[simp] theorem State.setRemap_pending : (s.setRemap n r).pending = s.pending := rfl
@[simp] theorem State.setRemap_out : (s.setRemap n r).out = s.out := rfl
@[simp] theorem State.setRemap_fresh : (s.setRemap n r).fresh = s.fresh := rfl
@[simp] theorem State.setRemap_part : (s.setRemap n r).part = s.part := rfl
@[simp] theorem State.setRemap_dstate : (s.setRemap n r).dstate = s.dstate := rfl
@[simp] theorem State.setRemap_cause : (s.setRemap n r).cause = s.cause := rfl
@[simp] theorem State.setRemap_regs : (s.setRemap n r).regs = s.regs := rfl
@[simp] theorem State.setRemap_latches : (s.setRemap n r).latches = s.latches := rfl
@[simp] theorem State.setRemap_groom : (s.setRemap n r).groom = s.groom := rfl
@[simp] theorem State.setRemap_tg : (s.setRemap n r).tg = s.tg := rfl
@[simp] theorem State.setRemap_ev : (s.setRemap n r).ev = s.ev := rfl
@[simp] theorem State.setRemap_host : (s.setRemap n r).host = s.host := rfl
@[simp] theorem State.setRemap_clk : (s.setRemap n r).clk = s.clk := rfl
@[simp] theorem State.setRemap_pwr : (s.setRemap n r).pwr = s.pwr := rfl
@[simp] theorem State.setRemap_sec : (s.setRemap n r).sec = s.sec := rfl
@[simp] theorem State.setRemap_lanes : (s.setRemap n r).lanes = s.lanes := rfl
@[simp] theorem State.setRemap_links : (s.setRemap n r).links = s.links := rfl
@[simp] theorem State.setRemap_gates : (s.setRemap n r).gates = s.gates := rfl
@[simp] theorem State.setRemap_stalls : (s.setRemap n r).stalls = s.stalls := rfl
@[simp] theorem State.setRemap_yards : (s.setRemap n r).yards = s.yards := rfl
@[simp] theorem State.setRemap_hay : (s.setRemap n r).hay = s.hay := rfl
@[simp] theorem State.setRemap_store : (s.setRemap n r).store = s.store := rfl
@[simp] theorem State.setRemap_meshes : (s.setRemap n r).meshes = s.meshes := rfl
@[simp] theorem State.setRemap_heads : (s.setRemap n r).heads = s.heads := rfl
@[simp] theorem State.setRemap_codecAcc : (s.setRemap n r).codecAcc = s.codecAcc := rfl
@[simp] theorem State.setRemap_tw : (s.setRemap n r).tw = s.tw := rfl
@[simp] theorem State.setRemap_test : (s.setRemap n r).test = s.test := rfl
@[simp] theorem State.setRemap_stand : (s.setRemap n r).stand = s.stand := rfl
@[simp] theorem State.setRemap_dissolved : (s.setRemap n r).dissolved = s.dissolved := rfl
@[simp] theorem State.setRemap_hayBad : (s.setRemap n r).hayBad = s.hayBad := rfl
@[simp] theorem State.setRemap_ethTx : (s.setRemap n r).ethTx = s.ethTx := rfl
end

section
variable (m : Nat) (x : Mesh)
@[simp] theorem State.setMesh_pending : (s.setMesh m x).pending = s.pending := rfl
@[simp] theorem State.setMesh_out : (s.setMesh m x).out = s.out := rfl
@[simp] theorem State.setMesh_fresh : (s.setMesh m x).fresh = s.fresh := rfl
@[simp] theorem State.setMesh_part : (s.setMesh m x).part = s.part := rfl
@[simp] theorem State.setMesh_dstate : (s.setMesh m x).dstate = s.dstate := rfl
@[simp] theorem State.setMesh_cause : (s.setMesh m x).cause = s.cause := rfl
@[simp] theorem State.setMesh_regs : (s.setMesh m x).regs = s.regs := rfl
@[simp] theorem State.setMesh_latches : (s.setMesh m x).latches = s.latches := rfl
@[simp] theorem State.setMesh_groom : (s.setMesh m x).groom = s.groom := rfl
@[simp] theorem State.setMesh_tg : (s.setMesh m x).tg = s.tg := rfl
@[simp] theorem State.setMesh_ev : (s.setMesh m x).ev = s.ev := rfl
@[simp] theorem State.setMesh_host : (s.setMesh m x).host = s.host := rfl
@[simp] theorem State.setMesh_clk : (s.setMesh m x).clk = s.clk := rfl
@[simp] theorem State.setMesh_pwr : (s.setMesh m x).pwr = s.pwr := rfl
@[simp] theorem State.setMesh_sec : (s.setMesh m x).sec = s.sec := rfl
@[simp] theorem State.setMesh_lanes : (s.setMesh m x).lanes = s.lanes := rfl
@[simp] theorem State.setMesh_links : (s.setMesh m x).links = s.links := rfl
@[simp] theorem State.setMesh_gates : (s.setMesh m x).gates = s.gates := rfl
@[simp] theorem State.setMesh_stalls : (s.setMesh m x).stalls = s.stalls := rfl
@[simp] theorem State.setMesh_yards : (s.setMesh m x).yards = s.yards := rfl
@[simp] theorem State.setMesh_hay : (s.setMesh m x).hay = s.hay := rfl
@[simp] theorem State.setMesh_store : (s.setMesh m x).store = s.store := rfl
@[simp] theorem State.setMesh_remaps : (s.setMesh m x).remaps = s.remaps := rfl
@[simp] theorem State.setMesh_heads : (s.setMesh m x).heads = s.heads := rfl
@[simp] theorem State.setMesh_codecAcc : (s.setMesh m x).codecAcc = s.codecAcc := rfl
@[simp] theorem State.setMesh_tw : (s.setMesh m x).tw = s.tw := rfl
@[simp] theorem State.setMesh_test : (s.setMesh m x).test = s.test := rfl
@[simp] theorem State.setMesh_stand : (s.setMesh m x).stand = s.stand := rfl
@[simp] theorem State.setMesh_dissolved : (s.setMesh m x).dissolved = s.dissolved := rfl
@[simp] theorem State.setMesh_hayBad : (s.setMesh m x).hayBad = s.hayBad := rfl
@[simp] theorem State.setMesh_ethTx : (s.setMesh m x).ethTx = s.ethTx := rfl
end

section
variable (a : Nat) (bs : List Byte)
@[simp] theorem State.hayWrite_pending : (s.hayWrite a bs).pending = s.pending := rfl
@[simp] theorem State.hayWrite_out : (s.hayWrite a bs).out = s.out := rfl
@[simp] theorem State.hayWrite_fresh : (s.hayWrite a bs).fresh = s.fresh := rfl
@[simp] theorem State.hayWrite_part : (s.hayWrite a bs).part = s.part := rfl
@[simp] theorem State.hayWrite_dstate : (s.hayWrite a bs).dstate = s.dstate := rfl
@[simp] theorem State.hayWrite_cause : (s.hayWrite a bs).cause = s.cause := rfl
@[simp] theorem State.hayWrite_regs : (s.hayWrite a bs).regs = s.regs := rfl
@[simp] theorem State.hayWrite_latches : (s.hayWrite a bs).latches = s.latches := rfl
@[simp] theorem State.hayWrite_groom : (s.hayWrite a bs).groom = s.groom := rfl
@[simp] theorem State.hayWrite_tg : (s.hayWrite a bs).tg = s.tg := rfl
@[simp] theorem State.hayWrite_ev : (s.hayWrite a bs).ev = s.ev := rfl
@[simp] theorem State.hayWrite_host : (s.hayWrite a bs).host = s.host := rfl
@[simp] theorem State.hayWrite_clk : (s.hayWrite a bs).clk = s.clk := rfl
@[simp] theorem State.hayWrite_pwr : (s.hayWrite a bs).pwr = s.pwr := rfl
@[simp] theorem State.hayWrite_sec : (s.hayWrite a bs).sec = s.sec := rfl
@[simp] theorem State.hayWrite_lanes : (s.hayWrite a bs).lanes = s.lanes := rfl
@[simp] theorem State.hayWrite_links : (s.hayWrite a bs).links = s.links := rfl
@[simp] theorem State.hayWrite_gates : (s.hayWrite a bs).gates = s.gates := rfl
@[simp] theorem State.hayWrite_stalls : (s.hayWrite a bs).stalls = s.stalls := rfl
@[simp] theorem State.hayWrite_yards : (s.hayWrite a bs).yards = s.yards := rfl
@[simp] theorem State.hayWrite_store : (s.hayWrite a bs).store = s.store := rfl
@[simp] theorem State.hayWrite_remaps : (s.hayWrite a bs).remaps = s.remaps := rfl
@[simp] theorem State.hayWrite_meshes : (s.hayWrite a bs).meshes = s.meshes := rfl
@[simp] theorem State.hayWrite_heads : (s.hayWrite a bs).heads = s.heads := rfl
@[simp] theorem State.hayWrite_codecAcc : (s.hayWrite a bs).codecAcc = s.codecAcc := rfl
@[simp] theorem State.hayWrite_tw : (s.hayWrite a bs).tw = s.tw := rfl
@[simp] theorem State.hayWrite_test : (s.hayWrite a bs).test = s.test := rfl
@[simp] theorem State.hayWrite_stand : (s.hayWrite a bs).stand = s.stand := rfl
@[simp] theorem State.hayWrite_dissolved : (s.hayWrite a bs).dissolved = s.dissolved := rfl
@[simp] theorem State.hayWrite_ethTx : (s.hayWrite a bs).ethTx = s.ethTx := rfl
end

section
variable (a : Nat) (bs : List Byte)
@[simp] theorem State.fsWrite_pending : (s.fsWrite a bs).pending = s.pending := rfl
@[simp] theorem State.fsWrite_out : (s.fsWrite a bs).out = s.out := rfl
@[simp] theorem State.fsWrite_fresh : (s.fsWrite a bs).fresh = s.fresh := rfl
@[simp] theorem State.fsWrite_part : (s.fsWrite a bs).part = s.part := rfl
@[simp] theorem State.fsWrite_dstate : (s.fsWrite a bs).dstate = s.dstate := rfl
@[simp] theorem State.fsWrite_cause : (s.fsWrite a bs).cause = s.cause := rfl
@[simp] theorem State.fsWrite_regs : (s.fsWrite a bs).regs = s.regs := rfl
@[simp] theorem State.fsWrite_latches : (s.fsWrite a bs).latches = s.latches := rfl
@[simp] theorem State.fsWrite_groom : (s.fsWrite a bs).groom = s.groom := rfl
@[simp] theorem State.fsWrite_tg : (s.fsWrite a bs).tg = s.tg := rfl
@[simp] theorem State.fsWrite_ev : (s.fsWrite a bs).ev = s.ev := rfl
@[simp] theorem State.fsWrite_host : (s.fsWrite a bs).host = s.host := rfl
@[simp] theorem State.fsWrite_clk : (s.fsWrite a bs).clk = s.clk := rfl
@[simp] theorem State.fsWrite_pwr : (s.fsWrite a bs).pwr = s.pwr := rfl
@[simp] theorem State.fsWrite_sec : (s.fsWrite a bs).sec = s.sec := rfl
@[simp] theorem State.fsWrite_lanes : (s.fsWrite a bs).lanes = s.lanes := rfl
@[simp] theorem State.fsWrite_links : (s.fsWrite a bs).links = s.links := rfl
@[simp] theorem State.fsWrite_gates : (s.fsWrite a bs).gates = s.gates := rfl
@[simp] theorem State.fsWrite_stalls : (s.fsWrite a bs).stalls = s.stalls := rfl
@[simp] theorem State.fsWrite_yards : (s.fsWrite a bs).yards = s.yards := rfl
@[simp] theorem State.fsWrite_hay : (s.fsWrite a bs).hay = s.hay := rfl
@[simp] theorem State.fsWrite_remaps : (s.fsWrite a bs).remaps = s.remaps := rfl
@[simp] theorem State.fsWrite_meshes : (s.fsWrite a bs).meshes = s.meshes := rfl
@[simp] theorem State.fsWrite_heads : (s.fsWrite a bs).heads = s.heads := rfl
@[simp] theorem State.fsWrite_codecAcc : (s.fsWrite a bs).codecAcc = s.codecAcc := rfl
@[simp] theorem State.fsWrite_tw : (s.fsWrite a bs).tw = s.tw := rfl
@[simp] theorem State.fsWrite_test : (s.fsWrite a bs).test = s.test := rfl
@[simp] theorem State.fsWrite_stand : (s.fsWrite a bs).stand = s.stand := rfl
@[simp] theorem State.fsWrite_dissolved : (s.fsWrite a bs).dissolved = s.dissolved := rfl
@[simp] theorem State.fsWrite_hayBad : (s.fsWrite a bs).hayBad = s.hayBad := rfl
@[simp] theorem State.fsWrite_ethTx : (s.fsWrite a bs).ethTx = s.ethTx := rfl
end

section
variable (x : Nat) (c : Checker)
@[simp] theorem State.setCheck_pending : (s.setCheck x c).pending = s.pending := rfl
@[simp] theorem State.setCheck_out : (s.setCheck x c).out = s.out := rfl
@[simp] theorem State.setCheck_fresh : (s.setCheck x c).fresh = s.fresh := rfl
@[simp] theorem State.setCheck_part : (s.setCheck x c).part = s.part := rfl
@[simp] theorem State.setCheck_dstate : (s.setCheck x c).dstate = s.dstate := rfl
@[simp] theorem State.setCheck_cause : (s.setCheck x c).cause = s.cause := rfl
@[simp] theorem State.setCheck_regs : (s.setCheck x c).regs = s.regs := rfl
@[simp] theorem State.setCheck_latches : (s.setCheck x c).latches = s.latches := rfl
@[simp] theorem State.setCheck_groom : (s.setCheck x c).groom = s.groom := rfl
@[simp] theorem State.setCheck_tg : (s.setCheck x c).tg = s.tg := rfl
@[simp] theorem State.setCheck_ev : (s.setCheck x c).ev = s.ev := rfl
@[simp] theorem State.setCheck_host : (s.setCheck x c).host = s.host := rfl
@[simp] theorem State.setCheck_clk : (s.setCheck x c).clk = s.clk := rfl
@[simp] theorem State.setCheck_pwr : (s.setCheck x c).pwr = s.pwr := rfl
@[simp] theorem State.setCheck_sec : (s.setCheck x c).sec = s.sec := rfl
@[simp] theorem State.setCheck_lanes : (s.setCheck x c).lanes = s.lanes := rfl
@[simp] theorem State.setCheck_links : (s.setCheck x c).links = s.links := rfl
@[simp] theorem State.setCheck_gates : (s.setCheck x c).gates = s.gates := rfl
@[simp] theorem State.setCheck_stalls : (s.setCheck x c).stalls = s.stalls := rfl
@[simp] theorem State.setCheck_yards : (s.setCheck x c).yards = s.yards := rfl
@[simp] theorem State.setCheck_hay : (s.setCheck x c).hay = s.hay := rfl
@[simp] theorem State.setCheck_store : (s.setCheck x c).store = s.store := rfl
@[simp] theorem State.setCheck_remaps : (s.setCheck x c).remaps = s.remaps := rfl
@[simp] theorem State.setCheck_meshes : (s.setCheck x c).meshes = s.meshes := rfl
@[simp] theorem State.setCheck_heads : (s.setCheck x c).heads = s.heads := rfl
@[simp] theorem State.setCheck_codecAcc : (s.setCheck x c).codecAcc = s.codecAcc := rfl
@[simp] theorem State.setCheck_stand : (s.setCheck x c).stand = s.stand := rfl
@[simp] theorem State.setCheck_dissolved : (s.setCheck x c).dissolved = s.dissolved := rfl
@[simp] theorem State.setCheck_hayBad : (s.setCheck x c).hayBad = s.hayBad := rfl
@[simp] theorem State.setCheck_ethTx : (s.setCheck x c).ethTx = s.ethTx := rfl
@[simp] theorem State.setCheck_tw : (s.setCheck x c).tw = s.tw := rfl
end

section
variable (y : Yard)
@[simp] theorem State.setYard_pending : (s.setYard y).pending = s.pending := rfl
@[simp] theorem State.setYard_out : (s.setYard y).out = s.out := rfl
@[simp] theorem State.setYard_fresh : (s.setYard y).fresh = s.fresh := rfl
@[simp] theorem State.setYard_part : (s.setYard y).part = s.part := rfl
@[simp] theorem State.setYard_dstate : (s.setYard y).dstate = s.dstate := rfl
@[simp] theorem State.setYard_cause : (s.setYard y).cause = s.cause := rfl
@[simp] theorem State.setYard_regs : (s.setYard y).regs = s.regs := rfl
@[simp] theorem State.setYard_latches : (s.setYard y).latches = s.latches := rfl
@[simp] theorem State.setYard_groom : (s.setYard y).groom = s.groom := rfl
@[simp] theorem State.setYard_tg : (s.setYard y).tg = s.tg := rfl
@[simp] theorem State.setYard_ev : (s.setYard y).ev = s.ev := rfl
@[simp] theorem State.setYard_host : (s.setYard y).host = s.host := rfl
@[simp] theorem State.setYard_clk : (s.setYard y).clk = s.clk := rfl
@[simp] theorem State.setYard_pwr : (s.setYard y).pwr = s.pwr := rfl
@[simp] theorem State.setYard_sec : (s.setYard y).sec = s.sec := rfl
@[simp] theorem State.setYard_lanes : (s.setYard y).lanes = s.lanes := rfl
@[simp] theorem State.setYard_links : (s.setYard y).links = s.links := rfl
@[simp] theorem State.setYard_gates : (s.setYard y).gates = s.gates := rfl
@[simp] theorem State.setYard_stalls : (s.setYard y).stalls = s.stalls := rfl
@[simp] theorem State.setYard_hay : (s.setYard y).hay = s.hay := rfl
@[simp] theorem State.setYard_store : (s.setYard y).store = s.store := rfl
@[simp] theorem State.setYard_remaps : (s.setYard y).remaps = s.remaps := rfl
@[simp] theorem State.setYard_meshes : (s.setYard y).meshes = s.meshes := rfl
@[simp] theorem State.setYard_heads : (s.setYard y).heads = s.heads := rfl
@[simp] theorem State.setYard_codecAcc : (s.setYard y).codecAcc = s.codecAcc := rfl
@[simp] theorem State.setYard_test : (s.setYard y).test = s.test := rfl
@[simp] theorem State.setYard_stand : (s.setYard y).stand = s.stand := rfl
@[simp] theorem State.setYard_dissolved : (s.setYard y).dissolved = s.dissolved := rfl
@[simp] theorem State.setYard_hayBad : (s.setYard y).hayBad = s.hayBad := rfl
@[simp] theorem State.setYard_ethTx : (s.setYard y).ethTx = s.ethTx := rfl
@[simp] theorem State.setYard_tw : (s.setYard y).tw = s.tw := rfl
end

section
variable (x : Nat) (c : Cam)
@[simp] theorem State.setCam_pending : (s.setCam x c).pending = s.pending := rfl
@[simp] theorem State.setCam_out : (s.setCam x c).out = s.out := rfl
@[simp] theorem State.setCam_fresh : (s.setCam x c).fresh = s.fresh := rfl
@[simp] theorem State.setCam_part : (s.setCam x c).part = s.part := rfl
@[simp] theorem State.setCam_dstate : (s.setCam x c).dstate = s.dstate := rfl
@[simp] theorem State.setCam_cause : (s.setCam x c).cause = s.cause := rfl
@[simp] theorem State.setCam_regs : (s.setCam x c).regs = s.regs := rfl
@[simp] theorem State.setCam_latches : (s.setCam x c).latches = s.latches := rfl
@[simp] theorem State.setCam_groom : (s.setCam x c).groom = s.groom := rfl
@[simp] theorem State.setCam_tg : (s.setCam x c).tg = s.tg := rfl
@[simp] theorem State.setCam_ev : (s.setCam x c).ev = s.ev := rfl
@[simp] theorem State.setCam_host : (s.setCam x c).host = s.host := rfl
@[simp] theorem State.setCam_clk : (s.setCam x c).clk = s.clk := rfl
@[simp] theorem State.setCam_pwr : (s.setCam x c).pwr = s.pwr := rfl
@[simp] theorem State.setCam_sec : (s.setCam x c).sec = s.sec := rfl
@[simp] theorem State.setCam_lanes : (s.setCam x c).lanes = s.lanes := rfl
@[simp] theorem State.setCam_links : (s.setCam x c).links = s.links := rfl
@[simp] theorem State.setCam_gates : (s.setCam x c).gates = s.gates := rfl
@[simp] theorem State.setCam_stalls : (s.setCam x c).stalls = s.stalls := rfl
@[simp] theorem State.setCam_yards : (s.setCam x c).yards = s.yards := rfl
@[simp] theorem State.setCam_hay : (s.setCam x c).hay = s.hay := rfl
@[simp] theorem State.setCam_store : (s.setCam x c).store = s.store := rfl
@[simp] theorem State.setCam_remaps : (s.setCam x c).remaps = s.remaps := rfl
@[simp] theorem State.setCam_meshes : (s.setCam x c).meshes = s.meshes := rfl
@[simp] theorem State.setCam_heads : (s.setCam x c).heads = s.heads := rfl
@[simp] theorem State.setCam_codecAcc : (s.setCam x c).codecAcc = s.codecAcc := rfl
@[simp] theorem State.setCam_test : (s.setCam x c).test = s.test := rfl
@[simp] theorem State.setCam_dissolved : (s.setCam x c).dissolved = s.dissolved := rfl
@[simp] theorem State.setCam_hayBad : (s.setCam x c).hayBad = s.hayBad := rfl
@[simp] theorem State.setCam_ethTx : (s.setCam x c).ethTx = s.ethTx := rfl
@[simp] theorem State.setCam_tw : (s.setCam x c).tw = s.tw := rfl
end

section
variable (n : Nat) (g : Gptp)
@[simp] theorem State.setGptp_pending : (s.setGptp n g).pending = s.pending := rfl
@[simp] theorem State.setGptp_out : (s.setGptp n g).out = s.out := rfl
@[simp] theorem State.setGptp_fresh : (s.setGptp n g).fresh = s.fresh := rfl
@[simp] theorem State.setGptp_part : (s.setGptp n g).part = s.part := rfl
@[simp] theorem State.setGptp_dstate : (s.setGptp n g).dstate = s.dstate := rfl
@[simp] theorem State.setGptp_cause : (s.setGptp n g).cause = s.cause := rfl
@[simp] theorem State.setGptp_regs : (s.setGptp n g).regs = s.regs := rfl
@[simp] theorem State.setGptp_latches : (s.setGptp n g).latches = s.latches := rfl
@[simp] theorem State.setGptp_groom : (s.setGptp n g).groom = s.groom := rfl
@[simp] theorem State.setGptp_tg : (s.setGptp n g).tg = s.tg := rfl
@[simp] theorem State.setGptp_ev : (s.setGptp n g).ev = s.ev := rfl
@[simp] theorem State.setGptp_host : (s.setGptp n g).host = s.host := rfl
@[simp] theorem State.setGptp_pwr : (s.setGptp n g).pwr = s.pwr := rfl
@[simp] theorem State.setGptp_sec : (s.setGptp n g).sec = s.sec := rfl
@[simp] theorem State.setGptp_lanes : (s.setGptp n g).lanes = s.lanes := rfl
@[simp] theorem State.setGptp_links : (s.setGptp n g).links = s.links := rfl
@[simp] theorem State.setGptp_gates : (s.setGptp n g).gates = s.gates := rfl
@[simp] theorem State.setGptp_stalls : (s.setGptp n g).stalls = s.stalls := rfl
@[simp] theorem State.setGptp_yards : (s.setGptp n g).yards = s.yards := rfl
@[simp] theorem State.setGptp_hay : (s.setGptp n g).hay = s.hay := rfl
@[simp] theorem State.setGptp_store : (s.setGptp n g).store = s.store := rfl
@[simp] theorem State.setGptp_remaps : (s.setGptp n g).remaps = s.remaps := rfl
@[simp] theorem State.setGptp_meshes : (s.setGptp n g).meshes = s.meshes := rfl
@[simp] theorem State.setGptp_heads : (s.setGptp n g).heads = s.heads := rfl
@[simp] theorem State.setGptp_codecAcc : (s.setGptp n g).codecAcc = s.codecAcc := rfl
@[simp] theorem State.setGptp_test : (s.setGptp n g).test = s.test := rfl
@[simp] theorem State.setGptp_stand : (s.setGptp n g).stand = s.stand := rfl
@[simp] theorem State.setGptp_dissolved : (s.setGptp n g).dissolved = s.dissolved := rfl
@[simp] theorem State.setGptp_hayBad : (s.setGptp n g).hayBad = s.hayBad := rfl
@[simp] theorem State.setGptp_ethTx : (s.setGptp n g).ethTx = s.ethTx := rfl
@[simp] theorem State.setGptp_tw : (s.setGptp n g).tw = s.tw := rfl
end

section
variable (g k : Nat) (i : Option HdrInst)
@[simp] theorem State.setInst_pending : (s.setInst g k i).pending = s.pending := rfl
@[simp] theorem State.setInst_out : (s.setInst g k i).out = s.out := rfl
@[simp] theorem State.setInst_fresh : (s.setInst g k i).fresh = s.fresh := rfl
@[simp] theorem State.setInst_part : (s.setInst g k i).part = s.part := rfl
@[simp] theorem State.setInst_dstate : (s.setInst g k i).dstate = s.dstate := rfl
@[simp] theorem State.setInst_cause : (s.setInst g k i).cause = s.cause := rfl
@[simp] theorem State.setInst_regs : (s.setInst g k i).regs = s.regs := rfl
@[simp] theorem State.setInst_latches : (s.setInst g k i).latches = s.latches := rfl
@[simp] theorem State.setInst_groom : (s.setInst g k i).groom = s.groom := rfl
@[simp] theorem State.setInst_tg : (s.setInst g k i).tg = s.tg := rfl
@[simp] theorem State.setInst_ev : (s.setInst g k i).ev = s.ev := rfl
@[simp] theorem State.setInst_host : (s.setInst g k i).host = s.host := rfl
@[simp] theorem State.setInst_clk : (s.setInst g k i).clk = s.clk := rfl
@[simp] theorem State.setInst_pwr : (s.setInst g k i).pwr = s.pwr := rfl
@[simp] theorem State.setInst_sec : (s.setInst g k i).sec = s.sec := rfl
@[simp] theorem State.setInst_lanes : (s.setInst g k i).lanes = s.lanes := rfl
@[simp] theorem State.setInst_links : (s.setInst g k i).links = s.links := rfl
@[simp] theorem State.setInst_stalls : (s.setInst g k i).stalls = s.stalls := rfl
@[simp] theorem State.setInst_yards : (s.setInst g k i).yards = s.yards := rfl
@[simp] theorem State.setInst_hay : (s.setInst g k i).hay = s.hay := rfl
@[simp] theorem State.setInst_store : (s.setInst g k i).store = s.store := rfl
@[simp] theorem State.setInst_remaps : (s.setInst g k i).remaps = s.remaps := rfl
@[simp] theorem State.setInst_meshes : (s.setInst g k i).meshes = s.meshes := rfl
@[simp] theorem State.setInst_heads : (s.setInst g k i).heads = s.heads := rfl
@[simp] theorem State.setInst_codecAcc : (s.setInst g k i).codecAcc = s.codecAcc := rfl
@[simp] theorem State.setInst_test : (s.setInst g k i).test = s.test := rfl
@[simp] theorem State.setInst_stand : (s.setInst g k i).stand = s.stand := rfl
@[simp] theorem State.setInst_dissolved : (s.setInst g k i).dissolved = s.dissolved := rfl
@[simp] theorem State.setInst_hayBad : (s.setInst g k i).hayBad = s.hayBad := rfl
@[simp] theorem State.setInst_ethTx : (s.setInst g k i).ethTx = s.ethTx := rfl
@[simp] theorem State.setInst_tw : (s.setInst g k i).tw = s.tw := rfl
end

end Sys2Proof.Machine
end

