-- ==== Sys2Proof/Tests/Slice0.lean ====
section
/-! SUPPORT. Tests: ill-formed operands are refused by the checks of Instr.wf, the premises of every statement can be
met (a witness theorem for each, on small states), and examples that the spec works out. -/

namespace Sys2Proof.Tests

set_option Elab.async false

open Sys2Proof.Machine

/-! ### Ill-formed operands -/

/-- A packet of TWT0 with REPLY set, TAG 1 and credential 1. -/
def pk (unit : BitVec 16) (ws : List Word) : Packet := ⟨.twt, unit, 1, false, true, false, false, 0, 1, ws⟩

/-- The same with STAGE. -/
def stg (unit : BitVec 16) (ws : List Word) : Packet := { pk unit ws with stage := true }

/-- A link message header with a good CRC. -/
def hd : MsgHdr := ⟨7, 0, true⟩

theorem test_wf_packet :
    Instr.wf (.ping (pk 0 [])) = true ∧ Instr.wf (.ping { pk 0 [] with tag := 0 }) = false
    ∧ Instr.wf (.ping { pk 0 [] with src := .image }) = false
    ∧ Packet.wf (pk 0 (List.replicate 4096 0)) = false ∧ Packet.wf (pk 0 (List.replicate 4095 0)) = true := by decide +kernel

theorem test_wf_accesses :
    Instr.wf (.registerWrite 0xFFFFFC 8 true 0 0) = false ∧ Instr.wf (.registerWrite 0xFFFFFC 4 true 0 0) = true
    ∧ Instr.wf (.registerWrite 0 0 true 0 0) = false ∧ Instr.wf (.bar2Read 0xFFFFFFF 2) = false
    ∧ Instr.wf (.bar2Write 0xFFFFFFF [none, none]) = false ∧ Instr.wf (.bar2Write 0xFFFFFFF [none]) = true
    ∧ Instr.wf (.cmdSqTail 0 1 [0, 0, 0] true) = false ∧ Instr.wf (.descriptorFetch 0 [0] true) = false
    ∧ Instr.wf (.descriptorFetch 0 [] false) = true ∧ Instr.wf (.fsMonitorWindow []) = false := by decide +kernel

theorem test_wf_times :
    Instr.wf (.sync 0 0 0 true ⟨0, 1000000000⟩ 0) = false ∧ Instr.wf (.sync 0 0 0 true ⟨0, 999999999⟩ 0) = true
    ∧ Instr.wf (.followUp 0 0 0 ⟨0, 1000000000⟩ 0) = false ∧ Instr.wf (.pdelayResp 0 0 0 ⟨0, 1000000000⟩) = false
    ∧ Instr.wf (.pdelayRespFollowUp 0 0 0 ⟨0, 1000000000⟩) = false := by decide +kernel

theorem test_wf_link :
    Instr.wf (.codeword 0 []) = false ∧ Instr.wf (.i2cReq 0 hd [0, 0, 0, 0]) = false
    ∧ Instr.wf (.i2cReq 0 hd (List.replicate 246 0)) = false ∧ Instr.wf (.i2cReq 0 hd (List.replicate 245 0)) = true
    ∧ Instr.wf (.i2cResp 0 hd 0 0 (List.replicate 241 0)) = false ∧ Instr.wf (.ident 0 hd []) = false
    ∧ Instr.wf (.authChal 0 hd []) = false ∧ Instr.wf (.authResp 0 hd (List.replicate 97 0) []) = false
    ∧ Instr.wf (.frameStatus 0 hd []) = false := by decide +kernel

/-! ### The hub of the witnesses -/

/-- A hub in CONFIG whose groom runs and whose domains are all ready, with one owner credential of TWT0. -/
def hub : State := { State.reset with
  dstate := .config, groom := { Groom.reset with up := true }, pwr := { Power.reset with pwrgood := true },
  regs := [(R.PWR_READY_LO, 0xFFFFFFFF), (R.PWR_READY_HI, 0xFFFFFFFF)],
  sec := { Security.reset with trngOk := true, creds := [⟨1, .twt, true, 2 ^ 40, 0, true⟩] } }

/-- It with yard 0 over stall 0, a mesh in slot 1 and a kernel object in the cache. -/
def hubYard : State := { hub with
  yards := [⟨0, [0x2000], none, false, 0, [], 0, [], false, false, 0⟩],
  meshes := [(1, ⟨some ⟨0, 2, 2, 2⟩, 0, none, none, 0, false, none⟩)],
  sec := { hub.sec with cache := [⟨1, 1, 15, List.replicate 64 0⟩] } }

/-- A paddock of four slots whose slot 0 holds sequence number 5. -/
def pad0 : Paddock :=
  ⟨4, 1, 0xC000, 1, 16, false, 0, 0, false, false, [(0, ⟨.complete, 5, 0, none, 16⟩)], 1, 6, [], [], none, 5, 5, 1, []⟩

/-- The hub in RUN with that paddock. -/
def hubRun : State := { hub with
  dstate := .run, tg := { hub.tg with running := true }, store := { hub.store with pads := [(0, pad0)] } }

/-- The hub with RX00 and TX00 in test. -/
def hubTest : State :=
  (hub.setFld (R.LANE_STATUS 0) F.LANE_STATUS_STATE Ls.test).setFld (R.LANE_STATUS 32) F.LANE_STATUS_STATE Ls.test

/-- Commands without STAGE that the groom takes and runs on the hub. -/
def runsOnHub : List (Nat × Packet) := [
  (0x000, pk 0 []), (0x001, pk 0 []), (0x002, pk 0 []), (0x003, pk 0 []), (0x004, pk 0 []), (0x005, pk 0 []),
  (0x006, pk 0 [0x100, 0]), (0x007, pk 0 [4]), (0x008, pk 0 [0x20000]), (0x008, pk 0 [0x1020000]),
  (0x009, pk 0 [0x40400, 1]), (0x00A, pk 0 []), (0x00C, pk 0 []), (0x00E, pk 0 []),
  (0x101, pk 0x8000 [4]), (0x102, pk 0x8000 []), (0x105, pk 0x8000 []), (0x106, pk 0x8000 []), (0x108, pk 0x8000 [1]),
  (0x109, pk 0x8000 [0]), (0x206, pk 0x1000 []), (0x207, pk 0x1000 [1]), (0x307, pk 0x2000 []), (0x403, pk 0x4000 []),
  (0x400, pk 0x4000 [0, 0x20202, 0x100, 0x0C000000]), (0x508, pk 0x5000 []), (0x509, pk 0x5000 []), (0x601, pk 0x6000 []),
  (0x705, pk 0x7000 []), (0x801, pk 0x9000 []), (0x802, pk 0x9000 []), (0x803, pk 0x9000 [])]

/-- The rest of them. -/
def runsOnHub2 : List (Nat × Packet) := [
  (0x900, pk 0xA000 [0x300, 0, 0x00010001, 100, 0, 0, 0]), (0x901, pk 0xA000 []),
  (0x902, kindPacket (pk 0xA000 [0, 0, 0, 0]) 1 0 0), (0x902, kindPacket (pk 0xA000 [0, 0, 0, 0]) 1 0 1),
  (0x904, pk 0xA000 [0, 0x100, 0]), (0x905, pk 0xA000 [0]), (0x905, pk 0xA000 [2]), (0xA00, pk 0xB000 [0x100]),
  (0xA01, pk 0xB000 [0x100, 0]), (0xA02, pk 0xB000 []), (0xA03, pk 0xB200 [0x40]),
  (0xB02, kindPacket (pk 0xC000 [0]) 2 0 0), (0xB02, kindPacket (pk 0xC000 [0]) 2 0 1),
  (0xB02, kindPacket (pk 0xC000 [0]) 2 0 2), (0xB02, kindPacket (pk 0xC000 [0]) 2 0 3),
  (0xB02, kindPacket (pk 0xC000 [0]) 2 0 4), (0xB03, pk 0xC000 [0]), (0xB04, pk 0xC000 [0, 0, 0, 0, 0, 0]),
  (0xB05, pk 0xC000 []), (0xC00, kindPacket (pk 0xD000 [0]) 0 0 0),
  (0xC00, kindPacket (pk 0xD000 (0x100 :: List.replicate 57 0)) 0 0 1), (0xC01, pk 0xD000 [1]),
  (0xC02, pk 0xD000 [0, 0, 0, 0, 0, 0, 0, 0, 0]), (0xC03, pk 0xD000 [0x8000]), (0xC04, kindPacket (pk 0xD000 [0, 1, 0]) 1 0 0),
  (0xC04, kindPacket (pk 0xD000 [0, 1, 0]) 1 0 2), (0xC05, pk 0xD000 [1]), (0xC06, pk 0xD000 [1]), (0xC07, pk 0xD000 []),
  (0xC08, pk 0xD000 [0x0C000000, 4]), (0xE00, pk 0xE000 [0, 0, 0, 0]), (0xE01, pk 0xE000 [0]),
  (0xE02, kindPacket (pk 0xE100 [0]) 1 0 0), (0xE03, pk 0xE000 [16]), (0xE04, kindPacket (pk 0xE000 [0, 0]) 1 0 0),
  (0xE04, kindPacket (pk 0xE000 [0, 0]) 1 0 1), (0xE05, kindPacket (pk 0xE200 [0]) 0 0 0),
  (0xE06, pk 0xE300 [3]), (0xE06, pk 0xE300 [2])]

theorem witness_commands_run : ∀ r ∈ runsOnHub, Runs r.1 r.2 hub (onSource r.2 hub) := by
  simp only [Runs, Taken]; decide +kernel

theorem witness_commands_run2 : ∀ r ∈ runsOnHub2, Runs r.1 r.2 hub (onSource r.2 hub) := by
  simp only [Runs, Taken]; decide +kernel

/-- Commands with a state of their own. -/
def runsElsewhere : List (Nat × Packet × State) := [
  (0x308, pk 0x3000 [], hubYard), (0x307, pk 0x3000 [], hubYard), (0x703, pk 0x7000 [0, 5], hubRun),
  (0x704, pk 0x7000 [1], hubRun), (0x00B, pk 0 [], { hub with dstate := .safe }),
  (0xE02, kindPacket (pk 0xE100 [0]) 1 0 1, hubTest), (0xE02, kindPacket (pk 0xE100 [0]) 1 0 2, hubTest),
  (0xE04, kindPacket (pk 0xE000 [0x600, 0]) 1 0 2, hub), (0xE04, kindPacket (pk 0xE000 [0x10000, 0]) 1 0 3, hub),
  (0xE05, kindPacket (pk 0xE220 [0, 0xC000, 1]) 0 0 1, hub)]

theorem witness_commands_run3 : ∀ r ∈ runsElsewhere, Runs r.1 r.2.1 r.2.2 (onSource r.2.1 r.2.2) := by
  simp only [Runs, Taken]; decide +kernel

/-- Staged commands that the groom accepts on the hub. -/
def stagesOnHub : List (Nat × Packet) := [
  (0x009, stg 0 [0x20000, 1]), (0x100, stg 0x8000 [0, 0x00ff4002, 0x00011030, 0]), (0x101, stg 0x8000 [4]),
  (0x103, stg 0x8000 [1]), (0x104, stg 0 [0x3064, 0, 0]), (0x107, stg 0x8000 [0xa00, 100000, 0, 0]),
  (0x109, stg 0x8000 [0]), (0x10A, stg 0x8100 [0]), (0x200, stg 0x1000 [0, 0x80002A00, 0x400000, 0x400000, 0, 0, 0]),
  (0x201, stg 0x1000 [0]), (0x202, stg 0x1000 [0, 0x10000, 0x10000, 0]), (0x203, stg 0x1000 [0, 0]),
  (0x204, stg 0x1000 [0, 0]), (0x205, stg 0x1000 [0, 0, 1]), (0x301, stg 0x2000 ([1, 1] ++ List.replicate 16 0)),
  (0x302, stg 0x2000 [0, 7]), (0x303, stg 0x3000 [1, 0x2000]), (0x305, stg 0x2000 []), (0x306, stg 0x2000 [1]),
  (0x400, stg 0x4000 [0, 0x20202, 0x100, 0x0C000000]), (0x402, stg 0x4000 []),
  (0x500, stg 0x5000 [0, 0, 0x3beb, 0, 0, 0x208]), (0x501, stg 0x5000 (List.replicate 5 0)),
  (0x502, stg 0x5000 (List.replicate 9 0)), (0x503, stg 0x5000 [0]), (0x504, stg 0x5000 (List.replicate 5 0)),
  (0x505, stg 0x5000 [0]), (0x506, stg 0x5000 [0, F.HEAD_DIR_IN_LOG2_DEPTH.put 3 0, F.HEAD_DIR_OUT_LOG2_DEPTH.put 2 0,
    F.HEAD_DIR_LINE_DELAY_LINES.put 1 (F.HEAD_DIR_LINE_T_LINE_NS.put 1000 0), 0xc350]), (0x507, stg 0x5000 []),
  (0x600, stg 0x6300 [0, 0x71]), (0x700, stg 0x7000 [0x202, 0, 1]), (0x701, stg 0x7000 []),
  (0x702, stg 0x7000 (List.replicate 7 0)), (0x800, stg 0x9000 [0, 0, 0, 0, 0, 10, 0]),
  (0x900, stg 0xA000 [0x300, 0, 0x00010001, 100, 0, 0, 0]), (0x903, stg 0xA000 [0]), (0x904, stg 0xA000 [0, 0x100, 0]),
  (0xA00, stg 0xB000 [0x100]), (0xB00, stg 0xC200 [0]), (0xB01, stg 0xC100 [1]), (0x00D, stg 0 [0x0C000000, 256, 0])]

theorem witness_StagedCommandsJoinTheirSet : ∀ r ∈ stagesOnHub, Stages r.1 r.2 hub (onSource r.2 hub) := by
  simp only [Stages, Taken]; decide +kernel

theorem witness_StagedCommandsJoinTheirSet_yards : ∀ r ∈ [(0x300, stg 0x2000 [0x10001]), (0x304, stg 0x3000 []),
    (0x401, stg 0x4000 [0x42, 0, 0x30003, 0, 0x1000, 0x30003, 0, 0, 0, 1, 0, 0x30003, 1])],
    Stages r.1 r.2 hubYard (onSource r.2 hubYard) := by
  simp only [Stages, Taken]; decide +kernel

theorem witness_FailedChecksOnlyAnswer :
    Taken (pk 0 []) hub (onSource (pk 0 []) hub) ∧ opInfo 0x0FFF = none
    ∧ (checkCmd ⟨0x0006, pk 0 []⟩ none (onSource (pk 0 []) hub)).isSome = true := by
  simp only [Taken]; decide +kernel

/-! ### Premises beside Runs -/

/-- The packet runs on the state as its source shows it. -/
abbrev RunsOn (op : Nat) (p : Packet) (s : State) : Prop := Runs op p s (onSource p s)

/-- The hub with RX00 in a lane state. -/
def rx0 (st : Nat) : State := hub.setFld (R.LANE_STATUS 0) F.LANE_STATUS_STATE st

/-- The hub with entries in the set being filled. -/
def hubFill (es : List Entry) : State :=
  { hub with groom := { hub.groom with staging := { hub.groom.staging with fill := es } } }

/-- A register write that a set may hold, and one to a lane that no tick makes legal. -/
def entryOk : Entry := ⟨2, 2, .regs [(0x20000, 1)], false⟩
def entryBad : Entry := ⟨2, 0x2000, .cmd 0x301 0x2000 ([1, 1] ++ List.replicate 16 0), false⟩

theorem witness_ReadCommandsAnswerTheirWords :
    uClass (pk 0x2000 []).unit = 2 ∧ uClass (pk 0x3000 []).unit = 3 ∧ hub.sec.trngOk = true
    ∧ wAt (pk 0xE300 [3]).params 0 = 3 ∧ hub.tailOut 0 = false
    ∧ bits (wAt (pk 0xA000 [2]).params 0) 1 0 = 2 ∧ bit (wAt (pk 0xE000 [0]).params 0) 0 = false
    ∧ hub.heldChan [0x1020000] = none ∧ bit (0x1020000 : Word) 24 = true ∧ bit (0x20000 : Word) 24 = false
    ∧ (∀ g ∈ latchGroups, g.first ≠ 0x20000 ∧ 0x20000 ∉ g.rest) := by decide +kernel

/-- Channel 0 waits for its tail's re-read: a REG_READ of DMA_0_STATUS is held. -/
def hubTail : State := (hub.setDmaState 0 Ds.RUNNING).setChan 0 { Chan.idle with phase := .tail false }

theorem witness_ReadCommandsAnswerTheirWords_held : ∀ s ∈ [hubTail],
    RunsOn 0x008 (pk 0 [w32 (R.DMA_STATUS 0)]) s ∧ s.heldChan [w32 (R.DMA_STATUS 0)] = some 0 := by
  simp only [RunsOn, Runs, Taken]; decide +kernel

theorem witness_SealsResetsAndSleepEntersAct : ∀ e ∈ [entryOk, entryBad],
    RunsOn 0x003 (pk 0 []) (hubFill [e])
    ∧ (comingReady (idleEnd (onSource (pk 0 []) (hubFill [e])))).groom.staging.fill ≠ [] := by
  simp only [RunsOn, Runs, Taken]; decide +kernel

theorem witness_SealsResetsAndSleepEntersAct_verdicts :
    verdict hub [entryOk] = .pass ∧ verdict hub [entryBad] = .fail 1 2 0x2000
    ∧ hub.ev.critHot = false ∧ hub.ev.trngBoot = false ∧ hub.groom.staging.fill = [] := by decide +kernel

theorem witness_AbortSealDiscardsTheSet :
    ∀ e ∈ [(none : Option Frozen), some ⟨[entryOk], false, none⟩],
      RunsOn 0x004 (pk 0 []) { hub with groom := { hub.groom with staging := ⟨[entryOk], [], e⟩ } } := by
  simp only [RunsOn, Runs, Taken]; decide +kernel

theorem witness_ImmediateCommandsActAtOnce :
    (∀ a ∈ regAddrs (pk 0 [0x40400, 1]).params, isST a = false)
    ∧ (∀ d ∈ (onesOf (bits (0 : Word) 7 0) 8).flatMap padOwners, hub.domainOn d = true → hub.domainReady d = true)
    ∧ (adjustTarget 0 [0, 0, 0, 0] hub).isSome = true ∧ (adjustTarget 0 [1, 0, 0, 0] hub).isSome = true := by decide +kernel

/-- RX00 is up, its partner is known and can authenticate. -/
def hubPartner : State :=
  ((rx0 Ls.up).setLink 0 { LinkDyn.none with ident := some (List.replicate 32 0xFF) }).setReg (R.LINK_PARTNER 0) 0xFFFFFFFF

theorem witness_WorkCommandsStartTheirWork_lanes :
    (∀ s ∈ [rx0 Ls.up], (s.laneUp 0 = true ∧ (s.link 0).discover = false ∧ (s.link 0).cal = none)
      ∧ s.test.eye = none ∧ s.laneIn 0 [Ls.up, Ls.doze, Ls.test] = true)
    ∧ (∀ s ∈ [hubPartner], authLane 0x8000 = some 0 ∧ s.laneUp 0 = true ∧ s.partnerKnown 0 = true ∧ s.partnerCap 0 0 = true
      ∧ (s.link 0).auth = none) := by decide +kernel

theorem witness_WorkCommandsStartTheirWork_runs : ∀ r ∈ [(0x105, pk 0x8000 [], rx0 Ls.up), (0x108, pk 0x8000 [1], rx0 Ls.up),
    (0xE03, pk 0xE000 [16], rx0 Ls.up), (0xC03, pk 0xD000 [0x8000], hubPartner),
    (0x802, pk 0x9000 [], hub.setDmaState 0 Ds.RUNNING), (0x801, pk 0x9000 [], hub.setDmaState 0 Ds.IDLE),
    (0xA01, pk 0xB000 [0x100, 0], hub.setFlag (R.TWC_CTRL 0) F.TWC_CTRL_EN true)], RunsOn r.1 r.2.1 r.2.2 := by
  simp only [RunsOn, Runs, Taken]; decide +kernel

theorem witness_WorkCommandsStartTheirWork_engines :
    (∀ s ∈ [hub.setDmaState 0 Ds.RUNNING], s.dmaState 0 = Ds.RUNNING ∧ (s.chan 0).phase ≠ .readback 3)
    ∧ (hub.setDmaState 0 Ds.IDLE).dmaState 0 = Ds.IDLE
    ∧ (∀ s ∈ [hub.setFlag (R.TWC_CTRL 0) F.TWC_CTRL_EN true], twCtlOf 0 = some 0
      ∧ (s.twc 0).queue.length < 8 ∧ (s.twc 0).stuck = false ∧ s.flag (R.TWC_CTRL 0) F.TWC_CTRL_EN = true)
    ∧ hub.test.mem = none ∧ hub.sliceLive 0 = false ∧ hub.storeLive (0xC000 * 4096) 4096 = false
    ∧ hubRun.pad? 0 = some pad0 ∧ pad0.slotOf 5 = some 0 := by decide +kernel

theorem witness_WorkCommandsStartTheirWork_tests :
    hubTest.laneIn 32 [Ls.test] = true ∧ hubTest.laneIn 0 [Ls.test] = true ∧ hubTest.laneBound 32 = false
    ∧ hubTest.laneBound 0 = false ∧ hub.laneWitnessed 0 = false := by decide +kernel

theorem witness_SecurityCommandsAct :
    (revoked [0, 1, 0] hub).isSome = true
    ∧ (∀ s ∈ [{ hub with sec := { hub.sec with otp := { hub.sec.otp with slotState := [(1, 1)] } } }],
        RunsOn 0xC04 (kindPacket (pk 0xD000 [0, 0, 0]) 1 0 1) s ∧ (revoked [1, 0, 0] s).isSome = true)
    ∧ (revoked [2, 1, 0] hub).isSome = true
    ∧ hub.sec.otp.debugDisable = false ∧ hub.sec.flashJobs = [] ∧ hub.sec.trngOk = true
    ∧ (∀ s ∈ [{ hub with sec := { hub.sec with otp := { hub.sec.otp with allowDevsig := true } } }],
        RunsOn 0x00E (pk 0 []) s ∧ s.sec.otp.allowDevsig = true) := by
  simp only [RunsOn, Runs, Taken]; decide +kernel

/-! ### Stalls -/

/-- A stall that runs bundle `raw` as stall 0, with an outbound port 0 to stall 1, a packet on inbound port 1, and a
writable window of the hayloft at 0. -/
def runningStall (raw : BitVec 128) : Stall := { Stall.fresh with
  state := .running, mode := 1, imem := [(0, raw)], wins := [⟨0, true, 0, 16⟩],
  outs := [(0, some ⟨4, 1, 0, 0, 16, 0, 0, false, false, []⟩)], ins := [(1, ⟨[2], 0, false, 0⟩)] }

/-- The hub with that stall. -/
def hubStall (raw : BitVec 128) : State := hub.setStall 0 (runningStall raw)

/-- Bundles of one operation, the other slots NOP: scalar, MOVI, vector (on VD 2), load or store (with VT 1, OFF). -/
def sB (op : Nat) : BitVec 128 := BitVec.ofNat 128 (op * 2 ^ 2 + 1 * 2 ^ 10)
def moviB : BitVec 128 := BitVec.ofNat 128 (1 + 0x16 * 2 ^ 2 + 1 * 2 ^ 10 + 7 * 2 ^ 88)
def vB (op : Nat) : BitVec 128 := BitVec.ofNat 128 (op * 2 ^ 40 + 2 * 2 ^ 49)
def mB (op off : Nat) : BitVec 128 := BitVec.ofNat 128 (op * 2 ^ 88 + 1 * 2 ^ 94 + off * 2 ^ 105)

/-- The bundle issues on stall 0. -/
def issuesB (s : State) (raw : BitVec 128) : Bool :=
  s.executes 0 raw && !(s.stall 0).lock && (s.libStop 0 raw).isNone && (match issueOn 0 (s.stall 0) raw s with | .ok (some _) => true | _ => false)

theorem issues_of_issuesB {s : State} {raw : BitVec 128} (h : issuesB s raw = true) :
    s.executes 0 raw = true ∧ (s.stall 0).lock = false ∧ s.libStop 0 raw = none ∧ ∃ i, issueOn 0 (s.stall 0) raw s = .ok (some i) := by
  unfold issuesB at h
  split at h <;> simp_all

theorem memSlot_idle {n : Nat} {x : Stall} {raw : BitVec 128} {f : BitVec 512} {s : State} (h : bM raw = 0) :
    memSlot n x raw f s = .ok (some .none) := by
  unfold memSlot; simp [h]

/-- Scalar opcodes but MOVI and TRAP. -/
def scalarOps : List Nat := [0x00, 0x01, 0x02, 0x03, 0x04, 0x05, 0x06, 0x07, 0x08, 0x09, 0x0A, 0x0B, 0x0C, 0x0D, 0x10, 0x11,
  0x12, 0x13, 0x14, 0x15, 0x20, 0x21, 0x22, 0x23, 0x24, 0x25, 0x26, 0x30, 0x31, 0x38, 0x3A, 0x3B]

/-- What Issues asks of a bundle whose load/store slot is idle. -/
def idleB (raw : BitVec 128) (s : State) : Bool :=
  s.executes 0 raw && !(s.stall 0).lock && (s.libStop 0 raw).isNone && !(s.stall 0).badBundles.contains (s.stall 0).regs.pc.toNat && bundleOk raw
    && bM raw == 0

theorem issues_of_idleB {raw : BitVec 128} {s : State} (h : idleB raw s = true) : Issues 0 raw .none s := by
  simp only [idleB, Bool.and_eq_true, Bool.not_eq_true', beq_iff_eq, Option.isNone_iff_eq_none] at h
  obtain ⟨⟨⟨⟨⟨a, b⟩, l⟩, c⟩, d⟩, e⟩ := h
  exact ⟨a, b, l, by simpa using c, d, memSlot_idle e⟩

theorem witness_ScalarOpsWriteTheirResult : ∀ op ∈ scalarOps, idleB (sB op) (hubStall (sB op)) = true ∧ bS (sB op) = op := by decide +kernel

theorem witness_ScalarOpsWriteTheirResult_movi : idleB moviB (hubStall moviB) = true ∧ bS moviB = 0x16 := by decide +kernel

theorem witness_ScalarOpsWriteTheirResult_premises :
    (runningStall (sB 0x30)).bad (paramBase + 4 * bf (sB 0x30) 27 20) 4 = false
    ∧ ((hubStall (sB 0x31)).getid 0 (bImm (sB 0x31))).isSome = true
    ∧ (runningStall 0).mode ≠ 2 ∧ (runningStall 0).xfers = [] ∧ (runningStall 0).regs.loops.length < 2 := by decide +kernel

theorem witness_LaneOpsWriteTheirLanes : ∀ op ∈ vOps, issuesB (hubStall (vB op)) (vB op) = true ∧ bV (vB op) = op := by
  decide +kernel

theorem witness_LoadsAndStoresMoveTheirBytes : ∀ op ∈ [0x01, 0x02, 0x03, 0x04, 0x05, 0x06, 0x07, 0x08, 0x09, 0x0A, 0x0D, 0x10, 0x11, 0x12],
    issuesB (hubStall (mB op 0)) (mB op 0) = true ∧ bM (mB op 0) = op := by decide +kernel

/-- QWAIT and QPOP on inbound port 1, and QPOP of a taken packet. -/
theorem witness_QueueAndTransferOpsAct_waits : issuesB (hubStall (mB 0x0B 1)) (mB 0x0B 1) = true
    ∧ (∀ x ∈ [{ runningStall (mB 0x0C 1) with ins := [(1, ⟨[2], 0, true, 1⟩)] }],
        (x.inp 1).packets = [2] ∧ (x.inp 1).current = true ∧ (x.inp 1).popped < 2) := by decide +kernel

/-- Stalls 0 and 1 as a lockstep pair on the same bundle. -/
def hubPair (raw : BitVec 128) : State :=
  (hub.setStall 0 { runningStall raw with lock := true }).setStall 1 { runningStall raw with lock := true, state := .checker }

theorem witness_RowsIssueTheirBundle_pair : ∀ s ∈ [hubPair (sB 0x01)],
    s.executes 0 (sB 0x01) = true ∧ slotOp (sB 0x01) .s = 0x01 ∧ (s.stall 0).lock = true
    ∧ SMap.get (s.stall 1).imem 0 (s.stall 1).regs.pc.toNat = sB 0x01 := by decide +kernel

theorem witness_RowsIssueTheirBundle : isaRow (.opAdd 0 (sB 0x01)) = some (.s, 0x01, 0, sB 0x01)
    ∧ (hubStall (sB 0x01)).executes 0 (sB 0x02) = false ∧ slotOp (sB 0x01) .s = 0x01 := by decide +kernel

theorem witness_IllegalBundlesFault :
    bundleOk (sB 0x3F) = false ∧ bundleOk (sB 0x26) = true ∧ bImm (BitVec.ofNat 128 (0x31 * 4 + 8 * 2 ^ 20)) = 8
    ∧ hub.getid 0 8 = none ∧ bS (sB 0x26) = 0x26 ∧ bSA (BitVec.ofNat 128 (0x26 * 4 + 1 * 2 ^ 15)) = 1
    ∧ (∀ r ∈ [{ Regs.zero with s := [(1, 5)], loops := [(0, 1, 1), (0, 2, 1)] }], r.sget 1 ≠ 0 ∧ 2 ≤ r.loops.length) := by
  decide +kernel

/-- A LINE-mode stall on ENDL, and stalls with a transfer under way. -/
theorem witness_EndsTrapsAndFencesAct : ∀ s ∈ [hub.setStall 0 { runningStall (sB 0x39) with mode := 2 }],
    idleB (sB 0x39) s = true ∧ (s.stall 0).mode = 2 ∧ (s.stall 0).xfers = [] := by decide +kernel

theorem witness_EndsTrapsAndFencesAct_wait :
    (∀ op ∈ [0x38, 0x3B], ∀ s ∈ [hub.setStall 0 { runningStall (sB op) with xfers := [⟨true, 0, 0, 64⟩] }],
      idleB (sB op) s = true ∧ (s.stall 0).mode ≠ 2 ∧ (s.stall 0).xfers ≠ [])
    ∧ ∀ s ∈ [hub.setStall 0 { runningStall (sB 0x39) with mode := 2, xfers := [⟨true, 0, 0, 64⟩] }],
      idleB (sB 0x39) s = true ∧ (s.stall 0).mode = 2 ∧ (s.stall 0).xfers ≠ [] := by decide +kernel

/-- The clauses of BranchesAndLoopsMoveThePc on a loop: at its last bundle with iterations left, and before it. -/
theorem witness_BranchesAndLoopsMoveThePc : ∀ r ∈ [{ Regs.zero with pc := 3, loops := [(1, 3, 2)] }],
    r.loops = [(1, r.pc, 2)] ∧ 1 < 2 ∧ ({ r with pc := 2 } : Regs).pc ≠ 3 ∧ Regs.zero.loops = []
    ∧ Regs.zero.sget 1 = 0 ∧ r.loops.length < 2 := by decide +kernel

theorem witness_LoadsAndStoresMoveTheirBytes_hayloft :
    issuesB (hubStall (mB 0x01 0 + BitVec.ofNat 128 (2 ^ 124))) (mB 0x01 0 + BitVec.ofNat 128 (2 ^ 124)) = true
    ∧ bSPACE (mB 0x01 0 + BitVec.ofNat 128 (2 ^ 124)) = 1 := by decide +kernel

theorem witness_QueueAndTransferOpsAct :
    ((runningStall 0).out 0).isSome = true
    ∧ (∀ o ∈ [(⟨4, 1, 0, 0, 16, 0, 0, false, false, []⟩ : OutPort)], o.flushPending = false ∧ o.flushed = false ∧ o.consumer ≠ 0)
    ∧ ((hubStall 0).producerOf 1 0).isSome = true ∧ ((runningStall 0).inp 0).packets = []
    ∧ bOFF (mB 0x12 0) < [(⟨true, 0, 0, 64⟩ : Xfer)].length := by decide +kernel

theorem witness_BundleFieldsReadBack :
    (⟨0, 0xFF, 31, 31, 2 ^ 20 - 1, 511, 63, 63, 63, 63, 7, 1, 63, 3, 1, 1, 1, 63, 63, 31, 65535, 7, 3, 0⟩ : BundleFields).wf = true
    ∧ (⟨1, 0x16, 1, 0, 0, 0, 0, 0, 0, 0, 0, 0, 0, 0, 0, 0, 0, 0, 0, 0, 0, 0, 0, 2 ^ 32 - 1⟩ : BundleFields).wf = true := by decide +kernel

theorem witness_KernelsLaunchFresh : ∀ x ∈ [{ Stall.fresh with kernel := some ⟨1, 1, 15, true, false, false, false, 5⟩ }],
    x.kernel = some ⟨1, 1, 15, true, false, false, false, 5⟩ ∧ x.params = [] ∧ x.state ≠ .checker := by decide +kernel

theorem witness_AccumulatorAndPredicateOpsAct :
    issuesB (hubStall (vB 0x040 + BitVec.ofNat 128 (2 ^ 86))) (vB 0x040 + BitVec.ofNat 128 (2 ^ 86)) = true
    ∧ bP12 (vB 0x040 + BitVec.ofNat 128 (2 ^ 86)) = true ∧ bP12 (vB 0x040) = false := by decide +kernel

/-! ### The host bridge, rings, DMA and Ethernet -/

/-- A sleep entry that every domain has agreed to, and one whose domain 0 is in its delay. -/
def agreed : EntrySt := ⟨.stow, false, true, 0, 53, none⟩
def asking : EntrySt := ⟨.stow, false, true, 0, 0, some 0⟩

theorem witness_RegisterWritesLandOrAreLogged : hub.bridgeOpen = true
    ∧ (∀ off ∈ [0x40400, 0x20000], pageAssigned (off / 0x10000) = true ∧ fusedReg hub.part.ab off = false
        ∧ hub.darkReg off = false)
    ∧ isST 0x40400 = false ∧ isST 0x40404 = false ∧ isST 0x20000 = true ∧ hub.winOpen = false
    ∧ (hubFill (List.replicate 4096 entryOk)).groom.staging.fill.length = 4096
    ∧ (hubFill (List.replicate 4096 entryOk)).bridgeOpen = true := by decide +kernel

theorem witness_RegisterWritesLandOrAreLogged_dropped : pageAssigned 0xFF = false
    ∧ (∀ s ∈ [{ hub with regs := [] }], s.darkReg (R.GATE_CTRL 0 0) = true ∧ pageAssigned (R.GATE_CTRL 0 0 / 0x10000) = true)
    ∧ (∀ off ∈ [R.HEAD_CTRL 0], fusedReg true off = false) ∧ fusedReg true (R.STALL_STATUS 255) = true := by decide +kernel

theorem witness_WideStagedWritesAreOneEntry : isST (R.GATE_CROP_X 0 0) = true ∧ isST (R.GATE_CROP_X 0 0 + 4) = true
    ∧ R.GATE_CROP_X 0 0 % 8 = 0 ∧ fusedReg hub.part.ab (R.GATE_CROP_X 0 0) = false
    ∧ hub.darkReg (R.GATE_CROP_X 0 0) = false := by decide +kernel

theorem witness_OwnStepRegistersAct : hub.regsWf = true
    ∧ hub.flag (R.CMD_Q_CTRL 0) F.CMD_Q_CTRL_EN = false ∧ hub.holdsWork 0x2F = false ∧ hub.dark 0x2F = false
    ∧ hub.dmaState 0 = Ds.OFF ∧ hub.dark 0x2D = false ∧ fusedReg hub.part.ab (R.TEST_PCHK 0) = false
    ∧ hub.darkReg (R.TEST_PCHK 0) = false ∧ laneLacks (R.TEST_PCHK 0) = false ∧ hub.dark 0x30 = false
    ∧ hub.flag R.ETH_MDIO_CMD F.ETH_MDIO_CMD_BUSY = false
    ∧ (hub.setFlag R.ETH_MDIO_CMD F.ETH_MDIO_CMD_BUSY true).flag R.ETH_MDIO_CMD F.ETH_MDIO_CMD_BUSY = true := by decide +kernel

theorem witness_LatchedReadsKeepTheirGroup :
    (∀ first ∈ [0 + R.TICK_COUNT_LO, R.TB_NS 0, R.PPS_IN_NS, R.PWR_RTC_LO, R.TEST_BITS_LO 0],
      fusedReg hub.part.ab first = false ∧ hub.darkReg first = false) ∧ R.TICK_COUNT_LO % 8 = 0
    ∧ ({ hub with host := { hub.host with d3hot := true } } : State).bridgeOpen = false
    ∧ (∀ s ∈ [hub.setReg R.PWR_READY_HI 0xFFFFFFFE], s.darkReg (R.TEST_BITS_LO 0) = true ∧ s.bridgeOpen = true) := by
  decide +kernel

/-- Ring pair 0 enabled with 256 units. -/
def hubRing : State :=
  (hub.setFld (R.CMD_Q_CTRL 0) F.CMD_Q_CTRL_LOG2_UNITS 8).setFlag (R.CMD_Q_CTRL 0) F.CMD_Q_CTRL_EN true

theorem witness_RingsAndBar2Accesses : hubRing.groomRuns = true ∧ hubRing.ringActive 0 = true ∧ hub.ringActive 0 = false
    ∧ (∀ t ∈ [hubRing.setFld (R.CMD_SQ_TAIL 0) F.CMD_SQ_TAIL_TAIL 4], t.groomRuns = true ∧ t.ringActive 0 = true)
    ∧ (∀ r ∈ [(writePlain (R.CMD_RQ_HEAD 0) (w32 0) hubRing).pumpRing 0],
        r.bridgeOpen = true ∧ r.groomRuns = true ∧ r.ringActive 0 = true) := by decide +kernel

theorem witness_RingsAndBar2Accesses_bar2 : ∀ s ∈ [hub.setFld R.FS_BAR2_BASE F.FS_BAR2_BASE_BASE 0x40],
    inHeap (s.bar2Phys 0) 64 = true ∧ s.bar2Dark (s.bar2Phys 0) 64 = false ∧ s.poisonIn (s.bar2Phys 0) 64 = []
    ∧ s.memWf = true ∧ inHeap (hub.bar2Phys 0) 0x200000000 = false
    ∧ (∀ d ∈ [{ s with test := { s.test with mem := some ⟨0x220, 0, 0x0C000000, 0x80000000⟩ } }],
        d.bar2Dark (d.bar2Phys 0) 64 = true) := by decide +kernel

/-- A descriptor of one 64-byte line to the frame store, and the channel that runs it. -/
def desc0 : Desc := ⟨0x1000, [1, 0, 64, 0x2000, 0, 0x0C000000, 0, 0]⟩
def hubDma (p : DmaPhase) : State := (hub.setDmaState 0 Ds.RUNNING).setChan 0 { Chan.idle with phase := p, desc := some desc0 }

theorem witness_DmaRunsFetchMoveAndEnd :
    (∀ s ∈ [hubDma .fetch], s.dmaState 0 = Ds.RUNNING ∧ (s.chan 0).phase = .fetch ∧ (s.chan 0).wrote = false
      ∧ s.descBad ⟨0, desc0.words⟩ = false ∧ s.descError ⟨0, desc0.words⟩ = 0 ∧ desc0.p2h = false
      ∧ s.descBad ⟨0, [0x1C, 0, 64, 0, 0, 0, 0, 0]⟩ = true)
    ∧ (∀ s ∈ [hubDma .data], (s.chan 0).phase = .data ∧ (s.chan 0).desc = some desc0 ∧ s.descDark desc0 = false
      ∧ (s.chan 0).disabling = false ∧ desc0.isEnd = true
      ∧ (dmaMove 0 desc0.total desc0 (List.replicate 64 1) s).1.err = 0) := by decide +kernel

theorem witness_DmaRunsFetchMoveAndEnd_ends :
    (∀ p ∈ [DmaPhase.tail true, .tail false, .readback 1, .readback 0], ((hubDma p).chan 0).phase = p
      ∧ (hubDma p).dmaState 0 = Ds.RUNNING)
    ∧ (Desc.isEnd ⟨0, [0, 0, 64, 0, 0, 0, 0, 0]⟩ = false)
    ∧ (∀ s ∈ [hub.setReg (R.DMA_CTRL 0) (F.DMA_CTRL_START.put 1 0)],
        startIs 1 (fun _ => true) (s.reg (R.DMA_CTRL 0)) = true ∧ s.holdsWork 0x2F = false)
    ∧ (∀ s ∈ [{ hubDma .data with test := { hub.test with mem := some ⟨0x220, 0, 0x0C000000, 4096⟩ } }],
        s.descDark desc0 = true ∧ (s.chan 0).wrote = false)
    ∧ (∀ s ∈ [(hubDma .none).setDmaState 0 Ds.ABORTING |>.setChan 0 { Chan.idle with
        phase := .abortBurst, desc := some desc0, moved := 32, wrote := true }],
        s.dmaState 0 = Ds.ABORTING ∧ (s.chan 0).phase = .abortBurst ∧ (s.chan 0).moved ≠ 0 ∧ (s.chan 0).wrote = true)
    ∧ ((hubDma (.readback 2)).setDmaState 0 Ds.ABORTING).dmaState 0 = Ds.ABORTING := by decide +kernel

/-- ETH0 enabled with allow entry 0 and port 0 enabled for commands; a frame of one PING. -/
def hubEth : State :=
  ((((hub.setFlag (R.ETH_CTRL 0) F.ETH_CTRL_EN true).setReg (R.ETH_MAC_LO 0) 0x03040506).setReg (R.ETH_MAC_HI 0)
    0x0102).setFld R.CMD_ETH_CTRL F.CMD_ETH_CTRL_PORT_EN 1).setFlag (R.CMD_ETH_ALLOW_HI 0) F.CMD_ETH_ALLOW_HI_VALID true

def pingFrame : EthFrame := ⟨hubEth.mac 0, hubEth.allowMac 0, none, 0x88B5,
  [1, 1, 5, 0, 1, 0, 0, 0] ++ List.replicate 16 0 ++ List.replicate 22 0, true⟩

theorem witness_EthernetFramesChainsAndMdio : hubEth.ethOn 0 = true ∧ hubEth.holdsWork 0x30 = false
    ∧ hubEth.frameOk 0 pingFrame = true ∧ hubEth.groomRuns = true ∧ hubEth.sender pingFrame = some 0
    ∧ hubEth.fld R.CMD_ETH_CTRL F.CMD_ETH_CTRL_PORT_EN / 2 ^ 0 % 2 ≠ 0 ∧ bAt pingFrame.payload 1 = 1
    ∧ (frameCmds 0 pingFrame).isSome = true ∧ (hubEth.port 8).replay = []
    ∧ hubEth.frameOk 0 { pingFrame with fcsOk := false } = false
    ∧ hubEth.frameOk 0 { pingFrame with dst := 0x0180C200000E, etherType := 0x88F7 } = true
    ∧ hubEth.sender { pingFrame with src := 1 } = none := by decide +kernel

theorem witness_EthernetFramesChainsAndMdio_chains :
    (setChain .twt (some ⟨false, 1, 4, false, [], none⟩) hub).chainOf .twt = some ⟨false, 1, 4, false, [], none⟩
    ∧ hub.chainOf .twt = none ∧ (∀ s ∈ [(hub.setFlag R.ETH_MDIO_CMD F.ETH_MDIO_CMD_BUSY true)],
      s.dark 0x30 = false ∧ s.flag R.ETH_MDIO_CMD F.ETH_MDIO_CMD_BUSY = true ∧ s.flag R.ETH_MDIO_CMD F.ETH_MDIO_CMD_CL45 = false
      ∧ s.fld R.ETH_MDIO_CMD F.ETH_MDIO_CMD_OP ≠ 2 ∧ (s.setFld R.ETH_MDIO_CMD F.ETH_MDIO_CMD_OP 2).fld R.ETH_MDIO_CMD
        F.ETH_MDIO_CMD_OP = 2) := by decide +kernel

/-! ### Lanes and links -/

/-- The hub with lane `x` in a lane state and with lane data. -/
def laneAt (x st : Nat) (l : LaneDyn) : State := (hub.setFld (R.LANE_STATUS x) F.LANE_STATUS_STATE st).setLane x l

theorem witness_LanesDetectAndTrain :
    (∀ x ∈ [0, 32], hub.dark (laneDomain x) = false)
    ∧ (∀ s ∈ [laneAt 0 Ls.detect { LaneDyn.rest with ownBursts := 2, partnerBursts := 2 }],
        s.laneState 0 = Ls.detect ∧ 2 ≤ (s.lane 0).ownBursts ∧ 2 ≤ (s.lane 0).partnerBursts ∧ (s.lane 0).holdoff = false)
    ∧ (laneAt 0 Ls.detect { LaneDyn.rest with holdoff := true }).laneState 0 = Ls.detect ∧ hub.laneState 0 ≠ Ls.train := by
  decide +kernel

/-- A lane in train whose eye limit is 40; eyes of 8 × 8 and 32 × 38 steps. -/
theorem witness_LanesDetectAndTrain_train :
    ∀ s ∈ [(laneAt 0 Ls.train { LaneDyn.rest with rate := 2 }).setFld (R.LANE_THRESH 0) F.LANE_THRESH_TRAIN_MIN 40],
      s.laneState 0 = Ls.train ∧ s.bonded 0 = false ∧ s.fld (R.LANE_THRESH 0) F.LANE_THRESH_TRAIN_MIN ≤ eyeIndex 32 38
      ∧ eyeIndex 8 8 < s.fld (R.LANE_THRESH 0) F.LANE_THRESH_TRAIN_MIN
      ∧ (s.setFlag (R.LANE_CTRL 0) F.LANE_CTRL_FALLBACK true).flag (R.LANE_CTRL 0) F.LANE_CTRL_FALLBACK = true
      ∧ 0 < (s.lane 0).rate ∧ (s.lane 0).trained = false ∧ s.rateStands 0 = true ∧ s.repeats 0 = false
      ∧ s.mateSet 0 = false ∧ s.fastStart 0 = false
      ∧ (s.setFlag (R.LANE_CTRL 0) F.LANE_CTRL_FALLBACK false).flag (R.LANE_CTRL 0) F.LANE_CTRL_FALLBACK = false := by decide +kernel

/-- RX00 and RX01 bonded, both in align, RX01 locked. -/
def hubBond : State :=
  ((((hub.setFlag (R.LANE_CTRL 0) F.LANE_CTRL_BOND true).setFld (R.LANE_STATUS 0) F.LANE_STATUS_STATE Ls.align).setFld
    (R.LANE_STATUS 1) F.LANE_STATUS_STATE Ls.align)).setLane 1 { LaneDyn.rest with aligned := true }

theorem witness_LanesAlignAndDrop :
    (∀ s ∈ [hubBond], s.laneState 0 = Ls.align ∧ s.bonded 0 = true ∧ s.laneState (mate 0) = Ls.align
      ∧ (s.lane (mate 0)).aligned = true ∧ s.dark (laneDomain 0) = false)
    ∧ (∀ s ∈ [hubBond.setFld (R.LANE_STATUS 1) F.LANE_STATUS_STATE Ls.up], s.laneState 0 = Ls.align
      ∧ s.bonded 0 = true ∧ s.laneState (mate 0) = Ls.up)
    ∧ (∀ s ∈ [laneAt 0 Ls.align LaneDyn.rest], s.laneState 0 = Ls.align ∧ s.bonded 0 = false)
    ∧ (laneAt 0 Ls.up LaneDyn.rest).laneState 0 = Ls.up ∧ hub.test.eye = none
    ∧ (∀ s ∈ [laneAt 32 Ls.deep LaneDyn.rest], s.laneState 32 = Ls.deep ∧ s.dark (laneDomain 32) = false)
    ∧ (laneAt 0 Ls.off LaneDyn.rest).laneState 0 = Ls.off := by decide +kernel

theorem witness_LanesEnterAndLeaveLowPower :
    (∀ s ∈ [laneAt 0 Ls.up { LaneDyn.rest with pmReq := some (5, 1) }], s.holdsWork (laneDomain 0) = false
      ∧ s.linkLive 0 = true ∧ s.laneUp 0 = true ∧ s.lead 0 = true ∧ (s.lane 0).pmReq = some (5, 1)
      ∧ (s.setFlag (R.LANE_CTRL 0) F.LANE_CTRL_ROLE true).lead 0 = false)
    ∧ ((laneAt 0 Ls.up { LaneDyn.rest with pmReq := some (5, 3) }).lane 0).pmReq = some (5, 3)
    ∧ (∀ x ∈ [0, 32], ∀ s ∈ [laneAt x Ls.deep LaneDyn.rest], s.laneState x = Ls.deep ∧ s.linkLive x = true
      ∧ s.fld (R.LANE_THRESH x) F.LANE_THRESH_TRAIN_MIN ≤ 255) := by decide +kernel

theorem witness_LinkMessagesArriveWhole :
    (laneMessage (.keepalive 32 hd)).isSome = true ∧ hub.holdsWork (laneDomain 32) = false ∧ hub.linkLive 32 = false
    ∧ (laneAt 32 Ls.up LaneDyn.rest).linkLive 32 = true ∧ ({ hd with crcOk := false } : MsgHdr).crcOk = false
    ∧ (∀ s ∈ [{ laneAt 32 Ls.up LaneDyn.rest with pwr := { hub.pwr with entry := some agreed } }],
        s.holdsWork (laneDomain 32) = true) := by decide +kernel

/-- TX00 repeats RX00 and relays its messages. -/
def hubRelay : State :=
  (laneAt 0 Ls.up LaneDyn.rest).setLane 32 { LaneDyn.rest with repeating := true } |>.setReg (R.LANE_REPEAT 32) 0xFFFFFFFF
    |>.setFld (R.LANE_REPEAT 32) F.LANE_REPEAT_SRC 0

theorem witness_LinkMessagesHaveTheirEffect :
    (∀ x ∈ [0, 32], ∀ s ∈ [laneAt x Ls.up LaneDyn.rest], s.holdsWork (laneDomain x) = false ∧ s.linkLive x = true
      ∧ s.relayTo x = none ∧ (s.incSat (R.LINK_MSG x) F.LINK_MSG_NAK 1).relayTo x = none)
    ∧ (laneAt 32 Ls.train LaneDyn.rest).laneState 32 = Ls.train ∧ hubRelay.relayTo 0 = some 32 ∧ hubRelay.linkLive 0 = true
    ∧ (∀ s ∈ [(laneAt 0 Ls.up LaneDyn.rest).setLink 0 { LinkDyn.none with trigs := [9], ident := some (List.replicate 32 1) }],
        (9 : BitVec 16) ∈ (s.link 0).trigs ∧ s.linkLive 0 = true ∧ (s.link 0).ident = some (List.replicate 32 1)
        ∧ s.relayTo 0 = none ∧ (rxFrameStatus 0 (List.replicate 16 0) s).relayTo 0 = none)
    ∧ roundUpHalf ((5 : Int) * 1000 - 0 - hubRelay.oneWay 32) 1000 < 1000
    ∧ 1000 ≤ roundUpHalf ((100000 : Int) * 1000 - 0 - hubRelay.oneWay 32) 1000 := by decide +kernel

theorem witness_LinkTimersAndCalibration :
    (∀ s ∈ [(laneAt 0 Ls.up LaneDyn.rest).setLink 0 { LinkDyn.none with cal := some ⟨3, 1, [], false⟩, gpioSent := some (0, 0) }],
      s.linkLive 0 = true ∧ (s.link 0).cal = some ⟨3, 1, [], false⟩ ∧ s.laneUp 0 = true
      ∧ (s.link 0).gpioSent = some (0, s.fld (R.LINK_GPIO 0) F.LINK_GPIO_MASK))
    ∧ (∀ s ∈ [((laneAt 0 Ls.up LaneDyn.rest).setLink 0 { LinkDyn.none with gpioSent := some (0, 1) }).setReg (R.LINK_GPIO 0)
          (F.LINK_GPIO_MASK.put 1 (F.LINK_GPIO_OUT.put 1 0))],
        s.laneUp 0 = true ∧ (s.link 0).gpioSent = some (0, s.fld (R.LINK_GPIO 0) F.LINK_GPIO_MASK)
        ∧ s.fld (R.LINK_GPIO 0) F.LINK_GPIO_OUT = 1) := by decide +kernel

theorem witness_PartnersComeAndGo :
    (∀ k ∈ [none, some (List.replicate 32 (1 : Byte)), some (List.replicate 32 2)],
      ∀ s ∈ [(laneAt 0 Ls.up LaneDyn.rest).setLink 0 { LinkDyn.none with ident := k, calling := true }],
        s.holdsWork (laneDomain 0) = false ∧ s.laneUp 0 = true ∧ (s.link 0).calling = true ∧ (s.link 0).ident = k
        ∧ SMap.find s.pwr.idents 0 = none)
    ∧ (∀ s ∈ [(laneAt 0 Ls.up LaneDyn.rest).setLink 0 { LinkDyn.none with auth := some ⟨[1], true⟩ }],
        s.linkLive 0 = true ∧ (s.link 0).auth = some ⟨[1], true⟩ ∧ s.sec.allow = [])
    ∧ (∀ s ∈ [{ hubPartner with pwr := { hub.pwr with awaitPartner := [0] } }], 0 ∈ s.pwr.awaitPartner
        ∧ s.partnerKnown 0 = true) := by decide +kernel

/-- The clause of an allowed key: the list holds the digest of the key. -/
theorem witness_PartnersComeAndGo_key (key : List Byte) :
    ({ hub with sec := { hub.sec with allow := [Config.sha384 key] } } : State).sec.allow.findIdx? (· == Config.sha384 key)
      = some 0 := by simp [List.findIdx?_cons]

theorem witness_CodewordsAndTunnels :
    (∀ s ∈ [laneAt 0 Ls.up { LaneDyn.rest with cwIndex := 1 }], s.dark (laneDomain 0) = false ∧ s.laneState 0 = Ls.up
      ∧ s.bonded 0 = false ∧ 0 < (s.lane 0).cwIndex) := by decide +kernel

/-- A codeword of zeros is whole. -/
theorem witness_CodewordsAndTunnels_clean : rsDecode (List.replicate 240 0) = some (List.replicate 240 0, false) := by
  refine rsDecode_clean ?_
  rw [← List.append_nil (List.replicate 240 0), syndromes_zeros]; decide +kernel

/-- One with a wrong byte is corrected. -/
theorem witness_CodewordsAndTunnels_corrected :
    rsDecode (List.replicate 239 0 ++ [7]) = some (List.replicate 240 0, true) := by
  refine rsDecode_corrected (fixed := List.replicate 239 (0, false) ++ [(0, true)]) ?_ ?_ ?_ ?_ ?_ ?_
  · rw [syndromes_zeros]; decide +kernel
  · rw [rsFixed, syndromes_zeros]; decide +kernel
  · rw [syndromes_zeros]; decide +kernel
  · rw [syndromes_zeros]; decide +kernel
  · decide +kernel
  · rw [← List.append_nil (List.replicate 240 0), syndromes_zeros]; decide +kernel

/-- One whose errors are the code with one root less is beyond correction. -/
theorem witness_CodewordsAndTunnels_lost : rsDecode (List.replicate 224 0
    ++ [1, 29, 196, 111, 163, 112, 74, 10, 105, 105, 139, 132, 151, 32, 134, 26]) = none := by
  refine rsDecode_lost ?_ ?_ <;> rw [syndromes_zeros] <;> decide +kernel

theorem witness_CodewordsAndTunnels_tunnel :
    (∀ s ∈ [(laneAt 0 Ls.up LaneDyn.rest).setTwc 32 { TwCtl.idle with active := true, reqSeq := 7 }],
      s.holdsWork (laneDomain 0) = false ∧ s.linkLive 0 = true ∧ (s.twc 32).active = true ∧ (s.twc 32).reqSeq = hd.seq.toNat)
    ∧ (hub.twc 32).active = false ∧ (laneAt 0 Ls.up LaneDyn.rest).relayTo 0 = none := by decide +kernel

/-! ### Ticks, time bases, power, boot and security -/

/-- The hub in RUN with ticks, with a frozen set. -/
def hubFrozen (f : Frozen) : State := { hubRun with groom := { hub.groom with staging := ⟨[], [], some f⟩ } }

theorem witness_TicksSealAndApplySets : hubRun.sealing = true ∧ hubRun.groom.staging.frozen = none ∧ hub.sealing = false
    ∧ hubRun.tg.running = true ∧ hubRun.pwr.entry = none ∧ hub.tg.running = false ∧ hubRun.groom.up = true
    ∧ (∀ v ∈ [none, some Verdict.pass, some (.fail 1 2 0x2000)], ∀ f ∈ [(⟨[entryOk], false, v⟩ : Frozen)],
        (hubFrozen f).groom.staging.frozen = some f ∧ f.void = false ∧ f.entries ≠ [] ∧ f.verdict = v
        ∧ f.entries = entryOk :: [])
    ∧ (⟨[], true, none⟩ : Frozen).void = true := by decide +kernel

theorem witness_WorkOfATickEnds :
    ((hub.stall 0).state ≠ .running ∧ (hub.stall 0).xfers = [] ∧ (hub.stall 0).launchOnRestart = false)
    ∧ ((hubStall 0).stall 0).state = .running ∧ (hub.stall 0).loadingObj = none
    ∧ (∀ s ∈ [hub.setHead 0 { Head.rest with owes := some ⟨3, 0, false⟩ }], (s.head 0).owes = some ⟨3, 0, false⟩)
    ∧ (∀ s ∈ [hub.setStall 0 { Stall.fresh with loadingObj := some ⟨1, 1, 15, []⟩ }],
        (s.stall 0).loadingObj = some ⟨1, 1, 15, []⟩ ∧ (s.stall 0).lock = false)
    ∧ (∀ s ∈ [hub.setStall 15 { Stall.fresh with launchOnRestart := true }],
        (∀ i, i < 15 → (s.stall (16 * 0 + i)).launchOnRestart = false) ∧ (s.stall (16 * 0 + 15)).launchOnRestart = true) := by
  decide +kernel

/-- Time base 0 in MODE GPTP on ETH0, a slave or a master. -/
def hubPtp (state : Nat) (g : Gptp) : State :=
  (((hub.setFlag (R.ETH_CTRL 0) F.ETH_CTRL_EN true).setFld (R.TB_CTRL 0) F.TB_CTRL_MODE 1).setFld (R.TB_STATUS 0)
    F.TB_STATUS_PORT_STATE state).setGptp 0 g

theorem witness_GptpMessagesReachTheirInstance : hubEth.ethUp 0 = true ∧ hubEth.gptpOf 0 0 = none
    ∧ (∀ s ∈ [hubPtp 1 { Gptp.idle with sync := some (5, 100, 0), pdReq := some (5, some 10), pdResp := some (5, 20, 40), asCapable := true }],
      (s.ethUp 0 = true ∧ s.gptpOf 0 0 = some 0 ∧ s.tbSlave 0 = true ∧ s.asCapable 0 = true)
      ∧ (s.gptp 0).sync = some (5, 100, 0) ∧ (s.gptp 0).pdReq = some (5, some 10) ∧ (s.gptp 0).pdResp = some (5, 20, 40)
      ∧ (s.gptp 0).pdLast = none)
    ∧ (∀ s ∈ [hubPtp 2 Gptp.idle], s.gptpOf 0 0 = some 0 ∧ s.tbSlave 0 = false ∧ (s.gptp 0).sync = none)
    ∧ (∀ k ∈ [1, 2], ((hubPtp 1 Gptp.idle).setFld (R.TB_GPTP 0) F.TB_GPTP_ROLE k).fld (R.TB_GPTP 0) F.TB_GPTP_ROLE = k) := by
  decide +kernel

theorem witness_TimeBasesAndPpsPins :
    (∀ s ∈ [hubPtp 2 Gptp.idle], s.tbMaster 0 = true ∧ s.ethUp (s.fld (R.TB_GPTP 0) F.TB_GPTP_PORT) = true ∧ s.tbMode 0 = 1
      ∧ (s.setFlag (R.TB_GPTP 0) F.TB_GPTP_PDELAY_EN true).flag (R.TB_GPTP 0) F.TB_GPTP_PDELAY_EN = true)
    ∧ hub.tbMaster 0 = false ∧ hub.tbMode 0 ≠ 1 ∧ hub.dark 0x30 = false ∧ SMap.get hub.clk.txts [] 0 = []
    ∧ (∀ q ∈ [List.replicate 16 (⟨0, 0, 0, 0⟩ : TxStamp)], ∀ s ∈ [{ hub with clk := { hub.clk with txts := [(0, q)] } }],
        SMap.get s.clk.txts [] 0 = q ∧ 16 ≤ q.length ∧ ((s.incSat (R.ETH_TXTS 0) F.ETH_TXTS_OVERFLOW 1).gptp 0).syncSent ≠ some 1)
    ∧ (∀ s ∈ [hubPtp 1 Gptp.idle], s.tbFree 0 = false ∧ s.switched 0 = false ∧ s.flag (R.TB_PAIR 0) F.TB_PAIR_EN = false)
    ∧ (∀ s ∈ [((hubPtp 1 Gptp.idle).setFlag (R.TB_PAIR 0) F.TB_PAIR_EN true).setFld (R.TB_PAIR 0) F.TB_PAIR_PARTNER 1],
        s.tbFree 0 = false ∧ s.switched 0 = false ∧ s.flag (R.TB_PAIR 0) F.TB_PAIR_EN = true
        ∧ s.tbState (s.fld (R.TB_PAIR 0) F.TB_PAIR_PARTNER) ≠ 4 ∧ (switchOver 0 s).tbState 0 ≠ 4)
    ∧ hub.tbFree 0 = true := by decide +kernel

theorem witness_TimeBasesAndPpsPins_pins :
    (∀ s ∈ [hub.setTb 0 { Tb.zero with step := some 65536 }], s.tg.running = false ∧ (s.tb 0).step = some 65536)
    ∧ hub.groom.up = true ∧ hub.flag R.PPS_IN_CTRL F.PPS_IN_CTRL_EN = false
    ∧ (∀ s ∈ [{ (hub.setFlag R.PPS_IN_CTRL F.PPS_IN_CTRL_EN true) with clk := { hub.clk with localNs := 600000000, ppsInAt := some 200000000 } }],
        s.flag R.PPS_IN_CTRL F.PPS_IN_CTRL_EN = true ∧ s.clk.ppsInAt = some 200000000 ∧ s.clk.localNs - 200000000 < 500000000)
    ∧ (∀ s ∈ [hub.setFlag R.PPS_IN_CTRL F.PPS_IN_CTRL_EN true], s.flag R.PPS_IN_CTRL F.PPS_IN_CTRL_EN = true ∧ s.clk.ppsInAt = none)
    ∧ (∀ s ∈ [(hub.setFlag R.PPS_OUT_CTRL F.PPS_OUT_CTRL_EN true).setFlag R.PPS_OUT_CTRL F.PPS_OUT_CTRL_GATE true],
        s.flag R.PPS_OUT_CTRL F.PPS_OUT_CTRL_EN = true ∧ s.flag R.PPS_OUT_CTRL F.PPS_OUT_CTRL_GATE = true
        ∧ (s.setTbState 0 1).tbState (s.fld R.PPS_OUT_CTRL F.PPS_OUT_CTRL_SRC) ≠ 2
        ∧ (s.setTbState 0 2).tbState (s.fld R.PPS_OUT_CTRL F.PPS_OUT_CTRL_SRC) = 2 ∧ s.clk.ppsOutAt = none) := by decide +kernel

/-- The hub with a sleep entry, and one that sleeps in Stow. -/
def hubEntry (e : EntrySt) : State := { hub with pwr := { hub.pwr with entry := some e } }
def hubAsleep (k : SleepKind) (r : ResumePhase) : State :=
  { hub with pwr := { hub.pwr with kind := k, resume := r, pwrgood := false, pwrReq := r != .asleep } }

theorem witness_SleepEntriesAndWakes :
    (∀ s ∈ [hubEntry asking], s.pwr.entry = some asking ∧ asking.delaying = some 0 ∧ s.blocker 0 = none ∧ s.answerOf 0 = .agree)
    ∧ (∀ s ∈ [{ hubEntry { asking with delaying := some 0x2F } with regs := (hub.setDmaState 0 Ds.RUNNING).regs }],
        s.blocker 0x2F = some (1, false) ∧ s.answerOf 0x2F ≠ .agree)
    ∧ asking.agreed = false ∧ agreed.agreed = true
    ∧ (∀ s ∈ [hub.setReg R.PWR_WAKE 0x1F], bits (s.reg R.PWR_WAKE) 4 0 = 31 ∧ s.pwr.entry = none ∧ s.pwr.resume ≠ .asleep)
    ∧ (∀ s ∈ [(hubAsleep .stow .asleep).setReg R.PWR_WAKE 0x1F], s.pwr.entry = none ∧ s.pwr.resume = .asleep ∧ s.pwr.kind ≠ .off)
    ∧ bit ((hub.setReg R.PWR_WAKE_RX 1).reg R.PWR_WAKE_RX) 0 = true ∧ bit (hub.reg R.PWR_WAKE_RX) 0 = false
    ∧ bits ((hub.setReg R.PWR_WAKE 0).reg R.PWR_WAKE) 4 0 = 0
    ∧ (∀ s ∈ [(hub.setReg R.PWR_RTC_ALARM_LO 0).setReg R.PWR_RTC_ALARM_HI 0],
        s.pwr.rtc.toNat = (s.reg R.PWR_RTC_ALARM_LO).toNat + 2 ^ 32 * bits (s.reg R.PWR_RTC_ALARM_HI) 15 0)
    ∧ hub.pwr.rtc.toNat ≠ ((hub.setReg R.PWR_RTC_ALARM_LO 1).reg R.PWR_RTC_ALARM_LO).toNat
      + 2 ^ 32 * bits (hub.reg R.PWR_RTC_ALARM_HI) 15 0 := by decide +kernel

theorem witness_ResumesSuppliesAndTemperature :
    (∀ s ∈ [hubAsleep .stow .waitPwrgood], s.pwr.pwrgood = false ∧ s.pwr.pwrReq = true ∧ s.pwr.resume = .waitPwrgood)
    ∧ (∀ b ∈ [0, 0x31], ∀ s ∈ [{ hub with pwr := { hub.pwr with resume := .checking, toCheck := [b] } }],
        s.checkable b = true ∧ dramBank b = decide (b = 0x31))
    ∧ (∀ d ∈ [DState.config, .run], ∀ s ∈ [{ hub with dstate := d, pwr := { hub.pwr with resume := .checking, before := d } }],
        s.pwr.resume = .checking ∧ s.pwr.toCheck = [] ∧ s.dstate = d)
    ∧ (∀ s ∈ [{ hub with pwr := { hub.pwr with rebuild := [3] } }], 3 ∈ s.pwr.rebuild ∧ 3 ∉ s.pwr.rebuilt ∧ s.groom.up = true)
    ∧ hub.pwr.pwrgood = true ∧ hub.pwr.entry = none ∧ hub.pwr.resume ≠ .asleep
    ∧ (∀ s ∈ [hubAsleep .off .asleep], s.pwr.resume = .asleep ∧ s.pwr.kind = .off ∧ s.sec.bootFault = false) := by decide +kernel

theorem witness_ResumesSuppliesAndTemperature_temperature : hub.pwr.resume = .awake ∧ hub.ev.warnArmed = true
    ∧ hub.ev.critArmed = true ∧ hub.ev.critHot = false
    ∧ (∀ w ∈ [(hub.fld R.EV_TEMP F.EV_TEMP_WARN_C : Int)], ∀ c ∈ [(hub.fld R.EV_TEMP F.EV_TEMP_CRIT_C : Int)],
        w - 5 < w - 1 ∧ w - 1 < c - 5 ∧ w ≤ w ∧ w < c - 5) := by decide +kernel

theorem witness_BootsAndRestarts :
    (∀ s ∈ [{ State.reset with pwr := { Power.reset with pwrgood := true } }], s.dstate = .boot ∧ s.pwr.pwrgood = true
      ∧ s.sec.fwReady = false ∧ s.sec.fw = none
      ∧ (∀ v ∈ [{ s with sec := { s.sec with fwReady := true, trngOk := true, warm := true } }],
          v.dstate = .boot ∧ v.sec.fwReady = true ∧ v.sec.trngOk = true ∧ v.sec.warm = true))
    ∧ hub.dstate ≠ .boot ∧ hub.groom.up = true ∧ hub.groom.restarting = false ∧ State.reset.groom.up = false
    ∧ (∀ s ∈ [{ hub with groom := { hub.groom with up := false, restarting := true } }],
        s.groom.restarting = true ∧ s.groom.safeAfterRestart = false
        ∧ s.flag (R.EV_CTRL Ev.GROOM_MISCOMPARE) F.EV_CTRL_SAFE = false) := by decide +kernel

theorem witness_BootsAndRestarts_directory : State.reset.directory = none := by decide +kernel

theorem witness_SecurityEventsAct : hub.dark 0x33 = false
    ∧ ({ hub with sec := { hub.sec with trngOk := false } } : State).sec.trngOk = false
    ∧ (∀ s ∈ [{ hub with sec := { hub.sec with otpJobs := [(1, 5)] } }], s.sec.otpJobs = [(1, 5)] ∧ s.sec.otp.slot 1 ≠ 3)
    ∧ hub.sec.otpJobs = [] ∧ hub.sec.flashJobs = []
    ∧ (∀ k ∈ [0, 1, 2], ∀ j ∈ [(⟨⟨1, 0, []⟩, false, k, 0⟩ : FlashJob)], ∀ s ∈ [{ hub with sec := { hub.sec with flashJobs := [j] } }],
        s.sec.flashJobs = [j] ∧ j.kind = k)
    ∧ (∀ k ∈ hub.sec.creds, k.handle = 1) := by decide +kernel

/-! ### Gates, stalls, the frame store, heads, the codec, two-wire buses and tests -/

/-- A frame in progress on a context of RAW8 whose target word is `target`. -/
def frameOn (target : Word) : GFrame :=
  ⟨⟨0x80002A00, 0, 0, 0, target⟩, 1, 1, 0, 0, 0, 0, 0, 0, 0, 0, 0, [], [], false, 0, false, false, false, false, false, false, 0, 0,
    some 0, none, 0, false, 0⟩

/-- RX00 up with a ready partner, and context 0 of gate 0 open on it with a target word and a frame. -/
def hubGate (target : Word) (f : Option GFrame) (recs : Nat) : State :=
  ((((((laneAt 0 Ls.up LaneDyn.rest).setFld (R.LINK_PARTNER 0) F.LINK_PARTNER_STATE 3).setReg (R.GATE_CTRL 0 0) 0x80002A00).setReg
    (R.GATE_TARGET 0 0) target).setCtxState 0 0 Gs.opened).setCtx 0 0 { GCtx.free with frame := f, recCred := recs })

theorem witness_FramesOpenAndClose : ∀ t ∈ [1, 2, 3], ∀ s ∈ [hubGate (w32 t) none 2],
    (s.carries 0 = true ∧ s.matchCtx 0 0 = some 0 ∧ (s.ctx 0 0).frame.isNone = true ∧ s.holdsWork (laneDomain 0) = false)
    ∧ s.fld (R.LINK_PARTNER 0) F.LINK_PARTNER_STATE = 3 ∧ (s.gwords 0 0).kind = t ∧ (s.ctx 0 0).recCred = 2
    ∧ s.dstate ≠ .standalone ∧ s.matchCtx 0 1 = none := by decide +kernel

theorem witness_FramesOpenAndClose_claims :
    ((hubGate 2 none 1).matchCtx 0 0 = some 0 ∧ ((hubGate 2 none 1).ctx 0 0).recCred < 2)
    ∧ (∀ s ∈ [{ hubGate 1 none 2 with store := hubRun.store }], (claimSlot 0 16 s).1 = some 1)
    ∧ (claimSlot 0 16 hub).1 = none ∧ hub.carries 0 = false
    ∧ (∀ s ∈ [hubGate 1 (some (frameOn 1)) 2], s.matchCtx 0 0 = some 0 ∧ (s.ctx 0 0).frame.isSome = true) := by decide +kernel

theorem witness_FramesOpenAndClose_ends :
    ((hubGate 1 none 2).setFld (R.LINK_PARTNER 0) F.LINK_PARTNER_STATE 1).fld (R.LINK_PARTNER 0) F.LINK_PARTNER_STATE ≠ 3
    ∧ supportedDt 0x2A = true ∧ supportedDt 0x38 = false ∧ (hub.ctx 0 0).frame = none
    ∧ (∀ s ∈ [hub.setCtx 0 0 { GCtx.free with waitFs := true }], (s.ctx 0 0).waitFs = true)
    ∧ hub.inst 0 0 = none ∧ (∀ i ∈ [(⟨0, 0, 0, [0], [], [], false, false⟩ : HdrInst)], (hub.setInst 0 0 (some i)).inst 0 0 = some i)
    ∧ ({ hub with pwr := { hub.pwr with entry := some agreed } } : State).holdsWork (laneDomain 0) = true := by decide +kernel

theorem witness_PicturesAndCreditsLand :
    (∀ s ∈ [hubGate 1 (some (frameOn 1)) 2], s.carries 0 = true ∧ s.matchCtx 0 0 = some 0 ∧ (frameOn 1).set.gw.dt = 0x2A
      ∧ (frameOn 1).set.gw.kind = 1 ∧ wholePixels 0x2A 4 = true)
    ∧ wholePixels 0x2B 4 = false ∧ supportedDt 0x2B = true
    ∧ (∀ f ∈ [{ frameOn 1 with set := { (frameOn 1).set with ctrl := 0x8000AA00 } }], F.GATE_CTRL_EMB.get f.set.gw.ctrl = 1
      ∧ f.set.gw.kind = 1 ∧ f.slot = some 0 ∧ (hubRun.pad? (F.GATE_TARGET_PADDOCK.get f.set.gw.target)).isSome = true)
    ∧ (∀ s ∈ [hubRun.setPad 0 { pad0 with fills := [(0, some ⟨0, 4, 0, 0, 0, false, none, 0, 0, 0, 0, 0⟩)] }],
        ((s.pad? 0).bind (fun y => y.fill 0)).isSome = true) := by decide +kernel

theorem witness_StallAndMeshWorkEnds :
    (∀ s ∈ [hub.setStall 0 { runningStall 0 with mode := 2 }], (s.stall 0).mode = 2 ∧ (s.stall 0).state = .running)
    ∧ (∀ o ∈ [(⟨4, 1, 0, 0, 10, 0, 0, false, false, [3]⟩ : OutPort)], ∀ s ∈ [hub.setStall 0 { Stall.fresh with outs := [(0, some o)] }],
        (s.stall 0).out 0 = some o ∧ o.returning = [3])
    ∧ (hub.stall 0).xfers = [] ∧ (hub.stall 0).bad 0 64 = false
    ∧ (∀ x ∈ [{ Stall.fresh with badWords := [0] }], x.bad 0 64 = true)
    ∧ (hub.head 0).direct = false ∧ (hub.mesh 0).loading = none := by decide +kernel

/-- Head 0 on a direct path through pair 0, which waits for a line with one ready, or works on one. -/
def hubDirect (st : StallState) (wait have_ : Bool) : State :=
  ((hub.setHead 0 { Head.rest with direct := true }).setStall 0 { Stall.fresh with
    lock := true, mode := 2, state := st, ready := [(0, 0, 0)], waitLine := wait, haveLine := have_ })

theorem witness_StallAndMeshWorkEnds_lines : ∀ e ∈ [(StallState.running, false, true), (.running, false, false), (.bound, true, false)],
    ∀ s ∈ [hubDirect e.1 e.2.1 e.2.2], (s.head 0).direct = true ∧ s.fld (R.HEAD_DIR_SRC 0) F.HEAD_DIR_SRC_PAIR = 0
      ∧ (s.stall 0).lock = true ∧ (s.stall 0).mode = 2 ∧ (s.stall 0).ready ≠ [] ∧ (s.stall 0).state = e.1
      ∧ (s.stall 0).waitLine = e.2.1 ∧ (s.stall 0).haveLine = e.2.2 := by decide +kernel

theorem witness_StallAndMeshWorkEnds_mesh : ∀ s ∈ [hub.setMesh 0 { Mesh.free with loading := some (⟨0, 2, 2, 2⟩, 0x0C000000) }],
    (s.mesh 0).loading = some (⟨0, 2, 2, 2⟩, 0x0C000000) ∧ (s.fsLoad 0x0C000000 (2 * 2 * 8)).2.1 = true
    ∧ (upTo (2 * 2)).all (fun i => nodeOk ((((s.fsLoad 0x0C000000 32).1).drop (8 * i)).take 8)) = true
    ∧ nodeOk [0, 0, 8, 0, 0, 0, 0, 0] = false := by decide +kernel

theorem witness_StoreAndHeadsGoOn :
    (∀ g ∈ [0, fsGranules - 1], ∀ s ∈ [(hub.setFlag R.FS_SCRUB F.FS_SCRUB_EN true).setFld R.FS_SCRUB_POS F.FS_SCRUB_POS_GRANULE g],
      s.fsDark = false ∧ s.store.selfRefresh = false ∧ s.flag R.FS_SCRUB F.FS_SCRUB_EN = true
      ∧ s.fld R.FS_SCRUB_POS F.FS_SCRUB_POS_GRANULE = g ∧ s.store.poison.contains g = false)
    ∧ (hub.setFlag R.FS_SCRUB F.FS_SCRUB_EN false).flag R.FS_SCRUB F.FS_SCRUB_EN = false
    ∧ (hub.head 0).frame = none ∧ (hub.head 0).direct = false
    ∧ (∀ s ∈ [(hub.setHead 0 { Head.rest with direct := true }).setFlag (R.HEAD_CTRL 0) F.HEAD_CTRL_EN true],
        (s.head 0).direct = true ∧ s.flag (R.HEAD_CTRL 0) F.HEAD_CTRL_EN = true ∧ (s.head 0).nosource = false
        ∧ s.sleepStopped = false)
    ∧ (∀ s ∈ [hub.setRegion 0 0 { RegionDyn.none with awaits := [⟨3, 0, 0, false, true⟩] }],
        (s.region 0 0).awaits.find? (fun a => a.counter = 3) = some ⟨3, 0, 0, false, true⟩) := by decide +kernel

theorem witness_StoreAndHeadsGoOn_monitor :
    ((List.replicate 64 0).take 64).sum < (showTraffic (List.replicate 64 0) hub).monFloor
    ∧ (∀ c ∈ [List.replicate 64 (2 ^ 30)], (showTraffic c hub).monFloor ≤ (c.take 64).sum
      ∧ unbalanced c ((showTraffic c hub).fld R.FS_MON F.FS_MON_RATIO) = false) := by decide +kernel

/-- Head 0 with a frame of two lines on which one more line is handed over. -/
theorem witness_StoreAndHeadsGoOn_lines : ∀ fill ∈ [true, false],
    ∀ f ∈ [(⟨0, 0, 0, 16, 2, 0, [], [], [], fill, false, false, 0, 0, 0, false⟩ : OutFrame)], ∀ s ∈ [hub.setHead 0 { Head.rest with frame := some f }],
      (s.head 0).frame = some f ∧ f.filler = fill ∧ ((handLine 0 s).head 0).frame ≠ none := by decide +kernel

theorem witness_CodedLinesKeepTheirGuarantee : paramOk 1 0 = true ∧ paramOk 2 8 = true ∧ paramOk 3 4 = true := by decide

theorem witness_TwoWireTransfersEnd :
    (∀ op ∈ [1, 2, 3], ∀ x ∈ [(⟨0, 0x40, op, [1], 2, 1⟩ : TwXfer)], ∀ s ∈ [hub.setTwc 0 { TwCtl.idle with queue := [x] }],
      (s.twc 0).queue = [x] ∧ (s.twc 0).active = false ∧ (s.twc 0).stuck = false ∧ x.op = op)
    ∧ (∀ n ∈ [0, 9], ∀ x ∈ [(⟨0, 0x40, 1, [1], 2, n⟩ : TwXfer)], ∀ s ∈ [hub.setTwc 0 { TwCtl.idle with queue := [x], active := true }],
      (s.twc 0).active = true ∧ (decide (F.TWC_CTRL_RETRIES.get (s.twc 0).ctrl < x.attempts)) = decide (n = 9))
    ∧ (∀ s ∈ [(hub.setFlag (R.TWC_CTRL 0) F.TWC_CTRL_EN true).setFlag (R.TWC_CTRL 0) F.TWC_CTRL_ATTN_EN true],
        s.flag (R.TWC_CTRL 0) F.TWC_CTRL_EN = true ∧ s.flag (R.TWC_CTRL 0) F.TWC_CTRL_ATTN_EN = true ∧ (s.twc 0).active = false
        ∧ (s.twc 0).stuck = false) := by decide +kernel

theorem witness_Twt0Answers : hub.twtAwake = true ∧ hub.twtLive = true ∧ (hubAsleep .stow .asleep).twtAwake = false
    ∧ (groomTurn hub).twtLive = true
    ∧ (∀ s ∈ [{ hub with groom := { hub.groom with up := false } }], s.twtLive = false ∧ (groomTurn s).twtLive = false)
    ∧ (∀ t ∈ [(((hub.setFld R.TWT_STATUS F.TWT_STATUS_PAGE 1).setFld R.TWT_STATUS F.TWT_STATUS_POINTER 9).incWrap R.TWT_XFER
        F.TWT_XFER_TRANS 1)], t.twtLive = true ∧ t.twtPage = 1)
    ∧ (hub.setMbox { hub.groom.mbox with attn := true }).groom.mbox.attn = true ∧ hub.groom.mbox.attn = false
    ∧ (∀ s ∈ [hub.setFlag R.PWR_WAKE F.PWR_WAKE_EN_TWT true], s.flag R.PWR_WAKE F.PWR_WAKE_EN_TWT = true
      ∧ (BitVec.ofNat 7 (s.fld R.TWT_CTRL F.TWT_CTRL_ADDR)).toNat = s.fld R.TWT_CTRL F.TWT_CTRL_ADDR) := by decide +kernel

theorem witness_TestResourcesAndBoundaryScan :
    (∀ b ∈ [true, false], ∀ s ∈ [(hubTest.setFld (R.TEST_PCHK 0) F.TEST_PCHK_PAT 1).setFlag (R.TEST_PCHK 0) F.TEST_PCHK_LOCK b],
      s.laneIn 0 [Ls.test] = true ∧ s.fld (R.TEST_PCHK 0) F.TEST_PCHK_PAT ≠ 0 ∧ s.flag (R.TEST_PCHK 0) F.TEST_PCHK_LOCK = b)
    ∧ hub.laneIn 0 [Ls.test] = false ∧ hub.test.eye = none ∧ hub.test.mem = none ∧ SMap.get hub.test.inj none 0 = none
    ∧ (∀ s ∈ [{ hub with
        test := ⟨some ⟨0, 16, 16, 16, 0⟩, some ⟨0x200, 0, 0, 0⟩, [(0, some ⟨1, some 1, 0, 0, 0⟩)], [], [], .idcode, []⟩ }],
      s.test.eye.isSome = true ∧ SMap.get s.test.inj none 0 = some ⟨1, some 1, 0, 0, 0⟩
        ∧ s.test.mem = some ⟨0x200, 0, 0, 0⟩) := by decide +kernel

/-! ### Further premises: commands, stalls, the host -/

/-- Commands that the groom takes on a state in which they are turned away, or find nothing to do. -/
def runsAway : List (Nat × Packet × State) := [
  (0x009, pk 0 [0x20000, 1], hub),
  (0x703, pk 0x7001 [0, 5], hubRun), (0x704, pk 0x7001 [0], hubRun), (0x703, pk 0x7000 [0, 4], hubRun),
  (0x00B, pk 0 [], { hub with dstate := .safe, ev := { hub.ev with critHot := true } }),
  (0xC06, pk 0xD000 [1], { hub with sec := { hub.sec with trngOk := false } }),
  (0xC00, kindPacket (pk 0xD000 [0]) 0 0 0, { hub with sec := { hub.sec with trngOk := false } }),
  (0xE02, kindPacket (pk 0xE100 [0]) 1 0 1, hub), (0x803, pk 0x9000 [], hubTail),
  (0x008, pk 0 [w32 R.TICK_COUNT_LO], hub), (0x008, pk 0 [w32 R.TICK_COUNT_HI], hub),
  (0xC05, pk 0xD000 [1], { hub with sec := { hub.sec with otp := { hub.sec.otp with debugDisable := true } } }),
  (0xE03, pk 0xE000 [16], hub), (0xC04, kindPacket (pk 0xD000 [0, 1, 0]) 1 0 1, hub),
  (0xB03, pk 0xC000 [8], hub.setReg R.PWR_READY_HI 0xFFFFDFFF), (0xB03, pk 0xC000 [8], hub),
  (0x105, pk 0x8000 [], (rx0 Ls.up).setLink 0 { LinkDyn.none with discover := true }),
  (0xE05, kindPacket (pk 0xE220 [0, 0xC000, 1]) 0 0 0, { hub with store := hubRun.store }), (0xA01, pk 0xB000 [0x100, 0], hub),
  (0xC08, pk 0xD000 [0x0C000000, 4], { hub with sec := { hub.sec with flashJobs := [⟨⟨1, 0, []⟩, false, 2, 0⟩] } })]

theorem witness_commands_turned_away : ∀ r ∈ runsAway, Runs r.1 r.2.1 r.2.2 (onSource r.2.1 r.2.2) := by
  simp only [Runs, Taken]; decide +kernel

theorem witness_commands_turned_away_premises :
    isST 0x20000 = true ∧ (hubFill (List.replicate 4096 entryOk)).groom.staging.fill.length = 4096
    ∧ hubRun.pad? 1 = none ∧ pad0.slotOf 4 = none ∧ (revoked [1, 1, 0] hub).isSome = false ∧ hub.rtcNow = 0
    ∧ 0x2D ∈ (onesOf (bits (8 : Word) 7 0) 8).flatMap padOwners ∧ hub.domainOn 0x2D = true
    ∧ (hub.setReg R.PWR_READY_HI 0xFFFFDFFF).domainReady 0x2D = false ∧ hub.domainReady 0x2D = true
    ∧ ({ hub with store := hubRun.store } : State).storeLive (0xC000 * 4096) 4096 = true
    ∧ (latchGroups.any (fun g => g.first == R.TICK_COUNT_LO && g.rest.contains R.TICK_COUNT_HI)) = true
    ∧ hub.laneIn 0 [Ls.up, Ls.doze, Ls.test] = false ∧ hubTail.tailOut 0 = true := by decide +kernel

/-- Work of the same kind that already runs. -/
def runsBusy : List (Nat × Packet × State) := [
  (0x108, pk 0x8000 [1], (rx0 Ls.up).setLink 0 { LinkDyn.none with cal := some ⟨3, 0, [], true⟩ }),
  (0x108, pk 0x8000 [1], (rx0 Ls.up).setLink 0 { LinkDyn.none with cal := some ⟨3, 0, [], false⟩ }),
  (0xC03, pk 0xD000 [0x8000], hubPartner.setLink 0 { hubPartner.link 0 with auth := some ⟨[1], true⟩ }),
  (0xC03, pk 0xD000 [0x8000], hubPartner.setLink 0 { hubPartner.link 0 with auth := some ⟨[1], false⟩ }),
  (0x802, pk 0x9000 [], hub.setDmaState 0 Ds.ABORTING), (0x802, pk 0x9000 [], hub.setDmaState 0 Ds.PARKED),
  (0x802, pk 0x9000 [], hub.setDmaState 0 Ds.QUEUED),
  (0xA01, pk 0xB000 [0x100, 0], hub.setTwc 0 { TwCtl.idle with queue := List.replicate 8 ⟨0, 0x40, 1, [1], 2, 0⟩ }),
  (0xE03, pk 0xE000 [16], { hub with test := { hub.test with eye := some ⟨0, 16, 16, 16, 0⟩ } }),
  (0xE05, kindPacket (pk 0xE200 [0]) 0 0 0, { hub with test := { hub.test with mem := some ⟨0x200, 0, 0, 0⟩ } }),
  (0x00E, pk 0 [], { hub with sec := { hub.sec with otp := { hub.sec.otp with allowDevsig := true }, flashJobs := [⟨⟨3, 1, []⟩, false, 1, 0⟩] } })]

theorem witness_commands_busy : ∀ r ∈ runsBusy, Runs r.1 r.2.1 r.2.2 (onSource r.2.1 r.2.2) := by
  simp only [Runs, Taken]; decide +kernel

/-- A set that is full turns a staged command and an image away, a tick that is past a command. -/
theorem witness_FailedChecksOnlyAnswer_full : ∀ p ∈ [(0x101, { stg 0x8000 [4] with applyTick := 5 }),
    (0x00D, { stg 0 [0x0C000000, 256, 0] with applyTick := 5 })],
    ∀ s ∈ [{ hub with groom := { hub.groom with staging := ⟨[], List.replicate 256 (5, entryOk), none⟩ } }],
      Taken p.2 s (onSource p.2 s) ∧ checkCmd (cmdOf p.1 p.2) none (onSource p.2 s) = none
      ∧ limitChk (cmdOf p.1 p.2) none (onSource p.2 s) = some (St.BUSY, 2) := by
  simp only [Taken]; decide +kernel

theorem witness_FailedChecksOnlyAnswer_late : ∀ p ∈ [{ stg 0x8000 [4] with applyTick := 2 }],
    ∀ s ∈ [{ hubRun with tg := { hubRun.tg with count := 5 } }], Taken p s (onSource p s)
      ∧ checkCmd (cmdOf 0x101 p) none (onSource p s) = none ∧ limitChk (cmdOf 0x101 p) none (onSource p s) = some (St.LATE, 0) := by
  simp only [Taken]; decide +kernel

/-- Accesses, pushes, waits and transfers that pass. -/
theorem witness_LegalBundlesIssue : ∀ s ∈ [hubStall 0], ∀ x ∈ [runningStall 0],
    (0 : Nat) % 64 = 0 ∧ 0 + 64 ≤ 0x1FC00 ∧ s.hayAllowed 0 true 0 64 = true ∧ s.hayAllowed 0 false 0 64 = true
    ∧ x.bad 0 64 = false ∧ s.hayPoor 0 64 = false ∧ (lanes16 (x.regs.vget 1)).all (fun k => k == 0) = true
    ∧ x.xfers.length ≤ 0 ∧ (x.inp 1).packets ≠ [] ∧ (x.inp 1).current = false
    ∧ (x.out 0).any (fun o => decide (o.cur + 1 ≤ Nat.min 64 (2 ^ o.log2Depth / 2) ∧ o.credits ≠ 0)) = true := by decide +kernel

/-- Stall 0 bound to the stitching kernel, whose parameters of zeros trap it at its entry; behind it an ENDT waits or goes on. -/
def libStall (pc : BitVec 12) (raw : BitVec 128) : Stall := { runningStall raw with
  kernel := some ⟨0x130, 1, 15, true, false, false, false, 5⟩, regs := { Regs.zero with pc := pc }, imem := [(pc.toNat, raw)] }

theorem witness_RowsIssueTheirBundle_library : ∀ s ∈ [hub.setStall 0 (libStall 5 (sB 0x01))],
    s.executes 0 (sB 0x01) = true ∧ (s.libStop 0 (sB 0x01)).isSome = true ∧ slotOp (sB 0x01) .s = 0x01 := by decide +kernel

/-- An ENDT of the scaling kernel before its ring has delivered the frame waits. -/
theorem witness_EndsTrapsAndFencesAct_library : ∀ x ∈ [{ libStall 7 (sB 0x38) with
      kernel := some ⟨0x120, 1, 15, true, false, false, false, 5⟩,
      store := writeBytes (writeBytes [] paramBase (wordBytes 1)) (paramBase + 32) (wordBytes 0x20000) }],
    ∀ s ∈ [hub.setStall 0 x], idleB (sB 0x38) s = true ∧ (s.stall 0).mode ≠ 2 ∧ s.libDone (s.stall 0) = false := by decide +kernel

theorem witness_BranchesAndLoopsMoveThePc_bodies :
    0 < bImm (BitVec.ofNat 128 (0x26 * 4 + 2 * 2 ^ 20)) ∧ bImm (BitVec.ofNat 128 (0x26 * 4)) ≤ 0
    ∧ ({ Regs.zero with s := [(1, 5)] } : Regs).sget 1 ≠ 0 := by decide +kernel

theorem witness_ResumesSuppliesAndTemperature_banks : hubRun.pwr.resume ≠ .waitPwrgood ∧ (0x33 : Nat) ≤ (0x33 : Fin 60).val
    ∧ hub.checkable 0 = false ∧ hub.pwr.toCheck = [] ∧ hub.dstate ≠ .holdEntry ∧ hub.dstate ≠ .stowEntry := by decide +kernel

theorem witness_BootsAndRestarts_again : ∀ s ∈ [{ hub with groom := { hub.groom with lastMiscompare := some 0 } }],
    s.groom.up = true ∧ s.groom.restarting = false ∧ s.localMs < 0 + 1000 := by decide +kernel

/-- A poisoned granule behind BAR2, met whole and in part. -/
theorem witness_RingsAndBar2Accesses_poison :
    ∀ s ∈ [{ (hub.setFld R.FS_BAR2_BASE F.FS_BAR2_BASE_BASE 0x40) with store := { hub.store with poison := [((hub.setFld R.FS_BAR2_BASE F.FS_BAR2_BASE_BASE 0x40).bar2Phys 0) / 256] } }],
      s.bridgeOpen = true ∧ inHeap (s.bar2Phys 0) 4 = true ∧ s.bar2Dark (s.bar2Phys 0) 4 = false ∧ s.poisonIn (s.bar2Phys 0) 4 ≠ []
      ∧ (s.poisonIn (s.bar2Phys 0) 4).filter (fun g => (upTo 16).any (fun j =>
          touches (s.bar2Phys 0) (List.replicate 4 (some 1)) (g * 256 + 16 * j) 16
            && !covers (s.bar2Phys 0) (List.replicate 4 (some 1)) (g * 256 + 16 * j) 16)) ≠ [] := by decide +kernel

theorem witness_OwnStepRegistersAct_alarm : hub.dark 0x2D = false ∧ (hub.head 0).held = false
    ∧ F.HEAD_ALARM_ACK.get (F.HEAD_ALARM_ACK.put 1 0) = 1
    ∧ (hub.setFlag (R.HEAD_ALARM 0) F.HEAD_ALARM_ACTIVE true).flag (R.HEAD_ALARM 0) F.HEAD_ALARM_ACTIVE = true
    ∧ F.ETH_MDIO_CMD_GO.get (F.ETH_MDIO_CMD_GO.put 1 0) = 1 ∧ F.CMD_Q_CTRL_EN.get (F.CMD_Q_CTRL_EN.put 1 0) = 1
    ∧ hubRing.flag (R.CMD_Q_CTRL 0) F.CMD_Q_CTRL_EN = true := by decide +kernel

theorem witness_RingsAndBar2Accesses_still : ∀ r ∈ [(writePlain (R.CMD_RQ_HEAD 0) (w32 0) hub).pumpRing 0],
    r.ringActive 0 = false ∧ (hubRing.setFlag (R.CMD_Q_STATUS 0) F.CMD_Q_STATUS_ERR true).ringActive 0 = false := by decide +kernel

/-! ### Further premises: lanes and links -/

/-- A transmit lane in train whose partner has reported READY, or that its eye is too small. -/
theorem witness_LanesDetectAndTrain_transmit : ∀ p ∈ [(⟨true, 200, 2, true⟩ : PeerTrain), ⟨true, 3, 2, true⟩, ⟨false, 200, 2, true⟩],
    ∀ s ∈ [(laneAt 32 Ls.train { LaneDyn.rest with peer := some p }).setFld (R.LANE_THRESH 32) F.LANE_THRESH_TRAIN_MIN 40],
      s.laneIn 32 [Ls.train] = true ∧ (s.lane 32).trained = false ∧ (s.lane 32).peer = some p ∧ s.rateStands 32 = true
      ∧ s.fld (R.LANE_THRESH 32) F.LANE_THRESH_TRAIN_MIN = 40 ∧ (laneAt 32 Ls.train LaneDyn.rest).laneIn 32 [Ls.train] = true := by
  decide +kernel

/-- A receive lane that trains from a stored result, and one that has trained. -/
theorem witness_LanesDetectAndTrain_stored :
    (∀ s ∈ [(laneAt 0 Ls.train { LaneDyn.rest with stored := some (1, 2, 3, 4) }).setFlag (R.LANE_CTRL 0) F.LANE_CTRL_FAST true],
      s.laneIn 0 [Ls.train] = true ∧ s.fastStart 0 = true ∧ (limitRate 0 3 s).fastStart 0 = true ∧ s.rateStands 0 = true)
    ∧ ((laneAt 0 Ls.train { LaneDyn.rest with trained := true }).lane 0).trained = true
    ∧ (∀ s ∈ [(hubBond.setFld (R.LANE_STATUS 0) F.LANE_STATUS_STATE Ls.train).setFlag (R.LANE_CTRL 0) F.LANE_CTRL_FALLBACK true],
      s.mateSet 0 = true ∧ s.bonded 0 = true
      ∧ ∀ t ∈ [s.setFld (R.LANE_STATUS 1) F.LANE_STATUS_STATE Ls.train], t.mateSet 0 = false ∧ t.bonded 0 = true
        ∧ t.laneState (mate 0) = Ls.train ∧ t.repeats 0 = false) := by decide +kernel

theorem witness_LanesAlignAndDrop_eye : ∀ n ∈ [0, 40],
    ∀ s ∈ [(laneAt 32 Ls.up LaneDyn.rest).setFld (R.LANE_THRESH 32) F.LANE_THRESH_DROP_MIN n],
    s.laneIn 32 [Ls.up, Ls.doze] = true ∧ s.test.eye = none
    ∧ decide (s.eyeNow 32 < s.fld (R.LANE_THRESH 32) F.LANE_THRESH_DROP_MIN) = decide (n = 40)
    ∧ (hubBond.setLane 1 LaneDyn.rest).laneState (mate 0) = Ls.align ∧ ((hubBond.setLane 1 LaneDyn.rest).lane (mate 0)).aligned = false := by
  decide +kernel

theorem witness_LanesEnterAndLeaveLowPower_alignment :
    (∀ l ∈ [{ LaneDyn.rest with pmNext := some 5 }], ∀ s ∈ [laneAt 0 Ls.up l],
      s.pmWaits 0 = false ∧ s.laneState 0 = Ls.up ∧ (s.lane 0).pmNext = some 5)
    ∧ (∀ s ∈ [laneAt 0 Ls.doze { LaneDyn.rest with pmExit := true }], s.pmWaits 0 = false ∧ s.laneState 0 = Ls.doze
      ∧ (s.lane 0).pmNext = none ∧ (s.lane 0).pmExit = true)
    ∧ (((laneAt 0 Ls.up LaneDyn.rest).sendReq 0 Mt.PM 0 [1]).2).pmWaits 0 = true := by decide +kernel

/-- A deep lane whose stored result an exit takes back; its eye passes TRAIN_MIN, or not. -/
theorem witness_LanesEnterAndLeaveLowPower_exit :
    ∀ s ∈ [(laneAt 0 Ls.deep { LaneDyn.rest with stored := some (1, 2, 3, 4) }).setFld (R.LANE_THRESH 0) F.LANE_THRESH_TRAIN_MIN 40],
      s.laneIn 0 [Ls.deep] = true ∧ ((setEye 0 (eyeIndex 32 38) 32 38 s).lane 0).stored = some (1, 2, 3, 4)
      ∧ 40 ≤ eyeIndex 32 38 ∧ eyeIndex 8 8 < 40 ∧ s.fld (R.LANE_THRESH 0) F.LANE_THRESH_TRAIN_MIN = 40 := by decide +kernel

/-- A partner known whose roll call is answered, refused, or at its limit of misses. -/
theorem witness_PartnersComeAndGo_states : ∀ p ∈ [3, Ps.refused],
    ∀ s ∈ [(hubPartner.setLink 0 { hubPartner.link 0 with calling := true }).setFld (R.LINK_PARTNER 0) F.LINK_PARTNER_STATE p],
      s.laneUp 0 = true ∧ (s.link 0).calling = true ∧ s.partnerKnown 0 = true ∧ decide (s.partner 0 = Ps.refused) = decide (p = Ps.refused)
      ∧ s.fld R.LINK_ROLL F.LINK_ROLL_MISS_LIMIT ≤ s.fld (R.LINK_PARTNER 0) F.LINK_PARTNER_MISSED + 1 := by decide +kernel

theorem witness_PartnersComeAndGo_misses : hub.partnerKnown 0 = false
    ∧ (hubPartner.setFld (R.LINK_PARTNER 0) F.LINK_PARTNER_MISSED 0).fld (R.LINK_PARTNER 0) F.LINK_PARTNER_MISSED + 1
      < (hubPartner.setFld R.LINK_ROLL F.LINK_ROLL_MISS_LIMIT 3).fld R.LINK_ROLL F.LINK_ROLL_MISS_LIMIT
    ∧ (∀ s ∈ [{ hub with pwr := { hub.pwr with awaitPartner := [0] } }], 0 ∈ s.pwr.awaitPartner ∧ s.partnerKnown 0 = false)
    ∧ (∀ s ∈ [(laneAt 0 Ls.up LaneDyn.rest).setLink 0 { LinkDyn.none with auth := some ⟨[], true⟩ }], (s.link 0).auth = some ⟨[], true⟩) := by
  decide +kernel

theorem witness_CodewordsAndTunnels_states :
    (∀ st ∈ [Ls.doze, Ls.align, Ls.train, Ls.test], ∀ s ∈ [laneAt 0 st LaneDyn.rest], s.looped 0 = false ∧ s.laneIn 0 [st] = true
      ∧ injectBytes 0 [1] s = ([1], s) ∧ s.fld (R.TEST_PCHK 0) F.TEST_PCHK_PAT ≠ 7)
    ∧ ((laneAt 0 Ls.test LaneDyn.rest).setFld (R.TEST_PCHK 0) F.TEST_PCHK_PAT 7).fld (R.TEST_PCHK 0) F.TEST_PCHK_PAT = 7
    ∧ (∀ s ∈ [hubTest.setFld (R.TEST_LOOP 32) F.TEST_LOOP_KIND 1], s.looped 0 = true)
    ∧ hub.laneIn 0 [Ls.train, Ls.align, Ls.up, Ls.doze, Ls.test] = false := by decide +kernel

/-- Responses of a calibration: its own, the last one left, and one of a command. -/
theorem witness_LinkTimersAndCalibration_ends : ∀ c ∈ [(⟨3, 0, [40, 44], false⟩ : CalX), ⟨3, 0, [40, 44], true⟩, ⟨3, 0, [], true⟩, ⟨3, 2, [], true⟩],
    ∀ s ∈ [(laneAt 0 Ls.train LaneDyn.rest).setLink 0 { LinkDyn.none with cal := some c }],
      s.holdsWork (laneDomain 0) = false ∧ s.linkLive 0 = true ∧ (s.link 0).cal = some c ∧ c.id = 3 ∧ s.laneIn 0 [Ls.train] = true := by
  decide +kernel

/-- Wide accesses, a window that is open, a bank whose bytes are poisoned, and a channel in D3hot. -/
theorem witness_RegisterWritesLandOrAreLogged_window : (hubFrozen ⟨[], false, none⟩).winOpen = true
    ∧ (hubFrozen ⟨[], false, none⟩).bridgeOpen = true ∧ isST (R.GATE_CROP_X 0 0) = true
    ∧ (∀ s ∈ [{ hub.setFld R.FS_BAR2_BASE F.FS_BAR2_BASE_BASE 0x40 with store := { hub.store with poison := (upTo 4).map (· + 0x40 * 0x10000 / 256) ++ [0xC000000 / 256] } }],
      s.bar2Dark (s.bar2Phys 0) 64 = false)
    ∧ (∀ s ∈ [{ hubDma .data with host := { (hubDma .data).host with d3hot := true } }], s.dmaState 0 = Ds.RUNNING ∧ s.host.d3hot = true) := by
  decide +kernel

/-! ### Further premises: work and test resources -/

theorem witness_FramesOpenAndClose_corrected : ∀ s0 ∈ [hubGate 1 none 2], s0.carries 0 = true
    ∧ ∀ s ∈ [s0.incSat (R.GATE_PKT 0) F.GATE_PKT_HDR_CORR 1], s.carries 0 = true ∧ s.matchCtx 0 0 = some 0
      ∧ s.ctxState 0 0 = Gs.opened ∧ (s.ctx 0 0).frame = none ∧ (s.setCtxState 0 0 Gs.wait).matchCtx 0 0 = some 0
      ∧ (s.setCtxState 0 0 Gs.wait).ctxState 0 0 ≠ Gs.opened := by decide +kernel

theorem witness_FramesOpenAndClose_standalone : ∀ s ∈ [{ hubGate 1 none 2 with dstate := .standalone }],
    s.carries 0 = true ∧ s.dstate = .standalone ∧ s.holdsWork (laneDomain 0) = false ∧ s.matchCtx 0 1 = none := by decide +kernel

/-- A frame start on a frame in progress; that frame's context was closed by a set meanwhile. -/
theorem witness_FramesOpenAndClose_inProgress :
    (∀ s ∈ [hubGate 1 (some (frameOn 1)) 2], s.matchCtx 0 0 = some 0 ∧ (s.ctx 0 0).frame = some (frameOn 1)
      ∧ ∀ u ∈ [closeFrame 0 0 3 s], u.matchCtx 0 0 = some 0 ∧ u.fld (R.LINK_PARTNER 0) F.LINK_PARTNER_STATE = 3)
    ∧ (∀ s ∈ [(hubGate 1 (some (frameOn 1)) 2).setReg (R.GATE_CTRL 0 0) 0x2A00], s.matchCtx 0 0 = some 0
      ∧ (closeFrame 0 0 3 s).matchCtx 0 0 = none) := by decide +kernel

theorem witness_FramesOpenAndClose_rings :
    (∀ s ∈ [hubGate 3 none 0], (s.gwords 0 0).kind = 3 ∧ (s.tagRing 0 0 (s.gwords 0 0)).isSome = false)
    ∧ (∀ s ∈ [hubGate 2 none 1], (s.gwords 0 0).kind ≠ 1 ∧ (s.tagRing 0 0 (s.gwords 0 0)).isSome = true
      ∧ (s.ctx 0 0).recCred < 2) := by decide +kernel

theorem witness_PicturesAndCreditsLand_noFrame : ∀ fl ∈ [true, false], ∀ dr ∈ [true, false],
    ∀ s ∈ [(hubGate 1 none 2).setCtx 0 0 { GCtx.free with dropping := dr, flushMark := fl }],
      s.matchCtx 0 0 = some 0 ∧ (s.ctx 0 0).frame = none ∧ (s.ctx 0 0).dropping = dr ∧ (s.ctx 0 0).flushMark = fl
      ∧ (s.effective 0 0).dt = 0x2A ∧ s.ctxState 0 0 = Gs.opened ∧ supportedDt 0x2B = true := by decide +kernel

theorem witness_PicturesAndCreditsLand_embedded :
    (∀ b ∈ [true, false], ∀ s ∈ [((hubGate 1 none 2).setCtxState 0 0 Gs.wait).setReg (R.GATE_CTRL 0 0) (if b then 0x8000AA00 else 0x80002A00)],
      s.matchCtx 0 0 = some 0 ∧ s.ctxState 0 0 = Gs.wait ∧ (s.gwords 0 0).kind = 1
      ∧ decide (F.GATE_CTRL_EMB.get (s.gwords 0 0).ctrl = 1) = b)
    ∧ (hubGate 1 none 2).pad? 0 = none ∧ F.GATE_CTRL_EMB.get (frameOn 1).set.gw.ctrl ≠ 1
    ∧ (∀ s ∈ [(hubGate 1 none 2).setCtxState 0 0 Gs.frame], s.matchCtx 0 0 = some 0 ∧ s.ctxState 0 0 ≠ Gs.wait
      ∧ s.ctxState 0 0 ≠ Gs.opened) := by decide +kernel

theorem witness_PicturesAndCreditsLand_standalone : ∀ s ∈ [{ hubGate 1 none 2 with dstate := .standalone }],
    s.carries 0 = true ∧ (hubRun.pad? 0).bind (fun y => y.fill 0) = none := by decide +kernel

/-- Transfers of a lockstep pair whose checker has the same, or none; a hayloft that cannot be read. -/
theorem witness_StallAndMeshWorkEnds_transfers : ∀ t ∈ [(⟨true, 0, 0, 64⟩ : Xfer)],
    (∀ c ∈ [[t], []], ∀ s ∈ [(hub.setStall 0 { Stall.fresh with lock := true, xfers := [t] }).setStall 1
        { Stall.fresh with lock := true, state := .checker, xfers := c }],
      (s.stall 0).xfers = [t] ∧ (s.stall 0).lock = true ∧ (s.stall 0).bad 0 64 = false
      ∧ decide ((s.stall 1).xfers.head? = some t) = decide (c = [t])
      ∧ xferData t (s.stall 1) s = some (readBytes (s.stall 0).store 0 64))
    ∧ (∀ s ∈ [{ hub with hayBad := [0] }], s.hayPoor 0 64 = true) ∧ hub.hayPoor 0 64 = false := by decide +kernel

theorem witness_StallAndMeshWorkEnds_others : (hub.stall 0).mode ≠ 2 ∧ (hub.stall 0).lock = false ∧ (hub.stall 0).ready = []
    ∧ (∀ s ∈ [hubDirect .bound false false], (s.stall 0).state ≠ .running ∧ (s.stall 0).waitLine = false)
    ∧ (∀ m ∈ [{ Mesh.free with loading := some (⟨0, 2, 2, 2⟩, 0x0C000000), held := true, reply := some (2, 5) }],
      ∀ s ∈ [hub.setMesh 0 m], (s.mesh 0).held = true ∧ (s.mesh 0).reply = some (2, 5))
    ∧ (∀ s ∈ [{ hub with store := { hub.store with poison := [0xC000000 / 256] } }], (s.fsLoad 0x0C000000 32).2.1 = false) := by
  decide +kernel

theorem witness_StoreAndHeadsGoOn_scrub : ∀ s ∈ [hub.setFlag R.FS_SCRUB F.FS_SCRUB_EN true],
    s.underTest 0 256 = false
    ∧ (∀ t ∈ [{ s with test := { s.test with mem := some ⟨0x220, 0, 0, 4096⟩ } }], t.underTest 0 256 = true)
    ∧ (∀ t ∈ [{ s with store := { s.store with poison := [0] } }], t.store.poison.contains 0 = true ∧ t.underTest 0 256 = false)
    ∧ (∀ t ∈ [{ s with store := { s.store with selfRefresh := true } }], t.store.selfRefresh = true) := by decide +kernel

/-- A window with one busy channel, before and at its sustained count. -/
theorem witness_StoreAndHeadsGoOn_unbalanced : ∀ c ∈ [2 ^ 32 :: List.replicate 63 0], ∀ s ∈ [hub.setFld R.FS_MON F.FS_MON_RATIO 32],
    (showTraffic c s).monFloor ≤ (c.take 64).sum ∧ unbalanced c ((showTraffic c s).fld R.FS_MON F.FS_MON_RATIO) = true
    ∧ s.store.imbRaised = false ∧ s.store.imbCount = 0 ∧ 2 ≤ (s.setFld R.FS_MON F.FS_MON_SUSTAIN 2).fld R.FS_MON F.FS_MON_SUSTAIN := by
  decide +kernel

theorem witness_StoreAndHeadsGoOn_heads :
    (∀ s ∈ [hub.setHead 0 { Head.rest with direct := true, nosource := true }], (s.head 0).nosource = true)
    ∧ hub.flag (R.HEAD_CTRL 0) F.HEAD_CTRL_EN = false
    ∧ (∀ ok ∈ [true, false], ∀ s ∈ [hub.setRegion 0 0 { RegionDyn.none with awaits := [⟨3, 0, 0, true, ok⟩] }],
        (s.region 0 0).awaits.find? (fun a => a.counter = 3) = some ⟨3, 0, 0, true, ok⟩)
    ∧ (hub.region 0 0).awaits.find? (fun a => a.counter = 3) = none := by decide +kernel

theorem witness_TwoWireTransfersEnd_others :
    (∀ x ∈ [(⟨0, 0x40, 0, [1], 2, 1⟩ : TwXfer)], x.op ≠ 2 ∧ x.op ≠ 3) ∧ (hub.twc 0).queue = [] ∧ (hub.twc 0).stuck = false
    ∧ hub.flag (R.TWC_CTRL 0) F.TWC_CTRL_EN = false
    ∧ (hub.setTwc 0 { TwCtl.idle with stuck := true }).twc 0 = { TwCtl.idle with stuck := true } := by decide +kernel

/-- A hub that a match of TWT0's address woke, within 50 µs and after. -/
theorem witness_Twt0Answers_muted : ∀ s ∈ [{ hubAsleep .stow .waitPwrgood with pwr := { (hubAsleep .stow .waitPwrgood).pwr with matched := some 0 } }],
    s.twtAwake = true ∧ s.pwr.matched = some 0 ∧ s.twtMuted = decide (s.rtcFine < 50000 * 32768) ∧ s.rtcFine = 0
    ∧ hub.twtMuted = false := by decide +kernel

theorem witness_Twt0Answers_mailbox :
    (∀ s ∈ [(hub.setFld R.TWT_STATUS F.TWT_STATUS_PAGE 1).setMbox { hub.groom.mbox with busy := true }],
      s.twtLive = true ∧ s.twtPage = 1 ∧ s.groom.mbox.busy = true ∧ (groomTurn s).groom.mbox.busy = true)
    ∧ (∀ s ∈ [hub.setMbox { hub.groom.mbox with ready := true }], (groomTurn s).groom.mbox.ready = true)
    ∧ (groomTurn hub).twtLive = true ∧ (groomTurn hub).groom.mbox.busy = false ∧ (groomTurn hub).groom.mbox.ready = false := by
  decide +kernel

theorem witness_TestResourcesEnd_others : hubTest.fld (R.TEST_PCHK 0) F.TEST_PCHK_PAT = 0
    ∧ (∀ i ∈ [(⟨2, none, 0, 0, 0⟩ : Inject)], i.left = none)
    ∧ (∀ k ∈ [0, 1], ∀ s ∈ [{ hub with test := { hub.test with mem := some ⟨0x220, k, 0x0C000000, 4096⟩ } }],
        s.test.mem = some ⟨0x220, k, 0x0C000000, 4096⟩) := by decide +kernel

/-! ### Other witnesses -/

theorem witness_RegistersReadBack : hub.regsWf = true ∧ F.GATE_CTRL_DT.lo ≤ F.GATE_CTRL_DT.hi ∧ F.GATE_CTRL_DT.hi < 32
    ∧ F.GATE_CTRL_PORT.hi < F.GATE_CTRL_DT.lo ∧ R.GATE_CTRL 0 0 ≠ R.GATE_CTRL 0 1 := by decide +kernel

theorem witness_MemoriesReadBack : ∀ s ∈ [hub.hayWrite 0 [1, 2]], s.memWf = true ∧ (0 + 1 ≤ 1 ∨ 1 + 2 ≤ 0)
    ∧ (s.hayRead 0 2) = [1, 2] := by decide +kernel

theorem witness_AlignedAccessesStayInOneSet : R.TICK_COUNT_LO % 8 = 0 ∧ R.GATE_CROP_X 0 0 % 8 = 0 := by decide

theorem witness_OnlyAccessesOutsideTheWindowsStop (p : Packet) :
    (∀ off size full lo hi, (.ping p : Instr) ≠ .registerWrite off size full lo hi)
    ∧ (∀ off n, (.ping p : Instr) ≠ .bar2Read off n) ∧ ∀ off data, (.ping p : Instr) ≠ .bar2Write off data := by simp

theorem witness_HostBridgeResetsAndPower : hub.dark 0x2F = false ∧ HbReset.perst ≠ .flr := by decide +kernel

theorem witness_TheHashSpreadsEveryBlock : 0xC000000 / 2 ^ 14 < 2 ^ 18 := by decide

theorem witness_ResidualsAreNearestMultiples : 8 ≤ 12 ∧ 12 ≤ 16 ∧ 1000 ≤ 2 ^ 12 - 1 ∧ 2048 ≤ 2 ^ 12 - 1 := by decide

/-- O1: the front command of the queue runs first; commands leave in order. -/
theorem test_step_first_in_first_out : step { hub with pending := [.twtProtocolError, .pcieD3hot true] } =
    exec .twtProtocolError { hub with pending := [.pcieD3hot true] } := rfl

/-! ### Examples that the spec works out -/

/-- Chapter 19: TOP_ID, its fields and IDCODE. -/
theorem test_top_id : bits (0x963256E4 : Word) 31 16 = 0x9632 ∧ bits (0x963256E4 : Word) 15 5 = 0x2B7
    ∧ bits (0x963256E4 : Word) 4 2 = 1 ∧ bits (0x963256E4 : Word) 1 0 = 0
    ∧ 0x10000000 + 0x9632 * 2 ^ 12 + 0x2B7 * 2 + 1 = 0x1963256F := by decide

/-- Chapter 00: unit 0x2093 is stall 147. -/
theorem test_unit_address : uClass 0x2093 = 2 ∧ uIndex 0x2093 = 147 := by decide

/-- Chapter 06: the words of the rear camera's context give an output of 1440 × 810 from a window at (480, 270). -/
theorem test_gate_geometry : ∀ w ∈ [(⟨0, 0x0B3F01E0, 0x0653010E, 0x00000015, 0x02040012⟩ : GWords)],
    w.x0 = 480 ∧ w.w = 2880 ∧ w.y0 = 270 ∧ w.h = 1620 ∧ w.dx = 2 ∧ w.dy = 2 ∧ w.avg = true ∧ w.outW = 1440 ∧ w.outH = 810 ∧ w.kind = 2
    ∧ F.GATE_TARGET_LOG2_DEPTH.get w.target = 4 ∧ F.GATE_TARGET_OFFSET.get w.target = 0x100
    ∧ F.GATE_TARGET_SLICE.get w.target = 2 := by decide +kernel

/-- Chapter 07: the bundle of the worked example. -/
def bundleExample : BitVec 128 := 0x00000252010000012402200004029440

theorem test_bundle_example : bS bundleExample = 0x10 ∧ bSD bundleExample = 5 ∧ bSA bundleExample = 5 ∧ bImm bundleExample = 64
    ∧ bV bundleExample = 0x020 ∧ bVD bundleExample = 1 ∧ bVA bundleExample = 8 ∧ bVB bundleExample = 9
    ∧ bM bundleExample = 0x01 ∧ bVT bundleExample = 8 ∧ bBASE bundleExample = 5 ∧ bOFF bundleExample = 1
    ∧ bSPACE bundleExample = 0 ∧ bundleOk bundleExample = true := by decide +kernel

/-- Chapter 08: one pixel through black level, and the tone index. -/
theorem test_black_level : blackLevel 3700 256 69922 = 58792 ∧ blackLevel 471 256 69922 = 3670 ∧ basicK 12 = 69922
    ∧ toneIndex 58736 = 4042
    ∧ HdrPar.merge ⟨fun _ => 4096, fun _ => 49152, fun _ => 61440, 4096, 16⟩ [(0, 58792), (1, 3670)] = 58736 := by decide +kernel

/-- Chapter 08: the mesh of the worked example, and its source position. -/
def meshExample : MeshBuf × List Byte :=
  (⟨0, 2, 2, 5⟩, [6400, 3200, 8416, 3232, 6464, 5248, 8464, 5312].flatMap (fun v => wordBytes (w32 v)))

theorem test_remap_position : meshPos meshExample 10 20 = some (7067, 4496) := by decide +kernel

/-- Chapter 09: the short bounded-error line. -/
def lineExample : Coded := encodeLine ⟨2, 12, 1, 2, 0⟩ [1000, 2000, 1010, 2003, 1021, 2001, 1029, 1998]

theorem test_codec_line : lineExample.nbits = 99 ∧ lineExample.bytes.length = 13
    ∧ lineExample.bytes.take 8 = [0x1A, 0xC9, 0x00, 0x07, 0x17, 0xFF, 0xE1, 0xA6]
    ∧ lineExample.recon = [998, 1998, 1008, 2003, 1023, 2003, 1028, 1998] := by decide +kernel

theorem test_codec_decodes : (match decodeLine lineExample.bytes 8 12 1 with
    | .ok (r, e) => decide (r = [998, 1998, 1008, 2003, 1023, 2003, 1028, 1998] ∧ e = 0)
    | .error _ => false) = true := by decide +kernel

/-- Chapter 10: the address hash. -/
def masksExample : List (BitVec 18) := [0x30001, 0x00F00, 0x000F0, 0x04000, 0x20000, 0x00003]

theorem test_address_hash : pseudoChannel masksExample 0x12345600 = 57 ∧ pseudoChannel masksExample 0x12345700 = 56 := by
  decide +kernel

/-- Chapter 10: the paddock of the rear camera, four slots of 4051 × 4 KiB. -/
theorem test_paddock_size : ∀ p ∈ [padOf [0x00000204, 0x0000C000, 0x086F001E]], p.slotBytes = 16592896
    ∧ p.endAddr = 0x0C000000 + 16204 * 4096 := by decide +kernel

/-- Chapter 11: the warning kite over the grey background, in sixteen bits. -/
theorem test_blend : (128 * 255 + 127) / 255 = 128 ∧ blend1 128 51400 25700 = 38600 ∧ blend1 128 10280 25700 = 17960
    ∧ blend1 128 0 25700 = 12800 := by decide +kernel

/-- Chapter 04, R116: an eye of 29 × 38 steps has the index 137. -/
theorem test_eye_index : eyeIndex 29 38 = 137 := by decide

/-- Chapter 17: EVENT_ROUTE writes the image of the witness alarm. -/
theorem test_event_route : F.EV_CTRL_EN.get 0xA87 = 1 ∧ F.EV_CTRL_VECTOR.get 0xA87 = 3 ∧ F.EV_CTRL_MSI.get 0xA87 = 1
    ∧ F.EV_CTRL_FAULT.get 0xA87 = 1 ∧ F.EV_CTRL_SQ.get 0xA87 = 1 := by decide +kernel

/-- No row of the table has bits: a word spells no command, and withFetchWord changes nothing. -/
theorem test_no_words : decodeTableWord 16 0 = none ∧ hub.withFetchWord 16 0 = hub := by decide +kernel

end Sys2Proof.Tests
end

section
/-! PROOF. The set being filled: what ABORT_SEAL discards (R62), and how a host write of ST registers joins it (R52). -/

open Sys2Proof Sys2Proof.Machine

namespace Sys2Proof.Machine

/-! ### The seal window and the tick of the set being filled (R53, R57) -/

theorem State.winOpen_eq_false {s : State} (h : s.groom.staging.frozen = none) : s.winOpen = false := by
  simp [State.winOpen, h]

theorem State.winOpen_eq_true {s : State} (h : s.groom.staging.frozen ≠ none) : s.winOpen = true := by
  simpa [State.winOpen, Option.isSome_iff_ne_none] using h

theorem State.fillTick_inWindow {s : State} (h : s.winOpen = true) : s.fillTick = s.tg.count.toNat + 2 := by
  simp [State.fillTick, h]

/-! ### ABORT_SEAL (R62) -/

/-- Outside a seal window the whole set being filled goes. -/
theorem abortSeal_noWindow {s : State} (h : s.winOpen = false) : abortSeal s = (Res.ok [],
    { s with groom := { s.groom with staging := { s.groom.staging with fill := [] } } }) := by
  simp [abortSeal, h]

/-- Inside a seal window only the entries go that joined since it opened. -/
theorem abortSeal_inWindow {s : State} (h : s.winOpen = true) :
    abortSeal s = (⟨St.DEFERRED, 0, [], false, some (w32 (s.tg.count.toNat + 2))⟩,
      { s with groom := { s.groom with staging :=
        { s.groom.staging with fill := s.groom.staging.fill.filter (fun e => !e.inWindow) } } }) := by
  simp [abortSeal, h, State.fillTick_inWindow h]

/-- ABORT_SEAL finishes with the result of abortSeal in the state that it leaves; nothing follows its reply. -/
theorem exec_abortSeal {p : Packet} {s u v : State} {r : Res} (h : Runs 0x004 p s u) (ha : abortSeal u = (r, v)) :
    exec (.abortSeal p) s = .next (finish (cmdOf 0x004 p) r v) := by
  have hact : act (cmdOf 0x004 p) u = (.now r, v) := by
    change (Done.now (abortSeal u).1, (abortSeal u).2) = _
    rw [ha]
  exact congrArg Host.Outcome.next (takeCmd_answers h hact)

/-! ### Host writes of registers with ST fields (R52, R57, R366) -/

/-- A register with ST fields lies on a page of the register map. -/
theorem pageAssigned_of_isST {a : Nat} (h : isST a = true) : pageAssigned (a / 0x10000) = true := by
  cases hp : regRows (a / 0x10000) with
  | nil => simp [isST, stMask, rowAt, hp] at h
  | cons r rs => simp [pageAssigned, hp]

/-- A whole aligned write of two live registers leaves the state in which its words have landed. -/
theorem bar0Write_wide {off : Nat} {lo hi : Word} {s t : State} {r : Option Res} (hb : s.bridgeOpen = true)
    (ha : off % 8 = 0) (hp : pageAssigned (off / 0x10000) = true) (hf : fusedReg s.part.ab off = false)
    (hd : s.darkReg off = false) (hw : writeWords [(off, lo), (off + 4, hi)] s = (true, r, t)) :
    bar0Write off 8 true lo hi s = t := by
  simp [bar0Write, hb, ha, hp, hf, hd, hw]

/-- Words for ST registers alone stay together: where the set being filled has room they join it as one entry, and
their other fields take their bits. -/
theorem writeWords_staged {e : Nat × Word} {ws : List (Nat × Word)} {s t : State}
    (hst : ∀ x ∈ e :: ws, isST x.1 = true) (ht : stageRegs (e.1 / 0x10000) (e :: ws) s = (true, t)) :
    writeWords (e :: ws) s = (true, some (joinRes (.fill s.winOpen s.fillTick)),
      (e :: ws).foldl (fun t x => writeReg x.1 x.2 t) t) := by
  have hall : (e :: ws).filter (fun x => isST x.1) = e :: ws := List.filter_eq_self.mpr hst
  simp only [writeWords, hall, ht, if_true]

end Sys2Proof.Machine

/-- Settles O7: abortSeal has one case outside a seal window and one inside it. -/
theorem abortSealDiscardsTheSet : Obligations.AbortSealDiscardsTheSet := by
  unfold Obligations.AbortSealDiscardsTheSet
  intro p s u
  constructor
  · intro h hf
    exact exec_abortSeal h (abortSeal_noWindow (State.winOpen_eq_false hf))
  · intro h hf
    exact exec_abortSeal h (abortSeal_inWindow (State.winOpen_eq_true hf))

/-- Settles O25: both words have ST fields, so they are staged together, as one entry where the set has room. -/
theorem wideStagedWritesAreOneEntry : Obligations.WideStagedWritesAreOneEntry := by
  unfold Obligations.WideStagedWritesAreOneEntry
  intro off lo hi s hoff ha hlo hhi hb hf hd hroom
  refine ⟨_, rfl, ?_⟩
  have hst : ∀ x ∈ [(off, lo), (off + 4, hi)], isST x.1 = true := by simp [hlo, hhi]
  have hw := writeWords_staged hst (stageRegs_room (off / 0x10000) _ s hroom)
  have hin : ¬ 2 ^ 24 ≤ off := by omega
  change execRegisterWrite off 8 true lo hi s = _
  rw [execRegisterWrite, if_neg hin, bar0Write_wide hb ha (pageAssigned_of_isST hlo) hf hd hw]
  rfl

end

section
/-! PROOF. The line codec's residual (R290) and code number (R292). -/

open Sys2Proof Sys2Proof.Machine

namespace Sys2Proof.Machine

/-! ### The quantised residual (R290) -/

theorem quantise_eq_sign_mul (e : Int) (bound : Nat) :
    quantise e bound = e.sign * (((e.natAbs + bound) / (2 * bound + 1) : Nat) : Int) := by
  rcases Int.lt_trichotomy e 0 with h | rfl | h
  · simp [quantise, h, Int.sign_eq_neg_one_of_neg h]
  · simp [quantise, Nat.div_eq_of_lt (show bound < 2 * bound + 1 by omega)]
  · simp [quantise, Int.not_lt.mpr (Int.le_of_lt h), Int.sign_eq_one_of_pos h]

/-- The remainder of (abs(e) + E) ÷ Q is at most 2E, so the multiple of Q misses abs(e) by at most E. -/
theorem quantise_error (e : Int) (bound : Nat) :
    (e - quantise e bound * (2 * (bound : Int) + 1)).natAbs ≤ bound := by
  have hdiv := Nat.div_add_mod (e.natAbs + bound) (2 * bound + 1)
  have hmod := Nat.mod_lt (e.natAbs + bound) (show 0 < 2 * bound + 1 by omega)
  unfold quantise
  generalize (e.natAbs + bound) / (2 * bound + 1) = q at *
  generalize (e.natAbs + bound) % (2 * bound + 1) = r at *
  have hq : (2 * (bound : Int) + 1) * q + r = e.natAbs + bound := by exact_mod_cast hdiv
  dsimp only
  split
  · rw [Int.neg_mul, Int.mul_comm (q : Int)]
    omega
  · rw [Int.mul_comm (q : Int)]
    omega

/-- Two multiples of Q are at least Q = 2E + 1 apart, so the one within E is the nearest. -/
theorem nearest_of_within {e q : Int} {bound : Nat} (h : (e - q * (2 * (bound : Int) + 1)).natAbs ≤ bound) (m : Int) :
    (e - q * (2 * (bound : Int) + 1)).natAbs ≤ (e - m * (2 * (bound : Int) + 1)).natAbs := by
  by_cases heq : q = m
  · exact heq ▸ Nat.le_refl _
  · have hstep : 2 * bound + 1 ≤ ((q - m) * (2 * (bound : Int) + 1)).natAbs := by
      rw [Int.natAbs_mul]
      exact Nat.le_mul_of_pos_left _ (by omega : 0 < (q - m).natAbs)
    have hsum : e - m * (2 * (bound : Int) + 1) =
        (e - q * (2 * (bound : Int) + 1)) + (q - m) * (2 * (bound : Int) + 1) := by
      rw [Int.sub_mul]
      omega
    omega

theorem quantise_zero_bound (e : Int) : quantise e 0 = e := by
  have h := quantise_error e 0
  rw [Int.natCast_zero, Int.mul_zero, Int.zero_add, Int.mul_one] at h
  omega

theorem natAbs_quantise_le (e : Int) (bound : Nat) : (quantise e bound).natAbs ≤ e.natAbs := by
  have hprod : (2 * bound + 1) * (e.natAbs + 1) = 2 * (bound * e.natAbs) + e.natAbs + (2 * bound + 1) := by
    rw [Nat.mul_add, Nat.add_mul, Nat.mul_assoc, Nat.mul_one, Nat.one_mul]
  have hdiv : (e.natAbs + bound) / (2 * bound + 1) < e.natAbs + 1 := Nat.div_lt_of_lt_mul (by omega)
  unfold quantise
  generalize (e.natAbs + bound) / (2 * bound + 1) = q at *
  dsimp only
  split <;> omega

/-! ### The clamped reconstruction (R290) -/

theorem clampI_eq_max_min {lo hi : Int} (h : lo ≤ hi) (x : Int) : clampI lo hi x = max lo (min hi x) := by
  unfold clampI
  split
  · omega
  · split <;> omega

theorem reconstruct_cast (bw : Nat) (p q : Int) (bound : Nat) :
    (reconstruct bw p q bound : Int) = max 0 (min ((2 ^ bw - 1 : Nat) : Int) (p + q * (2 * (bound : Int) + 1))) := by
  rw [reconstruct, clampI_eq_max_min (by omega)]
  omega

theorem reconstruct_le (bw : Nat) (p q : Int) (bound : Nat) : reconstruct bw p q bound ≤ 2 ^ bw - 1 := by
  have := reconstruct_cast bw p q bound
  omega

/-- A sample lies within 0 to MAXV, so that clamping brings the reconstruction no further from it. -/
theorem reconstruct_error {bw x : Nat} (hx : x ≤ 2 ^ bw - 1) (p : Int) (bound : Nat) :
    ((x : Int) - reconstruct bw p (quantise ((x : Int) - p) bound) bound).natAbs ≤ bound := by
  have hq := quantise_error ((x : Int) - p) bound
  have hr := reconstruct_cast bw p (quantise ((x : Int) - p) bound) bound
  omega

/-! ### The code number (R292) -/

theorem residual_codeNumber (q : Int) : residual (codeNumber q) = q := by
  unfold residual codeNumber
  split <;> split <;> omega

/-- Every code number fits in BW + 1 bits. -/
theorem codeNumber_lt {bw : Nat} {q : Int} (h : q.natAbs ≤ 2 ^ bw - 1) : codeNumber q < 2 ^ (bw + 1) := by
  have := Nat.two_pow_pos bw
  unfold codeNumber
  split <;> omega

end Sys2Proof.Machine

/-- Settles O56: the residual's equation, its error of at most E, and the distance between two multiples of Q. -/
theorem residualsAreNearestMultiples : Obligations.ResidualsAreNearestMultiples := by
  unfold Obligations.ResidualsAreNearestMultiples
  intro bw bound x p _ _ hx hp e q step r
  have hcast : (((2 ^ bw - 1 : Nat)) : Int) = 2 ^ bw - 1 := by
    rw [Int.natCast_sub Nat.one_le_two_pow, Int.natCast_pow]
    rfl
  have herr : ((x : Int) - r).natAbs ≤ bound := reconstruct_error hx p bound
  refine ⟨quantise_eq_sign_mul e bound, ?_, quantise_error e bound, nearest_of_within (quantise_error e bound), herr, ?_⟩
  · rw [← hcast]
    exact reconstruct_cast bw p q bound
  · rintro rfl
    exact ⟨quantise_zero_bound e, by omega⟩

end

section
/-! PROOF. The bit strings of a coded line (R292, R293): fields written and read back, codes written and read back, bits
packed into bytes and unpacked. -/

open Sys2Proof Sys2Proof.Machine

namespace Sys2Proof.Machine

/-! ### Fields (R293) -/

/-- The number that readBits makes of a field's bits. -/
def bitsValue (bs : List Bool) : Nat := bs.foldl (fun a b => 2 * a + b01 b) 0

theorem readBits_eq (w : Nat) (bs : List Bool) :
    readBits w bs = if bs.length < w then none else some (bitsValue (bs.take w), bs.drop w) := rfl

@[simp] theorem bitsOf_length (w v : Nat) : (bitsOf w v).length = w := by simp [bitsOf, upTo]

theorem bitsOf_zero (v : Nat) : bitsOf 0 v = [] := rfl

theorem bitsOf_succ (w v : Nat) : bitsOf (w + 1) v = bitsOf w (v / 2) ++ [v % 2 == 1] := by
  have hlow : ∀ i ∈ List.range w, (v / 2 ^ (w - i) % 2 == 1) = (v / 2 / 2 ^ (w - 1 - i) % 2 == 1) := by
    intro i hi
    have hw : w - i = (w - 1 - i) + 1 := by have := List.mem_range.mp hi; omega
    rw [hw, Nat.pow_succ', Nat.div_div_eq_div_mul]
  simp [bitsOf, upTo, List.range_succ, List.map_congr_left hlow]

theorem bitsOf_append (w n v k : Nat) (h : k < 2 ^ n) : bitsOf w v ++ bitsOf n k = bitsOf (w + n) (v * 2 ^ n + k) := by
  induction n generalizing k with
  | zero => simp_all [bitsOf_zero]
  | succ n ih =>
    have hshift : v * 2 ^ (n + 1) = 2 * (v * 2 ^ n) := by
      rw [Nat.pow_succ', Nat.mul_left_comm]
    have hdiv : (v * 2 ^ (n + 1) + k) / 2 = v * 2 ^ n + k / 2 := by omega
    have hmod : (v * 2 ^ (n + 1) + k) % 2 = k % 2 := by omega
    have hhalf : k / 2 < 2 ^ n := by rw [Nat.pow_succ] at h; omega
    rw [← Nat.add_assoc, bitsOf_succ, bitsOf_succ, hdiv, hmod, ← ih (k / 2) hhalf, List.append_assoc]

theorem bitsOf_one {v : Nat} (h : v < 2) : bitsOf 1 v = [v == 1] := by
  rw [bitsOf_succ, Nat.mod_eq_of_lt h]
  rfl

theorem bitsValue_concat (bs : List Bool) (b : Bool) : bitsValue (bs ++ [b]) = 2 * bitsValue bs + b01 b := by
  simp [bitsValue]

theorem bitsValue_bitsOf (w v : Nat) : bitsValue (bitsOf w v) = v % 2 ^ w := by
  induction w generalizing v with
  | zero => simp [bitsOf_zero, bitsValue, Nat.mod_one]
  | succ w ih =>
    have hbit : b01 (v % 2 == 1) = v % 2 := by
      rcases Nat.mod_two_eq_zero_or_one v with h | h <;> simp [h, b01]
    rw [bitsOf_succ, bitsValue_concat, ih, hbit, Nat.pow_succ', Nat.mod_mul]
    omega

theorem foldl_bits (bs : List Bool) (a : Nat) :
    bs.foldl (fun a b => 2 * a + b01 b) a = a * 2 ^ bs.length + bitsValue bs := by
  induction bs generalizing a with
  | nil => simp [bitsValue]
  | cons b bs ih =>
    have hshift : a * 2 ^ (bs.length + 1) = 2 * a * 2 ^ bs.length := by
      rw [Nat.pow_succ, Nat.mul_comm (2 ^ bs.length), ← Nat.mul_assoc, Nat.mul_comm a]
    rw [bitsValue, List.foldl_cons, List.foldl_cons, ih, ih (2 * 0 + b01 b), List.length_cons, hshift, Nat.add_mul, Nat.mul_zero,
      Nat.zero_add, Nat.add_assoc]

theorem bitsValue_cons (b : Bool) (bs : List Bool) : bitsValue (b :: bs) = b01 b * 2 ^ bs.length + bitsValue bs := by
  rw [bitsValue, List.foldl_cons, foldl_bits, Nat.mul_zero, Nat.zero_add]

theorem bitsValue_lt (bs : List Bool) : bitsValue bs < 2 ^ bs.length := by
  induction bs with
  | nil => decide
  | cons b bs ih =>
    rw [bitsValue_cons, List.length_cons, Nat.pow_succ]
    unfold b01
    split <;> omega

theorem bitsOf_b01 (b : Bool) : bitsOf 1 (b01 b) = [b] := by cases b <;> rfl

theorem bitsOf_bitsValue (bs : List Bool) : bitsOf bs.length (bitsValue bs) = bs := by
  induction bs with
  | nil => rfl
  | cons b bs ih =>
    rw [bitsValue_cons, List.length_cons, Nat.add_comm bs.length, ← bitsOf_append _ _ _ _ (bitsValue_lt bs), bitsOf_b01, ih]
    rfl

theorem readBits_bitsOf (w v : Nat) (rest : List Bool) : readBits w (bitsOf w v ++ rest) = some (v % 2 ^ w, rest) := by
  simp [readBits_eq, bitsValue_bitsOf]

theorem readBits_bitsOf_of_lt {w v : Nat} (h : v < 2 ^ w) (rest : List Bool) :
    readBits w (bitsOf w v ++ rest) = some (v, rest) := by
  rw [readBits_bitsOf, Nat.mod_eq_of_lt h]

/-! ### Codes (R292, R296) -/

/-- A run that a zero-bit ends before the limit. -/
theorem readRun_short {hi fuel : Nat} (h : hi < fuel) (rest : List Bool) :
    readRun fuel (List.replicate hi true ++ false :: rest) = some (hi, rest) := by
  induction fuel generalizing hi with
  | zero => omega
  | succ fuel ih =>
    cases hi with
    | zero => rfl
    | succ hi => simp [List.replicate_succ, readRun, ih (Nat.lt_of_succ_lt_succ h)]

/-- A run that reaches the limit, where no zero-bit follows. -/
theorem readRun_full (fuel : Nat) (rest : List Bool) : readRun fuel (List.replicate fuel true ++ rest) = some (fuel, rest) := by
  induction fuel with
  | zero => rfl
  | succ fuel ih => simp [List.replicate_succ, readRun, ih]

/-! ### Bytes (R293) -/

theorem ceilDiv_of_pos {n d : Nat} (hd : 0 < d) (hn : 0 < n) : ceilDiv n d = ceilDiv (n - d) d + 1 := by
  unfold ceilDiv
  rcases Nat.le_total d n with h | h
  · rw [show n + d - 1 = (n - d + d - 1) + d by omega, Nat.add_div_right _ hd]
  · rw [Nat.sub_eq_zero_of_le h, Nat.div_eq_of_lt (show 0 + d - 1 < d by omega), Nat.div_eq_of_lt_le] <;> omega

theorem ceilDiv_mono {m n : Nat} (d : Nat) (h : m ≤ n) : ceilDiv m d ≤ ceilDiv n d :=
  Nat.div_le_div_right (by omega)

theorem le_mul_ceilDiv (n d : Nat) (hd : 0 < d) : n ≤ d * ceilDiv n d := by
  have := Nat.lt_mul_div_succ (n + d - 1) hd
  rw [Nat.mul_add] at this
  unfold ceilDiv
  omega

theorem packBits_length (fuel : Nat) (bs : List Bool) (h : bs.length ≤ 8 * fuel) :
    (packBits fuel bs).length = ceilDiv bs.length 8 := by
  induction fuel generalizing bs with
  | zero => simp_all [packBits, ceilDiv]
  | succ fuel ih =>
    cases bs with
    | nil => rfl
    | cons b bs =>
      rw [ceilDiv_of_pos (by omega) (by simp), packBits, if_neg (by simp), List.length_cons, ih _ (by simp at h ⊢; omega),
        List.length_drop]

/-- A byte's bits are those that filled it, then zeros. -/
theorem bitsOf_filledByte {h : List Bool} (hlen : h.length ≤ 8) :
    bitsOf 8 (BitVec.ofNat 8 (bitsValue (h ++ List.replicate (8 - h.length) false))).toNat =
      h ++ List.replicate (8 - h.length) false := by
  have hfull : (h ++ List.replicate (8 - h.length) false).length = 8 := by simp; omega
  generalize h ++ List.replicate (8 - h.length) false = f at *
  have hlt : bitsValue f < 2 ^ 8 := hfull ▸ bitsValue_lt f
  rw [BitVec.toNat_ofNat, Nat.mod_eq_of_lt hlt, ← hfull, bitsOf_bitsValue]

/-- Unpacked, packed bits come back with the filling after them. -/
theorem unpackBits_packBits (fuel : Nat) (bs : List Bool) (h : bs.length ≤ 8 * fuel) :
    ∃ fill, unpackBits (packBits fuel bs) = bs ++ fill := by
  induction fuel generalizing bs with
  | zero => exact ⟨[], by simp_all [packBits, unpackBits]⟩
  | succ fuel ih =>
    cases bs with
    | nil => exact ⟨[], rfl⟩
    | cons b bs =>
      have hbyte := bitsOf_filledByte (List.length_take_le 8 (b :: bs))
      obtain ⟨fill, hfill⟩ := ih ((b :: bs).drop 8) (by simp at h ⊢; omega)
      have hstep : unpackBits (packBits (fuel + 1) (b :: bs)) =
          ((b :: bs).take 8 ++ List.replicate (8 - ((b :: bs).take 8).length) false) ++ ((b :: bs).drop 8 ++ fill) := by
        rw [← hbyte, ← hfill]
        rfl
      rcases Nat.le_total (b :: bs).length 8 with hshort | hlong
      · exact ⟨_, by rw [hstep, List.take_of_length_le hshort, List.drop_of_length_le hshort, List.append_assoc]⟩
      · refine ⟨fill, ?_⟩
        rw [hstep, List.length_take_of_le hlong, Nat.sub_self, List.replicate_zero, List.append_nil, ← List.append_assoc,
          List.take_append_drop]

end Sys2Proof.Machine
end

section
/-! PROOF. The samples of one block: what the coder's choices write is what the decoder reads, and each reconstructed sample
keeps the block's bound (R289 to R292). -/

open Sys2Proof Sys2Proof.Machine

namespace Sys2Proof.Machine

/-! ### The decoder's state and the prediction (R289) -/

/-- Every reconstructed sample that a colour may predict from lies within 0 to MAXV. -/
def CStates.InRange (bw : Nat) (st : CStates) : Prop := ∀ c, (st.at_ c).a ≤ 2 ^ bw - 1

theorem CStates.inRange_start (bw : Nat) : CStates.start.InRange bw := by
  intro c
  have hzero : CStates.start.at_ c = ⟨0, 0, 0⟩ := by
    simp only [CStates.at_, CStates.start, List.getD_eq_getElem?_getD, List.getElem?_replicate]
    split <;> rfl
  simp [hzero]

theorem CStates.at_emit (st : CStates) (c r d : Nat) :
    (st.emit c r).at_ d = st.at_ d ∨ (st.emit c r).at_ d = ⟨(st.at_ c).cnt + 1, r, (st.at_ c).a⟩ := by
  simp only [CStates.emit, CStates.at_, List.getD_eq_getElem?_getD, List.getElem?_set]
  split
  · split
    · exact .inr rfl
    · next hcd hlen => exact .inl (by rw [← hcd, List.getElem?_eq_none (by omega)])
  · exact .inl rfl

theorem CStates.InRange.emit {bw : Nat} {st : CStates} (h : st.InRange bw) {r : Nat} (hr : r ≤ 2 ^ bw - 1) (c : Nat) :
    (st.emit c r).InRange bw := by
  intro d
  rcases st.at_emit c r d with heq | heq <;> rw [heq]
  · exact h d
  · exact hr

theorem predict_inRange {bw : Nat} {st : CStates} (h : st.InRange bw) (hbw : 1 ≤ bw) (c pm : Nat) :
    0 ≤ predict bw st c pm ∧ predict bw st c pm ≤ ((2 ^ bw - 1 : Nat) : Int) := by
  have ha := h c
  have hmid : 2 ^ (bw - 1) ≤ 2 ^ bw - 1 := Nat.le_sub_one_of_lt (Nat.pow_lt_pow_right (by omega) (by omega))
  unfold predict
  dsimp only
  split
  · exact ⟨Int.natCast_nonneg _, Int.ofNat_le.mpr hmid⟩
  · split
    · omega
    · rw [clampI_eq_max_min (by omega)]
      omega

/-- A line's samples and their reconstructions, each within `e` of the other. -/
inductive Within (e : Nat) : List Nat → List Nat → Prop
  | nil : Within e [] []
  | cons {x r : Nat} {xs rs : List Nat} (hx : ((x : Int) - r).natAbs ≤ e) (h : Within e xs rs) : Within e (x :: xs) (r :: rs)

theorem Within.mono {e e' : Nat} (hle : e ≤ e') {xs rs : List Nat} (h : Within e xs rs) : Within e' xs rs := by
  induction h with
  | nil => exact .nil
  | cons hx _ ih => exact .cons (Nat.le_trans hx hle) ih

theorem Within.append {e : Nat} {xs ys rs ss : List Nat} (h : Within e xs rs) (h' : Within e ys ss) :
    Within e (xs ++ ys) (rs ++ ss) := by
  induction h with
  | nil => exact h'
  | cons hx _ ih => exact .cons hx ih

theorem Within.length_eq {e : Nat} {xs rs : List Nat} (h : Within e xs rs) : rs.length = xs.length := by
  induction h with
  | nil => rfl
  | cons _ _ ih => rw [List.length_cons, List.length_cons, ih]

theorem Within.eq_of_zero {xs rs : List Nat} (h : Within 0 xs rs) : rs = xs := by
  induction h with
  | nil => rfl
  | @cons x r _ _ hx _ ih =>
    have heq : r = x := by omega
    rw [ih, heq]

theorem Within.getD {e : Nat} {xs rs : List Nat} (h : Within e xs rs) (i : Nat) :
    ((xs.getD i 0 : Int) - rs.getD i 0).natAbs ≤ e := by
  induction h generalizing i with
  | nil => simp
  | cons hx _ ih =>
    cases i with
    | zero => simpa using hx
    | succ i => simpa using ih i

/-! ### Coded samples (R290, R292) -/

/-- The reconstruction of a coded sample (R290). -/
def codedRecon (pr : Prof) (bound pm i : Nat) (st : CStates) (x : Nat) : Nat :=
  let p := predict pr.bw st (colOf pr.layout i) pm
  reconstruct pr.bw p (quantise ((x : Int) - p) bound) bound

/-- The code number of a coded sample (R292). -/
def codedNumber (pr : Prof) (bound pm i : Nat) (st : CStates) (x : Nat) : Nat :=
  codeNumber (quantise ((x : Int) - predict pr.bw st (colOf pr.layout i) pm) bound)

theorem codeSamples_cons (pr : Prof) (bound pm k i x : Nat) (xs : List Nat) (st : CStates) :
    codeSamples pr bound pm k i (x :: xs) st =
      let r := codedRecon pr bound pm i st x
      let out := codeSamples pr bound pm k (i + 1) xs (st.emit (colOf pr.layout i) r)
      (codeBits pr.bw k (codedNumber pr bound pm i st x) ++ out.1, out.2.1, r :: out.2.2) := rfl

theorem codedRecon_le (pr : Prof) (bound pm i : Nat) (st : CStates) (x : Nat) :
    codedRecon pr bound pm i st x ≤ 2 ^ pr.bw - 1 := reconstruct_le _ _ _ _

theorem codedNumber_lt {pr : Prof} (hbw : 1 ≤ pr.bw) {st : CStates} (h : st.InRange pr.bw) {x : Nat} (hx : x ≤ 2 ^ pr.bw - 1)
    (bound pm i : Nat) : codedNumber pr bound pm i st x < 2 ^ (pr.bw + 1) := by
  obtain ⟨hlo, hhi⟩ := predict_inRange h hbw (colOf pr.layout i) pm
  exact codeNumber_lt (Nat.le_trans (natAbs_quantise_le _ _) (by omega))

theorem codeSamples_inRange (pr : Prof) (bound pm k i : Nat) (xs : List Nat) {st : CStates} (h : st.InRange pr.bw) :
    (codeSamples pr bound pm k i xs st).2.1.InRange pr.bw := by
  induction xs generalizing i st with
  | nil => exact h
  | cons x xs ih => exact ih (i + 1) (h.emit (codedRecon_le pr bound pm i st x) _)

theorem codeSamples_within {pr : Prof} (bound pm k i : Nat) {xs : List Nat} (hx : ∀ x ∈ xs, x ≤ 2 ^ pr.bw - 1) (st : CStates) :
    Within bound xs (codeSamples pr bound pm k i xs st).2.2 := by
  induction xs generalizing i st with
  | nil => exact .nil
  | cons x xs ih =>
    exact .cons (reconstruct_error (hx x List.mem_cons_self) _ _) (ih (i + 1) (fun y hy => hx y (List.mem_cons_of_mem _ hy)) _)

/-- The decoder reads a code back as its code number, and reconstructs from its residual. -/
theorem decodeCoded_codeBits {bw layout bound pm k i u r : Nat} {st : CStates} (hu : u < 2 ^ (bw + 1))
    (hr : reconstruct bw (predict bw st (colOf layout i) pm) (residual u) bound = r) (n : Nat) (rest : List Bool) :
    decodeCoded bw layout bound pm k (n + 1) i (codeBits bw k u ++ rest) st =
      (decodeCoded bw layout bound pm k n (i + 1) rest (st.emit (colOf layout i) r)).map (fun x => (r :: x.1, x.2)) := by
  rw [← hr]
  unfold codeBits
  dsimp only
  split
  · next hhi =>
    have hne : u / 2 ^ k ≠ 24 := by omega
    have hu' : u / 2 ^ k * 2 ^ k + u % 2 ^ k = u := Nat.div_add_mod' u (2 ^ k)
    simp [decodeCoded, readRun_short hhi, hne, readBits_bitsOf, hu']
  · rw [List.append_assoc, decodeCoded, readRun_full]
    simp [readBits_bitsOf_of_lt hu]

theorem decodeCoded_codeSamples {pr : Prof} (hbw : 1 ≤ pr.bw) (bound pm k i : Nat) {xs : List Nat}
    (hx : ∀ x ∈ xs, x ≤ 2 ^ pr.bw - 1) {st : CStates} (h : st.InRange pr.bw) (rest : List Bool) :
    decodeCoded pr.bw pr.layout bound pm k xs.length i ((codeSamples pr bound pm k i xs st).1 ++ rest) st =
      some ((codeSamples pr bound pm k i xs st).2.2, rest, (codeSamples pr bound pm k i xs st).2.1) := by
  induction xs generalizing i st with
  | nil => rfl
  | cons x xs ih =>
    have hu := codedNumber_lt hbw h (hx x List.mem_cons_self) bound pm i
    have hr : reconstruct pr.bw (predict pr.bw st (colOf pr.layout i) pm) (residual (codedNumber pr bound pm i st x)) bound =
        codedRecon pr bound pm i st x := by rw [codedNumber, residual_codeNumber]; rfl
    have htail := ih (i + 1) (fun y hy => hx y (List.mem_cons_of_mem _ hy))
      (h.emit (codedRecon_le pr bound pm i st x) (colOf pr.layout i))
    rw [codeSamples_cons, List.length_cons, List.append_assoc, decodeCoded_codeBits hu hr, htail]
    rfl

/-! ### Escaped samples (R291) -/

/-- The reconstruction of an escaped sample (R291). -/
def escapedRecon (pr : Prof) (i : Nat) (st : CStates) (x : Nat) : Nat :=
  escRecon (pr.bw - escBits pr) (x / 2 ^ (pr.bw - escBits pr)) (st.at_ (colOf pr.layout i)).cnt

theorem escSamples_cons (pr : Prof) (i x : Nat) (xs : List Nat) (st : CStates) :
    escSamples pr i (x :: xs) st =
      let r := escapedRecon pr i st x
      let out := escSamples pr (i + 1) xs (st.emit (colOf pr.layout i) r)
      (bitsOf (escBits pr) (x / 2 ^ (pr.bw - escBits pr)) ++ out.1, out.2.1, r :: out.2.2) := rfl

theorem escBits_le (pr : Prof) : escBits pr ≤ pr.bw := by
  unfold escBits
  split
  · exact Nat.min_le_left _ _
  · exact Nat.le_refl _

/-- The kept bits of a sample fit their field. -/
theorem escValue_lt {bw m x : Nat} (hm : m ≤ bw) (hx : x ≤ 2 ^ bw - 1) : x / 2 ^ (bw - m) < 2 ^ m := by
  have := Nat.two_pow_pos bw
  refine Nat.div_lt_of_lt_mul ?_
  rw [← Nat.pow_add, Nat.sub_add_cancel hm]
  omega

theorem escRecon_le {bw t v : Nat} (cnt : Nat) (ht : t ≤ bw) (hv : v < 2 ^ (bw - t)) : escRecon t v cnt ≤ 2 ^ bw - 1 := by
  have hfit : (v + 1) * 2 ^ t ≤ 2 ^ (bw - t) * 2 ^ t := Nat.mul_le_mul_right _ hv
  rw [← Nat.pow_add, Nat.sub_add_cancel ht, Nat.add_mul, Nat.one_mul] at hfit
  unfold escRecon
  split
  · next h => subst h; omega
  · next h =>
    have hhalf : 2 ^ (t - 1) < 2 ^ t := Nat.pow_lt_pow_right (by omega) (by omega)
    omega

/-- The discarded bits are at most 2^t − 1 and the offset lies in their middle. -/
theorem escRecon_error (x t cnt : Nat) :
    ((x : Int) - escRecon t (x / 2 ^ t) cnt).natAbs ≤ if t = 0 then 0 else 2 ^ (t - 1) := by
  have hdiv := Nat.div_add_mod' x (2 ^ t)
  have hmod := Nat.mod_lt x (Nat.two_pow_pos t)
  unfold escRecon
  split
  · next h => subst h; simp
  · next h =>
    have hdouble : 2 ^ t = 2 * 2 ^ (t - 1) := by rw [← Nat.pow_succ', Nat.succ_eq_add_one, Nat.sub_add_cancel (by omega)]
    omega

theorem escapedRecon_le (pr : Prof) (i : Nat) (st : CStates) {x : Nat} (hx : x ≤ 2 ^ pr.bw - 1) :
    escapedRecon pr i st x ≤ 2 ^ pr.bw - 1 := by
  refine escRecon_le _ (Nat.sub_le _ _) ?_
  rw [Nat.sub_sub_self (escBits_le pr)]
  exact escValue_lt (escBits_le pr) hx

theorem escSamples_inRange (pr : Prof) (i : Nat) {xs : List Nat} (hx : ∀ x ∈ xs, x ≤ 2 ^ pr.bw - 1) {st : CStates}
    (h : st.InRange pr.bw) : (escSamples pr i xs st).2.1.InRange pr.bw := by
  induction xs generalizing i st with
  | nil => exact h
  | cons x xs ih =>
    have hr := escapedRecon_le pr i st (hx x List.mem_cons_self)
    exact ih (i + 1) (fun y hy => hx y (List.mem_cons_of_mem _ hy)) (h.emit hr _)

theorem escSamples_within (pr : Prof) (i : Nat) (xs : List Nat) (st : CStates) :
    Within (if pr.bw - escBits pr = 0 then 0 else 2 ^ (pr.bw - escBits pr - 1)) xs (escSamples pr i xs st).2.2 := by
  induction xs generalizing i st with
  | nil => exact .nil
  | cons x xs ih => exact .cons (escRecon_error x _ _) (ih (i + 1) _)

theorem escSamples_length (pr : Prof) (i : Nat) (xs : List Nat) (st : CStates) :
    (escSamples pr i xs st).1.length = xs.length * escBits pr := by
  induction xs generalizing i st with
  | nil => simp [escSamples]
  | cons x xs ih =>
    rw [escSamples_cons, List.length_append, bitsOf_length, ih, List.length_cons, Nat.add_mul]
    omega

theorem decodeEsc_escSamples (pr : Prof) (i : Nat) {xs : List Nat} (hx : ∀ x ∈ xs, x ≤ 2 ^ pr.bw - 1) (st : CStates)
    (rest : List Bool) :
    decodeEsc pr.bw pr.layout (escBits pr) xs.length i ((escSamples pr i xs st).1 ++ rest) st =
      some ((escSamples pr i xs st).2.2, rest, (escSamples pr i xs st).2.1) := by
  induction xs generalizing i st with
  | nil => rfl
  | cons x xs ih =>
    have hv := escValue_lt (escBits_le pr) (hx x List.mem_cons_self)
    have htail := ih (i + 1) (fun y hy => hx y (List.mem_cons_of_mem _ hy))
      (st.emit (colOf pr.layout i) (escapedRecon pr i st x))
    rw [escSamples_cons, List.length_cons, List.append_assoc, decodeEsc, readBits_bitsOf_of_lt hv]
    change Option.map _ (decodeEsc _ _ _ _ _ _ (st.emit _ (escapedRecon pr i st x))) = _
    rw [htail]
    rfl

end Sys2Proof.Machine
end

section
/-! PROOF. The blocks of a line (R294, R295, R298): whichever block the encoder chooses, the decoder reads it back, its samples
keep the guarantee of the profile's mode, and it has the size that its mode allows. -/

open Sys2Proof Sys2Proof.Machine

namespace Sys2Proof.Machine

/-! ### The guarantee of a mode (R285, R287) -/

theorem paramOk_iff {mode param : Nat} : paramOk mode param = true ↔
    (mode = 1 ∧ param = 0) ∨ (mode = 2 ∧ 1 ≤ param ∧ param ≤ 8) ∨ (mode = 3 ∧ 4 ≤ param ∧ param ≤ 10) := by
  unfold paramOk
  split <;> simp_all

/-- A profile within its ranges, as far as a line's coding goes (Table CD-9). -/
structure Prof.Codes (pr : Prof) : Prop where
  bw_ge : 8 ≤ pr.bw
  bw_le : pr.bw ≤ 16
  layout_le : pr.layout ≤ 4
  param_ok : paramOk pr.mode pr.param = true

/-- The worst-case error of every sample of a line (Table CD-3). -/
def Prof.lineBound (pr : Prof) : Nat :=
  if pr.mode = 1 then 0 else if pr.mode = 2 then eTab pr.param else efr pr.bw pr.param

theorem Prof.lineBound_fixed {pr : Prof} (h : pr.mode = 3) : pr.lineBound = efr pr.bw pr.param := by
  simp [Prof.lineBound, h]

theorem escBits_fixed {pr : Prof} (h : pr.mode = 3) : escBits pr = min pr.bw (pr.param - 1) := by
  rw [escBits, if_pos h]

/-- An escape block discards t bits, where t − 1 = BW − RATE in a fixed-rate line and t = 0 in any other (R291). -/
theorem escape_error_le {pr : Prof} (h : pr.Codes) :
    (if pr.bw - escBits pr = 0 then 0 else 2 ^ (pr.bw - escBits pr - 1)) ≤ pr.lineBound := by
  rcases paramOk_iff.mp h.param_ok with ⟨hm, -⟩ | ⟨hm, -⟩ | ⟨hm, hlo, -⟩
  · simp [escBits, hm]
  · simp [escBits, hm]
  · rw [Prof.lineBound_fixed hm, efr, escBits_fixed hm]
    split
    · exact Nat.zero_le _
    · rw [if_pos (by omega)]
      exact Nat.pow_le_pow_right (by omega) (by omega)

/-- The E code that a coded block writes, if it writes one, and the E that its samples are coded under (R286, R287). -/
inductive BlockE (pr : Prof) : Option Nat → Nat → Prop
  | profile (hm : pr.mode ≠ 3) : BlockE pr none (if pr.mode = 1 then 0 else eTab pr.param)
  | block {e : Nat} (hm : pr.mode = 3) (he : e < 16) (hle : eTab e ≤ efr pr.bw pr.param) : BlockE pr (some e) (eTab e)

theorem BlockE.le_lineBound {pr : Prof} (h : pr.Codes) {ecode : Option Nat} {bound : Nat} (hE : BlockE pr ecode bound) :
    bound ≤ pr.lineBound := by
  cases hE with
  | profile hm =>
    rcases paramOk_iff.mp h.param_ok with ⟨hm', -⟩ | ⟨hm', -⟩ | ⟨hm', -⟩
    · simp [hm']
    · simp [Prof.lineBound, hm']
    · exact absurd hm' hm
  | block hm _ hle => exact Prof.lineBound_fixed hm ▸ hle

/-! ### The decoder on one block (R296) -/

/-- What the decoder does with a block of `n` samples up to the check of its size: samples, rest, state, escape blocks. -/
def decodeBody (mode bw layout param n i : Nat) (bs : List Bool) (st : CStates) :
    Except Nat (List Nat × List Bool × CStates × Nat) :=
  match bs with
  | [] => .error 6
  | true :: bs =>
    match decodeEsc bw layout (if mode = 3 then Nat.min bw (param - 1) else bw) n i bs st with
    | some (rs, bs, st) => .ok (rs, bs, st, 1)
    | none => .error 6
  | false :: bs =>
    match readBits 1 bs with
    | none => .error 6
    | some (pm, bs) =>
      match (if mode = 3 then readBits 4 bs else some (param, bs)) with
      | none => .error 6
      | some (e, bs) =>
        let bound := if mode = 1 then 0 else eTab e
        if mode = 3 ∧ efr bw param < bound then .error 5 else
        match readBits 4 bs with
        | none => .error 6
        | some (k, bs) =>
          match decodeCoded bw layout bound pm k n i bs st with
          | some (rs, bs, st) => .ok (rs, bs, st, 0)
          | none => .error 6

/-- One round of the line's decoder: a block, then the check of its size and the rest of the line. -/
theorem decodeBlocks_succ (mode bw layout param fuel i left : Nat) (bs : List Bool) (st : CStates) :
    decodeBlocks mode bw layout param (fuel + 1) i left bs st =
      if left = 0 then .ok ([], 0, 0) else
      let n := Nat.min 32 left
      match decodeBody mode bw layout param n i bs st with
      | .error e => .error e
      | .ok (rs, rest, st, e) =>
        let used := bs.length - rest.length
        if mode = 3 ∧ n * param < used then .error 6
        else if mode = 3 ∧ rest.length < n * param - used then .error 6
        else
          match decodeBlocks mode bw layout param fuel (i + 32) (left - n)
              (if mode = 3 then rest.drop (n * param - used) else rest) st with
          | .error e => .error e
          | .ok (rs', e', b') => .ok (rs ++ rs', e + e', (if mode = 3 then n * param else used) + b') := rfl

/-- A line's decoder takes one block, skips the filling of a fixed-rate block, and goes on behind it. -/
theorem decodeBlocks_block {mode bw layout param fuel i left e e' used : Nat} {bits fill rest : List Bool} {st st' : CStates}
    {rs rs' : List Nat} (hleft : left ≠ 0)
    (hbody : decodeBody mode bw layout param (Nat.min 32 left) i (bits ++ (fill ++ rest)) st = .ok (rs, fill ++ rest, st', e))
    (hfixed : mode = 3 → bits.length + fill.length = Nat.min 32 left * param) (hfree : mode ≠ 3 → fill = [])
    (hrest : decodeBlocks mode bw layout param fuel (i + 32) (left - Nat.min 32 left) rest st' = .ok (rs', e', used)) :
    decodeBlocks mode bw layout param (fuel + 1) i left (bits ++ (fill ++ rest)) st =
      .ok (rs ++ rs', e + e', bits.length + fill.length + used) := by
  have hused : (bits ++ (fill ++ rest)).length - (fill ++ rest).length = bits.length := by simp
  simp only [decodeBlocks_succ, if_neg hleft, hbody, hused]
  by_cases hm : mode = 3
  · have hsize := hfixed hm
    have hskip : (fill ++ rest).drop (Nat.min 32 left * param - bits.length) = rest := by
      rw [← hsize, Nat.add_sub_cancel_left, List.drop_left]
    rw [if_neg (by omega), if_neg (by rw [List.length_append]; omega), if_pos hm, hskip, hrest, if_pos hm, hsize]
  · rw [hfree hm] at *
    simp [hm, hrest]

/-! ### The encoder's choices (R298) -/

/-- What any choice for a block keeps: its bits decode to its reconstruction, which keeps the guarantee of the mode. -/
structure BlockOk (pr : Prof) (i : Nat) (xs : List Nat) (st : CStates) (b : Block) : Prop where
  within : Within pr.lineBound xs b.recon
  inRange : b.st.InRange pr.bw
  decodes : ∀ rest, decodeBody pr.mode pr.bw pr.layout pr.param xs.length i (b.bits ++ rest) st =
    .ok (b.recon, rest, b.st, b01 b.esc)

variable {pr : Prof} {xs : List Nat} {st : CStates}

theorem codedBlock_bits_none (pr : Prof) (i : Nat) (xs : List Nat) (st : CStates) (bound pm k : Nat) (rest : List Bool) :
    (codedBlock pr i xs st none bound pm k).bits ++ rest =
      false :: ([pm == 1] ++ (bitsOf 4 k ++ ((codeSamples pr bound pm k i xs st).1 ++ rest))) := by
  simp [codedBlock]

theorem codedBlock_bits_some (pr : Prof) (i : Nat) (xs : List Nat) (st : CStates) (e bound pm k : Nat) (rest : List Bool) :
    (codedBlock pr i xs st (some e) bound pm k).bits ++ rest =
      false :: ([pm == 1] ++ (bitsOf 4 e ++ (bitsOf 4 k ++ ((codeSamples pr bound pm k i xs st).1 ++ rest)))) := by
  simp [codedBlock]

theorem codedBlock_ok (h : pr.Codes) (hx : ∀ x ∈ xs, x ≤ 2 ^ pr.bw - 1) (hst : st.InRange pr.bw) (i : Nat)
    {ecode : Option Nat} {bound pm k : Nat} (hE : BlockE pr ecode bound) (hpm : pm < 2) (hk : k < 16) :
    BlockOk pr i xs st (codedBlock pr i xs st ecode bound pm k) where
  within := (codeSamples_within bound pm k i hx st).mono (hE.le_lineBound h)
  inRange := codeSamples_inRange pr bound pm k i xs hst
  decodes rest := by
    have hcodes := decodeCoded_codeSamples (by have := h.bw_ge; omega) bound pm k i hx hst rest
    have hpm' := readBits_bitsOf_of_lt (w := 1) hpm
    have hk' := readBits_bitsOf_of_lt (w := 4) hk
    rw [bitsOf_one hpm] at hpm'
    cases hE with
    | profile hm =>
      rw [codedBlock_bits_none]
      simp only [decodeBody, hpm', hk', hm, hcodes, if_false, false_and]
      rfl
    | @block e hm he hle =>
      have he' := readBits_bitsOf_of_lt (w := 4) he
      have hm1 : pr.mode ≠ 1 := by omega
      have hallowed : ¬ (pr.mode = 3 ∧ efr pr.bw pr.param < eTab e) := fun hlt => Nat.not_lt.mpr hle hlt.2
      rw [codedBlock_bits_some]
      simp only [decodeBody, hpm', he', hk', hcodes, if_pos hm, if_neg hm1, if_neg hallowed]
      rfl

theorem escBlock_ok (h : pr.Codes) (hx : ∀ x ∈ xs, x ≤ 2 ^ pr.bw - 1) (hst : st.InRange pr.bw) (i : Nat) :
    BlockOk pr i xs st (escBlock pr i xs st) where
  within := (escSamples_within pr i xs st).mono (escape_error_le h)
  inRange := escSamples_inRange pr i hx hst
  decodes rest := by
    have hdec := decodeEsc_escSamples pr i hx st rest
    unfold escBits at hdec
    change decodeBody _ _ _ _ _ _ (true :: (escSamples pr i xs st).1 ++ rest) st = _
    simp only [decodeBody, List.cons_append, hdec]
    rfl

theorem escBlock_length (pr : Prof) (i : Nat) (xs : List Nat) (st : CStates) :
    (escBlock pr i xs st).bits.length = 1 + xs.length * escBits pr := by
  change (true :: (escSamples pr i xs st).1).length = _
  rw [List.length_cons, escSamples_length, Nat.add_comm]

/-- The shortest coding is one of the codings tried. -/
theorem shortest_eq_codedBlock (pr : Prof) (i : Nat) (xs : List Nat) (st : CStates) (ecode : Option Nat) (bound : Nat) :
    ∃ pm k, pm < 2 ∧ k < 16 ∧ shortest pr i xs st ecode bound = codedBlock pr i xs st ecode bound pm k := by
  have htried : ∀ c ∈ (upTo 2).flatMap (fun pm => (upTo 16).map (fun k => (pm, k))), c.1 < 2 ∧ c.2 < 16 := by decide
  unfold shortest
  generalize (upTo 2).flatMap (fun pm => (upTo 16).map (fun k => (pm, k))) = tries at htried
  refine List.foldlRecOn (motive := fun b => ∃ pm k, pm < 2 ∧ k < 16 ∧ b = codedBlock pr i xs st ecode bound pm k) tries _
    ⟨0, 0, by omega, by omega, rfl⟩ fun best hbest c hc => ?_
  obtain ⟨hpm, hk⟩ := htried c hc
  dsimp only
  split
  · exact ⟨c.1, c.2, hpm, hk, rfl⟩
  · exact hbest

theorem shortest_ok (h : pr.Codes) (hx : ∀ x ∈ xs, x ≤ 2 ^ pr.bw - 1) (hst : st.InRange pr.bw) (i : Nat)
    {ecode : Option Nat} {bound : Nat} (hE : BlockE pr ecode bound) :
    BlockOk pr i xs st (shortest pr i xs st ecode bound) := by
  obtain ⟨pm, k, hpm, hk, heq⟩ := shortest_eq_codedBlock pr i xs st ecode bound
  rw [heq]
  exact codedBlock_ok h hx hst i hE hpm hk

/-- A lossless or bounded-error line takes the shortest coding or, where that is longer, the escape block. -/
theorem encodeBlock_free (h : pr.Codes) (hm : pr.mode ≠ 3) (hx : ∀ x ∈ xs, x ≤ 2 ^ pr.bw - 1) (hst : st.InRange pr.bw)
    (i : Nat) : BlockOk pr i xs st (encodeBlock pr i xs st) ∧ (encodeBlock pr i xs st).bits.length ≤ 1 + xs.length * pr.bw := by
  have hbound : (if pr.mode = 2 then eTab pr.param else 0) = if pr.mode = 1 then 0 else eTab pr.param := by
    rcases paramOk_iff.mp h.param_ok with ⟨hm', -⟩ | ⟨hm', -⟩ | ⟨hm', -⟩ <;> simp_all
  have hchoice : encodeBlock pr i xs st =
      let b := shortest pr i xs st none (if pr.mode = 1 then 0 else eTab pr.param)
      if 1 + xs.length * pr.bw < b.bits.length then escBlock pr i xs st else b := by
    rw [← hbound, encodeBlock, if_neg hm]
  have hlen := escBlock_length pr i xs st
  rw [escBits, if_neg hm] at hlen
  have hok := shortest_ok h hx hst i (.profile hm)
  generalize shortest pr i xs st none (if pr.mode = 1 then 0 else eTab pr.param) = b at *
  rw [hchoice]
  by_cases hfits : 1 + xs.length * pr.bw < b.bits.length
  · simp only [if_pos hfits]
    exact ⟨escBlock_ok h hx hst i, Nat.le_of_eq hlen⟩
  · simp only [if_neg hfits]
    exact ⟨hok, Nat.not_lt.mp hfits⟩

/-- An escape block fits the bits of a fixed-rate block: it keeps at most RATE − 1 bits of each sample. -/
theorem escBlock_fits (h : pr.Codes) (hm : pr.mode = 3) (i : Nat) (st : CStates) (hne : xs ≠ []) :
    (escBlock pr i xs st).bits.length ≤ xs.length * pr.param := by
  have hrate : 4 ≤ pr.param := by
    rcases paramOk_iff.mp h.param_ok with ⟨hm', -⟩ | ⟨hm', -⟩ | ⟨-, hlo, -⟩ <;> omega
  have hkept : xs.length * escBits pr ≤ xs.length * (pr.param - 1) := by
    rw [escBits_fixed hm]
    exact Nat.mul_le_mul_left _ (Nat.min_le_right _ _)
  have hpos : xs.length ≤ xs.length * pr.param := Nat.le_mul_of_pos_right _ (by omega)
  have hlen := List.length_pos_iff.mpr hne
  rw [Nat.mul_sub, Nat.mul_one] at hkept
  rw [escBlock_length]
  omega

/-- A fixed-rate line takes a coding or an escape block that fits n × RATE bits, and fills it with zeros. -/
theorem encodeBlock_fixed (h : pr.Codes) (hm : pr.mode = 3) (hx : ∀ x ∈ xs, x ≤ 2 ^ pr.bw - 1) (hst : st.InRange pr.bw)
    (i : Nat) (hne : xs ≠ []) :
    ∃ b, BlockOk pr i xs st b ∧ b.bits.length ≤ xs.length * pr.param ∧
      encodeBlock pr i xs st = { b with bits := b.bits ++ List.replicate (xs.length * pr.param - b.bits.length) false } := by
  simp only [encodeBlock, if_pos hm]
  refine ⟨_, and_assoc.mp ⟨?_, rfl⟩⟩
  generalize hfit : List.findSome? _ _ = fit
  cases fit with
  | none => exact ⟨escBlock_ok h hx hst i, escBlock_fits h hm i st hne⟩
  | some b =>
    obtain ⟨e, he, hb⟩ := List.exists_of_findSome?_eq_some hfit
    split at hb
    · next hle =>
      split at hb
      · next hlen =>
        rw [← Option.some.inj hb, Option.getD_some]
        exact ⟨shortest_ok h hx hst i (.block hm (List.mem_range.mp he) hle), hlen⟩
      · cases hb
    · cases hb

end Sys2Proof.Machine
end

section
/-! PROOF. A coded line (R285, R293, R295, R296): header and blocks decode to the coder's reconstruction, within the
guarantee and the size of the profile's mode. -/

open Sys2Proof Sys2Proof.Machine

namespace Sys2Proof.Machine

/-! ### The blocks of a line (R294, R295) -/

/-- A block's bits and the filling behind them, with the size that the mode allows. -/
theorem encodeBlock_ok {pr : Prof} (h : pr.Codes) {xs : List Nat} (hne : xs ≠ []) (hx : ∀ x ∈ xs, x ≤ 2 ^ pr.bw - 1)
    {st : CStates} (hst : st.InRange pr.bw) (i : Nat) :
    ∃ b fill, BlockOk pr i xs st b ∧ encodeBlock pr i xs st = { b with bits := b.bits ++ fill }
      ∧ (pr.mode = 3 → b.bits.length + fill.length = xs.length * pr.param)
      ∧ (pr.mode ≠ 3 → fill = [] ∧ b.bits.length ≤ 1 + xs.length * pr.bw) := by
  by_cases hm : pr.mode = 3
  · obtain ⟨b, hb, hlen, heq⟩ := encodeBlock_fixed h hm hx hst i hne
    exact ⟨b, _, hb, heq, fun _ => by rw [List.length_replicate]; omega, fun hm' => absurd hm hm'⟩
  · obtain ⟨hb, hlen⟩ := encodeBlock_free h hm hx hst i
    exact ⟨_, [], hb, by rw [List.append_nil], fun hm' => absurd hm' hm, fun _ => ⟨rfl, hlen⟩⟩

theorem encodeBlocks_cons (pr : Prof) (fuel i : Nat) {xs : List Nat} (hne : xs ≠ []) (st : CStates) :
    encodeBlocks pr (fuel + 1) i xs st =
      let b := encodeBlock pr i (xs.take 32) st
      let out := encodeBlocks pr fuel (i + 32) (xs.drop 32) b.st
      (b.bits ++ out.1, b.recon ++ out.2.1, out.2.2 + b01 b.esc) := by
  rw [encodeBlocks, if_neg (by simpa using hne)]

/-- What the blocks of a line keep: their bits decode to their reconstruction, within guarantee and size. -/
structure BlocksOk (pr : Prof) (fuel i : Nat) (xs : List Nat) (st : CStates) (out : List Bool × List Nat × Nat) : Prop where
  within : Within pr.lineBound xs out.2.1
  decodes : ∀ rest, decodeBlocks pr.mode pr.bw pr.layout pr.param fuel i xs.length (out.1 ++ rest) st =
    .ok (out.2.1, out.2.2, out.1.length)
  size_fixed : pr.mode = 3 → out.1.length = xs.length * pr.param
  size_free : pr.mode ≠ 3 → out.1.length ≤ xs.length * pr.bw + ceilDiv xs.length 32

theorem blocksOk_nil (pr : Prof) (fuel i : Nat) (st : CStates) : BlocksOk pr fuel i [] st ([], [], 0) where
  within := .nil
  decodes rest := by cases fuel <;> rfl
  size_fixed _ := by simp
  size_free _ := by simp

/-- One block in front of the blocks that follow it. -/
theorem BlocksOk.cons {pr : Prof} {fuel i : Nat} {xs : List Nat} {st : CStates} (hne : xs ≠ []) {b : Block} {fill : List Bool}
    {out : List Bool × List Nat × Nat} (hb : BlockOk pr i (xs.take 32) st b)
    (hfixed : pr.mode = 3 → b.bits.length + fill.length = (xs.take 32).length * pr.param)
    (hfree : pr.mode ≠ 3 → fill = [] ∧ b.bits.length ≤ 1 + (xs.take 32).length * pr.bw)
    (hout : BlocksOk pr fuel (i + 32) (xs.drop 32) b.st out) :
    BlocksOk pr (fuel + 1) i xs st (b.bits ++ fill ++ out.1, b.recon ++ out.2.1, out.2.2 + b01 b.esc) := by
  have htake : (xs.take 32).length = Nat.min 32 xs.length := List.length_take
  have hdrop : (xs.drop 32).length = xs.length - Nat.min 32 xs.length := by
    rw [← htake, List.length_take, List.length_drop]
    omega
  have hlen : xs.length = (xs.take 32).length + (xs.drop 32).length := by rw [List.length_take, List.length_drop]; omega
  constructor
  case within =>
    rw [← List.take_append_drop 32 xs]
    exact hb.within.append hout.within
  case decodes =>
    intro rest
    have hbody := hb.decodes (fill ++ (out.1 ++ rest))
    have hrest := hout.decodes rest
    rw [htake] at hbody hfixed
    rw [hdrop] at hrest
    have hall := decodeBlocks_block (by simpa using hne) hbody hfixed (fun hm => (hfree hm).1) hrest
    simp only [List.append_assoc, List.length_append, ← Nat.add_assoc, Nat.add_comm (b01 b.esc)] at hall ⊢
    exact hall
  case size_fixed =>
    intro hm
    rw [List.length_append, List.length_append, hfixed hm, hout.size_fixed hm, hlen, Nat.add_mul]
  case size_free =>
    intro hm
    obtain ⟨rfl, hsize⟩ := hfree hm
    have hcount : ceilDiv xs.length 32 = ceilDiv (xs.drop 32).length 32 + 1 := by
      rw [ceilDiv_of_pos (by omega) (List.length_pos_iff.mpr hne), List.length_drop]
    have hsamples : xs.length * pr.bw = (xs.take 32).length * pr.bw + (xs.drop 32).length * pr.bw := by
      rw [← Nat.add_mul, ← hlen]
    have := hout.size_free hm
    simp only [List.length_append, List.length_nil]
    omega

theorem encodeBlocks_ok {pr : Prof} (h : pr.Codes) (fuel i : Nat) {xs : List Nat} (hx : ∀ x ∈ xs, x ≤ 2 ^ pr.bw - 1)
    {st : CStates} (hst : st.InRange pr.bw) (hfuel : xs.length ≤ 32 * fuel) :
    BlocksOk pr fuel i xs st (encodeBlocks pr fuel i xs st) := by
  induction fuel generalizing i xs st with
  | zero =>
    obtain rfl : xs = [] := List.length_eq_zero_iff.mp (by omega)
    exact blocksOk_nil pr 0 i st
  | succ fuel ih =>
    by_cases hne : xs = []
    · rw [hne]
      exact blocksOk_nil pr (fuel + 1) i st
    · obtain ⟨b, fill, hb, heq, hfixed, hfree⟩ :=
        encodeBlock_ok h (xs := xs.take 32) (by simpa using hne) (fun x hm => hx x (List.mem_of_mem_take hm)) hst i
      rw [encodeBlocks_cons pr fuel i hne st, heq]
      exact .cons hne hb hfixed hfree
        (ih (i + 32) (fun x hm => hx x (List.mem_of_mem_drop hm)) hb.inRange (by rw [List.length_drop]; omega))

/-! ### The line header (R293) -/

/-- The fields of Table CD-6 for a line of `n` samples. -/
def lineHeader (pr : Prof) (n : Nat) : List Bool :=
  bitsOf 4 1 ++ bitsOf 2 pr.mode ++ bitsOf 4 (pr.bw - 1) ++ bitsOf 3 pr.layout ++ bitsOf 4 pr.param ++ bitsOf 15 (n - 1)

theorem lineHeader_length (pr : Prof) (n : Nat) : (lineHeader pr n).length = 32 := by simp [lineHeader]

/-- The line header as one number of 32 bits. -/
def lineHeaderWord (pr : Prof) (n : Nat) : Nat :=
  ((((1 * 2 ^ 2 + pr.mode) * 2 ^ 4 + (pr.bw - 1)) * 2 ^ 3 + pr.layout) * 2 ^ 4 + pr.param) * 2 ^ 15 + (n - 1)

theorem lineHeader_eq_bitsOf {pr : Prof} (h : pr.Codes) {n : Nat} (hn : n ≤ 2 ^ 15) :
    lineHeader pr n = bitsOf 32 (lineHeaderWord pr n) := by
  obtain ⟨hbw, hbw', hlayout, hparam⟩ := h
  have hmode : pr.mode < 2 ^ 2 ∧ pr.param < 2 ^ 4 := by
    rcases paramOk_iff.mp hparam with ⟨_, _⟩ | ⟨_, _⟩ | ⟨_, _⟩ <;> omega
  rw [lineHeader, bitsOf_append _ _ _ _ hmode.1, bitsOf_append _ _ _ _ (by omega), bitsOf_append _ _ _ _ (by omega),
    bitsOf_append _ _ _ _ hmode.2, bitsOf_append _ _ _ _ (by omega)]
  rfl

/-- The decoder accepts the header of a line as it was written, and goes on to the blocks behind it. -/
theorem decodeWhole_lineHeader {pr : Prof} (h : pr.Codes) {n : Nat} (hn : 1 ≤ n) (hn' : n ≤ 2 ^ 15) {line : List Byte}
    {body : List Bool} (hline : unpackBits line = lineHeader pr n ++ body) :
    decodeWhole line n pr.bw pr.layout =
      (decodeBlocks pr.mode pr.bw pr.layout pr.param (ceilDiv n 32) 0 n body CStates.start).map
        (fun r => (r.1, r.2.1, 32 + r.2.2)) := by
  have hhead := lineHeader_eq_bitsOf h hn'
  obtain ⟨hbw, hbw', hlayout, hparam⟩ := h
  have hmode : 1 ≤ pr.mode ∧ pr.mode < 4 ∧ pr.param < 16 := by
    rcases paramOk_iff.mp hparam with ⟨_, _⟩ | ⟨_, _⟩ | ⟨_, _⟩ <;> omega
  obtain ⟨w, hw⟩ : ∃ w, w = lineHeaderWord pr n := ⟨_, rfl⟩
  have hfields : w < 2 ^ 32 ∧ w / 2 ^ 28 % 16 = 1 ∧ w / 2 ^ 26 % 4 = pr.mode ∧ w / 2 ^ 22 % 16 + 1 = pr.bw
      ∧ w / 2 ^ 19 % 8 = pr.layout ∧ w / 2 ^ 15 % 16 = pr.param ∧ w % 2 ^ 15 + 1 = n := by
    unfold lineHeaderWord at hw
    omega
  obtain ⟨hlt, hver, hm, hb, hl, hp, hc⟩ := hfields
  have hvalid : ¬ (pr.mode = 0 ∨ pr.bw < 8 ∨ 4 < pr.layout ∨ (!paramOk pr.mode pr.param) = true) := by
    simp only [hparam, Bool.not_true, Bool.false_eq_true, or_false]
    omega
  rw [decodeWhole, hline, hhead, ← hw, readBits_bitsOf_of_lt hlt]
  simp only [hver, hm, hb, hl, hp, hc, if_neg hvalid, ne_eq, not_true_eq_false, or_self, if_false]

/-! ### The line (R285, R295) -/

/-- The samples of a line limited to BW bits (R282). -/
def limited (pr : Prof) (xs : List Nat) : List Nat := xs.map (fun x => Nat.min x (2 ^ pr.bw - 1))

/-- The blocks of a line: bits, reconstructed samples, escape blocks. -/
def lineBlocks (pr : Prof) (xs : List Nat) : List Bool × List Nat × Nat :=
  encodeBlocks pr (ceilDiv xs.length 32) 0 (limited pr xs) CStates.start

theorem limited_length (pr : Prof) (xs : List Nat) : (limited pr xs).length = xs.length := List.length_map _

/-- A coded line is its header and blocks, packed into bytes. -/
theorem encodeLine_bytes (pr : Prof) (xs : List Nat) :
    (encodeLine pr xs).bytes = packBits (ceilDiv (lineHeader pr xs.length ++ (lineBlocks pr xs).1).length 8)
      (lineHeader pr xs.length ++ (lineBlocks pr xs).1) := by
  rw [lineBlocks, ← limited_length pr xs]
  rfl

theorem encodeLine_recon (pr : Prof) (xs : List Nat) : (encodeLine pr xs).recon = (lineBlocks pr xs).2.1 := by
  rw [lineBlocks, ← limited_length pr xs]
  rfl

theorem encodeLine_esc (pr : Prof) (xs : List Nat) : (encodeLine pr xs).esc = (lineBlocks pr xs).2.2 := by
  rw [lineBlocks, ← limited_length pr xs]
  rfl

theorem encodeLine_bytes_length (pr : Prof) (xs : List Nat) :
    (encodeLine pr xs).bytes.length = ceilDiv (32 + (lineBlocks pr xs).1.length) 8 := by
  rw [encodeLine_bytes, packBits_length _ _ (le_mul_ceilDiv _ 8 (by omega)), List.length_append, lineHeader_length]

theorem lineBlocks_ok {pr : Prof} (h : pr.Codes) (xs : List Nat) :
    BlocksOk pr (ceilDiv xs.length 32) 0 (limited pr xs) CStates.start (lineBlocks pr xs) := by
  have hfuel := Nat.le_trans (Nat.le_of_eq (limited_length pr xs)) (le_mul_ceilDiv xs.length 32 (by omega))
  refine encodeBlocks_ok h _ 0 ?_ (CStates.inRange_start pr.bw) hfuel
  intro y hy
  obtain ⟨x, -, rfl⟩ := List.mem_map.mp hy
  exact Nat.min_le_right _ _

theorem decodeLine_encodeLine {pr : Prof} (h : pr.Codes) {xs : List Nat} (hn : 1 ≤ xs.length) (hn' : xs.length ≤ 2 ^ 15) :
    decodeLine (encodeLine pr xs).bytes xs.length pr.bw pr.layout = .ok ((encodeLine pr xs).recon, (encodeLine pr xs).esc) := by
  obtain ⟨fill, hfill⟩ :=
    unpackBits_packBits _ (lineHeader pr xs.length ++ (lineBlocks pr xs).1) (le_mul_ceilDiv _ 8 (by omega))
  rw [← encodeLine_bytes, List.append_assoc] at hfill
  have hblocks := (lineBlocks_ok h xs).decodes fill
  rw [limited_length] at hblocks
  rw [decodeLine, decodeWhole_lineHeader h hn hn' hfill, hblocks, encodeLine_recon, encodeLine_esc]
  rfl

end Sys2Proof.Machine

/-- Settles O57: every block decodes to a reconstruction within the guarantee, and the line's header names its profile. -/
theorem codedLinesKeepTheirGuarantee : Obligations.CodedLinesKeepTheirGuarantee := by
  unfold Obligations.CodedLinesKeepTheirGuarantee
  intro pr xs hbw hbw' hlayout hparam hn hn' c lim e
  have h : pr.Codes := ⟨hbw, hbw', hlayout, hparam⟩
  have hblocks := lineBlocks_ok h xs
  have hwithin : Within e lim c.recon := encodeLine_recon pr xs ▸ hblocks.within
  have hbytes : c.bytes.length = ceilDiv (32 + (lineBlocks pr xs).1.length) 8 := encodeLine_bytes_length pr xs
  refine ⟨decodeLine_encodeLine h hn hn', ?_, fun i _ => hwithin.getD i, fun hm => ?_, fun hm => ?_, fun hm => ?_⟩
  · exact hwithin.length_eq.trans (limited_length pr xs)
  · have hzero : e = 0 := if_pos hm
    exact (hzero ▸ hwithin).eq_of_zero
  · rw [hbytes, hblocks.size_fixed hm, limited_length]
  · have hsize := hblocks.size_free hm
    rw [limited_length] at hsize
    rw [hbytes, worstLine, if_neg hm]
    exact ceilDiv_mono 8 (by omega)

end

section
/-! PROOF. The power domain of the two halves of an aligned 8-byte access (R527). -/

open Sys2Proof Sys2Proof.Machine

namespace Sys2Proof.Machine

/-! ### Bounds that are multiples of 8 do not part the halves of an aligned access -/

theorem add_four_lt_iff {off k : Nat} (hoff : 8 ∣ off) (hk : 8 ∣ k) : off + 4 < k ↔ off < k := by omega

theorem add_four_div {off k : Nat} (hoff : 8 ∣ off) (hk : 8 ∣ k) : (off + 4) / k = off / k := by
  obtain ⟨m, rfl⟩ := hoff
  obtain ⟨j, rfl⟩ := hk
  rw [← Nat.div_div_eq_div_mul, ← Nat.div_div_eq_div_mul]
  congr 1
  omega

/-- Below `b` both differences are 0, so no bound on `off` is needed. -/
theorem add_four_sub_div {off b k : Nat} (hoff : 8 ∣ off) (hb : 8 ∣ b) (hk : 8 ∣ k) :
    (off + 4 - b) / k = (off - b) / k := by
  rcases Nat.lt_or_ge off b with hlt | hge
  · rw [show off + 4 - b = off - b by omega]
  · rw [Nat.sub_add_comm hge, add_four_div (Nat.dvd_sub hoff hb) hk]

/-- Both halves lie on one page, whose register sets all begin and end at multiples of 8. -/
theorem domainOf_add_four {a : Nat} (ha : 8 ∣ a) : domainOf (a + 4) = domainOf a := by
  have hpage : (a + 4) / 0x10000 = a / 0x10000 := add_four_div ha (by decide)
  have hoff : (a + 4) % 0x10000 = a % 0x10000 + 4 := by omega
  have hset : 8 ∣ a % 0x10000 := by omega
  simp (disch := decide) only [domainOf, hpage, hoff, add_four_lt_iff hset, add_four_div hset, add_four_sub_div hset]

end Sys2Proof.Machine

/-- Settles O26: both halves lie in one power domain, on which alone the darkness and the fuse of a register depend. -/
theorem alignedAccessesStayInOneSet : Obligations.AlignedAccessesStayInOneSet := by
  unfold Obligations.AlignedAccessesStayInOneSet
  intro a s ha
  have hdomain : domainOf a = domainOf (a + 4) := (domainOf_add_four (Nat.dvd_of_mod_eq_zero ha)).symm
  exact ⟨hdomain, congrArg s.dark hdomain, fun ab => congrArg (fusedDomain ab) hdomain⟩

end

section
/-! PROOF. The fields of a bundle (R202, Table ST-3): a bundle is its fields packed side by side. -/

open Sys2Proof Sys2Proof.Machine

namespace Sys2Proof.Machine

/-! ### Fields packed side by side -/

/-- The number that fields make, given as widths and values from the low end on. -/
def packFields : List (Nat × Nat) → Nat
  | [] => 0
  | e :: l => e.2 + 2 ^ e.1 * packFields l

/-- The bits that fields take together. -/
def fieldBits (l : List (Nat × Nat)) : Nat := (l.map (·.1)).sum

/-- Every value fits the width of its field. -/
def FieldsFit (l : List (Nat × Nat)) : Prop := ∀ e ∈ l, e.2 < 2 ^ e.1

theorem packFields_lt {l : List (Nat × Nat)} (h : FieldsFit l) : packFields l < 2 ^ fieldBits l := by
  induction l with
  | nil => simp [packFields, fieldBits]
  | cons e l ih =>
    have he : e.2 < 2 ^ e.1 := h e List.mem_cons_self
    have hl : packFields l + 1 ≤ 2 ^ fieldBits l := ih fun x hx => h x (List.mem_cons_of_mem _ hx)
    calc e.2 + 2 ^ e.1 * packFields l < 2 ^ e.1 * (packFields l + 1) := by rw [Nat.mul_succ]; omega
      _ ≤ 2 ^ e.1 * 2 ^ fieldBits l := Nat.mul_le_mul_left _ hl
      _ = 2 ^ fieldBits (e :: l) := by rw [← Nat.pow_add]; rfl

/-- The fields before a place are the bits below it. -/
theorem packFields_div {l : List (Nat × Nat)} (h : FieldsFit l) (i : Nat) :
    packFields l / 2 ^ fieldBits (l.take i) = packFields (l.drop i) := by
  induction l generalizing i with
  | nil => simp [packFields]
  | cons e l ih =>
    have he : e.2 < 2 ^ e.1 := h e List.mem_cons_self
    have hl : FieldsFit l := fun x hx => h x (List.mem_cons_of_mem _ hx)
    cases i with
    | zero => simp [fieldBits]
    | succ i =>
      have hbits : fieldBits ((e :: l).take (i + 1)) = e.1 + fieldBits (l.take i) := rfl
      rw [hbits, Nat.pow_add, ← Nat.div_div_eq_div_mul, packFields, Nat.add_mul_div_left _ _ (Nat.two_pow_pos _),
        Nat.div_eq_of_lt he, Nat.zero_add, ih hl, List.drop_succ_cons]

/-- A field reads back at its place. -/
theorem packFields_read {l : List (Nat × Nat)} (h : FieldsFit l) {i w v : Nat} (hi : l[i]? = some (w, v)) :
    packFields l / 2 ^ fieldBits (l.take i) % 2 ^ w = v := by
  obtain ⟨hlt, hget⟩ := List.getElem?_eq_some_iff.mp hi
  rw [packFields_div h, List.drop_eq_getElem_cons hlt, hget, packFields, Nat.add_mul_mod_self_left]
  exact Nat.mod_eq_of_lt (h (w, v) (List.mem_of_getElem? hi))

/-! ### The fields of Table ST-3 -/

/-- The fields of bits 87:0 with their widths, from bit 0 on. -/
def BundleFields.lowLayout (b : BundleFields) : List (Nat × Nat) :=
  [(2, b.format), (8, b.s), (5, b.sd), (5, b.sa), (20, b.imm), (9, b.v), (6, b.vd), (6, b.va), (6, b.vb), (6, b.vc), (3, b.pr),
    (1, b.prz), (6, b.sh), (2, b.rnd), (1, b.sat), (1, b.p12), (1, b.u)]

/-- The fields of the load/store slot, or the long immediate. -/
def BundleFields.highLayout (b : BundleFields) : List (Nat × Nat) :=
  if b.format = 1 then [(32, b.imm32)]
  else [(6, b.m), (6, b.vt), (5, b.base), (16, b.off), (3, b.mpr), (2, b.space)]

/-- All fields of a bundle. -/
def BundleFields.layout (b : BundleFields) : List (Nat × Nat) := b.lowLayout ++ b.highLayout

theorem BundleFields.layout_fits {b : BundleFields} (h : b.wf = true) : FieldsFit b.layout := by
  have hfields := of_decide_eq_true h
  unfold FieldsFit layout lowLayout highLayout
  split <;> simp [hfields] <;> omega

theorem BundleFields.fieldBits_layout_le (b : BundleFields) : fieldBits b.layout ≤ 128 := by
  unfold layout lowLayout highLayout
  split <;> simp [fieldBits]

/-- A bundle of given fields is these fields packed. -/
theorem BundleFields.raw_toNat {b : BundleFields} (h : b.wf = true) : b.raw.toNat = packFields b.layout := by
  have hlt : packFields b.layout < 2 ^ 128 :=
    Nat.lt_of_lt_of_le (packFields_lt (layout_fits h)) (Nat.pow_le_pow_right (by decide) b.fieldBits_layout_le)
  have hhigh : b.high = packFields b.highLayout := by
    unfold high highLayout
    split <;> simp only [packFields] <;> omega
  have hsum : packFields b.layout = b.format + 2 ^ 2 * b.s + 2 ^ 10 * b.sd + 2 ^ 15 * b.sa + 2 ^ 20 * b.imm + 2 ^ 40 * b.v
      + 2 ^ 49 * b.vd + 2 ^ 55 * b.va + 2 ^ 61 * b.vb + 2 ^ 67 * b.vc + 2 ^ 73 * b.pr + 2 ^ 76 * b.prz + 2 ^ 77 * b.sh
      + 2 ^ 83 * b.rnd + 2 ^ 85 * b.sat + 2 ^ 86 * b.p12 + 2 ^ 87 * b.u + 2 ^ 88 * packFields b.highLayout := by
    simp only [layout, lowLayout, List.cons_append, List.nil_append, packFields, Nat.mul_add, ← Nat.mul_assoc, ← Nat.pow_add,
      Nat.add_assoc, Nat.reduceAdd]
  rw [raw, hhigh, ← hsum, BitVec.toNat_ofNat, Nat.mod_eq_of_lt hlt]

/-- A field reads back from the bits that the widths of the fields before it give it. -/
theorem BundleFields.bf_raw {b : BundleFields} (h : b.wf = true) {l m : List (Nat × Nat)} (hl : b.layout = l ++ m)
    {ws : List Nat} (hws : l.map (·.1) = ws) {i hi lo w v : Nat} (hplace : (ws.take i).sum = lo ∧ hi + 1 - lo = w)
    (hv : l[i]? = some (w, v)) : bf b.raw hi lo = v := by
  obtain ⟨hlt, -⟩ := List.getElem?_eq_some_iff.mp hv
  have htake : fieldBits (b.layout.take i) = lo := by
    rw [hl, List.take_append_of_le_length (Nat.le_of_lt hlt), fieldBits, List.map_take, hws, hplace.1]
  rw [bf, raw_toNat h, hplace.2, ← htake]
  exact packFields_read (layout_fits h) (by rw [hl, List.getElem?_append_left hlt, hv])

/-- The register B is the low five bits of IMM20. -/
theorem bSB_eq_imm_mod (raw : BitVec 128) : bSB raw = bf raw 39 20 % 32 :=
  (Nat.mod_mod_of_dvd _ (by decide : 2 ^ 5 ∣ 2 ^ 20)).symm

end Sys2Proof.Machine

/-- Settles O22: every field has its place in the layout, and packed fields read back at their places. -/
theorem bundleFieldsReadBack : Obligations.BundleFieldsReadBack := by
  unfold Obligations.BundleFieldsReadBack
  intro b h
  have low {i hi lo w v : Nat} (hplace : (([2, 8, 5, 5, 20, 9, 6, 6, 6, 6, 3, 1, 6, 2, 1, 1, 1] : List Nat).take i).sum = lo
      ∧ hi + 1 - lo = w) (hv : b.lowLayout[i]? = some (w, v)) : bf b.raw hi lo = v := b.bf_raw h rfl rfl hplace hv
  have hformat : bFormat b.raw = b.format := low (i := 0) (by decide) rfl
  have himm : bf b.raw 39 20 = b.imm := low (i := 4) (by decide) rfl
  have hprz : bf b.raw 76 76 = b.prz := low (i := 11) (by decide) rfl
  have hsat : bf b.raw 85 85 = b.sat := low (i := 14) (by decide) rfl
  have hp12 : bf b.raw 86 86 = b.p12 := low (i := 15) (by decide) rfl
  have hu : bf b.raw 87 87 = b.u := low (i := 16) (by decide) rfl
  refine ⟨hformat, low (i := 1) (by decide) rfl, low (i := 2) (by decide) rfl, low (i := 3) (by decide) rfl,
    himm ▸ bSB_eq_imm_mod b.raw, congrArg (sext 20) himm, low (i := 5) (by decide) rfl, low (i := 6) (by decide) rfl,
    low (i := 7) (by decide) rfl, low (i := 8) (by decide) rfl, low (i := 9) (by decide) rfl, low (i := 10) (by decide) rfl,
    by rw [bPRZ, hprz]; rfl, low (i := 12) (by decide) rfl, low (i := 13) (by decide) rfl, by rw [bSAT, hsat]; rfl,
    by rw [bP12, hp12]; rfl, by rw [bU, hu]; rfl, fun hf => ?_, fun hf => ?_⟩
  · have hhigh : b.highLayout = [(6, b.m), (6, b.vt), (5, b.base), (16, b.off), (3, b.mpr), (2, b.space)] := if_neg (by omega)
    have high {i hi lo w v : Nat} (hplace : (([2, 8, 5, 5, 20, 9, 6, 6, 6, 6, 3, 1, 6, 2, 1, 1, 1, 6, 6, 5, 16, 3, 2] :
        List Nat).take i).sum = lo ∧ hi + 1 - lo = w) (hv : (b.lowLayout ++ [(6, b.m), (6, b.vt), (5, b.base), (16, b.off),
        (3, b.mpr), (2, b.space)])[i]? = some (w, v)) : bf b.raw hi lo = v :=
      b.bf_raw h (m := []) (by rw [BundleFields.layout, hhigh, List.append_nil]) rfl hplace hv
    have hm : bf b.raw 93 88 = b.m := high (i := 17) (by decide) rfl
    refine ⟨?_, high (i := 18) (by decide) rfl, high (i := 19) (by decide) rfl, high (i := 20) (by decide) rfl,
      high (i := 21) (by decide) rfl, high (i := 22) (by decide) rfl⟩
    rw [bM, bLong, hformat, hf]
    exact hm
  · have hhigh : b.highLayout = [(32, b.imm32)] := if_pos hf
    have hlong : bLong b.raw = true := by rw [bLong, hformat, hf]; rfl
    have himm32 : bf b.raw 119 88 = b.imm32 :=
      b.bf_raw h (i := 17) (w := 32) (m := []) (by rw [BundleFields.layout, hhigh, List.append_nil])
        (ws := [2, 8, 5, 5, 20, 9, 6, 6, 6, 6, 3, 1, 6, 2, 1, 1, 1, 32]) rfl (by decide) rfl
    exact ⟨if_pos hlong, congrArg w32 himm32⟩

end

section
/-! PROOF. The block as a whole: its queue, reset, registers, memories, and which commands stop. -/

open Sys2Proof Sys2Proof.Machine

namespace Sys2Proof.Machine

/-! ### Setting a field of a register -/

theorem State.reg_setFld_other (a b : Nat) (f : Fld) (v : Nat) (s : State) (h : s.regsWf = true) (hb : b ≠ a) :
    (s.setFld a f v).reg b = s.reg b := State.reg_setReg_other a b _ s h hb

theorem State.regsWf_setFld (a : Nat) (f : Fld) (v : Nat) (s : State) (h : s.regsWf = true) :
    (s.setFld a f v).regsWf = true := State.regsWf_setReg a _ s h

/-! ### Reading bytes of a memory -/

theorem readBytes_nil (a n : Nat) : readBytes [] a n = List.replicate n 0 := by
  simp [readBytes, upTo, SMap.get, SMap.find, List.map_const']

theorem getD_of_lt {α : Type} {l : List α} {i : Nat} (d : α) (h : i < l.length) : l.getD i d = l[i] := by
  rw [List.getD_eq_getElem?_getD, List.getElem?_eq_getElem h, Option.getD_some]

theorem readBytes_writeBytes_same (m : SMap Byte) (a : Nat) (bs : List Byte) (h : SMap.wf m (fun _ => 0) = true) :
    readBytes (writeBytes m a bs) a bs.length = bs := by
  apply List.ext_getElem
  · simp [readBytes, upTo]
  · intro i _ hi
    have hget := get_writeBytes_inside bs m a i h hi
    rw [getD_of_lt _ hi] at hget
    simpa [readBytes, upTo] using hget

theorem readBytes_writeBytes_outside (m : SMap Byte) (a b n : Nat) (bs : List Byte) (h : SMap.wf m (fun _ => 0) = true)
    (hb : b + n ≤ a ∨ a + bs.length ≤ b) : readBytes (writeBytes m a bs) b n = readBytes m b n := by
  refine List.map_congr_left fun i hi => get_writeBytes_outside bs m a (b + i) h ?_
  have : i < n := List.mem_range.mp hi
  omega

/-- Canonical memories are canonical one by one. -/
theorem State.memWf_iff (s : State) : s.memWf = true ↔ SMap.wf s.hay (fun _ => 0) = true
    ∧ SMap.wf s.store.mem (fun _ => 0) = true ∧ SMap.wf s.sec.flash (fun _ => 0xFF) = true := by
  simp only [State.memWf, Bool.and_eq_true, and_assoc]

/-! ### Scrambling (R140) -/

theorem scramble_scramble (bs : List Nat) (seed : Nat) : scramble (scramble bs seed).1 seed = (bs, (scramble bs seed).2) := by
  induction bs generalizing seed with
  | nil => rfl
  | cons b bs ih => simp [scramble, ih, Nat.xor_assoc]

/-! ### Commands that stop (log entry 33) -/

/-- Every command but an access through BAR0 or BAR2 answers a next state whatever its operands. -/
theorem exec_next (c : Instr) (s : State) (hw : ∀ off size full lo hi, c ≠ .registerWrite off size full lo hi)
    (hr : ∀ off n, c ≠ .bar2Read off n) (hb : ∀ off data, c ≠ .bar2Write off data) : ∃ t, exec c s = .next t := by
  cases c with
  | registerWrite off size full lo hi => exact absurd rfl (hw off size full lo hi)
  | bar2Read off n => exact absurd rfl (hr off n)
  | bar2Write off data => exact absurd rfl (hb off data)
  | _ => exact ⟨_, rfl⟩

/-- An access that stops outside its window and else goes on is never refused. -/
theorem window_outcome (out : Prop) [Decidable out] (t : State) (o : Host.Outcome State Fault Refusal)
    (ho : o = if out then .fault .outsideWindow else .next t) :
    (∀ r, o ≠ .refused r) ∧ (o = .fault .outsideWindow ↔ out) := by
  subst ho
  by_cases h : out <;> simp [h]

end Sys2Proof.Machine

/-- Settles O3: every clause is a read of the sparse map of registers, or of a field, after one write of it. -/
theorem registersReadBack : Obligations.RegistersReadBack := by
  unfold Obligations.RegistersReadBack
  intro a w s h
  refine ⟨s.reg_setReg_self a w h, s.regsWf_setReg a w h, fun b hb => s.reg_setReg_other a b w h hb, ?_⟩
  intro f v hlo hhi
  refine ⟨s.fld_setFld_self a f v h hlo hhi, s.regsWf_setFld a f v h, fun b hb => s.reg_setFld_other a b f v h hb, ?_⟩
  intro g _ hg hbeside
  exact s.fld_setFld_beside a f g v h hg hbeside.symm

/-- Settles O4: hayloft and frame store are byte memories of their own, and a write of one leaves the other and the
registers. -/
theorem memoriesReadBack : Obligations.MemoriesReadBack := by
  unfold Obligations.MemoriesReadBack
  intro a bs s h
  obtain ⟨hhay, hstore, -⟩ := s.memWf_iff.mp h
  refine ⟨readBytes_writeBytes_same s.hay a bs hhay, readBytes_writeBytes_same s.store.mem a bs hstore,
    s.memWf_hayWrite a bs h, s.memWf_fsWrite a bs h, ?_, fun b n => ⟨rfl, rfl⟩, fun b => ⟨rfl, rfl⟩⟩
  intro b n hb
  exact ⟨readBytes_writeBytes_outside s.hay a b n bs hhay hb, readBytes_writeBytes_outside s.store.mem a b n bs hstore hb⟩

/-- Settles O42: two words of the scrambler cancel in every byte. -/
theorem descramblingIsScrambling : Obligations.DescramblingIsScrambling := by
  unfold Obligations.DescramblingIsScrambling
  exact scramble_scramble

/-- Settles O1: the step is by definition the front command's exec, or idle on an empty queue. -/
theorem stepRunsTheFrontCommand : Obligations.StepRunsTheFrontCommand := by
  unfold Obligations.StepRunsTheFrontCommand
  exact fun c rest s => ⟨rfl, rfl, fun nbits w => ⟨rfl, rfl⟩⟩

/-- Settles O2: every sparse map of the reset state is empty, so each key reads what an unlisted key reads as. -/
theorem resetLeavesTheResetColumn : Obligations.ResetLeavesTheResetColumn := by
  unfold Obligations.ResetLeavesTheResetColumn
  refine ⟨rfl, rfl, rfl, fun a => rfl, rfl, rfl, rfl, rfl, rfl, fun n => rfl, State.reset_regsWf, State.reset_memWf, ?_⟩
  exact fun a n => ⟨readBytes_nil a n, readBytes_nil a n⟩

/-- Settles O27: the three rows of the host's windows compare their range with the window; no other row can stop. -/
theorem onlyAccessesOutsideTheWindowsStop : Obligations.OnlyAccessesOutsideTheWindowsStop := by
  unfold Obligations.OnlyAccessesOutsideTheWindowsStop
  intro c s
  by_cases hw : ∃ off size full lo hi, c = .registerWrite off size full lo hi
  · obtain ⟨off, size, full, lo, hi, rfl⟩ := hw
    obtain ⟨hrefused, hfault⟩ := window_outcome (2 ^ 24 ≤ off) _ (exec (.registerWrite off size full lo hi) s) rfl
    refine ⟨hrefused, hfault.trans ⟨fun h => .inl ⟨_, _, _, _, _, rfl, h⟩, ?_⟩, fun hw _ _ => absurd rfl (hw off size full lo hi)⟩
    rintro (⟨_, _, _, _, _, ⟨⟩, h⟩ | ⟨_, _, ⟨⟩, h⟩ | ⟨_, _, ⟨⟩, h⟩)
    exact h
  by_cases hr : ∃ off n, c = .bar2Read off n
  · obtain ⟨off, n, rfl⟩ := hr
    obtain ⟨hrefused, hfault⟩ := window_outcome (2 ^ 28 < off + n) _ (exec (.bar2Read off n) s) rfl
    refine ⟨hrefused, hfault.trans ⟨fun h => .inr (.inl ⟨_, _, rfl, h⟩), ?_⟩, fun _ hr _ => absurd rfl (hr off n)⟩
    rintro (⟨_, _, _, _, _, ⟨⟩, h⟩ | ⟨_, _, ⟨⟩, h⟩ | ⟨_, _, ⟨⟩, h⟩)
    exact h
  by_cases hb : ∃ off data, c = .bar2Write off data
  · obtain ⟨off, data, rfl⟩ := hb
    obtain ⟨hrefused, hfault⟩ := window_outcome (2 ^ 28 < off + data.length) _ (exec (.bar2Write off data) s) rfl
    refine ⟨hrefused, hfault.trans ⟨fun h => .inr (.inr ⟨_, _, rfl, h⟩), ?_⟩, fun _ _ hb => absurd rfl (hb off data)⟩
    rintro (⟨_, _, _, _, _, ⟨⟩, h⟩ | ⟨_, _, ⟨⟩, h⟩ | ⟨_, _, ⟨⟩, h⟩)
    exact h
  obtain ⟨t, ht⟩ := exec_next c s (fun off size full lo hi h => hw ⟨off, size, full, lo, hi, h⟩)
    (fun off n h => hr ⟨off, n, h⟩) (fun off data h => hb ⟨off, data, h⟩)
  refine ⟨by simp [ht], ?_, fun _ _ _ => ⟨t, ht⟩⟩
  rw [ht]
  refine iff_of_false (by simp) ?_
  rintro (⟨off, size, full, lo, hi, h, -⟩ | ⟨off, n, h, -⟩ | ⟨off, data, h, -⟩)
  · exact hw ⟨off, size, full, lo, hi, h⟩
  · exact hr ⟨off, n, h⟩
  · exact hb ⟨off, data, h⟩

end

section
/-! PROOF. The keyed address hash (R307, R308): every key's hash is a linear function of A[31:14]. -/

open Sys2Proof Sys2Proof.Machine

namespace Sys2Proof.Machine

/-! ### Parity (R307) -/

/-- A number of entries is odd or even by the first entry and the rest. -/
theorem odd_length_filter_cons (f : Nat → Bool) (x : Nat) (l : List Nat) :
    (((x :: l).filter f).length % 2 == 1) = (f x ^^ ((l.filter f).length % 2 == 1)) := by
  rcases Nat.mod_two_eq_zero_or_one (l.filter f).length with h | h <;> cases hx : f x <;>
    simp [hx, h, Nat.add_mod]

theorem odd_length_filter_xor (f g : Nat → Bool) (l : List Nat) : ((l.filter fun i => f i ^^ g i).length % 2 == 1) =
    (((l.filter f).length % 2 == 1) ^^ ((l.filter g).length % 2 == 1)) := by
  induction l with
  | nil => rfl
  | cons x l ih =>
    rw [odd_length_filter_cons, odd_length_filter_cons, odd_length_filter_cons, ih]
    cases f x <;> cases g x <;> simp

theorem onesOf_eq_filter_testBit (v n : Nat) : onesOf v n = (upTo n).filter fun i => v.testBit i := by
  unfold onesOf upTo
  congr 1
  funext i
  rw [Nat.testBit_eq_decide_div_mod_eq]
  rfl

/-- Parity is linear. -/
theorem parity_xor (n v w : Nat) : parity n (v ^^^ w) = (parity n v ^^ parity n w) := by
  unfold parity
  simp only [onesOf_eq_filter_testBit, Nat.testBit_xor, odd_length_filter_xor]

/-! ### Masks -/

/-- The mask of a choice of the positions below `n` has exactly these bits. -/
theorem maskOf_filter_testBit (f : Nat → Bool) (n i : Nat) :
    (maskOf ((upTo n).filter f)).testBit i = (decide (i < n) && f i) := by
  induction n generalizing i with
  | zero => simp [upTo, maskOf]
  | succ n ih =>
    have hlt : maskOf ((upTo n).filter f) < 2 ^ n := Nat.lt_pow_two_of_testBit _ fun j hj => by simp [ih, Nat.not_lt.mpr hj]
    have hstep : maskOf ((upTo (n + 1)).filter f) =
        2 ^ n * (b01 (f n)) ||| maskOf ((upTo n).filter f) := by
      rw [← Nat.two_pow_add_eq_or_of_lt hlt]
      unfold upTo maskOf at hlt ⊢
      cases hf : f n
      · simp [List.range_succ, hf, b01]
      · simp only [List.range_succ, hf, List.filter_append, List.foldl_append, List.filter_cons, List.filter_nil, if_true,
          List.foldl_cons, List.foldl_nil, Nat.div_eq_of_lt hlt, b01, Nat.mul_one]
        exact Nat.add_comm _ _
    rw [hstep, Nat.testBit_or, ih, Nat.testBit_two_pow_mul]
    rcases Nat.lt_trichotomy i n with h | rfl | h
    · simp [h, Nat.not_le.mpr h, Nat.lt_succ_of_lt h]
    · cases f i <;> simp [b01]
    · have hbit : (b01 (f n)).testBit (i - n) = false := by
        rw [show i - n = i - n - 1 + 1 by omega, Nat.testBit_succ]
        cases f n <;> simp [b01]
      simp [hbit, Nat.not_lt.mpr (Nat.le_of_lt h), Nat.not_lt.mpr (show n + 1 ≤ i from h)]

/-- The vector of a key for A[31:14], one parity for each of its masks (R307). -/
def hashVector (masks : List (BitVec 18)) (hi : Nat) : Nat :=
  maskOf ((upTo 6).filter fun b => parity 18 (hi &&& (masks.getD b 0).toNat))

theorem hashVector_xor (masks : List (BitVec 18)) (a b : Nat) :
    hashVector masks (a ^^^ b) = hashVector masks a ^^^ hashVector masks b := by
  apply Nat.eq_of_testBit_eq
  intro i
  simp only [hashVector, Nat.testBit_xor, maskOf_filter_testBit, Nat.and_xor_distrib_right, parity_xor]
  cases decide (i < 6) <;> simp

theorem hashVector_lt (masks : List (BitVec 18)) (hi : Nat) : hashVector masks hi < 64 := by
  refine Nat.lt_pow_two_of_testBit (n := 6) _ fun i hi6 => ?_
  simp [hashVector, maskOf_filter_testBit, Nat.not_lt.mpr hi6]

/-- A granule of a 16 KiB-aligned block lies on the pseudo-channel that its place and the block's vector give. -/
theorem pseudoChannel_granule (masks : List (BitVec 18)) (block : Nat) {i : Nat} (hi : i < 64) :
    pseudoChannel masks (block * 2 ^ 14 + i * 256) = i ^^^ hashVector masks block := by
  have hblock : (block * 2 ^ 14 + i * 256) / 2 ^ 14 = block := by omega
  have hplace : (block * 2 ^ 14 + i * 256) / 256 % 64 = i := by omega
  rw [pseudoChannel, hblock, hplace]
  rfl

end Sys2Proof.Machine

/-- Settles O55: the block's vector is below 64 and cancels between two granules of one block; between two blocks the vectors
add, as each bit is a parity. -/
theorem theHashSpreadsEveryBlock : Obligations.TheHashSpreadsEveryBlock := by
  unfold Obligations.TheHashSpreadsEveryBlock
  intro masks block _
  have hv := hashVector_lt masks block
  refine ⟨fun i hi => ?_, fun i j hi hj h => ?_, fun c hc => ?_, fun other i _ hi => ?_⟩
  · rw [pseudoChannel_granule masks block hi]
    exact Nat.xor_lt_two_pow (n := 6) hi hv
  · rw [pseudoChannel_granule masks block hi, pseudoChannel_granule masks block hj] at h
    have hij := congrArg (· ^^^ hashVector masks block) h
    simp only [Nat.xor_assoc, Nat.xor_self, Nat.xor_zero] at hij
    exact hij
  · have hi : c ^^^ hashVector masks block < 64 := Nat.xor_lt_two_pow (n := 6) hc hv
    refine ⟨c ^^^ hashVector masks block, hi, ?_⟩
    rw [pseudoChannel_granule masks block hi, Nat.xor_assoc, Nat.xor_self, Nat.xor_zero]
  · have hzero := pseudoChannel_granule masks (block ^^^ other) (Nat.zero_lt_succ 63)
    rw [Nat.zero_mul, Nat.add_zero, Nat.zero_xor] at hzero
    rw [pseudoChannel_granule masks block hi, pseudoChannel_granule masks other hi, hzero, hashVector_xor]
    rw [Nat.xor_comm i, Nat.xor_assoc, ← Nat.xor_assoc i, Nat.xor_self, Nat.zero_xor]

/-- Settles O23: a launch sets the registers to zero but for the program counter, and shows the parameter words that wait. -/
theorem kernelsLaunchFresh : Obligations.KernelsLaunchFresh := by
  unfold Obligations.KernelsLaunchFresh
  intro tick x
  refine ⟨fun i => ⟨?_, rfl, rfl, fun hi => if_neg hi⟩, rfl, fun k hk => ?_, rfl, rfl, fun hp => ?_, fun hs => if_neg hs⟩
  · unfold Regs.sget
    split <;> rfl
  · simp [launched, showParams, hk]
  · simp [launched, showParams, hp]

end

section
/-! PROOF. How a row of Table ST-4 issues its bundle (R203): what issuing a bundle on a stall gives, and what a row does with it. -/

open Sys2Proof Sys2Proof.Machine

namespace Sys2Proof.Machine

/-! ### The rows of Table ST-4 -/

/-- A row but NOP is the operation row of its slot and opcode. -/
theorem exec_isaRow {c : Instr} {sl : SlotName} {op n : Nat} {raw : BitVec 128} (h : isaRow c = some (sl, op, n, raw))
    (s : State) : exec c s = .next (opRow sl op n raw s) := by
  unfold isaRow at h
  split at h <;> cases h <;> rfl

theorem opRow_issues {sl : SlotName} {op n : Nat} {raw : BitVec 128} {s : State} (he : s.executes n raw = true)
    (ho : slotOp raw sl = op) : opRow sl op n raw s = issueStall n raw s := by
  simp [opRow, he, ho]

theorem opRow_stays {sl : SlotName} {op n : Nat} {raw : BitVec 128} {s : State}
    (h : s.executes n raw = false ∨ slotOp raw sl ≠ op) : opRow sl op n raw s = s := by
  rcases h with h | h <;> simp [opRow, h]

/-! ### Issuing on one stall -/

/-- How a bundle ends the kernel's present work (R206, R223). -/
def endOf (raw : BitVec 128) : EndKind := if bS raw = 0x38 then .endt else if bS raw = 0x39 then .endl else .none

/-- A bundle whose slots pass has the effects of its slots. -/
theorem issueOn_passes {n : Nat} {raw : BitVec 128} {s : State} {m : MEff}
    (hecc : (s.stall n).regs.pc.toNat ∉ (s.stall n).badBundles) (hok : bundleOk raw = true)
    (hs : ScalarPasses n raw s) (hm : memSlot n (s.stall n) raw (freeVector s) s = .ok (some m)) :
    issueOn n (s.stall n) raw s =
      .ok (some ⟨afterBundle raw (s.stall n).regs (scalarOf n raw s) (vectorOf n raw s) m, m, endOf raw⟩) := by
  obtain ⟨hid, hp, hendt, hendl, hfence, hloop, htrap⟩ := hs
  unfold issueOn
  rw [if_neg (by simpa using hecc), if_neg (by simp [hok])]
  have h1 : ¬ (bS raw = 0x31 ∧ s.getid n (bImm raw) = none) := fun h => hid h.1 h.2
  have h2 : ¬ ((bS raw = 0x38 ∧ ((s.stall n).mode == 2) = true) ∨ (bS raw = 0x39 ∧ (!(s.stall n).mode == 2) = true)) := by
    rintro (⟨h, hm⟩ | ⟨h, hm⟩)
    · exact (hendt h).1 (by simpa using hm)
    · simp [(hendl h).1] at hm
  have h3 : ¬ (bS raw = 0x26 ∧ (s.stall n).regs.sget (bSA raw) ≠ 0 ∧ 2 ≤ (s.stall n).regs.loops.length) := by
    rintro ⟨h, ha, hl⟩
    rcases hloop h with h0 | h0
    · exact ha h0
    · omega
  have h4 : ¬ ((bS raw = 0x38 ∨ bS raw = 0x39 ∨ bS raw = 0x3B) ∧ (s.stall n).xfers ≠ []) := by
    rintro ⟨h | h | h, hx⟩
    · exact hx (hendt h).2.1
    · exact hx (hendl h).2
    · exact hx (hfence h)
  have h5 : ¬ (bS raw = 0x38 ∧ (!s.libDone (s.stall n)) = true) := by
    rintro ⟨h, hl⟩
    simp [(hendt h).2.2] at hl
  have h6 : ¬ (bS raw = 0x30 ∧ (s.stall n).bad (paramBase + 4 * bf raw 27 20) 4 = true) := by
    rintro ⟨h, hb⟩
    simp [hp h] at hb
  simp only [if_neg h1, if_neg h2, if_neg h3, if_neg htrap, if_neg h4, if_neg h5, if_neg h6]
  rw [show vecOfBytes _ = freeVector s from rfl, hm]
  rfl

/-- Past a check that faults, the rest of the bundle's work gives the result. -/
theorem ok_of_ite_error {α : Type} {p : Prop} [Decidable p] {f : Nat} {x : Except Nat α} {a : α}
    (h : (if p then .error f else x) = .ok a) : x = .ok a := by
  by_cases hp : p
  · rw [if_pos hp] at h; cases h
  · rwa [if_neg hp] at h

/-- Past a check that waits, the rest of the bundle's work gives the effect. -/
theorem some_of_ite_wait {α : Type} {p : Prop} [Decidable p] {x : Except Nat (Option α)} {a : α}
    (h : (if p then .ok none else x) = .ok (some a)) : x = .ok (some a) := by
  by_cases hp : p
  · rw [if_pos hp] at h; cases h
  · rwa [if_neg hp] at h

/-- A bundle that issues has the effects of its slots, its load/store slot among them. -/
theorem issueOn_some {n : Nat} {raw : BitVec 128} {s : State} {i : Issue}
    (h : issueOn n (s.stall n) raw s = .ok (some i)) :
    memSlot n (s.stall n) raw (freeVector s) s = .ok (some i.mem) ∧ i =
      ⟨afterBundle raw (s.stall n).regs (scalarOf n raw s) (vectorOf n raw s) i.mem, i.mem, endOf raw⟩ := by
  unfold issueOn at h
  have hscalar := ok_of_ite_error (ok_of_ite_error (ok_of_ite_error (ok_of_ite_error (ok_of_ite_error (ok_of_ite_error h)))))
  have hmem := ok_of_ite_error (some_of_ite_wait (some_of_ite_wait hscalar))
  rw [show vecOfBytes _ = freeVector s from rfl] at hmem
  rcases hm : memSlot n (s.stall n) raw (freeVector s) s with f | _ | m <;> rw [hm] at hmem <;> cases hmem
  exact ⟨rfl, rfl⟩

/-! ### Faults on the way -/

theorem bind_eq_ok {α β : Type} {e : Except Nat α} {f : α → Except Nat β} {b : β} :
    e >>= f = .ok b ↔ ∃ a, e = .ok a ∧ f a = .ok b := by
  cases e <;> simp [bind, Except.bind]

/-- Where a list of accesses passes and each that passes has one result, their results are these. -/
theorem mapM_eq_map {α β : Type} {f : α → Except Nat β} {g : α → β} (hg : ∀ a b, f a = .ok b → b = g a) {l : List α}
    {bs : List β} (h : l.mapM f = .ok bs) : bs = l.map g := by
  induction l generalizing bs with
  | nil => cases h; rfl
  | cons a l ih =>
    rw [List.mapM_cons] at h
    obtain ⟨b, hb, h⟩ := bind_eq_ok.mp h
    obtain ⟨bs', hbs, h⟩ := bind_eq_ok.mp h
    cases h
    rw [hg a b hb, ih hbs, List.map_cons]

theorem mapM_passes {α β : Type} {f : α → Except Nat β} {l : List α} (h : ∀ a ∈ l, ∃ b, f a = .ok b) :
    ∃ bs, l.mapM f = .ok bs := by
  induction l with
  | nil => exact ⟨[], rfl⟩
  | cons a l ih =>
    obtain ⟨b, hb⟩ := h a List.mem_cons_self
    obtain ⟨bs, hbs⟩ := ih fun x hx => h x (List.mem_cons_of_mem _ hx)
    refine ⟨b :: bs, ?_⟩
    rw [List.mapM_cons]
    exact bind_eq_ok.mpr ⟨b, hb, bind_eq_ok.mpr ⟨bs, hbs, rfl⟩⟩

/-! ### Accesses of a kernel (R207, R210, R212) -/

/-- Exactly the aligned accesses pass that lie in the stall store, or in a window that allows them, and meet no uncorrectable
word; their bytes are those. -/
theorem kLoad_eq_ok {n : Nat} {x : Stall} {space a len align : Nat} {s : State} {bs : List Byte} :
    kLoad n x space a len align s = .ok bs ↔ a % align = 0
      ∧ (space = 0 → a + len ≤ 0x20000 ∧ x.bad a len = false)
      ∧ (space ≠ 0 → s.hayAllowed n false a len = true ∧ s.hayPoor a len = false)
      ∧ (if space = 0 then readBytes x.store a len else s.hayRead a len) = bs := by
  unfold kLoad
  by_cases halign : a % align = 0 <;> by_cases hsp : space = 0
  · simp only [halign, hsp, ne_eq, not_true_eq_false, if_false, if_true, true_and, forall_const, false_implies]
    by_cases hin : 0x20000 < a + len
    · simp [hin, Nat.not_le.mpr hin]
    · cases x.bad a len <;> simp [hin, Nat.not_lt.mp hin]
  · simp only [halign, hsp, ne_eq, not_true_eq_false, if_false, true_and, not_false_eq_true, forall_const, false_implies]
    cases hw : s.hayAllowed n false a len <;> cases hp : s.hayPoor a len <;> simp
  · simp [halign]
  · simp [halign]

/-- A store needs a window that allows writes, or the stall store below the parameter words. -/
theorem kStore_eq_ok {n space a len align : Nat} {s : State} :
    kStore n space a len align s = .ok () ↔ a % align = 0
      ∧ (space = 0 → a + len ≤ paramBase) ∧ (space ≠ 0 → s.hayAllowed n true a len = true) := by
  unfold kStore
  by_cases halign : a % align = 0 <;> by_cases hsp : space = 0
  · by_cases hin : paramBase < a + len
    · simp [halign, hsp, hin, Nat.not_le.mpr hin]
    · simp [halign, hsp, hin, Nat.not_lt.mp hin]
  · cases hw : s.hayAllowed n true a len <;> simp [halign, hsp]
  · simp [halign]
  · simp [halign]

/-- An access is aligned, lies in the stall store or in a window that allows it, and a load meets no uncorrectable word. -/
def State.accessPasses (s : State) (n space : Nat) (write : Bool) (a size align : Nat) : Prop :=
  a % align = 0 ∧ (space = 0 → a + size ≤ if write then 0x1FC00 else 0x20000)
    ∧ (space = 1 → s.hayAllowed n write a size = true)
    ∧ (write = false → (space = 0 → (s.stall n).bad a size = false) ∧ (space = 1 → s.hayPoor a size = false))

theorem kLoad_passes {n space a size align : Nat} {s : State} (hsp : space ≤ 1)
    (h : s.accessPasses n space false a size align) : ∃ bs, kLoad n (s.stall n) space a size align s = .ok bs := by
  obtain ⟨halign, hstore, hwindow, hgood⟩ := h
  obtain ⟨hbad, hpoor⟩ := hgood rfl
  refine ⟨_, kLoad_eq_ok.mpr ⟨halign, fun h0 => ⟨hstore h0, hbad h0⟩, fun h0 => ?_, rfl⟩⟩
  have h1 : space = 1 := by omega
  exact ⟨hwindow h1, hpoor h1⟩

theorem kStore_passes {n space a size align : Nat} {s : State} (hsp : space ≤ 1)
    (h : s.accessPasses n space true a size align) : kStore n space a size align s = .ok () := by
  obtain ⟨halign, hstore, hwindow, -⟩ := h
  exact kStore_eq_ok.mpr ⟨halign, hstore, fun h0 => hwindow (by omega)⟩

/-- The address of an access: SBASE plus OFF in units of the access (R210). -/
def memAddr (r : Regs) (raw : BitVec 128) (size : Nat) : Nat :=
  (r.sget (bBASE raw) + BitVec.ofInt 32 (sext 16 (bOFF raw) * size)).toNat

/-- A store's bytes go to the stall store or to the hayloft. -/
def storeTo (space : Nat) (ws : List (Nat × Byte)) : MEff := if space = 0 then .local_ ws else .hay ws

section
variable {n : Nat} {x : Stall} {raw : BitVec 128} {free : BitVec 512} {s : State}

theorem memSlot_nop (h : bM raw = 0x00) : memSlot n x raw free s = .ok (some .none) := by
  simp only [memSlot, h]

theorem memSlot_vld (h : bM raw = 0x01) : memSlot n x raw free s =
    kLoad n x (bSPACE raw) (memAddr x.regs raw 64) 64 64 s >>= fun bs =>
      .ok (some (.vreg (bVT raw) (underPred (x.regs.pget (bMPR raw)) (x.regs.vget (bVT raw)) (vecOfBytes bs)))) := by
  simp only [memSlot, h]; rfl

theorem memSlot_vst (h : bM raw = 0x02) : memSlot n x raw free s =
    kStore n (bSPACE raw) (memAddr x.regs raw 64) 64 64 s >>= fun _ =>
      .ok (some (storeTo (bSPACE raw) (laneBytes (x.regs.pget (bMPR raw)) 2 (memAddr x.regs raw 64)
        (vecBytes (x.regs.vget (bVT raw)))))) := by
  simp only [memSlot, h]; rfl

theorem memSlot_vldb (h : bM raw = 0x03) : memSlot n x raw free s =
    kLoad n x (bSPACE raw) (memAddr x.regs raw 32) 32 32 s >>= fun bs =>
      .ok (some (.vreg (bVT raw) (underPred (x.regs.pget (bMPR raw)) (x.regs.vget (bVT raw))
        (ofLanes (bs.map (·.toNat)))))) := by
  simp only [memSlot, h]; rfl

theorem memSlot_vstb (h : bM raw = 0x04) : memSlot n x raw free s =
    kStore n (bSPACE raw) (memAddr x.regs raw 32) 32 32 s >>= fun _ =>
      .ok (some (storeTo (bSPACE raw) (laneBytes (x.regs.pget (bMPR raw)) 1 (memAddr x.regs raw 32)
        ((lanes16 (x.regs.vget (bVT raw))).map (fun v => BitVec.ofNat 8 (clampI 0 255 (sext 16 v)).toNat))))) := by
  simp only [memSlot, h]; rfl

theorem memSlot_gather (h : bM raw = 0x05) (hsp : bSPACE raw = 0) : memSlot n x raw free s =
    (lanes16 (x.regs.vget (bVT raw))).mapM (fun k =>
      kLoad n x 0 ((memAddr x.regs raw 64 + 2 * k) % 2 ^ 32) 2 2 s >>= fun bs => .ok (leNat bs)) >>= fun ls =>
      .ok (some (.vreg (bVT raw) (ofLanes ls))) := by
  simp only [memSlot, h, hsp]; rfl

theorem memSlot_gather_hayloft (h : bM raw = 0x05) (hsp : bSPACE raw ≠ 0) :
    memSlot n x raw free s = .error Sf.ILLEGAL := by
  simp only [memSlot, h]
  exact if_pos hsp

theorem memSlot_sld (h : bM raw = 0x06) : memSlot n x raw free s =
    kLoad n x (bSPACE raw) (memAddr x.regs raw 4) 4 4 s >>= fun bs =>
      .ok (some (.sreg (bVT raw % 32) (w32 (leNat bs)))) := by
  simp only [memSlot, h]; rfl

theorem memSlot_sst (h : bM raw = 0x07) : memSlot n x raw free s =
    kStore n (bSPACE raw) (memAddr x.regs raw 4) 4 4 s >>= fun _ =>
      .ok (some (storeTo (bSPACE raw) (laneBytes 0xFFFFFFFF 4 (memAddr x.regs raw 4)
        (wordBytes (x.regs.sget (bVT raw % 32)))))) := by
  simp only [memSlot, h]; rfl

/-- QPUSH within credit, or into a flush (R213, R215). -/
theorem memSlot_qpush {o : OutPort} (h : bM raw = 0x08) (ho : (s.stall n).out (bOFF raw % 4) = some o) :
    memSlot n x raw free s =
      if o.flushPending || o.flushed then .ok (some (.push (bOFF raw % 4) (x.regs.vget (bVT raw))))
      else if o.limit < o.cur + 1 then .error Sf.PACKET
      else if o.credits = 0 then .error Sf.NOCREDIT
      else .ok (some (.push (bOFF raw % 4) (x.regs.vget (bVT raw)))) := by
  simp only [memSlot, h, ho]

theorem memSlot_qpush_unbound (h : bM raw = 0x08) (ho : (s.stall n).out (bOFF raw % 4) = none) :
    memSlot n x raw free s = .error Sf.NOCREDIT := by
  simp only [memSlot, h, ho]

theorem memSlot_qend (h : bM raw = 0x09) : memSlot n x raw free s = .ok (some (.qend (bOFF raw % 4))) := by
  simp only [memSlot, h]

theorem memSlot_qcred (h : bM raw = 0x0A) : memSlot n x raw free s = .ok (some (.sreg (bVT raw % 32)
    (match (s.stall n).out (bOFF raw % 4) with | some o => w32 (o.credits + 2 ^ 31 * b01 o.flushed) | none => 0))) := by
  simp only [memSlot, h] <;> rfl

theorem memSlot_qwait_packet {len : Nat} {rest : List Nat} (h : bM raw = 0x0B)
    (hp : ((s.stall n).inp (bOFF raw % 4)).packets = len :: rest) : memSlot n x raw free s =
      if ((s.stall n).inp (bOFF raw % 4)).current then .ok none
      else .ok (some (.qtake (bOFF raw % 4) (bVT raw % 32) (w32 len))) := by
  simp only [memSlot, h, hp]

theorem memSlot_qwait_empty (h : bM raw = 0x0B) (hp : ((s.stall n).inp (bOFF raw % 4)).packets = []) :
    memSlot n x raw free s = .ok none := by
  simp only [memSlot, h, hp]

/-- QPOP reads the next vector of the current packet, or a free one beyond it (log entry 15). -/
theorem memSlot_qpop {len a b : Nat} {rest : List Nat} {o : OutPort} (h : bM raw = 0x0C)
    (hp : ((s.stall n).inp (bOFF raw % 4)).packets = len :: rest)
    (ho : s.producerOf n (bOFF raw % 4) = some (a, b, o)) : memSlot n x raw free s =
      let i := (s.stall n).inp (bOFF raw % 4)
      let at_ := o.base * 64 + (i.rd + i.popped) % 2 ^ o.log2Depth * 64
      if i.current && decide (i.popped < len) then
        if s.hayPoor at_ 64 then .error Sf.ECC else .ok (some (.qpop (bOFF raw % 4) (bVT raw) (vecOfBytes (s.hayRead at_ 64))))
      else .ok (some (.vreg (bVT raw) free)) := by
  simp only [memSlot, h, hp, ho]

theorem memSlot_qpop_nothing (h : bM raw = 0x0C)
    (hn : ((s.stall n).inp (bOFF raw % 4)).packets = [] ∨ s.producerOf n (bOFF raw % 4) = none) :
    memSlot n x raw free s = .ok (some (.vreg (bVT raw) free)) := by
  simp only [memSlot, h]
  rcases hn with hn | hn <;> simp only [hn]
  cases s.producerOf n (bOFF raw % 4) <;> rfl

theorem memSlot_qrel (h : bM raw = 0x0D) : memSlot n x raw free s = .ok (some (.qrel (bOFF raw % 4))) := by
  simp only [memSlot, h]

/-- HGET faults on no uncorrectable word of the hayloft: its data moves later (R207). -/
theorem memSlot_hget (h : bM raw = 0x10) : memSlot n x raw free s =
    kLoad n x 1 (x.regs.sget (bBASE raw)).toNat (bOFF raw * 64) 64 { s with hayBad := [] } >>= fun _ =>
      kStore n 0 (x.regs.sget (bVT raw % 32)).toNat (bOFF raw * 64) 64 s >>= fun _ =>
        .ok (some (.xfer ⟨false, (x.regs.sget (bBASE raw)).toNat, (x.regs.sget (bVT raw % 32)).toNat, bOFF raw * 64⟩)) := by
  simp only [memSlot, h]

theorem memSlot_hput (h : bM raw = 0x11) : memSlot n x raw free s =
    kStore n 1 (x.regs.sget (bBASE raw)).toNat (bOFF raw * 64) 64 s >>= fun _ =>
      kLoad n x 0 (x.regs.sget (bVT raw % 32)).toNat (bOFF raw * 64) 64 s >>= fun _ =>
        .ok (some (.xfer ⟨true, (x.regs.sget (bBASE raw)).toNat, (x.regs.sget (bVT raw % 32)).toNat, bOFF raw * 64⟩)) := by
  simp only [memSlot, h]

theorem memSlot_hwait (h : bM raw = 0x12) :
    memSlot n x raw free s = if bOFF raw < x.xfers.length then .ok none else .ok (some .none) := by
  simp only [memSlot, h]

end

/-! ### What a row does -/

section
variable {n : Nat} {raw : BitVec 128} {s : State} {i : Issue} {f : Nat}

/-- A library kernel's own checks come before its bundle (R238). -/
theorem issueStall_libStop {k : Nat} (hl : s.libStop n raw = some (f, k)) : issueStall n raw s = stallFault n f
    (if f = Sf.TRAP then s.onPair n (fun y => { y with trapCode := k }) else s) := by
  simp only [issueStall, hl]; rfl

theorem issueStall_fault (hl : s.libStop n raw = none) (hi : issueOn n (s.stall n) raw s = .error f) :
    issueStall n raw s = stallFault n f
      (if f = Sf.TRAP then s.onPair n (fun y => { y with trapCode := bf raw 27 20 }) else s) := by
  simp only [issueStall, hl, hi]; rfl

theorem issueStall_waits (hl : s.libStop n raw = none) (hi : issueOn n (s.stall n) raw s = .ok none) :
    issueStall n raw s = s := by
  simp only [issueStall, hl, hi]

/-- Outside a lockstep pair a bundle that passes has all its effects. -/
theorem issueStall_single (hl : s.libStop n raw = none) (hlock : (s.stall n).lock = false)
    (hi : issueOn n (s.stall n) raw s = .ok (some i)) : issueStall n raw s = issued n i s := by
  simp only [issueStall, hl, hi, hlock]; rfl

/-- The end of a tick's or a line's work, where a bundle makes one (R206, R223). -/
def endWork (n : Nat) : EndKind → State → State
  | .none, t => t
  | .endt, t => endTick n t
  | .endl, t => endLine n t

section
variable {j : Issue} {raw' : BitVec 128}

/-- A pair whose compare unit sees the same of both stalls: both change, and the primary's effects leave (R222). -/
theorem issueStall_pair_same (hl : s.libStop n raw = none) (hlock : (s.stall n).lock = true)
    (hi : issueOn n (s.stall n) raw s = .ok (some i))
    (hraw : raw' = SMap.get (s.stall (n + 1)).imem 0 (s.stall (n + 1)).regs.pc.toNat)
    (hj : issueOn n (s.stall (n + 1)) raw' s = .ok (some j)) (h : compared i = compared j) :
    issueStall n raw s = endWork n i.fin (applyOutside n i.mem
      (({ s.setStall (n + 1) (applyLocal j (s.stall (n + 1))) with fresh := s.fresh + 16 }).setStall n
        (applyLocal i (s.stall n)))) := by
  simp only [issueStall, hl, hi, hlock, Bool.not_true, Bool.false_eq_true, if_false, ← hraw, hj, h, ne_eq, not_true]
  cases i.fin <;> rfl

/-- A difference that the compare unit sees keeps everything from leaving, and faults the pair. -/
theorem issueStall_pair_differ (hl : s.libStop n raw = none) (hlock : (s.stall n).lock = true)
    (hi : issueOn n (s.stall n) raw s = .ok (some i))
    (hraw : raw' = SMap.get (s.stall (n + 1)).imem 0 (s.stall (n + 1)).regs.pc.toNat)
    (hj : issueOn n (s.stall (n + 1)) raw' s = .ok (some j)) (h : compared i ≠ compared j) :
    issueStall n raw s = stallFault n Sf.LOCKSTEP s := by
  simp only [issueStall, hl, hi, hlock, Bool.not_true, Bool.false_eq_true, if_false, ← hraw, hj]
  exact if_pos h

theorem issueStall_pair_waits (hl : s.libStop n raw = none) (hlock : (s.stall n).lock = true)
    (hi : issueOn n (s.stall n) raw s = .ok (some i))
    (hraw : raw' = SMap.get (s.stall (n + 1)).imem 0 (s.stall (n + 1)).regs.pc.toNat)
    (hj : issueOn n (s.stall (n + 1)) raw' s = .ok none) : issueStall n raw s = stallFault n Sf.LOCKSTEP s := by
  simp only [issueStall, hl, hi, hlock, Bool.not_true, Bool.false_eq_true, if_false, ← hraw, hj]

theorem issueStall_pair_fault (hl : s.libStop n raw = none) (hlock : (s.stall n).lock = true)
    (hi : issueOn n (s.stall n) raw s = .ok (some i))
    (hraw : raw' = SMap.get (s.stall (n + 1)).imem 0 (s.stall (n + 1)).regs.pc.toNat)
    (hj : issueOn n (s.stall (n + 1)) raw' s = .error f) : issueStall n raw s = stallFault n f s := by
  simp only [issueStall, hl, hi, hlock, Bool.not_true, Bool.false_eq_true, if_false, ← hraw, hj]

end

end

/-- A stall in no pair that issues a bundle: exec of a row that the bundle carries is what the bundle's effects leave. -/
theorem exec_row_issued {c : Instr} {sl : SlotName} {op n : Nat} {raw : BitVec 128} {s : State} {i : Issue}
    (hc : isaRow c = some (sl, op, n, raw)) (he : s.executes n raw = true) (hlock : (s.stall n).lock = false)
    (hl : s.libStop n raw = none) (hi : issueOn n (s.stall n) raw s = .ok (some i)) (ho : slotOp raw sl = op) :
    exec c s = .next (issued n i s) := by
  rw [exec_isaRow hc, opRow_issues he ho, issueStall_single hl hlock hi]

end Sys2Proof.Machine

/-- Settles O13: the row issues its stall's bundle by the cases of issueStall, and each load/store operation passes by its
equation. -/
theorem rowsIssueTheirBundle : Obligations.RowsIssueTheirBundle := by
  unfold Obligations.RowsIssueTheirBundle
  refine ⟨fun c sl op n raw s hc => ⟨fun he ho hl => ⟨fun i hlock hi => ?_, fun hi => ?_, fun f hi => ?_⟩, ?_, ?_⟩,
    fun c sl op n raw raw' s i hc he ho hlock hl hraw hi => ?_, fun st raw s => ?_⟩
  · exact exec_row_issued hc he hlock hl hi ho
  · rw [exec_isaRow hc, opRow_issues he ho, issueStall_waits hl hi]
  · rw [exec_isaRow hc, opRow_issues he ho, issueStall_fault hl hi]
  · intro f k he ho hl
    rw [exec_isaRow hc, opRow_issues he ho, issueStall_libStop hl]
  · intro h
    rw [exec_isaRow hc, opRow_stays h]
  · rw [exec_isaRow hc, opRow_issues he ho]
    refine ⟨fun j hj hsame => ?_, fun j hj hdiff => ?_, fun hj => ?_, fun f hj => ?_⟩
    · rw [issueStall_pair_same hl hlock hi hraw hj hsame]
      cases i.fin <;> rfl
    · rw [issueStall_pair_differ hl hlock hi hraw hj hdiff]
    · rw [issueStall_pair_waits hl hlock hi hraw hj]
    · rw [issueStall_pair_fault hl hlock hi hraw hj]
  · intro x r addr ok passes bytes hay loc
    have load {a size : Nat} {g : List Byte → MEff} (hsp : bSPACE raw ≤ 1) (h : ok (bSPACE raw) false a size size)
        (hm : memSlot st x raw (freeVector s) s = kLoad st x (bSPACE raw) a size size s >>= fun bs => .ok (some (g bs))) :
        passes := by
      obtain ⟨bs, hbs⟩ := kLoad_passes hsp h
      exact ⟨_, hm.trans (bind_eq_ok.mpr ⟨bs, hbs, rfl⟩)⟩
    have store {a size : Nat} {m : MEff} (hsp : bSPACE raw ≤ 1) (h : ok (bSPACE raw) true a size size)
        (hm : memSlot st x raw (freeVector s) s = kStore st (bSPACE raw) a size size s >>= fun _ => .ok (some m)) :
        passes := ⟨m, hm.trans (bind_eq_ok.mpr ⟨(), kStore_passes hsp h, rfl⟩)⟩
    refine ⟨fun m hi hs => ?_, fun hsp => ⟨fun h => ⟨_, memSlot_nop h⟩, fun h hok => load hsp hok (memSlot_vld h),
      fun h hok => store hsp hok (memSlot_vst h), fun h hok => load hsp hok (memSlot_vldb h),
      fun h hok => store hsp hok (memSlot_vstb h), fun h h0 hok => ?_, fun h hok => load hsp hok (memSlot_sld h),
      fun h hok => store hsp hok (memSlot_sst h), fun h halign hwin hok => ?_, fun h hok hok' => ?_, fun h hlen => ?_⟩,
      fun o h ho hroom => ?_, fun h hp hcur => ?_, fun h hgood => ?_, fun h => ?_⟩
    · obtain ⟨-, -, -, hecc, hlegal, hm⟩ := hi
      exact ⟨_, issueOn_passes hecc hlegal hs hm, rfl⟩
    · obtain ⟨ls, hls⟩ := mapM_passes fun k hk =>
        (kLoad_passes (n := st) (Nat.zero_le 1) (hok k hk)).elim fun bs hbs =>
          (⟨leNat bs, bind_eq_ok.mpr ⟨bs, hbs, rfl⟩⟩ : ∃ b, _ >>= (fun bs => Except.ok (leNat bs)) = Except.ok b)
      exact ⟨_, (memSlot_gather h h0).trans (bind_eq_ok.mpr ⟨ls, hls, rfl⟩)⟩
    · have hload : kLoad st x 1 hay bytes 64 { s with hayBad := [] } = .ok _ :=
        kLoad_eq_ok.mpr ⟨halign, fun h01 => absurd h01 Nat.one_ne_zero, fun _ => ⟨hwin, rfl⟩, rfl⟩
      exact ⟨_, (memSlot_hget h).trans (bind_eq_ok.mpr ⟨_, hload, bind_eq_ok.mpr ⟨(), kStore_passes (Nat.zero_le 1) hok, rfl⟩⟩)⟩
    · obtain ⟨bs, hbs⟩ := kLoad_passes (Nat.zero_le 1) hok'
      exact ⟨_, (memSlot_hput h).trans (bind_eq_ok.mpr ⟨(), kStore_passes (Nat.le_refl 1) hok, bind_eq_ok.mpr ⟨bs, hbs, rfl⟩⟩)⟩
    · exact ⟨_, (memSlot_hwait h).trans (if_neg (Nat.not_lt.mpr hlen))⟩
    · refine ⟨.push (bOFF raw % 4) (r.vget (bVT raw)), (memSlot_qpush h ho).trans ?_⟩
      rcases hroom with hf | hf | ⟨hlim, hcred⟩
      · simp [hf, r, x]
      · simp [hf, r, x]
      · have hlim' : ¬ o.limit < o.cur + 1 := Nat.not_lt.mpr hlim
        simp [hlim', hcred, r, x]
    · obtain ⟨len, rest, hlen⟩ := List.exists_cons_of_ne_nil hp
      refine ⟨_, (memSlot_qwait_packet h hlen).trans (if_neg ?_)⟩
      exact Bool.not_eq_true _ ▸ hcur
    · by_cases hn : (x.inp (bOFF raw % 4)).packets = [] ∨ s.producerOf st (bOFF raw % 4) = none
      · exact ⟨_, memSlot_qpop_nothing h hn⟩
      · obtain ⟨hp, ho⟩ := not_or.mp hn
        obtain ⟨len, rest, hlen⟩ := List.exists_cons_of_ne_nil hp
        obtain ⟨⟨a, b, o⟩, ho⟩ := Option.ne_none_iff_exists'.mp ho
        have hpop := memSlot_qpop (x := x) (free := freeVector s) h hlen ho
        by_cases hcur : ((x.inp (bOFF raw % 4)).current && decide ((x.inp (bOFF raw % 4)).popped < len)) = true
        · exact ⟨_, hpop.trans ((if_pos hcur).trans (if_neg (Bool.eq_false_iff.mp (hgood a b o ho))))⟩
        · exact ⟨_, hpop.trans (if_neg hcur)⟩
    · rcases h with h | h | h
      · exact ⟨_, memSlot_qend h⟩
      · exact ⟨_, memSlot_qcred h⟩
      · exact ⟨_, memSlot_qrel h⟩

end

section
/-! PROOF. The scalar slot (R204 to R206): what makes a bundle illegal, the results of the scalar operations, where branches and
loops go on, and how a kernel's work ends. -/

open Sys2Proof Sys2Proof.Machine

namespace Sys2Proof.Machine

section
variable {n : Nat} {raw : BitVec 128} {s : State} {m : MEff} {c : Instr} {op : Nat}

/-- The row of the scalar opcode that an issuing bundle carries has the effects of its slots. -/
theorem exec_scalarRow (hi : Issues n raw m s) (hc : isaRow c = some (.s, op, n, raw)) (ho : bS raw = op)
    (hs : ScalarPasses n raw s) : exec c s = .next (issued n
      ⟨afterBundle raw (s.stall n).regs (scalarOf n raw s) (vectorOf n raw s) m, m, endOf raw⟩ s) := by
  obtain ⟨he, hlock, hl, hecc, hok, hm⟩ := hi
  exact exec_row_issued hc he hlock hl (issueOn_passes hecc hok hs hm) ho

/-- Only GETP, GETID, LOOP, TRAP, FENCE and the ends can fault or wait in the scalar slot. -/
theorem scalarPasses_of_plain (h : bS raw ∉ [0x26, 0x30, 0x31, 0x38, 0x39, 0x3A, 0x3B]) : ScalarPasses n raw s := by
  simp only [List.mem_cons, List.not_mem_nil, or_false, not_or] at h
  obtain ⟨hloop, hgetp, hgetid, hendt, hendl, htrap, hfence⟩ := h
  exact ⟨fun h => absurd h hgetid, fun h => absurd h hgetp, fun h => absurd h hendt, fun h => absurd h hendl,
    fun h => absurd h hfence, fun h => absurd h hloop, htrap⟩

theorem endOf_none (ht : bS raw ≠ 0x38) (hl : bS raw ≠ 0x39) : endOf raw = .none := by
  simp [endOf, ht, hl]

/-- The register forms write SD with the operation on SA and SB. -/
theorem scalarOf_regForm (h : sRegForm (bS raw) = true) : scalarOf n raw s =
    ⟨some (bSD raw, scalarOp (bS raw) ((s.stall n).regs.sget (bSA raw)) ((s.stall n).regs.sget (bSB raw))), none, none⟩ := by
  simp only [scalarOf, scalarSlot, h, if_true]; rfl

/-- The immediate forms write SD with the operation on SA and IMM20. -/
theorem scalarOf_immForm (h : 0x10 ≤ bS raw ∧ bS raw ≤ 0x15) : scalarOf n raw s =
    ⟨some (bSD raw, scalarOp (immForm (bS raw)) ((s.stall n).regs.sget (bSA raw)) (BitVec.ofInt 32 (bImm raw))), none, none⟩ := by
  have hr : ¬ sRegForm (bS raw) = true := by simp [sRegForm]; omega
  simp only [scalarOf, scalarSlot, hr, h, and_self, if_true]; rfl

end

/-! ### Ends, FENCE and TRAP (R206, R209) -/

section
variable {n : Nat} {x : Stall} {raw : BitVec 128} {s : State}

theorem issueOn_trap (hecc : x.regs.pc.toNat ∉ x.badBundles) (hok : bundleOk raw = true) (h : bS raw = 0x3A) :
    issueOn n x raw s = .error Sf.TRAP := by
  simp [issueOn, hecc, hok, h]

/-- FENCE and the ends wait for the hayloft transfers under way. -/
theorem issueOn_fenced (hecc : x.regs.pc.toNat ∉ x.badBundles) (hok : bundleOk raw = true) (hx : x.xfers ≠ [])
    (h : bS raw = 0x3B ∨ bS raw = 0x38 ∧ x.mode ≠ 2 ∨ bS raw = 0x39 ∧ x.mode = 2) : issueOn n x raw s = .ok none := by
  rcases h with h | ⟨h, hm⟩ | ⟨h, hm⟩
  · simp [issueOn, hecc, hok, h, hx]
  · simp [issueOn, hecc, hok, h, hx, hm]
  · simp [issueOn, hecc, hok, h, hx, hm]

/-- ENDT of a library kernel waits for its frame (R236). -/
theorem issueOn_frameMissing (hecc : x.regs.pc.toNat ∉ x.badBundles) (hok : bundleOk raw = true) (h : bS raw = 0x38)
    (hm : x.mode ≠ 2) (hf : s.libDone x = false) : issueOn n x raw s = .ok none := by
  simp [issueOn, hecc, hok, h, hm, hf]

end

/-- NOP's row issues a bundle that holds it in its scalar slot. -/
theorem nopRow_issues {n : Nat} {raw : BitVec 128} {s : State} (he : s.executes n raw = true) (ho : bS raw = 0) :
    nopRow n raw s = issueStall n raw s := by
  simp [nopRow, he, ho]

/-! ### Loops (R204, R205) -/

/-- Execution goes on as after bundle `last`: behind a bundle without a taken branch, behind a LOOP of no iterations, and
behind one that names no bundle after itself. -/
def goesOnAfter (raw : BitVec 128) (r : Regs) (se : SEff) (last : BitVec 12) : Prop :=
  (se = ⟨none, none, none⟩ ∧ last = r.pc) ∨ ∃ k, se = ⟨none, none, some k⟩
    ∧ (k = 0 ∧ 0 < bImm raw ∧ last = r.pc + BitVec.ofInt 12 (bImm raw) ∨ bImm raw ≤ 0 ∧ last = r.pc)

theorem advance_goesOn {raw : BitVec 128} {r : Regs} {se : SEff} {last : BitVec 12} (h : goesOnAfter raw r se last) :
    advance raw se r = { r with pc := (loopNext last r.loops).1, loops := (loopNext last r.loops).2 } := by
  rcases h with ⟨rfl, rfl⟩ | ⟨k, rfl, ⟨rfl, hpos, rfl⟩ | ⟨hneg, rfl⟩⟩
  · rfl
  · have hlast : loopLast raw r = r.pc + BitVec.ofInt 12 (bImm raw) := if_neg (by omega)
    simp only [advance, true_or, if_true, hlast]
  · have hlast : loopLast raw r = r.pc := if_pos hneg
    simp only [advance, hneg, or_true, if_true, hlast]

/-- A LOOP enters its body. -/
theorem advance_enters {raw : BitVec 128} (r : Regs) {k : Nat} (hk : k ≠ 0) (hpos : 0 < bImm raw) :
    advance raw ⟨none, none, some k⟩ r =
      { r with pc := r.pc + 1, loops := (r.pc + 1, r.pc + BitVec.ofInt 12 (bImm raw), k) :: r.loops } := by
  have hlast : loopLast raw r = r.pc + BitVec.ofInt 12 (bImm raw) := if_neg (by omega)
  have hbody : ¬ (k = 0 ∨ bImm raw ≤ 0) := by omega
  simp only [advance, hbody, if_false, hlast]

section
variable {last first end_ : BitVec 12} {left : Nat} {rest : List (BitVec 12 × BitVec 12 × Nat)}

theorem loopNext_inside (h : last ≠ end_) :
    loopNext last ((first, end_, left) :: rest) = (last + 1, (first, end_, left) :: rest) := by
  rw [loopNext, if_neg h]

theorem loopNext_again (hl : 1 < left) :
    loopNext last ((first, last, left) :: rest) = (first, (first, last, left - 1) :: rest) := by
  rw [loopNext, if_pos rfl, if_pos hl]

theorem loopNext_ends (hl : left ≤ 1) : loopNext last ((first, last, left) :: rest) = loopNext last rest := by
  rw [loopNext, if_pos rfl, if_neg (Nat.not_lt.mpr hl)]

end

end Sys2Proof.Machine

/-- Settles O14: the checks of issueOn come in this order, and an opcode meets only its own. -/
theorem illegalBundlesFault : Obligations.IllegalBundlesFault := by
  unfold Obligations.IllegalBundlesFault
  intro n x raw s
  refine ⟨fun hecc => ?_, fun hecc hok => ?_, fun hecc hok => ⟨fun h hid => ?_, fun h hm => ?_, fun h hm => ?_,
    fun h ha hl => ?_, fun h => ?_⟩⟩
  · simp [issueOn, hecc]
  · simp [issueOn, hecc, hok]
  · simp [issueOn, hecc, hok, h, hid]
  · simp [issueOn, hecc, hok, h, hm]
  · simp [issueOn, hecc, hok, h, hm]
  · simp [issueOn, hecc, hok, h, hl]
    exact fun h0 => absurd h0 ha
  · simp [issueOn, hecc, hok, h]

/-- Settles O15: the row issues the bundle, and the scalar slot's effect is a write of SD with the operation's result. -/
theorem scalarOpsWriteTheirResult : Obligations.ScalarOpsWriteTheirResult := by
  unfold Obligations.ScalarOpsWriteTheirResult
  intro st raw s m hi r a b imm sh shi put
  have row {c : Instr} {op : Nat} {w : Word} (hc : isaRow c = some (.s, op, st.val, raw)) (ho : bS raw = op)
      (hs : ScalarPasses st raw s) (ht : op ≠ 0x38) (hl : op ≠ 0x39) (hw : scalarOf st raw s = ⟨some (bSD raw, w), none, none⟩) :
      exec c s = put w := by
    rw [exec_scalarRow hi hc ho hs, hw, endOf_none (ho ▸ ht) (ho ▸ hl)]
  have plain {c : Instr} {op : Nat} {w : Word} (hc : isaRow c = some (.s, op, st.val, raw)) (ho : bS raw = op)
      (hplain : op ∉ [0x26, 0x30, 0x31, 0x38, 0x39, 0x3A, 0x3B])
      (hw : scalarOf st raw s = ⟨some (bSD raw, w), none, none⟩) : exec c s = put w :=
    row hc ho (scalarPasses_of_plain (ho ▸ hplain)) (by rintro rfl; simp at hplain) (by rintro rfl; simp at hplain) hw
  have reg {c : Instr} {op : Nat} {w : Word} (hc : isaRow c = some (.s, op, st.val, raw)) (ho : bS raw = op)
      (hop : 1 ≤ op ∧ op ≤ 0xD) (hw : scalarOp op a b = w) : exec c s = put w := by
    have hform : scalarOf st raw s = ⟨some (bSD raw, scalarOp (bS raw) a b), none, none⟩ :=
      scalarOf_regForm (by rw [ho]; exact decide_eq_true hop)
    exact plain hc ho (by simp; omega) (by rw [hform, ho, hw])
  have immediate {c : Instr} {op : Nat} {w : Word} (hc : isaRow c = some (.s, op, st.val, raw)) (ho : bS raw = op)
      (hop : 0x10 ≤ op ∧ op ≤ 0x15) (hw : scalarOp (immForm op) a imm = w) : exec c s = put w := by
    have hform : scalarOf st raw s = ⟨some (bSD raw, scalarOp (immForm (bS raw)) a imm), none, none⟩ :=
      scalarOf_immForm (ho ▸ hop)
    exact plain hc ho (by simp; omega) (by rw [hform, ho, hw])
  refine ⟨fun h => reg rfl h (by decide) rfl, fun h => reg rfl h (by decide) rfl, fun h => reg rfl h (by decide) rfl,
    fun h => reg rfl h (by decide) rfl, fun h => reg rfl h (by decide) rfl, fun h => reg rfl h (by decide) rfl,
    fun h => reg rfl h (by decide) rfl, fun h => reg rfl h (by decide) rfl, fun h => reg rfl h (by decide) rfl,
    fun h => reg rfl h (by decide) rfl, fun h => reg rfl h (by decide) rfl, fun h => reg rfl h (by decide) rfl,
    fun h => reg rfl h (by decide) rfl, fun h => immediate rfl h (by decide) rfl, fun h => immediate rfl h (by decide) rfl,
    fun h => immediate rfl h (by decide) rfl, fun h => immediate rfl h (by decide) rfl, fun h => immediate rfl h (by decide) rfl,
    fun h => immediate rfl h (by decide) rfl, fun h => plain rfl h (by decide) ?_, fun h hb => ?_, fun w h hid => ?_⟩
  · simp [scalarOf, scalarSlot, sRegForm, h, SEff.none]
  · refine row rfl h ?_ (by decide) (by decide) ?_
    · simp [ScalarPasses, h, hb]
    · simp [scalarOf, scalarSlot, sRegForm, h, SEff.none]
  · refine row rfl h ?_ (by decide) (by decide) ?_
    · simp [ScalarPasses, h, hid]
    · simp [scalarOf, scalarSlot, sRegForm, h, hid, SEff.none]

/-- Settles O16: a branch is a scalar slot that jumps, and where a bundle goes on is one walk of the loops that end at it. -/
theorem branchesAndLoopsMoveThePc : Obligations.BranchesAndLoopsMoveThePc := by
  unfold Obligations.BranchesAndLoopsMoveThePc
  intro st raw s m hi r a dest go stay to_ enter
  have row {c : Instr} {op : Nat} {se : SEff} (hc : isaRow c = some (.s, op, st.val, raw)) (ho : bS raw = op)
      (hs : ScalarPasses st raw s) (ht : op ≠ 0x38) (hl : op ≠ 0x39) (hw : scalarOf st raw s = se) : exec c s = go se := by
    rw [exec_scalarRow hi hc ho hs, hw, endOf_none (ho ▸ ht) (ho ▸ hl)]
  have jump {c : Instr} {op : Nat} {se : SEff} (hc : isaRow c = some (.s, op, st.val, raw)) (ho : bS raw = op)
      (hplain : op ∉ [0x26, 0x30, 0x31, 0x38, 0x39, 0x3A, 0x3B]) (hw : scalarOf st raw s = se) : exec c s = go se :=
    row hc ho (scalarPasses_of_plain (ho ▸ hplain)) (by rintro rfl; simp at hplain) (by rintro rfl; simp at hplain) hw
  refine ⟨fun h => jump rfl h (by decide) ?_, fun h => jump rfl h (by decide) ?_, fun h => jump rfl h (by decide) ?_,
    fun h => jump rfl h (by decide) ?_, fun h => jump rfl h (by decide) ?_, fun h => jump rfl h (by decide) ?_,
    fun h hroom => row rfl h ?_ (by decide) (by decide) ?_, fun d => ⟨rfl, rfl⟩, fun k hk hpos => advance_enters r hk hpos,
    fun se last hse => ?_⟩
  · simp [scalarOf, scalarSlot, sRegForm, h]; rfl
  · simp [scalarOf, scalarSlot, sRegForm, h]; rfl
  · simp [scalarOf, scalarSlot, sRegForm, h, BitVec.msb_eq_toInt]; rfl
  · simp [scalarOf, scalarSlot, sRegForm, h]; rfl
  · simp [scalarOf, scalarSlot, sRegForm, h]; exact ⟨rfl, rfl, rfl⟩
  · simp [scalarOf, scalarSlot, sRegForm, h]; rfl
  · have other {op : Nat} {P : Prop} (hop : op ≠ 0x26) (e : bS raw = op) : P := absurd (e.symm.trans h) hop
    exact ⟨other (by decide), other (by decide), other (by decide), other (by decide), other (by decide), fun _ => hroom,
      other (by decide)⟩
  · simp [scalarOf, scalarSlot, sRegForm, h]; rfl
  · have hgo : goesOnAfter raw r se last := hse
    refine ⟨fun hl => ?_, fun first end_ left rest hl => ⟨fun hne => ?_, fun he hmore => ?_, fun he hdone => ?_⟩⟩
    · rw [advance_goesOn hgo, hl]; rfl
    · rw [advance_goesOn hgo, hl, loopNext_inside hne, ← hl]
    · rw [advance_goesOn hgo, hl, ← he, loopNext_again hmore]
    · have hrest : goesOnAfter raw { r with loops := rest } se last := hgo
      rw [advance_goesOn hgo, advance_goesOn hrest, hl, ← he, loopNext_ends hdone]

/-- Settles O17: in these the scalar slot writes nothing; an end runs its work where nothing holds it back. -/
theorem endsTrapsAndFencesAct : Obligations.EndsTrapsAndFencesAct := by
  unfold Obligations.EndsTrapsAndFencesAct
  intro st raw s m hi x after
  obtain ⟨he, hlock, hl, hecc, hok, hm⟩ := id hi
  have acts {k : EndKind} (hop : bS raw = 0 ∨ bS raw = 0x38 ∨ bS raw = 0x39 ∨ bS raw = 0x3B) (hs : ScalarPasses st raw s)
      (hend : endOf raw = k) : issueStall st raw s = issued st ⟨after, m, k⟩ s := by
    have hnone : scalarOf st raw s = ⟨none, none, none⟩ := by
      rcases hop with h | h | h | h <;> simp [scalarOf, scalarSlot, sRegForm, h] <;> rfl
    rw [issueStall_single hl hlock (issueOn_passes hecc hok hs hm), hnone, hend]
  have row {c : Instr} {op : Nat} {t : State} (hc : isaRow c = some (.s, op, st.val, raw)) (ho : bS raw = op)
      (ht : issueStall st raw s = t) : exec c s = .next t := by
    rw [exec_isaRow hc, opRow_issues (sl := .s) he ho, ht]
  refine ⟨fun h => ?_, fun h hx => row rfl h (acts (by simp [h]) ?_ ?_), fun h hmode hx hf => row rfl h (acts (by simp [h]) ?_ ?_),
    fun h hmode hx => row rfl h (acts (by simp [h]) ?_ ?_), fun h => row rfl h ?_, fun h hmode hf => row rfl h ?_, fun hx =>
    ⟨fun h => row rfl h ?_, fun h hmode => row rfl h ?_, fun h hmode => row rfl h ?_⟩⟩
  · have hplain : ScalarPasses st raw s := scalarPasses_of_plain (h ▸ by decide)
    exact congrArg Host.Outcome.next ((nopRow_issues he h).trans (acts (.inl h) hplain (by simp [endOf, h])))
  · simp [ScalarPasses, h]; exact hx
  · simp [endOf, h]
  · simp [ScalarPasses, h]; exact ⟨hmode, hx, hf⟩
  · simp [endOf, h]
  · simp [ScalarPasses, h]; exact ⟨hmode, hx⟩
  · simp [endOf, h]
  · exact issueStall_fault hl (issueOn_trap hecc hok h)
  · exact issueStall_waits hl (issueOn_frameMissing hecc hok h hmode hf)
  · exact issueStall_waits hl (issueOn_fenced hecc hok hx (.inl h))
  · exact issueStall_waits hl (issueOn_fenced hecc hok hx (.inr (.inl ⟨h, hmode⟩)))
  · exact issueStall_waits hl (issueOn_fenced hecc hok hx (.inr (.inr ⟨h, hmode⟩)))

end

section
/-! PROOF. The vector and load/store slots (R201, R204, R210 to R215): what lane operations, accumulators, predicates, accesses
and queue operations write. -/

open Sys2Proof Sys2Proof.Machine

namespace Sys2Proof.Machine

/-! ### The vector slot -/

section
variable {n : Nat} {raw : BitVec 128} {s : State} {i : Issue} {c : Instr} {op : Nat}

/-- The row of a vector opcode that an issuing bundle carries: the bundle's effects are those of its slots. -/
theorem exec_vectorRow (he : s.executes n raw = true) (hlock : (s.stall n).lock = false) (hl : s.libStop n raw = none)
    (hi : issueOn n (s.stall n) raw s = .ok (some i)) (hc : isaRow c = some (.v, op, n, raw)) (ho : bV raw = op) {ve : VEff}
    (hv : vectorOf n raw s = ve) :
    exec c s = .next (issued n i s) ∧ i.regs = afterBundle raw (s.stall n).regs (scalarOf n raw s) ve i.mem :=
  ⟨exec_row_issued hc he hlock hl hi ho, hv ▸ congrArg Issue.regs (issueOn_some hi).2⟩

end

end Sys2Proof.Machine

/-- Settles O18: the vector slot's function has a case for each opcode, which is the lanes named. -/
theorem laneOpsWriteTheirLanes : Obligations.LaneOpsWriteTheirLanes := by
  unfold Obligations.LaneOpsWriteTheirLanes
  intro st raw s i he hlock hl hi r p12 u a b lanes each
  have row {c : Instr} {op : Nat} {l : List Nat} (hc : isaRow c = some (.v, op, st.val, raw)) (ho : bV raw = op)
      (hv : vectorOf st raw s = .vec (bVD raw) (masked 0 (r.pget (bPR raw)) (bPRZ raw) (r.raw p12 (bVD raw)) l)) : lanes c l :=
    exec_vectorRow he hlock hl hi hc ho hv
  refine ⟨fun h => row rfl h ?_, fun h => row rfl h ?_, fun h => row rfl h ?_, fun h => row rfl h ?_, fun h => row rfl h ?_,
    fun h => row rfl h ?_, fun h => row rfl h ?_, fun h => row rfl h ?_, fun h => row rfl h ?_, fun h => row rfl h ?_,
    fun h => row rfl h ?_, fun h => row rfl h ?_, fun h => row rfl h ?_, fun h => row rfl h ?_, fun h => row rfl h ?_,
    fun h => row rfl h ?_, fun h => ⟨fun k => (Config.freeWord s.fresh).toNat / 2 ^ (k % 16), row rfl h ?_⟩⟩
  all_goals simp only [vectorOf, vectorSlot, h]; rfl

/-- Settles O19: the vector slot's function has a case for each opcode; the free bits of a paired compare are those of one
free word. -/
theorem accumulatorAndPredicateOpsAct : Obligations.AccumulatorAndPredicateOpsAct := by
  unfold Obligations.AccumulatorAndPredicateOpsAct
  refine ⟨fun st raw s i he hlock hl hi => ?_, fun st raw s i he hlock hl hi => ?_⟩
  · intro r p12 a b d old acc
    have row {c : Instr} {op : Nat} {l : List Int} (hc : isaRow c = some (.v, op, st.val, raw)) (ho : bV raw = op)
        (hv : vectorOf st raw s = .acc d (masked 0 (r.pget (bPR raw)) (bPRZ raw) old l)) : acc c l :=
      exec_vectorRow he hlock hl hi hc ho hv
    refine ⟨fun h => row rfl h ?_, fun h => row rfl h ?_, fun h => row rfl h ?_, fun h => row rfl h ?_, fun h => row rfl h ?_,
      fun h => row rfl h ?_⟩
    all_goals simp only [vectorOf, vectorSlot, h]; rfl
  · intro r a b d pbits pred cmp
    have row {c : Instr} {op : Nat} {l : List Nat} (hc : isaRow c = some (.v, op, st.val, raw)) (ho : bV raw = op)
        (hv : vectorOf st raw s = .pred d (w32 (packLanes 1 (masked 0 (r.pget (bPR raw)) (bPRZ raw)
          ((upTo 32).map (fun j => b01 (bit (r.pget d) j))) l)))) : pred c l :=
      exec_vectorRow he hlock hl hi hc ho hv
    let free : List Nat := (upTo 32).map (fun j => b01 (bit (Config.freeWord s.fresh) j))
    refine ⟨fun h hp => row rfl h ?_, fun h hp => row rfl h ?_, fun h hp => row rfl h ?_, fun hp =>
      ⟨fun h => ⟨free, row rfl h ?_⟩, fun h => ⟨free, row rfl h ?_⟩, fun h => ⟨free, row rfl h ?_⟩⟩, fun h => row rfl h ?_,
      fun h => row rfl h ?_, fun h => row rfl h ?_⟩
    iterate 3 · simp only [vectorOf, vectorSlot, h, hp, a, b, cmp]; rfl
    iterate 3 · simp only [vectorOf, vectorSlot, h, hp]; rfl
    all_goals simp only [vectorOf, vectorSlot, h]; rfl

/-! ### The load/store slot -/

namespace Sys2Proof.Machine

/-- The row of a load/store opcode that an issuing bundle carries: the bundle's effects are those of its slots. -/
theorem exec_memRow {n : Nat} {raw : BitVec 128} {s : State} {i : Issue} {c : Instr} {op : Nat}
    (he : s.executes n raw = true) (hlock : (s.stall n).lock = false) (hl : s.libStop n raw = none)
    (hi : issueOn n (s.stall n) raw s = .ok (some i)) (hc : isaRow c = some (.m, op, n, raw)) (ho : bM raw = op) :
    exec c s = .next (issued n i s)
      ∧ i.regs = afterBundle raw (s.stall n).regs (scalarOf n raw s) (vectorOf n raw s) i.mem :=
  ⟨exec_row_issued hc he hlock hl hi ho, congrArg Issue.regs (issueOn_some hi).2⟩

/-- A load that passes has passed its checks, and gives the bytes at its address. -/
theorem of_load_eq {n space a size : Nat} {s : State} {m : MEff} {g : List Byte → MEff}
    (h : (kLoad n (s.stall n) space a size size s >>= fun bs => .ok (some (g bs))) = .ok (some m)) :
    (a % size = 0 ∧ (space = 0 → a + size ≤ if false then 0x1FC00 else 0x20000)
      ∧ (space = 1 → s.hayAllowed n false a size = true))
    ∧ m = g (if space = 0 then readBytes (s.stall n).store a size else s.hayRead a size) := by
  obtain ⟨bs, hbs, hm⟩ := bind_eq_ok.mp h
  obtain ⟨halign, hstore, hwindow, rfl⟩ := kLoad_eq_ok.mp hbs
  cases hm
  exact ⟨⟨halign, fun h0 => (hstore h0).1, fun h1 => (hwindow (by omega)).1⟩, rfl⟩

theorem of_store_eq {n space a size : Nat} {s : State} {m m' : MEff}
    (h : (kStore n space a size size s >>= fun _ => .ok (some m')) = .ok (some m)) :
    (a % size = 0 ∧ (space = 0 → a + size ≤ if true then 0x1FC00 else 0x20000)
      ∧ (space = 1 → s.hayAllowed n true a size = true)) ∧ m = m' := by
  obtain ⟨⟨⟩, hu, hm⟩ := bind_eq_ok.mp h
  obtain ⟨halign, hstore, hwindow⟩ := kStore_eq_ok.mp hu
  cases hm
  exact ⟨⟨halign, hstore, fun h1 => hwindow (by omega)⟩, rfl⟩

/-- The lanes that a gather loads are the bytes at its lanes' addresses. -/
theorem gather_lanes {n : Nat} {x : Stall} {a : Nat} {s : State} {l ls : List Nat}
    (h : l.mapM (fun k => kLoad n x 0 ((a + 2 * k) % 2 ^ 32) 2 2 s >>= fun bs => .ok (leNat bs)) = .ok ls) :
    ls = l.map (fun k => leNat (readBytes x.store ((a + 2 * k) % 2 ^ 32) 2)) := by
  refine mapM_eq_map (fun k b hk => ?_) h
  obtain ⟨bs, hbs, hb⟩ := bind_eq_ok.mp hk
  obtain ⟨-, -, -, rfl⟩ := kLoad_eq_ok.mp hbs
  cases hb
  rfl

end Sys2Proof.Machine

/-- Settles O20: what a load/store operation's equation moves, once its access has passed. -/
theorem loadsAndStoresMoveTheirBytes : Obligations.LoadsAndStoresMoveTheirBytes := by
  unfold Obligations.LoadsAndStoresMoveTheirBytes
  intro st raw s i he hlock hl hi x r vt p addr load ok runs store
  have hmem := (issueOn_some hi).1
  have row {c : Instr} {op : Nat} (hc : isaRow c = some (.m, op, st.val, raw)) (ho : bM raw = op) : runs c :=
    exec_memRow he hlock hl hi hc ho
  refine ⟨fun h => ⟨row rfl h, of_load_eq ((memSlot_vld h).symm.trans hmem)⟩,
    fun h => ⟨row rfl h, of_store_eq ((memSlot_vst h).symm.trans hmem)⟩,
    fun h => ⟨row rfl h, of_load_eq ((memSlot_vldb h).symm.trans hmem)⟩,
    fun h => ⟨row rfl h, of_store_eq ((memSlot_vstb h).symm.trans hmem)⟩,
    fun h => ⟨row rfl h, of_load_eq ((memSlot_sld h).symm.trans hmem)⟩,
    fun h => ⟨row rfl h, of_store_eq ((memSlot_sst h).symm.trans hmem)⟩, fun h => ⟨row rfl h, ?_⟩⟩
  by_cases hsp : bSPACE raw = 0
  · obtain ⟨ls, hls, hm⟩ := bind_eq_ok.mp ((memSlot_gather h hsp).symm.trans hmem)
    exact ⟨hsp, ls, (Option.some.inj (Except.ok.inj hm)).symm, gather_lanes hls⟩
  · exact absurd ((memSlot_gather_hayloft h hsp).symm.trans hmem) nofun

namespace Sys2Proof.Machine

/-! ### Queues outside their stall (R213 to R215) -/

section
variable {n p : Nat} {v : BitVec 512} {o : OutPort} {s : State} (ho : (s.stall n).out p = some o)
include ho

theorem applyOutside_push (hf : o.flushPending = false) (hs : o.flushed = false) : applyOutside n (.push p v) s =
    (s.hayWrite (o.base * 64 + o.wr % 2 ^ o.log2Depth * 64) (vecBytes v)).setStall n ((s.stall n).setOut p
      { o with credits := o.credits - 1, cur := o.cur + 1, wr := (o.wr + 1) % 2 ^ (o.log2Depth + 1) }) := by
  simp [applyOutside, ho, hf, hs]

theorem applyOutside_push_flush (hf : o.flushPending = true) : applyOutside n (.push p v) s =
    s.setStall n ((s.stall n).setOut p { o with flushPending := false, flushed := true }) := by
  simp [applyOutside, ho, hf]

theorem applyOutside_push_flushed (hf : o.flushPending = false) (hs : o.flushed = true) :
    applyOutside n (.push p v) s = s := by
  simp [applyOutside, ho, hf, hs]

theorem applyOutside_qend_flush (hf : o.flushPending = true) : applyOutside n (.qend p) s =
    s.setStall n ((s.stall n).setOut p { o with flushPending := false, flushed := true }) := by
  simp [applyOutside, ho, hf]

theorem applyOutside_qend_flushed (hf : o.flushPending = false) (hs : o.flushed = true) : applyOutside n (.qend p) s =
    s.setStall n ((s.stall n).setOut p { o with flushed := false, cur := 0 }) := by
  simp [applyOutside, ho, hf, hs]

/-- QEND hands the packet's length to the queue's consumer. -/
theorem applyOutside_qend {t : State} (hf : o.flushPending = false) (hs : o.flushed = false)
    (ht : t = s.setStall n ((s.stall n).setOut p { o with cur := 0 })) : applyOutside n (.qend p) s =
    t.setStall o.consumer ((t.stall o.consumer).setIn o.inPort
      { (t.stall o.consumer).inp o.inPort with packets := ((t.stall o.consumer).inp o.inPort).packets ++ [o.cur] }) := by
  subst ht
  simp [applyOutside, ho, hf, hs]

end

/-! ### What a queue or transfer operation that issues does -/

section
variable {n : Nat} {x : Stall} {raw : BitVec 128} {free : BitVec 512} {s : State} {m : MEff}
  (hm : memSlot n x raw free s = .ok (some m))
include hm

theorem qpush_of_memSlot (h : bM raw = 0x08) : m = .push (bOFF raw % 4) (x.regs.vget (bVT raw)) := by
  cases ho : (s.stall n).out (bOFF raw % 4) with
  | none => rw [memSlot_qpush_unbound h ho] at hm; cases hm
  | some o =>
    rw [memSlot_qpush h ho] at hm
    split at hm
    · cases hm; rfl
    · split at hm
      · cases hm
      · split at hm <;> cases hm
        rfl

theorem qwait_of_memSlot {len : Nat} {rest : List Nat} (h : bM raw = 0x0B)
    (hp : ((s.stall n).inp (bOFF raw % 4)).packets = len :: rest) :
    m = .qtake (bOFF raw % 4) (bVT raw % 32) (w32 len) := by
  rw [memSlot_qwait_packet h hp] at hm
  exact (Option.some.inj (Except.ok.inj (some_of_ite_wait hm))).symm

theorem qpop_of_memSlot {len a b : Nat} {rest : List Nat} {o : OutPort} (h : bM raw = 0x0C)
    (hp : ((s.stall n).inp (bOFF raw % 4)).packets = len :: rest) (ho : s.producerOf n (bOFF raw % 4) = some (a, b, o))
    (hc : ((s.stall n).inp (bOFF raw % 4)).current = true) (hlt : ((s.stall n).inp (bOFF raw % 4)).popped < len) :
    m = .qpop (bOFF raw % 4) (bVT raw) (vecOfBytes (s.hayRead (o.base * 64
      + (((s.stall n).inp (bOFF raw % 4)).rd + ((s.stall n).inp (bOFF raw % 4)).popped) % 2 ^ o.log2Depth * 64) 64)) := by
  rw [memSlot_qpop h hp ho] at hm
  simp only [hc, hlt, decide_true, Bool.and_self, if_true] at hm
  exact (Option.some.inj (Except.ok.inj (ok_of_ite_error hm))).symm

theorem hget_of_memSlot (h : bM raw = 0x10) :
    m = .xfer ⟨false, (x.regs.sget (bBASE raw)).toNat, (x.regs.sget (bVT raw % 32)).toNat, bOFF raw * 64⟩ := by
  rw [memSlot_hget h] at hm
  obtain ⟨_, -, hm⟩ := bind_eq_ok.mp hm
  obtain ⟨_, -, hm⟩ := bind_eq_ok.mp hm
  cases hm; rfl

theorem hput_of_memSlot (h : bM raw = 0x11) :
    m = .xfer ⟨true, (x.regs.sget (bBASE raw)).toNat, (x.regs.sget (bVT raw % 32)).toNat, bOFF raw * 64⟩ := by
  rw [memSlot_hput h] at hm
  obtain ⟨_, -, hm⟩ := bind_eq_ok.mp hm
  obtain ⟨_, -, hm⟩ := bind_eq_ok.mp hm
  cases hm; rfl

theorem hwait_of_memSlot (h : bM raw = 0x12) : m = .none := by
  rw [memSlot_hwait h] at hm
  exact (Option.some.inj (Except.ok.inj (some_of_ite_wait hm))).symm

end

/-- QREL releases the current packet, and its credits start their way back to the producer. -/
theorem applyOutside_qrel {n q len a b : Nat} {rest : List Nat} {oa ob : OutPort} {s t : State}
    (hp : ((s.stall n).inp q).packets = len :: rest) (hc : ((s.stall n).inp q).current = true)
    (ho : s.producerOf n q = some (a, b, oa))
    (ht : t = s.setStall n ((s.stall n).setIn q ⟨rest, (((s.stall n).inp q).rd + len) % 2 ^ (oa.log2Depth + 1), false, 0⟩))
    (hb : (t.stall a).out b = some ob) : applyOutside n (.qrel q) s =
    t.setStall a ((t.stall a).setOut b { ob with returning := ob.returning ++ [len] }) := by
  subst ht
  simp [applyOutside, hp, hc, ho, hb]

end Sys2Proof.Machine

/-- Settles O21: inside the stall by the operation's equation, outside it by the cases of the port's record. -/
theorem queueAndTransferOpsAct : Obligations.QueueAndTransferOpsAct := by
  unfold Obligations.QueueAndTransferOpsAct
  refine ⟨fun st raw s he hlock hl => ?_, fun n p v o s ho => ?_⟩
  · intro x r p vt runs
    have row {c : Instr} {op : Nat} {m : MEff} (hc : isaRow c = some (.m, op, st.val, raw)) (ho : bM raw = op)
        (hm : ∀ m', memSlot st x raw (freeVector s) s = .ok (some m') → m' = m) : runs c m := fun i hi =>
      ⟨(exec_memRow he hlock hl hi hc ho).1, hm _ (issueOn_some hi).1, (exec_memRow he hlock hl hi hc ho).2⟩
    have only {m m' : MEff} {e : Except Nat (Option MEff)} (h : e = .ok (some m)) (h' : e = .ok (some m')) : m' = m := by
      cases h.symm.trans h'; rfl
    refine ⟨fun h => row rfl h fun m' hm => qpush_of_memSlot hm h, fun h => row rfl h fun m' => only (memSlot_qend h),
      fun o h ho => row rfl h fun m' => only ?_, fun len rest h hp => row rfl h fun m' hm => qwait_of_memSlot hm h hp,
      fun h hp => memSlot_qwait_empty h hp,
      fun len rest a b o h hp ho hc hlt => row rfl h fun m' hm => qpop_of_memSlot hm h hp ho hc hlt,
      fun h => row rfl h fun m' => only (memSlot_qrel h), fun h => row rfl h fun m' hm => hget_of_memSlot hm h,
      fun h => row rfl h fun m' hm => hput_of_memSlot hm h,
      fun h => ⟨row rfl h fun m' hm => hwait_of_memSlot hm h, fun hlt => (memSlot_hwait h).trans (if_pos hlt)⟩⟩
    have hout : (s.stall st).out (bOFF raw % 4) = some o := ho
    rw [memSlot_qcred h, hout]
  · refine ⟨applyOutside_push ho, fun hf => ⟨applyOutside_push_flush ho hf, applyOutside_qend_flush ho hf⟩,
      fun hf hs => ⟨applyOutside_push_flushed ho hf hs, applyOutside_qend_flushed ho hf hs⟩,
      fun hf hs => ⟨_, rfl, applyOutside_qend ho hf hs rfl⟩,
      fun q len rest a b oa hp hc ho' => ⟨_, rfl, fun ob hb => applyOutside_qrel hp hc ho' rfl hb⟩⟩

end

section
/-! PROOF. Commands that read (Table CM-9): their answers, and what their reads consume. -/

open Sys2Proof Sys2Proof.Machine

namespace Sys2Proof.Machine

section
variable {c : Instr} {op : Nat} {p : Packet} {s u v : State}

/-- A command row whose packet runs and answers at once, with nothing behind its reply. -/
theorem exec_answers {r : Res} (h : Runs op p s u) (hc : exec c s = .next (takeCmd op p s))
    (ha : act (cmdOf op p) u = (.now r, v)) (hn : ∀ ok t, afterwards (cmdOf op p) ok t = t) :
    exec c s = .next (finish (cmdOf op p) r v) := by
  rw [hc, takeCmd_answers h ha, hn]

/-- A command row whose packet runs and whose reply waits for work. -/
theorem exec_waits {k : WaitKey} (h : Runs op p s u) (hc : exec c s = .next (takeCmd op p s))
    (ha : act (cmdOf op p) u = (.wait k, v)) (hn : ∀ ok t, afterwards (cmdOf op p) ok t = t) :
    exec c s = .next (pushSlot (cmdOf op p) (some k) none v) := by
  rw [hc, takeCmd_waits h ha, hn]

end

/-! ### Random words (R478) -/

theorem randomWords_fst (n : Nat) (s : State) : (randomWords n s).1 = (upTo n).map fun i => Config.random (s.fresh + i) := by
  induction n generalizing s with
  | zero => rfl
  | succ n ih =>
    simp only [randomWords, ih, upTo, List.range_succ_eq_map, List.map_cons, List.map_map]
    refine congrArg (Config.random (s.fresh + 0) :: ·) (List.map_congr_left fun i _ => ?_)
    exact congrArg Config.random (show s.fresh + 1 + i = s.fresh + (i + 1) by omega)

theorem State.drawWords_fst (n : Nat) (s : State) :
    (s.drawWords n).1 = (upTo n).map fun i => Config.random (s.fresh + i) := randomWords_fst n s

/-! ### Register reads (R530, R538) -/

/-- A latched group is the only one of its first register, and of each of its others, which begin no group (Table RM-2);
none of them is a channel's status. -/
theorem latchGroups_apart : (∀ g ∈ latchGroups, latchGroups.find? (fun h => h.first = g.first) = some g
      ∧ dmaStatusAt g.first = none)
    ∧ ∀ g ∈ latchGroups, ∀ a ∈ g.rest, latchGroups.find? (fun h => h.first = a) = none
      ∧ latchGroups.find? (fun h => h.rest.contains a) = some g ∧ dmaStatusAt a = none := by decide +kernel

/-- A read of the first register of a group latches the others. -/
theorem readReg_first {g : LatchGroup} (hg : g ∈ latchGroups) (path : Nat) (s : State) : readReg path g.first s =
    ((sampleFor g.first s).view g.first, { sampleFor g.first s with
      latches := SMap.put (sampleFor g.first s).latches [] (64 * path + g.no) ((sampleFor g.first s).views g.rest) }) := by
  simp only [readReg, (latchGroups_apart.1 g hg).1]
  rfl

/-- A read of another register of a group answers what was latched. -/
theorem readReg_rest {g : LatchGroup} (hg : g ∈ latchGroups) {a : Nat} (ha : a ∈ g.rest) (path : Nat) (s : State) :
    readReg path a s = (wAt (SMap.get (sampleFor a s).latches [] (64 * path + g.no)) (g.rest.idxOf a), sampleFor a s) := by
  obtain ⟨hfirst, hrest, -⟩ := latchGroups_apart.2 g hg a ha
  simp only [readReg, hfirst, hrest]
  rfl

/-- A register of no group reads its present value. -/
theorem readReg_plain {a : Nat} (h : ∀ g ∈ latchGroups, g.first ≠ a ∧ a ∉ g.rest) (path : Nat) (s : State) :
    readReg path a s = ((sampleFor a s).view a, sampleFor a s) := by
  have hfirst : latchGroups.find? (fun g => g.first = a) = none := by
    simpa using fun g hg => (h g hg).1
  have hrest : latchGroups.find? (fun g => g.rest.contains a) = none := by
    simpa using fun g hg => (h g hg).2
  simp only [readReg, hfirst, hrest]

/-- A narrow read of a register that is no channel's status waits for no tail. -/
theorem heldChan_eq_none {p : List Word} {s : State} (hn : bit (wAt p 0) 24 = false)
    (h : dmaStatusAt (bits (wAt p 0) 23 0) = none) : s.heldChan p = none := by
  have haddrs : regAddrs p = [bits (wAt p 0) 23 0] := by simp [regAddrs, regWide, regOff, hn]
  simp [State.heldChan, haddrs, h]

section
variable {p : Packet} {s u : State}

theorem act_regRead {ws : List Word} {v : State} (hh : u.heldChan p.params = none)
    (hr : regRead p.src p.params u = (ws, v)) : act (cmdOf 0x008 p) u = (.ok ws, v) := by
  change (match u.heldChan p.params with
    | some k => (Done.wait (.dmaRead k), u)
    | none => let (ws, s) := regRead p.src p.params u; (Done.ok ws, s)) = _
  rw [hh, hr]

theorem act_regRead_held {k : Nat} (hh : u.heldChan p.params = some k) :
    act (cmdOf 0x008 p) u = (.wait (.dmaRead k), u) := by
  change (match u.heldChan p.params with
    | some k => (Done.wait (.dmaRead k), u)
    | none => let (ws, s) := regRead p.src p.params u; (Done.ok ws, s)) = _
  rw [hh]

theorem regRead_narrow (hn : bit (wAt p.params 0) 24 = false) {w : Word} {v : State}
    (hr : readReg (srcPath p.src) (bits (wAt p.params 0) 23 0) u = (w, v)) : regRead p.src p.params u = ([w], v) := by
  simp only [regRead, regWide, hn, regOff, hr]
  rfl

end

end Sys2Proof.Machine

/-- Settles O5. -/
theorem readCommandsAnswerTheirWords : Obligations.ReadCommandsAnswerTheirWords := by
  unfold Obligations.ReadCommandsAnswerTheirWords
  refine ⟨fun p s u => ?_, fun p s u => ?_, fun p s u => ?_⟩
  · refine ⟨fun h => exec_answers h rfl rfl fun _ _ => rfl, fun h => exec_answers h rfl rfl fun _ _ => rfl,
      fun h => exec_answers h rfl rfl fun _ _ => rfl, fun h => exec_answers h rfl rfl fun _ _ => rfl,
      fun h => exec_answers h rfl rfl fun _ _ => rfl, fun h => exec_answers h rfl rfl fun _ _ => rfl,
      fun h => exec_answers h rfl rfl fun _ _ => rfl, fun ws hws h => exec_answers h rfl ?_ fun _ _ => rfl,
      fun h ht => exec_answers h rfl ?_ fun _ _ => rfl, fun h ht => exec_answers h rfl ?_ fun _ _ => rfl,
      fun h => exec_answers h rfl rfl fun _ _ => rfl, fun h hk => exec_answers h rfl ?_ fun _ _ => rfl,
      fun h hk => exec_answers h rfl ?_ fun _ _ => rfl, fun h hk => exec_answers h rfl ?_ fun _ _ => rfl,
      fun h hk => exec_answers h rfl ?_ fun _ _ => rfl⟩
    · subst hws; rfl
    · change trngRead _ u = _
      simp only [trngRead, ht, ← State.drawWords_fst]; rfl
    · change trngRead _ u = _
      simp only [trngRead, ht]; rfl
    all_goals change diagRead _ u = _; simp only [diagRead, cmdOf, hk]; rfl
  · refine ⟨fun h => exec_answers h rfl rfl fun _ _ => rfl, fun h => exec_answers h rfl rfl fun _ _ => rfl,
      fun h => exec_answers h rfl rfl fun _ _ => rfl, fun h hc => exec_answers h rfl ?_ fun _ _ => rfl,
      fun h hc => exec_answers h rfl ?_ fun _ _ => rfl, fun h => exec_answers h rfl rfl fun _ _ => rfl,
      fun h => exec_answers h rfl rfl fun _ _ => rfl, fun h => exec_answers h rfl rfl fun _ _ => rfl,
      fun h => exec_answers h rfl rfl fun _ _ => rfl, fun h => exec_answers h rfl rfl fun _ _ => rfl,
      fun h => exec_answers h rfl rfl fun _ _ => rfl, fun h ht => exec_answers h rfl (if_neg (Bool.eq_false_iff.mp ht)) fun _ _ => rfl,
      fun h ht => exec_waits h rfl (if_pos ht) fun _ _ => rfl, fun h => exec_answers h rfl rfl fun _ _ => rfl,
      fun h hk => exec_answers h rfl ?_ fun _ _ => rfl, fun k h hk => exec_answers h rfl ?_ fun _ _ => rfl,
      fun h => exec_answers h rfl rfl fun _ _ => rfl, fun h => exec_answers h rfl rfl fun _ _ => rfl⟩
    · change (if uClass p.unit = 3 then _ else _) = _
      rw [if_neg (by omega)]; rfl
    · change (if uClass p.unit = 3 then _ else _) = _
      rw [if_pos hc]; rfl
    · change (Done.ok (tsRead p.params u), u) = _
      simp only [tsRead, hk]; rfl
    · change (Done.ok (tsRead p.params u), u) = _
      simp only [tsRead, hk]; rfl
  · refine ⟨fun h hh hw => exec_answers h rfl (act_regRead hh ?_) fun _ _ => rfl,
      fun h hh hn hg => exec_answers h rfl (act_regRead hh (regRead_narrow hn (readReg_plain hg _ _))) fun _ _ => rfl,
      fun g hg ha h hn => ?_, fun g hg ha h hn => ?_, fun k h hk => exec_waits h rfl (act_regRead_held hk) fun _ _ => rfl⟩
    · simp only [regRead, regWide, hw]; rfl
    · have hh : u.heldChan p.params = none := heldChan_eq_none hn (ha ▸ (latchGroups_apart.1 g hg).2)
      exact exec_answers h rfl (act_regRead hh (regRead_narrow hn (ha ▸ readReg_first hg _ _))) fun _ _ => rfl
    · have hh : u.heldChan p.params = none := heldChan_eq_none hn (latchGroups_apart.2 g hg _ ha).2.2
      exact exec_answers h rfl (act_regRead hh (regRead_narrow hn (readReg_rest hg ha _ _))) fun _ _ => rfl
end

section
/-! PROOF. Seals, resets and sleep entries (R61, R65, R444–R449, R468, R501), and commands whose settings act at once
(R52, R54, R397, R538). -/

open Sys2Proof Sys2Proof.Machine

namespace Sys2Proof.Machine

/-! ### The receipt checks, one by one (R83) -/

theorem firstOf_eq_none {l : List Chk} : firstOf l = none ↔ ∀ c ∈ l, c = none := by
  simp [firstOf, List.findSome?_eq_none_iff]

theorem inRange_eq_none {b : Bool} {i : Nat} : inRange b i = none ↔ b = true := by
  cases b <;> simp [inRange]

theorem need_eq_none {b : Bool} {st d : Nat} : need b st d = none ↔ b = true := by
  cases b <;> simp [need]

/-- A command that passes, of no fan-out, has its count and its parameters right. -/
theorem step9_of_checkCmd {c : Cmd} {s : State} (hf : fansOut c.opcode.toNat c.pkt.unit = false)
    (h : checkCmd c none s = none) : step9 c [] s = none := by
  unfold checkCmd at h
  cases hh : headChk c none s with
  | some e => simp [hh] at h
  | none =>
    simp only [hh, hf, Bool.false_eq_true, if_false] at h
    by_cases h2 : uClass c.pkt.unit = 2
    · simp only [h2, if_true] at h
      split at h
      · cases h
      next hc =>
        simp only [stallChk, firstOf_eq_none, List.forall_mem_cons] at hc
        obtain ⟨⟨-, -, h9, -⟩, -⟩ := hc
        exact h9
    · simp only [h2, if_false] at h
      split at h
      · cases h
      next hc =>
        simp only [firstOf_eq_none, List.forall_mem_cons] at hc
        obtain ⟨⟨-, h9, -⟩, -⟩ := hc
        exact h9

theorem opLen_of_step9 {c : Cmd} {held : List Held} {s : State} (h : step9 c held s = none) :
    opLen c.opcode.toNat c.pkt.unit c.pkt.params = true :=
  need_eq_none.mp (firstOf_eq_none.mp h _ (List.mem_cons_self ..))

theorem paramChk_of_step9 {c : Cmd} {held : List Held} {s : State} (h : step9 c held s = none) :
    paramChk c.opcode.toNat c.pkt.unit c.pkt.stage c.pkt.params held s = none := by
  have := firstOf_eq_none.mp h _ (List.mem_cons_of_mem _ (List.mem_cons_self ..))
  rwa [if_pos (opLen_of_step9 h)] at this

/-! ### SEAL and SAFE_EXIT -/

section
variable {u : State}

theorem sealNow_empty (h : (comingReady (idleEnd u)).groom.staging.fill = []) :
    sealNow u = (⟨St.OK, 1, [], false, none⟩,
      let v := comingReady (idleEnd u)
      let t := { v with groom := { v.groom with staging := { v.groom.staging with fill := [] } } }
      noteSeal 3 0 0 t.tickLo t) := by
  simp [sealNow, h]

theorem sealNow_filled (h : (comingReady (idleEnd u)).groom.staging.fill ≠ []) :
    sealNow u =
      let v := comingReady (idleEnd u)
      let es := v.groom.staging.fill
      let t := { v with groom := { v.groom with staging := { v.groom.staging with fill := [] } } }
      (match verdict t es with | .pass => Res.ok [] | .fail reason _ _ => Res.err St.CHECK reason,
        sealSet es (verdict t es) t.tickLo t) := by
  have hne : (comingReady (idleEnd u)).groom.staging.fill.isEmpty = false := by simpa using h
  simp only [sealNow, hne]
  rfl

theorem act_seal {p : Packet} {r : Res} {v : State} (h : sealNow u = (r, v)) : act (cmdOf 0x003 p) u = (.now r, v) := by
  change (let (r, s) := sealNow u; (Done.now r, s)) = _
  rw [h]

theorem safeExit_clear (hc : u.ev.critHot = false) (ht : u.ev.trngBoot = false) :
    safeExit u = (.ok [], (closeWindow
      { u.setFlag R.TICK_CTRL F.TICK_CTRL_RUN false with tg := { u.tg with running := false } }).goTo .config 0x800B) := by
  have h : u.safeCond = false := by simp [State.safeCond, hc, ht]
  simp only [safeExit, h]
  rfl

theorem safeExit_standing (h : u.ev.critHot = true ∨ u.ev.trngBoot = true) : safeExit u = (.err St.FAULT 8, u) := by
  have h : u.safeCond = true := by simpa [State.safeCond] using h
  simp only [safeExit, h, if_true]

end

/-! ### SLEEP_ENTER (Table PW-8) -/

section
variable {q : Packet} {u : State}

theorem act_sleepEnter_zero (h : bits (wAt q.params 0) 2 0 = 0) :
    act (cmdOf 0xB02 q) u = (.ok [(idleEnd u).view R.PWR_ENTRY, (idleEnd u).tickLo], idleEnd u) := by
  change sleepEnter q.params u = _
  simp only [sleepEnter, h]

theorem act_sleepEnter_one (h : bits (wAt q.params 0) 2 0 = 1) :
    act (cmdOf 0xB02 q) u = (.ok [(idleBegin u).view R.PWR_ENTRY, (idleBegin u).tickLo], idleBegin u) := by
  change sleepEnter q.params u = _
  simp only [sleepEnter, h]

theorem act_sleepEnter_entry {k : Nat} (h : bits (wAt q.params 0) 2 0 = k + 2) :
    act (cmdOf 0xB02 q) u = (.wait .sleepEnter, u) := by
  change sleepEnter q.params u = _
  simp only [sleepEnter, h]

theorem afterwards_sleepEnter_now {ok : Bool} (h : bits (wAt q.params 0) 2 0 < 2) : afterwards (cmdOf 0xB02 q) ok u = u :=
  if_neg (by change ¬ 2 ≤ bits (wAt q.params 0) 2 0; omega)

theorem afterwards_sleepEnter_entry {ok : Bool} {k : Nat} (h : bits (wAt q.params 0) 2 0 = k + 2) :
    afterwards (cmdOf 0xB02 q) ok u = entryGo (entryBegin (sleepKind (k + 2)) (bit (wAt q.params 0) 8) u) := by
  change (if 2 ≤ bits (wAt q.params 0) 2 0 then
    entryGo (entryBegin (sleepKind (bits (wAt q.params 0) 2 0)) (bit (wAt q.params 0) 8) u) else u) = _
  rw [h, if_pos (by omega)]

theorem takeCmd_sleepEnter_entry {s : State} {k : Nat} (hr : Runs 0xB02 q s u) (h : bits (wAt q.params 0) 2 0 = k + 2) :
    takeCmd 0xB02 q s = entryGo (entryBegin (sleepKind (k + 2)) (bit (wAt q.params 0) 8)
      (pushSlot (cmdOf 0xB02 q) (some .sleepEnter) none u)) := by
  rw [takeCmd_waits hr (act_sleepEnter_entry h), afterwards_sleepEnter_entry h]

end

theorem kindPacket_kind {p : Packet} {k : Nat} (hp : p.params ≠ []) (hk : k < 8) :
    bits (wAt (kindPacket p 2 0 k).params 0) 2 0 = k := by
  rw [kindPacket_bits p 2 0 k (by omega) (by omega) hp]
  exact Nat.mod_eq_of_lt hk

end Sys2Proof.Machine

/-- Settles O6. -/
theorem sealsResetsAndSleepEntersAct : Obligations.SealsResetsAndSleepEntersAct := by
  unfold Obligations.SealsResetsAndSleepEntersAct
  refine ⟨fun p s u => ⟨fun h he => ?_, fun h he hv => ?_, fun r tag unit h he hv => ?_, fun h hc ht => ?_, fun h hst => ?_,
    fun h => ?_⟩, fun p s u => ⟨fun h => ?_, fun hp h => ?_, fun hp h => ?_, fun hp h => ?_, fun hp h => ?_⟩⟩
  · exact exec_answers h rfl (act_seal (sealNow_empty he)) fun _ _ => rfl
  · refine exec_answers h rfl (act_seal ((sealNow_filled he).trans ?_)) fun _ _ => rfl
    simp only [hv]; rfl
  · refine exec_answers h rfl (act_seal ((sealNow_filled he).trans ?_)) fun _ _ => rfl
    simp only [hv]; rfl
  · exact exec_answers h rfl (safeExit_clear hc ht) fun _ _ => rfl
  · exact exec_answers h rfl (safeExit_standing hst) fun _ _ => rfl
  · exact congrArg Host.Outcome.next (takeCmd_answers h rfl)
  · have hk := kindPacket_bits_zero p 2 0 (by omega) (by omega)
    exact exec_answers h rfl (act_sleepEnter_zero hk) fun _ _ => afterwards_sleepEnter_now (by omega)
  · have hk := kindPacket_kind (k := 1) hp (by omega)
    exact exec_answers h rfl (act_sleepEnter_one hk) fun _ _ => afterwards_sleepEnter_now (by omega)
  · exact congrArg Host.Outcome.next (takeCmd_sleepEnter_entry (k := 0) h (kindPacket_kind hp (by omega)))
  · exact congrArg Host.Outcome.next (takeCmd_sleepEnter_entry (k := 1) h (kindPacket_kind hp (by omega)))
  · exact congrArg Host.Outcome.next (takeCmd_sleepEnter_entry (k := 2) h (kindPacket_kind hp (by omega)))
end

section
/-! PROOF. Commands whose settings act at once (R52, R54, R192, R397, R430, R438, R451, R538). -/

open Sys2Proof Sys2Proof.Machine

namespace Sys2Proof.Machine

/-! ### REG_WRITE (R538) -/

section
variable {ws : List (Nat × Word)} {s : State}

theorem writeWords_direct (h : ∀ e ∈ ws, isST e.1 = false) :
    writeWords ws s = (true, none, ws.foldl (fun t e => writeReg e.1 e.2 t) s) := by
  have hf : ws.filter (fun e => isST e.1) = [] := List.filter_eq_nil_iff.mpr fun e he => by simp [h e he]
  simp only [writeWords, hf]

theorem writeWords_full (h : ∃ e ∈ ws, isST e.1 = true) (hf : 4096 ≤ s.groom.staging.fill.length) :
    writeWords ws s = (false, none, s) := by
  obtain ⟨e, he, hst⟩ := h
  cases hfs : ws.filter (fun e => isST e.1) with
  | nil => exact absurd hst (by simpa using List.filter_eq_nil_iff.mp hfs e he)
  | cons x xs => simp [writeWords, hfs, stageRegs_full _ _ _ hf]

/-- Registers with ST fields join the set as one entry of their page; the other fields are written behind it. -/
theorem writeWords_joins {page : Nat} (hp : ∀ e ∈ ws, e.1 / 0x10000 = page) (h : ∃ e ∈ ws, isST e.1 = true)
    (hf : s.groom.staging.fill.length < 4096) :
    writeWords ws s = (true, some (joinRes (.fill s.winOpen s.fillTick)),
      ws.foldl (fun t e => writeReg e.1 e.2 t) (stageRegs page (ws.filter fun e => isST e.1) s).2) := by
  obtain ⟨e, he, hst⟩ := h
  cases hfs : ws.filter (fun e => isST e.1) with
  | nil => exact absurd hst (by simpa using List.filter_eq_nil_iff.mp hfs e he)
  | cons x xs =>
    have hx : x.1 / 0x10000 = page := hp x (List.mem_filter.mp (hfs ▸ List.mem_cons_self ..)).1
    simp [writeWords, hfs, hx, stageRegs_room _ _ _ hf]

end

section
variable {q : List Word} {s : State}

/-- The registers of a register command that passes lie in one page, and a word comes for each. -/
theorem regAddrs_page (h : regChk false q s = none) :
    ∀ a ∈ regAddrs q, a / 0x10000 = bits (wAt q 0) 23 0 / 0x10000 := by
  have ha := inRange_eq_none.mp (firstOf_eq_none.mp h _ (List.mem_cons_self ..))
  intro a hm
  cases hw : regWide q <;> simp only [regAddrs, hw, regOff, if_true, if_false, Bool.false_eq_true, List.mem_cons,
    List.not_mem_nil, or_false, Bool.and_eq_true, beq_iff_eq] at ha hm
  · rw [hm]
  · omega

theorem regAddrs_length_le (h : q.length = 2 + bits (wAt q 0) 24 24) : (regAddrs q).length ≤ (q.drop 1).length := by
  have hb : bits (wAt q 0) 24 24 = (wAt q 0).toNat / 2 ^ 24 % 2 := rfl
  cases hw : regWide q with
  | false => simp [regAddrs, hw]; omega
  | true =>
    have : (wAt q 0).toNat / 2 ^ 24 % 2 = 1 := by simpa [regWide, bit] using hw
    simp [regAddrs, hw]; omega

end

section
variable {p : Packet} {u : State}

/-- What the receipt checks make sure of a REG_WRITE: one page, and a word for each register. -/
theorem regWrite_checked (hst : p.stage = false) (h : checkCmd (cmdOf 0x009 p) none u = none) :
    (∀ a ∈ regAddrs p.params, a / 0x10000 = bits (wAt p.params 0) 23 0 / 0x10000)
      ∧ (regAddrs p.params).length ≤ (p.params.drop 1).length := by
  have hf : fansOut 0x009 p.unit = false := Bool.and_false _
  have h9 := step9_of_checkCmd (c := cmdOf 0x009 p) hf h
  have hlen : p.params.length = 2 + bits (wAt p.params 0) 24 24 := of_decide_eq_true (opLen_of_step9 h9)
  have hchk : regChk p.stage p.params u = none := paramChk_of_step9 h9
  rw [hst] at hchk
  exact ⟨regAddrs_page hchk, regAddrs_length_le hlen⟩

theorem regWords_isST {q : List Word} (hl : (regAddrs q).length ≤ (q.drop 1).length) (h : ∃ a ∈ regAddrs q, isST a = true) :
    ∃ e ∈ (regAddrs q).zip (q.drop 1), isST e.1 = true := by
  obtain ⟨a, ha, hst⟩ := h
  rw [← List.map_fst_zip hl, List.mem_map] at ha
  obtain ⟨e, he, rfl⟩ := ha
  exact ⟨e, he, hst⟩

/-! ### Other settings -/

theorem act_padRelease_ready (h : ∀ d ∈ (onesOf (bits (wAt p.params 0) 7 0) 8).flatMap padOwners, u.domainOn d = true →
    u.domainReady d = true) :
    act (cmdOf 0xB03 p) u = (.ok [(releasePads (bits (wAt p.params 0) 7 0) u).view R.PWR_PADS],
      releasePads (bits (wAt p.params 0) 7 0) u) := by
  have hno : ((onesOf (bits (wAt p.params 0) 7 0) 8).flatMap padOwners).any (fun d => u.domainOn d && !u.domainReady d)
      = false := by
    rw [List.any_eq_false]
    intro d hd
    cases hon : u.domainOn d <;> simp [hon, h d hd]
  change cmdPadRelease p.params u = _
  simp [cmdPadRelease, padRelease, hno]

theorem act_padRelease_waiting (h : ∃ d ∈ (onesOf (bits (wAt p.params 0) 7 0) 8).flatMap padOwners, u.domainOn d = true
    ∧ u.domainReady d = false) : act (cmdOf 0xB03 p) u = (.err St.STATE 2, u) := by
  obtain ⟨d, hd, hon, hr⟩ := h
  have hyes : ((onesOf (bits (wAt p.params 0) 7 0) 8).flatMap padOwners).any (fun d => u.domainOn d && !u.domainReady d)
      = true := List.any_eq_true.mpr ⟨d, hd, by simp [hon, hr]⟩
  change cmdPadRelease p.params u = _
  simp [cmdPadRelease, padRelease, hyes]

theorem act_tbAdjust {v : Int} (h : adjustTarget (uIndex p.unit) p.params u = some v) :
    let t := scheduleStep (uIndex p.unit) (v - u.tbFine (uIndex p.unit)) u
    act (cmdOf 0x902 p) u = (.ok [t.view (R.TB_STATUS (uIndex p.unit)), if t.tg.running then t.tickLo + 1 else t.tickLo], t) := by
  change tbAdjust (uIndex p.unit) p.params u = _
  simp [tbAdjust, h]

end

end Sys2Proof.Machine

/-- Settles O8. -/
theorem immediateCommandsActAtOnce : Obligations.ImmediateCommandsActAtOnce := by
  unfold Obligations.ImmediateCommandsActAtOnce
  refine ⟨fun p s u => ⟨fun h hst => ?_, fun h hst hf => ?_, fun h hst hf => ?_, fun h => ?_, fun h => ?_, fun h => ?_,
    fun h hr => ?_, fun h hr => ?_, fun h => ?_⟩, fun p s u => ⟨fun h => ?_, fun h => ?_, fun h => ?_, fun h => ?_, fun h => ?_,
    fun k v hk h hv => ?_⟩⟩
  · refine exec_answers h rfl (?_ : regWrite p.params u = _) fun _ _ => rfl
    rw [regWrite, writeWords_direct fun e he => hst e.1 (List.of_mem_zip he).1]
    rfl
  · obtain ⟨hpage, hlen⟩ := regWrite_checked h.2.1 h.2.2.1
    refine ⟨_, _, rfl, rfl, exec_answers h rfl (?_ : regWrite p.params u = _) fun _ _ => rfl⟩
    rw [regWrite, writeWords_joins (fun e he => hpage e.1 (List.of_mem_zip he).1) (regWords_isST hlen hst) hf,
      stageRegs_room _ _ _ hf]
  · obtain ⟨-, hlen⟩ := regWrite_checked h.2.1 h.2.2.1
    refine exec_answers h rfl (?_ : regWrite p.params u = _) fun _ _ => rfl
    rw [regWrite, writeWords_full (regWords_isST hlen hst) hf]
    rfl
  · exact exec_answers h rfl rfl fun _ _ => rfl
  · exact exec_answers h rfl rfl fun _ _ => rfl
  · exact ⟨_, rfl, exec_answers h rfl rfl fun _ _ => rfl⟩
  · exact ⟨_, rfl, exec_answers h rfl (act_padRelease_ready hr) fun _ _ => rfl⟩
  · exact exec_answers h rfl (act_padRelease_waiting hr) fun _ _ => rfl
  · exact ⟨_, rfl, exec_answers h rfl rfl fun _ _ => rfl⟩
  · exact exec_answers h rfl rfl fun _ _ => rfl
  · exact ⟨_, rfl, exec_answers h rfl rfl fun _ _ => rfl⟩
  · exact exec_answers h rfl rfl fun _ _ => rfl
  · exact exec_answers h rfl rfl fun _ _ => rfl
  · exact exec_answers h rfl rfl fun _ _ => rfl
  · refine ⟨_, rfl, ?_⟩
    rcases hk with rfl | rfl
    · exact exec_answers h rfl (act_tbAdjust hv) fun _ _ => rfl
    · exact exec_answers h rfl (act_tbAdjust hv) fun _ _ => rfl
end

section
/-! PROOF. Commands that start work (R105, R152, R159, R164, R267, R319, R378, R384, R420, R509–R516). -/

open Sys2Proof Sys2Proof.Machine

namespace Sys2Proof.Machine

section
variable {x : Nat} {u : State}

/-! ### Links -/

theorem cmdDiscover_down (h : u.laneUp x = false) : cmdDiscover x u = (.ok [u.reg (R.LINK_PARTNER x)], u) := by
  simp [cmdDiscover, h]

theorem cmdDiscover_running (h : u.laneUp x = true) (hd : (u.link x).discover = true) :
    cmdDiscover x u = (.err St.BUSY 3, u) := by
  simp [cmdDiscover, h, hd]

theorem cmdDiscover_starts (h : u.laneUp x = true) (hd : (u.link x).discover = false) :
    cmdDiscover x u = (.wait (.discover x), callLane x (u.setLink x { u.link x with discover := true })) := by
  simp [cmdDiscover, h, hd]

theorem cmdTriggerCal_down {n : Nat} (h : u.laneUp x = false) : cmdTriggerCal x n u = (.ok [0xFFFFFFFF, 0xFFFFFFFF], u) := by
  simp [cmdTriggerCal, h]

theorem cmdTriggerCal_starts {n : Nat} (h : u.laneUp x = true) (hc : (u.link x).cal = none) :
    cmdTriggerCal x n u = (.wait (.triggerCal x), calSend x (n - 1) [] true u) := by
  simp [cmdTriggerCal, h, hc]

theorem cmdTriggerCal_running {n : Nat} {c : CalX} (h : u.laneUp x = true) (hc : (u.link x).cal = some c) :
    cmdTriggerCal x n u = if c.forCmd then (.err St.BUSY 3, u)
      else (.wait (.triggerCal x), calSend x (n - 1) [] true (calDone x c u)) := by
  simp [cmdTriggerCal, h, hc]

theorem cmdCameraAuth_unasked (h : u.laneUp x = false ∨ u.partnerKnown x = false ∨ u.partnerCap x 0 = false) :
    cmdCameraAuth x u = (.ok [if u.laneUp x then u.reg (R.LINK_AUTH x) else F.LINK_AUTH_RESULT.put 0 (u.reg (R.LINK_AUTH x))],
      u) := by
  cases hu : u.laneUp x
  · simp [cmdCameraAuth, hu]
  · have h : u.partnerKnown x = false ∨ u.partnerCap x 0 = false := by simpa [hu] using h
    simp [cmdCameraAuth, hu, h]

theorem cmdCameraAuth_starts (h : u.laneUp x = true) (hk : u.partnerKnown x = true) (hc : u.partnerCap x 0 = true)
    (ha : (u.link x).auth = none) : cmdCameraAuth x u = (.wait (.cameraAuth x), authStart x true u) := by
  simp [cmdCameraAuth, h, hk, hc, ha]

theorem cmdCameraAuth_running {a : AuthX} (h : u.laneUp x = true) (hk : u.partnerKnown x = true)
    (hc : u.partnerCap x 0 = true) (ha : (u.link x).auth = some a) :
    cmdCameraAuth x u = if a.forCmd then (.err St.BUSY 3, u)
      else (.wait (.cameraAuth x), u.setLink x { u.link x with auth := some { a with forCmd := true } }) := by
  simp [cmdCameraAuth, h, hk, hc, ha]

theorem act_cameraAuth {p : Packet} {l : Nat} (h : authLane (wAt p.params 0) = some l) :
    act (cmdOf 0xC03 p) u = cmdCameraAuth l u := by
  change (match authLane (wAt p.params 0) with | some l => cmdCameraAuth l u | none => (.err St.RANGE 0, u)) = _
  rw [h]

/-! ### DMA aborts (R384) -/

section
variable {i : Nat}

theorem dmaAbort_running (h : u.dmaState i = Ds.RUNNING) :
    dmaAbort i u = (true, if (u.chan i).phase = .readback 3 then u
      else (u.setDmaState i Ds.ABORTING).setChan i { u.chan i with phase := .abortBurst }) := by
  by_cases hp : (u.chan i).phase = .readback 3 <;> simp [dmaAbort, h, hp]

theorem dmaAbort_aborting (h : u.dmaState i = Ds.ABORTING) : dmaAbort i u = (true, u) := by
  simp [dmaAbort, h, Ds.ABORTING, Ds.RUNNING, Ds.QUEUED, Ds.PARKED]

theorem dmaAbort_idle (h : u.dmaState i = Ds.OFF ∨ u.dmaState i = Ds.IDLE) : dmaAbort i u = (false, u) := by
  rcases h with h | h <;> simp [dmaAbort, h, Ds.ABORTING, Ds.RUNNING, Ds.QUEUED, Ds.PARKED, Ds.OFF, Ds.IDLE]

theorem dmaAbort_queued (h : u.dmaState i = Ds.QUEUED) :
    dmaAbort i u = (false, dmaAborted i
      (w32 (if (u.chan i).resume = true then (match (u.chan i).desc with | some d => d.total | none => 0) else 0))
      ((setDmaQueue (i / 4) ((u.dmaQueue (i / 4)).filter (· ≠ i)) u).setChan i { u.chan i with
        kept := [u.reg (R.DMA_CTRL i), u.reg (R.DMA_DBASE_HI i), u.reg (R.DMA_WB_LO i), u.reg (R.DMA_WB_HI i)] })) := by
  have hr : u.dmaState i ≠ Ds.RUNNING := by rw [h]; decide
  simp only [dmaAbort, if_neg hr, if_pos h]
  rfl

theorem dmaAbort_parked (h : u.dmaState i = Ds.PARKED) :
    dmaAbort i u = (false, dmaAborted i 0 (u.setChan i { u.chan i with
        kept := [u.reg (R.DMA_CTRL i), u.reg (R.DMA_DBASE_HI i), u.reg (R.DMA_WB_LO i), u.reg (R.DMA_WB_HI i)] })) := by
  have hr : u.dmaState i ≠ Ds.RUNNING := by rw [h]; decide
  have hq : u.dmaState i ≠ Ds.QUEUED := by rw [h]; decide
  simp only [dmaAbort, if_neg hr, if_neg hq, if_pos h]
  rfl

theorem act_dmaAbort_done {p : Packet} {t : State} (h : dmaAbort (uIndex p.unit) u = (false, t)) : act (cmdOf 0x802 p) u =
    (.ok [t.view (R.DMA_STATUS (uIndex p.unit)), t.view (R.DMA_RESIDUE (uIndex p.unit))], t) := by
  change (match dmaAbort (uIndex p.unit) u with
    | (true, s) => (Done.wait (.dmaAbort (uIndex p.unit)), s)
    | (false, s) => (.ok [s.view (R.DMA_STATUS (uIndex p.unit)), s.view (R.DMA_RESIDUE (uIndex p.unit))], s)) = _
  rw [h]

theorem act_dmaAbort_waits {p : Packet} {t : State} (h : dmaAbort (uIndex p.unit) u = (true, t)) : act (cmdOf 0x802 p) u =
    (.wait (.dmaAbort (uIndex p.unit)), t) := by
  change (match dmaAbort (uIndex p.unit) u with
    | (true, s) => (Done.wait (.dmaAbort (uIndex p.unit)), s)
    | (false, s) => (.ok [s.view (R.DMA_STATUS (uIndex p.unit)), s.view (R.DMA_RESIDUE (uIndex p.unit))], s)) = _
  rw [h]

end

/-! ### Two-wire transfers (R420) -/

theorem act_twXfer {p : Packet} {k : Nat} (h : twCtlOf (uIndex p.unit) = some k) :
    act (cmdOf 0xA01 p) u = twXfer k p.params u := by
  change (match twCtlOf (uIndex p.unit) with | some k => twXfer k p.params u | none => (.err St.RANGE 0, u)) = _
  rw [h]

theorem twXfer_full {k : Nat} {q : List Word} (h : 8 ≤ (u.twc k).queue.length) : twXfer k q u = (.err St.BUSY 3, u) := by
  simp only [twXfer, if_pos h]

/-- What refuses a transfer at once; 0 where it is queued. -/
def twRefusal (k : Nat) (u : State) : Nat :=
  if k < 32 then (if u.flag (R.TWC_CTRL k) F.TWC_CTRL_EN = false then Tw.DISABLED
      else if (u.twc k).stuck then Tw.BUS_STUCK else 0)
    else if (u.twc k).queue.isEmpty ∧ u.tunnelOk (k - 32) = false then Tw.NO_PARTNER else 0

/-- The transfer of a TW_XFER at the end of its controller's queue. -/
def twQueued (k : Nat) (q : List Word) (u : State) : State :=
  twShow k (u.setTwc k { u.twc k with serial := (u.twc k).serial + 1, queue := (u.twc k).queue
    ++ [⟨(u.twc k).serial, bits (wAt q 0) 6 0, bits (wAt q 0) 9 8,
        (wordsBytes (q.drop 2)).take (bits (wAt q 0) 23 16), bits (wAt q 1) 7 0, 0⟩] })

theorem twXfer_room {k : Nat} {q : List Word} (h : (u.twc k).queue.length < 8) : twXfer k q u =
    if twRefusal k u ≠ 0 then (.ok (twPayload (twRefusal k u) 0 0 [] 0), twCount k (twRefusal k u) u)
    else (.wait (.twXfer k (u.twc k).serial),
      if 32 ≤ k ∧ (u.twc k).queue.isEmpty then tunnelSend (k - 32) (twQueued k q u) else twQueued k q u) := by
  have hq : ¬ 8 ≤ (u.twc k).queue.length := by omega
  by_cases hk : k < 32
  · have hk' : ¬ 32 ≤ k := by omega
    cases he : u.flag (R.TWC_CTRL k) F.TWC_CTRL_EN <;> cases hs : (u.twc k).stuck <;>
      simp [twXfer, twRefusal, twQueued, hq, hk, hk', he, hs, Tw.DISABLED, Tw.BUS_STUCK]
  · have hk' : 32 ≤ k := by omega
    cases he : (u.twc k).queue.isEmpty <;> cases ht : u.tunnelOk (k - 32) <;>
      simp [twXfer, twRefusal, twQueued, hq, hk, hk', he, ht, Tw.NO_PARTNER]

/-! ### Tests (R507–R516) -/

theorem eyeScan_refused {q : List Word} (h : u.test.eye ≠ none ∨ u.laneIn x [Ls.up, Ls.doze, Ls.test] = false) :
    eyeScan x q u = (.now (if u.test.eye ≠ none then Res.err St.BUSY 3 else Res.err St.STATE 0), u) := by
  cases he : u.test.eye with
  | some e => simp [eyeScan, he]; rfl
  | none =>
    have hl : u.laneIn x [Ls.up, Ls.doze, Ls.test] = false := by simpa [he] using h
    simp [eyeScan, he, hl]; rfl

theorem eyeScan_starts {q : List Word} (h : u.test.eye = none) (hl : u.laneIn x [Ls.up, Ls.doze, Ls.test] = true) :
    let v := if u.measuresEye x then keepEye x u else u
    eyeScan x q u = (.wait .eyeScan, ({ v with test := { v.test with eye := some ⟨x, 64 / 2 ^ bits (wAt q 0) 9 8,
      64 / 2 ^ bits (wAt q 0) 11 10, bits (wAt q 0) 4 0, u.eyeNow x⟩ } }).setReg R.TEST_EYE_STATUS (w32 (1 + 4 * x))) := by
  simp [eyeScan, h, hl]

/-- A memory test begins: what it tests, and its result registers cleared. -/
def memBegin (unit : BitVec 16) (q : List Word) (u : State) : State :=
  ((((({ u with test := { u.test with mem := some ⟨uIndex unit, bits (wAt q 0) 0 0,
      (wAt q 1).toNat * 4096, (wAt q 2).toNat * 4096⟩ } }).setReg
    R.TEST_MEM_STATUS (w32 (1 + 65536 * unit.toNat))).setReg R.TEST_MEM_ADDR 0).setReg R.TEST_MEM_BITS 0).setReg
    R.TEST_MEM_COUNT 0)

/-- The memory of a test is in use. -/
def memLive (i : Nat) (q : List Word) (u : State) : Bool :=
  if i < 0x210 then u.sliceLive (i - 0x200) else if i < 0x220 then u.shedLive (i - 0x210)
    else u.storeLive ((wAt q 1).toNat * 4096) ((wAt q 2).toNat * 4096)

theorem memRun_eq (unit : BitVec 16) (q : List Word) (u : State) : memRun unit q u =
    if u.test.mem ≠ none then (.err St.BUSY 3, u)
    else if memLive (uIndex unit) q u then (.err St.STATE 0, u)
    else (.wait .memtest, memBegin unit q u) := by
  cases hm : u.test.mem with
  | none => simp only [memRun, hm]; rfl
  | some t => simp only [memRun, hm]; rfl

theorem loopbackSet_able {k : Nat} (h : k = 0 ∨ u.laneIn x [Ls.test] = true ∧ u.laneIn (2 * (x - 32)) [Ls.test] = true
      ∧ u.laneBound x = false ∧ u.laneBound (2 * (x - 32)) = false) :
    loopbackSet x k u = (.ok [(u.setFld (R.TEST_LOOP x) F.TEST_LOOP_KIND k).reg (R.TEST_LOOP x)],
      u.setFld (R.TEST_LOOP x) F.TEST_LOOP_KIND k) := by
  rcases h with rfl | ⟨h1, h2, h3, h4⟩
  · rfl
  · simp [loopbackSet, h1, h2, h3, h4]

theorem loopbackSet_refused {k : Nat} (hk : k ≠ 0) (h : u.laneIn x [Ls.test] = false
      ∨ u.laneIn (2 * (x - 32)) [Ls.test] = false ∨ u.laneBound x = true ∨ u.laneBound (2 * (x - 32)) = true) :
    loopbackSet x k u = (.err St.STATE 0, u) := by
  have hno : (u.laneIn x [Ls.test] && u.laneIn (2 * (x - 32)) [Ls.test] && !u.laneBound x
      && !u.laneBound (2 * (x - 32))) = false := by
    rcases h with h | h | h | h <;> simp [h]
  simp only [loopbackSet, hno]
  exact if_pos ⟨hk, rfl⟩

theorem injectSet_witnessed {q : List Word} (h : u.laneWitnessed x = true) : injectSet x q u = (.err St.STATE 0, u) := by
  simp [injectSet, h]

theorem injectSet_stop {q : List Word} (h : u.laneWitnessed x = false) (hk : bits (wAt q 0) 1 0 = 0) :
    injectSet x q u = (.ok [(injectStop x u).reg (R.TEST_INJ x)], injectStop x u) := by
  simp [injectSet, h, hk]

/-- An injection of a kind begins: how many errors are left, their spacing and the wait for the first. -/
def injectBegin (x k : Nat) (left : Option Nat) (e : Nat) (u : State) : State :=
  ({ u with test := { u.test with inj := SMap.put u.test.inj none x (some
    ⟨k, left, e, if k = 2 then 2 ^ e - 1 else 0, 0⟩) } }).setReg (R.TEST_INJ x) (w32 (k + 4))

theorem injectSet_starts {q : List Word} {k : Nat} {left : Option Nat} (h : u.laneWitnessed x = false)
    (hk : bits (wAt q 0) 1 0 = k) (hl : k = 1 ∧ left = some 1
      ∨ k = 2 ∧ left = (if (wAt q 1).toNat = 0 then none else some (wAt q 1).toNat)
      ∨ k = 3 ∧ left = some (bits (wAt q 0) 23 16)) :
    injectSet x q u = (.ok [(injectBegin x k left (bits (wAt q 0) 13 8) u).reg (R.TEST_INJ x)],
      injectBegin x k left (bits (wAt q 0) 13 8) u) := by
  rcases hl with ⟨rfl, rfl⟩ | ⟨rfl, rfl⟩ | ⟨rfl, rfl⟩ <;> simp [injectSet, h, hk, injectBegin]

/-! ### Paddock marks (R319) -/

section
variable {i : Nat} {q : List Word}

theorem markSet_no_paddock (h : u.pad? i = none) : markSet i q u = (.err St.RANGE 1, u) := by
  simp [markSet, h]

theorem markSet_eq {pad : Paddock} {n : Word} (h : u.pad? i = some pad)
    (hn : n = if wAt q 1 = 0xFFFFFFFF then pad.newest else wAt q 1) :
    markSet i q u = match pad.slotOf n with
      | some _ => (.ok [n], u.setPad i { pad with marks := SMap.put pad.marks none (bits (wAt q 0) 1 0) (some ⟨n, false⟩) })
      | none => (.err St.RANGE 1, u) := by
  subst hn
  simp only [markSet, h]
  split <;> rename_i hs <;> rw [hs]

theorem markClear_eq {pad : Paddock} (h : u.pad? i = some pad) : markClear i q u = (.ok [], u.setPad i { pad with
    marks := (if wAt q 0 = 0xFF then [] else SMap.put pad.marks none (bits (wAt q 0) 1 0) none) }) := by
  simp [markClear, h]

theorem markClear_no_paddock (h : u.pad? i = none) : markClear i q u = (.ok [], u) := by
  simp [markClear, h]

end
end

/-- A command row that answers at once or waits for its work, as its effect decides. -/
theorem exec_decides {c : Instr} {op : Nat} {p : Packet} {s u v w : State} {r : Res} {k : WaitKey} {b : Prop} [Decidable b]
    (h : Runs op p s u) (hc : exec c s = .next (takeCmd op p s))
    (ha : act (cmdOf op p) u = if b then (.now r, v) else (.wait k, w)) (hn : ∀ ok t, afterwards (cmdOf op p) ok t = t) :
    exec c s = .next (if b then finish (cmdOf op p) r v else pushSlot (cmdOf op p) (some k) none w) := by
  by_cases hb : b
  · rw [if_pos hb] at ha ⊢; exact exec_answers h hc ha hn
  · rw [if_neg hb] at ha ⊢; exact exec_waits h hc ha hn

/-- A KIND row's packet carries the packet's later words. -/
theorem kindPacket_later (p : Packet) (hi lo k : Nat) (hp : p.params ≠ []) :
    wAt (kindPacket p hi lo k).params 1 = wAt p.params 1 := by
  unfold kindPacket
  cases h : p.params with
  | nil => exact absurd h hp
  | cons w ws => rfl

end Sys2Proof.Machine

/-- Settles O9. -/
theorem workCommandsStartTheirWork : Obligations.WorkCommandsStartTheirWork := by
  unfold Obligations.WorkCommandsStartTheirWork
  refine ⟨fun p s u => ⟨?_, ?_, ?_, ?_, ?_, ?_, ?_, ?_, ?_, ?_, ?_, ?_, ?_, ?_, ?_, ?_, ?_, ?_, ?_⟩,
    fun p s u => ⟨?_, ?_, ?_, ?_, ?_, ?_, ?_, ?_, ?_, ?_, ?_, ?_⟩⟩
  · exact fun h hu hd => exec_waits h rfl (cmdDiscover_starts hu hd) fun _ _ => rfl
  · exact fun h hu hd => exec_answers h rfl (cmdDiscover_running hu hd) fun _ _ => rfl
  · exact fun h hu => exec_answers h rfl (cmdDiscover_down hu) fun _ _ => rfl
  · exact fun h hu hc => exec_waits h rfl (cmdTriggerCal_starts hu hc) fun _ _ => rfl
  · exact fun c h hu hc => exec_decides h rfl (cmdTriggerCal_running hu hc) fun _ _ => rfl
  · exact fun h hu => exec_answers h rfl (cmdTriggerCal_down hu) fun _ _ => rfl
  · exact fun l h hl hu hk hc ha =>
      exec_waits h rfl ((act_cameraAuth hl).trans (cmdCameraAuth_starts hu hk hc ha)) fun _ _ => rfl
  · exact fun l a h hl hu hk hc ha =>
      exec_decides h rfl ((act_cameraAuth hl).trans (cmdCameraAuth_running hu hk hc ha)) fun _ _ => rfl
  · exact fun l h hl hn => exec_answers h rfl ((act_cameraAuth hl).trans (cmdCameraAuth_unasked hn)) fun _ _ => rfl
  · exact fun h => exec_waits h rfl rfl fun _ _ => rfl
  · exact fun h hd => exec_waits h rfl (act_dmaAbort_waits (dmaAbort_running hd)) fun _ _ => rfl
  · exact fun h hd => exec_waits h rfl (act_dmaAbort_waits (dmaAbort_aborting hd)) fun _ _ => rfl
  · rintro h (hd | hd) <;> refine ⟨_, _, _, rfl, rfl, rfl, ?_⟩
    · have hq : u.dmaState (uIndex p.unit) ≠ Ds.QUEUED := by rw [hd]; decide
      simp only [hq, false_and, if_false]
      exact exec_answers h rfl (act_dmaAbort_done (dmaAbort_parked hd)) fun _ _ => rfl
    · simp only [hd, true_and, if_true]
      exact exec_answers h rfl (act_dmaAbort_done (dmaAbort_queued hd)) fun _ _ => rfl
  · exact fun h hd => exec_answers h rfl (act_dmaAbort_done (dmaAbort_idle hd)) fun _ _ => rfl
  · exact fun k h hk hf => exec_answers h rfl ((act_twXfer hk).trans (twXfer_full hf)) fun _ _ => rfl
  · exact fun k h hk hr => exec_decides h rfl ((act_twXfer hk).trans (twXfer_room hr)) fun _ _ => rfl
  · exact fun h he hl => ⟨_, rfl, exec_waits h rfl (eyeScan_starts he hl) fun _ _ => rfl⟩
  · exact fun h he => exec_answers h rfl (eyeScan_refused he) fun _ _ => rfl
  · intro k hk h
    have hc : exec (if k = 0 then .memtestMarch p else .memtestRead p) s
        = .next (takeCmd 0xE05 (kindPacket p 0 0 k) s) := by
      rcases hk with rfl | rfl <;> rfl
    have ha := memRun_eq p.unit (kindPacket p 0 0 k).params u
    by_cases hm : u.test.mem ≠ none
    · rw [if_pos hm] at ha
      exact (exec_answers h hc ha fun _ _ => rfl).trans (congrArg Host.Outcome.next (if_pos hm).symm)
    · rw [if_neg hm] at ha
      exact (exec_decides h hc ha fun _ _ => rfl).trans (congrArg Host.Outcome.next (if_neg hm).symm)
  · intro pad n h hp hn
    have ha : act (cmdOf 0x703 p) u = _ := markSet_eq hp hn
    cases hs : pad.slotOf n with
    | none => rw [hs] at ha; exact exec_answers h rfl ha fun _ _ => rfl
    | some k => rw [hs] at ha; exact exec_answers h rfl ha fun _ _ => rfl
  · exact fun pad h hp => exec_answers h rfl (markClear_eq hp) fun _ _ => rfl
  · exact fun h hp => exec_answers h rfl (markSet_no_paddock hp) fun _ _ => rfl
  · exact fun h hp => exec_answers h rfl (markClear_no_paddock hp) fun _ _ => rfl
  · exact fun h => ⟨_, rfl, exec_answers h rfl rfl fun _ _ => rfl⟩
  · exact fun h => ⟨_, rfl, exec_answers h rfl rfl fun _ _ => rfl⟩
  · have hk : bits (wAt (kindPacket p 1 0 0).params 0) 1 0 = 0 := kindPacket_bits_zero p 1 0 (by omega) (by omega)
    refine fun h => ⟨_, rfl, exec_answers h rfl ?_ fun _ _ => rfl⟩
    exact (congrArg (loopbackSet _ · u) hk).trans (loopbackSet_able (.inl rfl))
  · intro k hk hq h h1 h2 h3 h4
    have hb := kindPacket_bits p 1 0 k (by omega) (by omega) hq
    refine ⟨_, rfl, exec_answers h ?_ ((congrArg (loopbackSet _ · u) (hb.trans (Nat.mod_eq_of_lt (by omega)))).trans
      (loopbackSet_able (.inr ⟨h1, h2, h3, h4⟩))) fun _ _ => rfl⟩
    rcases hk with rfl | rfl <;> rfl
  · intro k hk hq h hno
    have hb := kindPacket_bits p 1 0 k (by omega) (by omega) hq
    refine exec_answers h ?_ ((congrArg (loopbackSet _ · u) (hb.trans (Nat.mod_eq_of_lt (by omega)))).trans
      (loopbackSet_refused (by omega) hno)) fun _ _ => rfl
    rcases hk with rfl | rfl <;> rfl
  · have hk : bits (wAt (kindPacket p 1 0 0).params 0) 1 0 = 0 := kindPacket_bits_zero p 1 0 (by omega) (by omega)
    exact fun h hw => ⟨_, rfl, exec_answers h rfl (injectSet_stop hw hk) fun _ _ => rfl⟩
  · intro k left hl hq h hw
    have hb := (kindPacket_bits p 1 0 k (by omega) (by omega) hq).trans (Nat.mod_eq_of_lt (by omega))
    rw [← kindPacket_later p 1 0 k hq] at hl
    refine ⟨_, _, rfl, rfl, exec_answers h ?_ (injectSet_starts hw hb hl) fun _ _ => rfl⟩
    rcases hl with ⟨rfl, -⟩ | ⟨rfl, -⟩ | ⟨rfl, -⟩ <;> rfl
  · intro k hk h hw
    refine exec_answers h ?_ (injectSet_witnessed hw) fun _ _ => rfl
    obtain rfl | rfl | rfl | rfl : k = 0 ∨ k = 1 ∨ k = 2 ∨ k = 3 := by omega
    all_goals rfl
end

section
/-! PROOF. Credentials, keys, debug scopes, firmware and configuration images (R473–R479, R484, R485). -/

open Sys2Proof Sys2Proof.Machine

namespace Sys2Proof.Machine

/-- A bit is a field of one bit. -/
theorem bit_eq_bits (w : Word) (i : Nat) : bit w i = (bits w i i == 1) := by
  simp [bit, bits, Fld.get, Fld.width]

section
variable {u : State} {src : Source} {q : List Word}

/-! ### Credentials (R474) -/

theorem randomWords_nonces (n : Nat) (s : State) : (randomWords n s).2.sec.nonces = s.sec.nonces := by
  induction n generalizing s with
  | zero => rfl
  | succ n ih => exact ih _

/-- A draw leaves the nonces. -/
theorem State.drawWords_nonces (n : Nat) (s : State) : (s.drawWords n).2.sec.nonces = s.sec.nonces := by
  unfold State.drawWords
  split
  next ws t h =>
  have ht : t.sec.nonces = s.sec.nonces := by rw [← randomWords_nonces n s, h]
  dsimp only
  split
  · exact ht
  · exact ht

/-- What CRED_OPEN step B answers: an OK comes with a handle of the source, and its nonce is used up. -/
def CredOutcome (src : Source) (x : Done × State) : Prop :=
  ∃ r t, x = (.now r, t) ∧ (r.status = St.OK →
    ∃ h, h ≠ 0 ∧ (∃ k ∈ t.sec.creds, k.handle = h ∧ k.src = src) ∧ (∀ e ∈ t.sec.nonces, e.1 ≠ src))

theorem credOutcome_refuse {st d : Nat} (h : st ≠ St.OK) : CredOutcome src (credRefuse st d u) :=
  ⟨_, _, rfl, fun h' => absurd h' h⟩

/-- The credential that step B grants, its nonce being used up. -/
def credGrant (src : Source) (slot : Nat) (owner : Bool) (life : Nat) (s : State) : Done × State :=
  let (ws, s) := s.drawWords 1
  let h := if wAt ws 0 = 0 then 1 else wAt ws 0
  let k : Cred := ⟨h, src, owner, s.rtcNow + life * 32768, slot, true⟩
  (.ok [h, if owner then 2 else 1, w32 life], { s with sec := { s.sec with creds := s.sec.creds ++ [k] } })

theorem credOutcome_grant {slot life : Nat} {owner : Bool} (hu : ∀ e ∈ u.sec.nonces, e.1 ≠ src) :
    CredOutcome src (credGrant src slot owner life u) := by
  have hh (w : Word) : (if w = 0 then 1 else w) ≠ 0 := by split; decide; assumption
  refine ⟨_, _, rfl, fun _ => ⟨_, hh _, ⟨_, List.mem_append_right _ (List.mem_singleton_self _), rfl, rfl⟩, ?_⟩⟩
  exact (State.drawWords_nonces 1 u).symm ▸ hu

theorem credOpenB_outcome : CredOutcome src (credOpenB src q u) := by
  unfold credOpenB
  dsimp only
  split
  · exact credOutcome_refuse (by decide)
  split
  · exact credOutcome_refuse (by decide)
  split
  · exact credOutcome_refuse (by decide)
  split
  · exact credOutcome_refuse (by decide)
  split
  · exact credOutcome_refuse (by decide)
  · refine credOutcome_grant fun e he => ?_
    simpa using (List.mem_filter.mp he).2

/-! ### Keys, images -/

theorem keyRevoke_refused (h : revoked q u = none) : keyRevoke q u = (.err St.RANGE 0, u) := by
  simp only [keyRevoke, h]

/-- The state a revocation leaves, whose OTP is `o`. -/
def revokedState (k : Nat) (q : List Word) (o : Otp) (u : State) : State :=
  let key := if k = 0 then (wAt q 1).toNat else 0
  if k = 2 then { u with sec := { u.sec with otp := o } } else
    closeCreds key { u with sec := { u.sec with otp := o, cache := u.sec.cache.filter (fun e => e.key ≠ key) } }

theorem keyRevoke_done {k : Nat} {o : Otp} (hk : bits (wAt q 0) 1 0 = k) (h : revoked q u = some o) :
    keyRevoke q u = (.ok [(revokedState k q o u).secKeys, (revokedState k q o u).secSvn], revokedState k q o u) := by
  subst hk
  simp only [keyRevoke, h]
  rfl

theorem debugUnlock_disabled (h : u.sec.otp.debugDisable = true) : debugUnlock q u = (.err St.AUTH 4, u) := by
  simp only [debugUnlock, h, if_true]

theorem debugUnlock_opens (h : u.sec.otp.debugDisable = false) :
    let t := ({ u with sec := { u.sec with
      debugScopes := u.sec.debugScopes ||| BitVec.ofNat 3 (bits (wAt q 0) 2 0) } }).raise Ev.DEBUG_UNLOCKED 0 0
    debugUnlock q u = (.ok [t.secStatus], t) := by
  simp only [debugUnlock, h]
  rfl

theorem fwLoad_busy (h : u.sec.flashJobs.any (fun j => j.kind = 2) = true) : fwLoad q u = (.err St.BUSY 3, u) := by
  simp only [fwLoad, h, if_true]

theorem fwLoad_refused {i : Img} {c : Nat} {v : State} (h : u.sec.flashJobs.any (fun j => j.kind = 2) = false)
    (hv : verifyImg [1] false (.heap (wAt q 0).toNat (wAt q 1).toNat) u = (i, some c, v)) :
    fwLoad q u = (.err St.CHECK 9, v) := by
  simp only [fwLoad, h, hv, Bool.false_eq_true, if_false]

theorem fwLoad_starts {i : Img} {v : State} (h : u.sec.flashJobs.any (fun j => j.kind = 2) = false)
    (hv : verifyImg [1] false (.heap (wAt q 0).toNat (wAt q 1).toNat) u = (i, none, v)) (hd : v.dstate = .standalone) :
    fwLoad q u = (.ok [], v) := by
  simp only [fwLoad, h, hv, hd, Bool.false_eq_true, if_false, if_true]

theorem fwLoad_writes {i : Img} {v : State} (h : u.sec.flashJobs.any (fun j => j.kind = 2) = false)
    (hv : verifyImg [1] false (.heap (wAt q 0).toNat (wAt q 1).toNat) u = (i, none, v)) (hd : v.dstate ≠ .standalone) :
    fwLoad q u = (.wait .flashFw, { v with sec := { v.sec with flashJobs := v.sec.flashJobs
      ++ [⟨⟨1, v.otherSlot 1 (match v.sec.fw with | some (_, _, _, d) => d | none => 0), i.whole⟩, false, 2,
        i.payload.length⟩] } }) := by
  simp only [fwLoad, h, hv, hd, Bool.false_eq_true, if_false] <;> rfl

theorem configSave_forbidden (h : u.sec.otp.allowDevsig = false) : configSave u = (.err St.AUTH 4, u) := by
  simp only [configSave, h]
  rfl

theorem configSave_busy {d : BitVec 384} (h : u.sec.otp.allowDevsig = true) (hs : configSave.verifySlot0 u = some d)
    (hb : u.sec.flashJobs.any (fun j => j.kind = 1) = true) : configSave u = (.err St.BUSY 3, u) := by
  simp only [configSave, h, hs, hb]
  rfl

theorem configSave_absent (h : u.sec.otp.allowDevsig = true) (hs : configSave.verifySlot0 u = none) :
    configSave u = (.err St.ABSENT 0, u) := by
  simp only [configSave, h, hs]
  rfl

theorem configSave_writes {d : BitVec 384} (h : u.sec.otp.allowDevsig = true) (hs : configSave.verifySlot0 u = some d)
    (hb : u.sec.flashJobs.any (fun j => j.kind = 1) = false) : configSave u = (.wait .flashSave, (configSave u).2) := by
  simp only [configSave, h, hs, hb]
  rfl

theorem credOpenA_dry (h : u.sec.trngOk = false) : credOpenA src u = (.err St.FAULT 4, u) := by
  simp only [credOpenA, h]
  rfl

theorem credOpenA_nonce {ws : List Word} {t : State} (h : u.sec.trngOk = true) (hd : u.drawWords 8 = (ws, t)) :
    credOpenA src u = (.ok ws, { t with sec := { t.sec with
      nonces := t.sec.nonces.filter (fun e => e.1 ≠ src) ++ [(src, ws, t.rtcNow + 10 * 32768)] } }) := by
  simp only [credOpenA, h, hd]
  rfl

theorem act_credOpen_stepA {p : Packet} (h : bits (wAt p.params 0) 0 0 = 0) :
    act (cmdOf 0xC00 p) u = credOpenA p.src u := by
  have hb : bit (wAt p.params 0) 0 = false := (bit_eq_bits _ 0).trans (by rw [h]; rfl)
  change (if bit (wAt p.params 0) 0 = true then credOpenB p.src p.params u else credOpenA p.src u) = _
  rw [hb, if_neg Bool.false_ne_true]

theorem act_credOpen_stepB {p : Packet} (h : bits (wAt p.params 0) 0 0 = 1) :
    act (cmdOf 0xC00 p) u = credOpenB p.src p.params u := by
  have hb : bit (wAt p.params 0) 0 = true := (bit_eq_bits _ 0).trans (by rw [h]; rfl)
  change (if bit (wAt p.params 0) 0 = true then credOpenB p.src p.params u else credOpenA p.src u) = _
  rw [hb, if_pos rfl]

end
end Sys2Proof.Machine

/-- Settles O10. -/
theorem securityCommandsAct : Obligations.SecurityCommandsAct := by
  unfold Obligations.SecurityCommandsAct
  intro p s u
  have kind0 : bits (wAt (kindPacket p 0 0 0).params 0) 0 0 = 0 := kindPacket_bits_zero p 0 0 (by omega) (by omega)
  have revoke (k : Nat) (hk : k < 3) : exec (if k = 0 then .keyRevokeOwner p else if k = 1 then .keyRevokeVendor p
      else .keyRevokeSvn p) s = .next (takeCmd 0xC04 (kindPacket p 1 0 k) s) := by
    obtain rfl | rfl | rfl : k = 0 ∨ k = 1 ∨ k = 2 := by omega
    all_goals rfl
  refine ⟨?_, ?_, ?_, ?_, ?_, ?_, ?_, ?_, ?_, ?_, ?_, ?_, ?_⟩
  · exact fun ws t h ht hd => exec_answers h rfl ((act_credOpen_stepA kind0).trans (credOpenA_nonce ht hd)) fun _ _ => rfl
  · exact fun h ht => exec_answers h rfl ((act_credOpen_stepA kind0).trans (credOpenA_dry ht)) fun _ _ => rfl
  · intro hq h
    have hk : bits (wAt (kindPacket p 0 0 1).params 0) 0 0 = 1 := kindPacket_bits p 0 0 1 (by omega) (by omega) hq
    obtain ⟨r, t, ht, hr⟩ := credOpenB_outcome (src := p.src) (q := (kindPacket p 0 0 1).params) (u := u)
    exact ⟨r, t, ht, hr, exec_answers h rfl ((act_credOpen_stepB hk).trans ht) fun _ _ => rfl⟩
  · exact fun h => exec_answers h rfl rfl fun _ _ => rfl
  · intro k o hk hq h ho
    have hb := (kindPacket_bits p 1 0 k (by omega) (by omega) hq).trans (Nat.mod_eq_of_lt (by omega))
    exact ⟨_, _, rfl, rfl, exec_answers h (revoke k hk) (keyRevoke_done hb ho) fun _ _ => rfl⟩
  · exact fun k hk hq h ho => exec_answers h (revoke k hk) (keyRevoke_refused ho) fun _ _ => rfl
  · exact fun h hd => exec_answers h rfl (debugUnlock_disabled hd) fun _ _ => rfl
  · exact fun h hd => ⟨_, rfl, exec_answers h rfl (debugUnlock_opens hd) fun _ _ => rfl⟩
  · intro i f v h hj hv
    cases f with
    | some c => exact congrArg Host.Outcome.next (takeCmd_answers h (fwLoad_refused hj hv))
    | none =>
      by_cases hd : v.dstate = .standalone
      · exact congrArg Host.Outcome.next ((takeCmd_answers h (fwLoad_starts hj hv hd)).trans (if_pos hd).symm)
      · exact congrArg Host.Outcome.next ((takeCmd_waits h (fwLoad_writes hj hv hd)).trans (if_neg hd).symm)
  · exact fun h hj => congrArg Host.Outcome.next (takeCmd_answers h (fwLoad_busy hj))
  · exact fun h ha => exec_answers h rfl (configSave_forbidden ha) fun _ _ => rfl
  · exact fun d h ha hs hb => exec_answers h rfl (configSave_busy ha hs hb) fun _ _ => rfl
  · intro h ha hb
    cases hs : configSave.verifySlot0 u with
    | none => exact exec_answers h rfl (configSave_absent ha hs) fun _ _ => rfl
    | some d => exact exec_waits h rfl (configSave_writes ha hs hb) fun _ _ => rfl
end

section
/-! PROOF. Staged commands join their set (R51, R53, R57, R102, R267, R483); commands that fail a check only answer
(R83). -/

open Sys2Proof Sys2Proof.Machine

namespace Sys2Proof.Machine

section
variable {c : Instr} {op : Nat} {p : Packet} {s u v : State}

/-- A row that may carry STAGE takes its packet; its opcode is none of CONFIG_LOAD. -/
theorem exec_stagedRow (h : stagedRow c = some (op, p)) (s : State) :
    exec c s = .next (takeCmd op p s) ∧ op < 0x10000 ∧ op ≠ 0x00D := by
  unfold stagedRow at h
  split at h <;> cases h <;> exact ⟨rfl, by decide, by decide⟩

/-! ### The entry and its acceptance -/

theorem cmdOf_opcode (h : op < 0x10000) (p : Packet) : (cmdOf op p).opcode.toNat = op :=
  Nat.mod_eq_of_lt h

/-- What a staged command other than CONFIG_LOAD makes of itself. -/
def heldOf (op : Nat) (p : Packet) (u : State) : Held :=
  ⟨p.applyTick, ⟨p.tag, p.unit, if op = 9 then .regs ((regAddrs p.params).zip (p.params.drop 1))
    else .cmd (BitVec.ofNat 16 op) p.unit (entryParams op p.params u), false⟩, [], fansOut op p.unit⟩

theorem entryOf_cmdOf (hl : op < 0x10000) (hd : op ≠ 0x00D) : entryOf (cmdOf op p) u = (.ok (heldOf op p u), u) := by
  have ho := cmdOf_opcode hl p
  unfold entryOf
  dsimp only
  split
  next h9 =>
    obtain rfl : op = 9 := ho.symm.trans h9
    rw [heldOf, show fansOut 9 p.unit = false from Bool.and_false _]
    rfl
  next hD => exact absurd (ho.symm.trans hD) hd
  next n hn9 hnD =>
    have h9 : op ≠ 9 := fun h => hn9 (ho.trans h)
    rw [ho, heldOf, if_neg h9]
    rfl

theorem accept_plain {h : Held} (hm : h.entry.meshSlot = none) : accept h u =
    ({ joinRes (u.joinOf h.tick) with payload := h.payload, fanout := h.fanout }, none,
      addEntry (u.joinOf h.tick) h.entry u) := by
  simp only [accept, hm]

theorem heldOf_meshSlot (hl : op < 0x10000) (hm : op ≠ 0x400) : (heldOf op p u).entry.meshSlot = none := by
  by_cases h9 : op = 9
  · simp [heldOf, Entry.meshSlot, h9]
  · have hne : BitVec.ofNat 16 op ≠ 0x400 := fun h => hm (by simpa [Nat.mod_eq_of_lt hl] using congrArg BitVec.toNat h)
    simp only [heldOf, Entry.meshSlot, if_neg h9, if_neg hne]

/-- Its fan-out word aside, an entry joins as it is. -/
theorem fanPayload_heldOf : fanPayload (cmdOf op p) [] (heldOf op p u) u = { heldOf op p u with
    payload := if fansOut op p.unit then [fanWord (reach (planYards u []) yardFuel [p.unit]) none] else [] } := by
  unfold fanPayload
  cases hf : fansOut op p.unit <;> simp only [heldOf, hf] <;> rfl

/-- The answer of an accepted command: a reply with its payload and fan-out word. -/
theorem takeCmd_joins (hs : Stages op p s u) (hl : op < 0x10000) (hd : op ≠ 0x00D) (hm : op ≠ 0x400) :
    takeCmd op p s = finish (cmdOf op p)
        { joinRes (u.joinOf p.applyTick) with
          payload := if fansOut op p.unit then [fanWord (reach (planYards u []) yardFuel [p.unit]) none] else []
          fanout := fansOut op p.unit }
        (addEntry (u.joinOf p.applyTick) (heldOf op p u).entry u) := by
  rw [takeCmd_stages hs (entryOf_cmdOf hl hd) hs.2.2.2, fanPayload_heldOf, accept_plain (by exact heldOf_meshSlot hl hm)]
  rfl

/-- A MESH_LOAD's reply waits for its copy. -/
theorem takeCmd_meshLoad (hs : Stages 0x400 p s u) :
    let r := joinRes (u.joinOf p.applyTick)
    let t := addEntry (u.joinOf p.applyTick) ⟨p.tag, p.unit, .cmd 0x400 p.unit p.params, false⟩ u
    takeCmd 0x400 p s = pushSlot (cmdOf 0x400 p) (some (.meshLoad (bits (wAt p.params 0) 5 0))) none
      (meshLoadStart p.params (some (r.status, r.tick.getD t.tickLo)) t) := by
  have hf : fansOut 0x400 p.unit = false := Bool.and_false _
  rw [takeCmd_stages hs (entryOf_cmdOf (by decide) (by decide)) hs.2.2.2, fanPayload_heldOf, hf]
  rfl

/-! ### What is received and fails -/

theorem receive_no_entry {st d : Nat} (hst : p.stage = true) (hk : checkCmd (cmdOf op p) none u = none)
    (he : entryOf (cmdOf op p) u = (.error (st, d), v)) : receive (cmdOf op p) none u = (.fail (Res.err st d), v) := by
  have hst' : (cmdOf op p).pkt.stage = true := hst
  unfold receive
  simp only [hk, hst', Bool.not_true, Bool.false_eq_true, if_false, he]

theorem receive_limited {st d : Nat} {h : Held} (hst : p.stage = true) (hk : checkCmd (cmdOf op p) none u = none)
    (he : entryOf (cmdOf op p) u = (.ok h, v)) (hl : limitChk (cmdOf op p) none v = some (st, d)) :
    receive (cmdOf op p) none u = (.fail (fanned (cmdOf op p) [] v (Res.err st d)), v) := by
  have hst' : (cmdOf op p).pkt.stage = true := hst
  unfold receive
  simp only [hk, hst', Bool.not_true, Bool.false_eq_true, if_false, he, hl]

theorem takeCmd_refused {r : Res} (ht : Taken p s u) (hr : receive (cmdOf op p) none u = (.fail r, v)) :
    takeCmd op p s = finish (cmdOf op p) r v := by
  have hc : u.chainOf p.src = none := by rw [ht.2.2.2.2.2.2, onSource_chainOf]; exact ht.2.2.2.1
  rw [takeCmd_taken ht, takeOne_alone (c := cmdOf op p) hc ht.2.2.2.2.1, hr]

theorem fanned_of_not_fansOut {c : Cmd} {held : List Held} {r : Res} (h : fansOut c.opcode.toNat c.pkt.unit = false) :
    fanned c held u r = r := by
  simp [fanned, h]

/-- An opcode that Table CM-9 does not list fans nothing out. -/
theorem fansOut_unlisted (h : opInfo op = none) (n : BitVec 16) : fansOut op n = false := by
  unfold fansOut
  cases hl : [0x300, 0x301, 0x302, 0x305, 0x307].contains op with
  | false => rw [Bool.and_false]
  | true =>
    have hl : op = 0x300 ∨ op = 0x301 ∨ op = 0x302 ∨ op = 0x305 ∨ op = 0x307 := by simpa using hl
    rcases hl with rfl | rfl | rfl | rfl | rfl <;> cases h

theorem checkCmd_unlisted {c : Cmd} (h : opInfo c.opcode.toNat = none) (hl : c.pkt.params.length ≤ 60) :
    checkCmd c none u = some (Res.err St.UNKNOWN 1) := by
  have hh : headChk c none u = some (St.UNKNOWN, 1) := by
    have hlim : ∀ n, 60 ≤ n → firstOf [need (decide (c.pkt.params.length ≤ n)) St.RANGE 0xFF02, some (St.UNKNOWN, 1)]
        = some (St.UNKNOWN, 1) := fun n hn => by simp [firstOf, need, show c.pkt.params.length ≤ n by omega]
    simp only [headChk, h]
    split <;> exact hlim _ (by omega)
  simp only [checkCmd, hh, fanned_of_not_fansOut (fansOut_unlisted h _)]

/-! ### CONFIG_LOAD (R483) -/

/-- What a CONFIG_LOAD makes of its image. -/
def heldImage (p : Packet) (i : StagedImage) : Held :=
  ⟨p.applyTick, ⟨p.tag, p.unit, .image i, false⟩, [w32 i.type, i.imageVer], false⟩

/-- The entry of a CONFIG_LOAD from what its image verifies to. -/
def imageEntry (p : Packet) : Option (Nat × Nat) × Option StagedImage × State → Except (Nat × Nat) Held × State
  | (some e, _, s) => (.error e, s)
  | (none, some i, s) => (.ok (heldImage p i), s)
  | (none, none, s) => (.error (St.CHECK, 9), s)

theorem entryOf_configLoad : entryOf (cmdOf 0x00D p) u = imageEntry p (loadImage p.params u) := by
  rcases h : loadImage p.params u with ⟨_ | e, _ | i, w⟩ <;>
    simp only [entryOf, cmdOf, BitVec.toNat_ofNat, Nat.reducePow, Nat.reduceMod, h] <;> rfl

theorem takeCmd_configLoad {i : StagedImage} (hs : Stages 0x00D p s u) (h : loadImage p.params u = (none, some i, v))
    (hl : limitChk (cmdOf 0x00D p) none v = none) :
    takeCmd 0x00D p s = finish (cmdOf 0x00D p) { joinRes (v.joinOf p.applyTick) with payload := [w32 i.type, i.imageVer] }
      (addEntry (v.joinOf p.applyTick) ⟨p.tag, p.unit, .image i, false⟩ v) := by
  have hf : fanPayload (cmdOf 0x00D p) [] (heldImage p i) v = heldImage p i := rfl
  have hr : { joinRes (v.joinOf p.applyTick) with payload := [w32 i.type, i.imageVer], fanout := false }
      = { joinRes (v.joinOf p.applyTick) with payload := [w32 i.type, i.imageVer] } := by
    cases v.joinOf p.applyTick <;> rfl
  rw [takeCmd_stages hs (entryOf_configLoad.trans (by rw [h]; rfl)) hl, hf, accept_plain rfl, ← hr]
  rfl

end

end Sys2Proof.Machine

/-- Settles O11. -/
theorem stagedCommandsJoinTheirSet : Obligations.StagedCommandsJoinTheirSet := by
  unfold Obligations.StagedCommandsJoinTheirSet
  refine ⟨⟨fun c op p s u hrow hm hs => ?_, fun p s u hs => ?_⟩, fun p s u v bad img hs hi => ?_⟩
  · obtain ⟨hc, hl, hd⟩ := exec_stagedRow hrow s
    rw [hc, takeCmd_joins hs hl hd hm]
    rfl
  · exact ⟨_, _, rfl, rfl, congrArg Host.Outcome.next (takeCmd_meshLoad hs)⟩
  · have hst : p.stage = true := hs.2.1
    have hk : checkCmd (cmdOf 0x00D p) none u = none := hs.2.2.1
    match bad, img with
    | some (st, d), _ =>
      exact congrArg Host.Outcome.next (takeCmd_refused hs.1 (receive_no_entry hst hk (entryOf_configLoad.trans (by rw [hi]; rfl))))
    | none, none =>
      exact congrArg Host.Outcome.next (takeCmd_refused hs.1 (receive_no_entry hst hk (entryOf_configLoad.trans (by rw [hi]; rfl))))
    | none, some i =>
      dsimp only
      cases hl : limitChk (cmdOf 0x00D p) none v with
      | none => exact congrArg Host.Outcome.next (takeCmd_configLoad hs hi hl)
      | some e =>
        have hf : fansOut (cmdOf 0x00D p).opcode.toNat (cmdOf 0x00D p).pkt.unit = false := Bool.and_false _
        have hr := receive_limited hst hk (entryOf_configLoad.trans (by rw [hi]; rfl)) hl
        rw [fanned_of_not_fansOut hf] at hr
        exact congrArg Host.Outcome.next (takeCmd_refused hs.1 hr)

/-- Settles O12. -/
theorem failedChecksOnlyAnswer : Obligations.FailedChecksOnlyAnswer := by
  unfold Obligations.FailedChecksOnlyAnswer
  have fails (opcode : BitVec 16) (p : Packet) (s u : State) (r : Res) (ht : Taken p s u)
      (hk : checkCmd ⟨opcode, p⟩ none u = some r) :
      takeCmd opcode.toNat p s = finish ⟨opcode, p⟩ r (if r.status = St.DARK then darkAccess r.detail u else u) := by
    have hc : cmdOf opcode.toNat p = ⟨opcode, p⟩ := by simp [cmdOf]
    rw [← hc] at hk ⊢
    exact takeCmd_fails ht hk
  refine ⟨fun opcode p s u ht hn hl => ?_, fails, fun c op p s u st d hrow ht hst hk hl => ?_⟩
  · exact congrArg Host.Outcome.next (fails opcode p s u _ ht (checkCmd_unlisted hn hl))
  · obtain ⟨hc, hlt, hd⟩ := exec_stagedRow hrow s
    rw [hc, takeCmd_refused ht (receive_limited hst hk (entryOf_cmdOf hlt hd) hl)]
end

section
/-! PROOF. Host writes of registers through BAR0 (R41, R52, R54, R362, R366, R369, R372). -/

open Sys2Proof Sys2Proof.Machine

namespace Sys2Proof.Machine

section
variable {off size : Nat} {lo hi : Word} {s : State}

/-- The words of a BAR0 write with their registers. -/
def bar0Words (off size : Nat) (lo hi : Word) : List (Nat × Word) :=
  (off, lo) :: (if size = 8 then [(off + 4, hi)] else [])

/-- A whole aligned write lies in one page. -/
theorem bar0Words_page (ha : off % size = 0) : ∀ e ∈ bar0Words off size lo hi, e.1 / 0x10000 = off / 0x10000 := by
  intro e he
  by_cases h8 : size = 8
  · subst h8
    simp only [bar0Words, if_true, List.mem_cons, List.not_mem_nil, or_false] at he
    rcases he with rfl | rfl
    · rfl
    · show (off + 4) / 0x10000 = off / 0x10000
      omega
  · simp only [bar0Words, if_neg h8, List.mem_singleton] at he
    rw [he]

theorem bar0Write_unaligned {full : Bool} (hb : s.bridgeOpen = true)
    (h : full = true → ¬ ((size = 4 ∨ size = 8) ∧ off % size = 0)) :
    bar0Write off size full lo hi s = pwFail 0 off 0 size Pw.SIZE s := by
  have hbad : (!full || !(size == 4 || size == 8) || off % size != 0) = true := by
    cases full
    · rfl
    · have := h rfl
      by_cases hs : size = 4 ∨ size = 8
      · have ha : off % size ≠ 0 := fun ha => this ⟨hs, ha⟩
        simp [ha]
      · simp [not_or.mp hs]
  simp only [bar0Write, hb, hbad, Bool.not_true, Bool.false_eq_true, if_false, if_true]

section
variable (hb : s.bridgeOpen = true) (hs : size = 4 ∨ size = 8) (ha : off % size = 0)
include hb hs ha

theorem bar0Write_whole : bar0Write off size true lo hi s =
    if !pageAssigned (off / 0x10000) then pwFail 0 off 0 size Pw.UNMAPPED s
    else if fusedReg s.part.ab off then s
    else if s.darkReg off then pwFail 0 off 0 size Pw.DARK (darkAccess (off / 0x10000) s)
    else if (writeWords (bar0Words off size lo hi) s).1 then (writeWords (bar0Words off size lo hi) s).2.2
    else (pwFail 0 off 0 size Pw.STAGE_FULL (writeWords (bar0Words off size lo hi) s).2.2).raise Ev.STAGE_FULL 0 0 := by
  have hok : (false || !(size == 4 || size == 8) || off % size != 0) = false := by
    rcases hs with rfl | rfl <;> simp [ha]
  have hws : (if size = 8 then [(off, lo), (off + 4, hi)] else [(off, lo)]) = bar0Words off size lo hi := by
    rcases hs with rfl | rfl <;> rfl
  rcases h : writeWords (bar0Words off size lo hi) s with ⟨_ | _, r, t⟩ <;>
    simp only [bar0Write, hb, hok, hws, h, Bool.not_true, Bool.false_eq_true, if_false, if_true]

theorem bar0Write_unmapped (hp : pageAssigned (off / 0x10000) = false) :
    bar0Write off size true lo hi s = pwFail 0 off 0 size Pw.UNMAPPED s := by
  rw [bar0Write_whole hb hs ha, hp]; rfl

theorem bar0Write_fused (hp : pageAssigned (off / 0x10000) = true) (hf : fusedReg s.part.ab off = true) :
    bar0Write off size true lo hi s = s := by
  rw [bar0Write_whole hb hs ha, hp, hf]; rfl

theorem bar0Write_dark (hp : pageAssigned (off / 0x10000) = true) (hf : fusedReg s.part.ab off = false)
    (hd : s.darkReg off = true) :
    bar0Write off size true lo hi s = pwFail 0 off 0 size Pw.DARK (darkAccess (off / 0x10000) s) := by
  rw [bar0Write_whole hb hs ha, hp, hf, hd]; rfl

variable (hl : pageAssigned (off / 0x10000) = true ∧ fusedReg s.part.ab off = false ∧ s.darkReg off = false)
include hl

theorem bar0Write_lands {r : Option Res} {t : State} (hw : writeWords (bar0Words off size lo hi) s = (true, r, t)) :
    bar0Write off size true lo hi s = t := by
  obtain ⟨hp, hf, hd⟩ := hl
  simp only [bar0Write_whole hb hs ha, hp, hf, hd, hw, Bool.not_true, Bool.false_eq_true, if_false, if_true]

theorem bar0Write_full {r : Option Res} (hw : writeWords (bar0Words off size lo hi) s = (false, r, s)) :
    bar0Write off size true lo hi s = (pwFail 0 off 0 size Pw.STAGE_FULL s).raise Ev.STAGE_FULL 0 0 := by
  obtain ⟨hp, hf, hd⟩ := hl
  simp only [bar0Write_whole hb hs ha, hp, hf, hd, hw, Bool.not_true, Bool.false_eq_true, if_false]

end
end

end Sys2Proof.Machine

/-- Settles O24. -/
theorem registerWritesLandOrAreLogged : Obligations.RegisterWritesLandOrAreLogged := by
  unfold Obligations.RegisterWritesLandOrAreLogged
  intro off size lo hi s hoff hb c whole live ws st
  have hexec (full : Bool) : exec (c full) s = .next (bar0Write off size full lo hi s) := if_neg (by omega)
  have hst (h : st ≠ []) : ∃ e ∈ bar0Words off size lo hi, isST e.1 = true := by
    obtain ⟨e, he⟩ := List.exists_mem_of_ne_nil st h
    exact ⟨e, (List.mem_filter.mp he).1, (List.mem_filter.mp he).2⟩
  refine ⟨fun ⟨hs, ha⟩ hl h => ?_, fun ⟨hs, ha⟩ hl h hf => ?_, fun ⟨hs, ha⟩ hl h hf => ?_, fun h => ?_, ?_,
    fun ⟨hs, ha⟩ hp => ?_, fun ⟨hs, ha⟩ hp hf => ?_, fun ⟨hs, ha⟩ hp hf hd => ?_⟩
  · have hno : ∀ e ∈ bar0Words off size lo hi, isST e.1 = false := fun e he =>
      Bool.eq_false_iff.mpr (List.filter_eq_nil_iff.mp h e he)
    rw [hexec, bar0Write_lands hb hs ha hl (writeWords_direct hno)]
    rfl
  · refine ⟨_, _, rfl, rfl, ?_⟩
    rw [hexec, bar0Write_lands hb hs ha hl (writeWords_joins (bar0Words_page ha) (hst h) hf), stageRegs_room _ _ _ hf]
    rfl
  · rw [hexec, bar0Write_full hb hs ha hl (writeWords_full (hst h) hf)]
  · rw [hexec, bar0Write_unaligned hb fun _ => h]
  · rw [hexec, bar0Write_unaligned (full := false) hb fun h => Bool.noConfusion h]
  · rw [hexec, bar0Write_unmapped hb hs ha hp]
  · rw [hexec, bar0Write_fused hb hs ha hp hf]
  · rw [hexec, bar0Write_dark hb hs ha hp hf hd]
end

section
/-! PROOF. Registers whose direct write is an operation of its own (R91, R353, R378, R384, R405, R510). -/

open Sys2Proof Sys2Proof.Machine

namespace Sys2Proof.Machine

/-- A register of a domain that BAR0 writes at once: aligned, of an assigned page, without ST fields, in the map. -/
def directReg (a d : Nat) : Bool :=
  a % 4 == 0 && pageAssigned (a / 0x10000) && !isST a && domainOf a == d && (rowAt a).isSome

theorem directReg_bridge : (∀ n : Fin 4, directReg (R.CMD_Q_CTRL n) 0x2F = true)
    ∧ ∀ c : Fin 16, directReg (R.DMA_DOORBELL c) 0x2F = true ∧ directReg (R.DMA_ABORT c) 0x2F = true := by decide +kernel

theorem directReg_alarm : ∀ n : Fin 4, directReg (R.HEAD_ALARM n) 0x2D = true := by decide +kernel

theorem directReg_mdio : directReg R.ETH_MDIO_CMD 0x30 = true := by decide +kernel

theorem directReg_checker : ∀ x : Fin 48, directReg (R.TEST_PCHK x) (domainOf (R.TEST_PCHK x)) = true := by decide +kernel

section
variable {a d : Nat} {s : State}

theorem bar0One_direct (hb : s.bridgeOpen = true) (ha : directReg a d = true) (hf : fusedDomain s.part.ab d = false)
    (hd : s.dark d = false) (w : Word) : bar0One a w s = writeReg a w s := by
  simp only [directReg, Bool.and_eq_true, Bool.not_eq_true', beq_iff_eq] at ha
  obtain ⟨⟨⟨⟨h4, hp⟩, hst⟩, rfl⟩, -⟩ := ha
  exact bar0Write_lands (r := none) hb (.inl rfl) h4 ⟨hp, hf, hd⟩ (writeWords_direct (ws := [(a, w)]) (by simpa using hst))

theorem State.bridge_live (hb : s.bridgeOpen = true) : s.dark 0x2F = false := by
  simp only [State.bridgeOpen, Bool.and_eq_true, Bool.not_eq_true'] at hb
  exact hb.1

theorem writeReg_present (ha : directReg a d = true) (hl : laneLacks a = false) :
    ((rowAt a).isNone || laneLacks a) = false := by
  simp only [directReg, Bool.and_eq_true] at ha
  rw [hl, Bool.or_false]
  exact Option.isNone_eq_false_iff.mpr ha.2

end

section
variable {s : State} {w : Word}

theorem laneLacks_otherPage {a : Nat} (h : a / 0x10000 < 0x10 ∨ 0x12 < a / 0x10000) : laneLacks a = false := by
  unfold laneLacks
  dsimp only
  split
  · omega
  · omega
  · omega
  · rfl

theorem writeReg_qCtrl (n : Fin 4) : writeReg (R.CMD_Q_CTRL n) w s = writeQCtrl n w s := by
  have hpage : R.CMD_Q_CTRL n / 0x10000 = 3 := by unfold R.CMD_Q_CTRL; omega
  have hp := writeReg_present (directReg_bridge.1 n) (laneLacks_otherPage (by omega))
  have hno : R.CMD_Q_CTRL n % 0x10000 / 0x40 = n := by unfold R.CMD_Q_CTRL; omega
  have hoff : R.CMD_Q_CTRL n % 0x10000 % 0x40 = 8 := by unfold R.CMD_Q_CTRL; omega
  simp only [writeReg, hp, hpage, hno, hoff, n.isLt]
  rfl

theorem writeReg_dmaDoorbell (c : Fin 16) :
    writeReg (R.DMA_DOORBELL c) w s = if bit w 0 then dmaDoorbell c s else s := by
  have hpage : R.DMA_DOORBELL c / 0x10000 = 0x0C := by unfold R.DMA_DOORBELL; omega
  have hp := writeReg_present (directReg_bridge.2 c).1 (laneLacks_otherPage (by omega))
  have hno : (R.DMA_DOORBELL c % 0x10000 - 0x100) / 0x40 = c := by unfold R.DMA_DOORBELL; omega
  have hoff : 0x100 ≤ R.DMA_DOORBELL c % 0x10000 ∧ (R.DMA_DOORBELL c % 0x10000 - 0x100) % 0x40 = 0x18 := by
    unfold R.DMA_DOORBELL; omega
  simp only [writeReg, hp, hpage, hno, hoff]
  rfl

theorem writeReg_dmaAbort (c : Fin 16) :
    writeReg (R.DMA_ABORT c) w s = if bit w 0 then (dmaAbort c s).2 else s := by
  have hpage : R.DMA_ABORT c / 0x10000 = 0x0C := by unfold R.DMA_ABORT; omega
  have hp := writeReg_present (directReg_bridge.2 c).2 (laneLacks_otherPage (by omega))
  have hno : (R.DMA_ABORT c % 0x10000 - 0x100) / 0x40 = c := by unfold R.DMA_ABORT; omega
  have hoff : 0x100 ≤ R.DMA_ABORT c % 0x10000 ∧ (R.DMA_ABORT c % 0x10000 - 0x100) % 0x40 = 0x30 := by
    unfold R.DMA_ABORT; omega
  simp only [writeReg, hp, hpage, hno, hoff]
  rfl

theorem writeReg_alarm (n : Fin 4) : writeReg (R.HEAD_ALARM n) w s = writeAlarm n w s := by
  have hpage : R.HEAD_ALARM n / 0x10000 = 0x24 := by unfold R.HEAD_ALARM; omega
  have hp := writeReg_present (directReg_alarm n) (laneLacks_otherPage (by omega))
  have hno : R.HEAD_ALARM n % 0x10000 / 0x1000 = n := by unfold R.HEAD_ALARM; omega
  have hoff : R.HEAD_ALARM n % 0x10000 % 0x1000 = 0x1C := by unfold R.HEAD_ALARM; omega
  simp only [writeReg, hp, hpage, hno, hoff]
  rfl

theorem writeReg_mdio : writeReg R.ETH_MDIO_CMD w s = writeMdio w s := by
  have hp := writeReg_present directReg_mdio (laneLacks_otherPage (by decide))
  have hpage : R.ETH_MDIO_CMD / 0x10000 = 0x08 := rfl
  simp only [writeReg, hp, hpage]
  rfl

theorem writeReg_checker (x : Fin 48) (hl : laneLacks (R.TEST_PCHK x) = false) :
    writeReg (R.TEST_PCHK x) w s = writePchk x w s := by
  have hp := writeReg_present (directReg_checker x) hl
  have hpage : R.TEST_PCHK x / 0x10000 = 0x12 := by unfold R.TEST_PCHK; omega
  have hno : laneAt (R.TEST_PCHK x % 0x10000) = x := by unfold laneAt R.TEST_PCHK; omega
  have hoff : R.TEST_PCHK x % 0x10000 < 0xC00 ∧ R.TEST_PCHK x % 0x10000 % 0x40 = 4 := by unfold R.TEST_PCHK; omega
  simp only [writeReg, hp, hpage, hno, hoff]
  rfl

/-! ### Ring pairs (R91) -/

/-- CMD_Qn_CTRL written. -/
def qCtrlSet (n : Nat) (w : Word) (s : State) : State :=
  ((s.setFld (R.CMD_Q_CTRL n) F.CMD_Q_CTRL_LOG2_UNITS (F.CMD_Q_CTRL_LOG2_UNITS.get w)).setFld (R.CMD_Q_CTRL n)
    F.CMD_Q_CTRL_VECTOR (F.CMD_Q_CTRL_VECTOR.get w)).setFld (R.CMD_Q_CTRL n) F.CMD_Q_CTRL_EN (F.CMD_Q_CTRL_EN.get w)

/-- The four pointers of a pair and its count of dropped events zeroed. -/
def qPointersZero (n : Nat) (s : State) : State :=
  ((((s.setReg (R.CMD_SQ_TAIL n) 0).setReg (R.CMD_SQ_HEAD n) 0).setReg (R.CMD_RQ_HEAD n) 0).setReg (R.CMD_RQ_TAIL n) 0).setFld
    (R.CMD_Q_STATUS n) F.CMD_Q_STATUS_EV_DROP 0

theorem writeQCtrl_eq (n : Fin 4) : writeQCtrl n w s =
    if (qCtrlSet n w s).flag (R.CMD_Q_CTRL n) F.CMD_Q_CTRL_EN && !s.flag (R.CMD_Q_CTRL n) F.CMD_Q_CTRL_EN then
      qPointersZero n (qCtrlSet n w s)
    else if s.flag (R.CMD_Q_CTRL n) F.CMD_Q_CTRL_EN && !(qCtrlSet n w s).flag (R.CMD_Q_CTRL n) F.CMD_Q_CTRL_EN then
      ringStop n (qCtrlSet n w s)
    else qCtrlSet n w s := by
  unfold writeQCtrl qPointersZero qCtrlSet
  generalize ((s.setFld (R.CMD_Q_CTRL n) F.CMD_Q_CTRL_LOG2_UNITS _).setFld (R.CMD_Q_CTRL n) F.CMD_Q_CTRL_VECTOR _).setFld
    (R.CMD_Q_CTRL n) F.CMD_Q_CTRL_EN _ = t
  dsimp only

theorem writeQCtrl_enabled (n : Fin 4) (h : s.flag (R.CMD_Q_CTRL n) F.CMD_Q_CTRL_EN = true) : writeQCtrl n w s =
    if (qCtrlSet n w s).flag (R.CMD_Q_CTRL n) F.CMD_Q_CTRL_EN then qCtrlSet n w s else ringStop n (qCtrlSet n w s) := by
  rw [writeQCtrl_eq, h]
  cases (qCtrlSet n w s).flag (R.CMD_Q_CTRL n) F.CMD_Q_CTRL_EN <;>
    simp only [Bool.not_true, Bool.not_false, Bool.and_self, Bool.and_false, Bool.false_eq_true, if_true, if_false]

section
variable (hwf : s.regsWf = true)
include hwf

theorem qCtrlSet_regsWf (n : Nat) : (qCtrlSet n w s).regsWf = true :=
  State.regsWf_setFld _ _ _ _ (State.regsWf_setFld _ _ _ _ (State.regsWf_setFld _ _ _ _ hwf))

theorem qCtrlSet_enable (n : Nat) (h : F.CMD_Q_CTRL_EN.get w = 1) :
    (qCtrlSet n w s).flag (R.CMD_Q_CTRL n) F.CMD_Q_CTRL_EN = true := by
  have := State.fld_setFld_self (R.CMD_Q_CTRL n) F.CMD_Q_CTRL_EN (F.CMD_Q_CTRL_EN.get w) _
    (State.regsWf_setFld (R.CMD_Q_CTRL n) F.CMD_Q_CTRL_VECTOR (F.CMD_Q_CTRL_VECTOR.get w) _
      (State.regsWf_setFld (R.CMD_Q_CTRL n) F.CMD_Q_CTRL_LOG2_UNITS (F.CMD_Q_CTRL_LOG2_UNITS.get w) _ hwf))
    (by decide) (by decide)
  exact beq_iff_eq.mpr (this.trans (by rw [h]; rfl))

theorem qCtrlSet_log2 (n : Nat) : (qCtrlSet n w s).fld (R.CMD_Q_CTRL n) F.CMD_Q_CTRL_LOG2_UNITS
    = F.CMD_Q_CTRL_LOG2_UNITS.get w := by
  have h1 := State.regsWf_setFld (R.CMD_Q_CTRL n) F.CMD_Q_CTRL_LOG2_UNITS (F.CMD_Q_CTRL_LOG2_UNITS.get w) _ hwf
  have h2 := State.regsWf_setFld (R.CMD_Q_CTRL n) F.CMD_Q_CTRL_VECTOR (F.CMD_Q_CTRL_VECTOR.get w) _ h1
  rw [qCtrlSet, State.fld_setFld_beside _ _ _ _ _ h2 (by decide) (by decide),
    State.fld_setFld_beside _ _ _ _ _ h1 (by decide) (by decide), State.fld_setFld_self _ _ _ _ hwf (by decide) (by decide)]
  exact Nat.mod_eq_of_lt (Nat.mod_lt _ (by decide))

/-- What the zeroing of a pair's pointers leaves: the pointers at 0, CTRL as it was, EV_DROP at 0. -/
theorem qPointersZero_reads (n : Nat) :
    (qPointersZero n s).reg (R.CMD_SQ_TAIL n) = 0 ∧ (qPointersZero n s).reg (R.CMD_SQ_HEAD n) = 0
      ∧ (qPointersZero n s).reg (R.CMD_RQ_HEAD n) = 0 ∧ (qPointersZero n s).reg (R.CMD_RQ_TAIL n) = 0
      ∧ (qPointersZero n s).reg (R.CMD_Q_CTRL n) = s.reg (R.CMD_Q_CTRL n)
      ∧ (qPointersZero n s).fld (R.CMD_Q_STATUS n) F.CMD_Q_STATUS_EV_DROP = 0 := by
  have h1 := State.regsWf_setReg (R.CMD_SQ_TAIL n) 0 _ hwf
  have h2 := State.regsWf_setReg (R.CMD_SQ_HEAD n) 0 _ h1
  have h3 := State.regsWf_setReg (R.CMD_RQ_HEAD n) 0 _ h2
  have h4 := State.regsWf_setReg (R.CMD_RQ_TAIL n) 0 _ h3
  have apart : [R.CMD_Q_CTRL n, R.CMD_SQ_TAIL n, R.CMD_SQ_HEAD n, R.CMD_RQ_HEAD n, R.CMD_RQ_TAIL n,
      R.CMD_Q_STATUS n].Pairwise (· ≠ ·) := by
    simp [R.CMD_SQ_TAIL, R.CMD_SQ_HEAD, R.CMD_RQ_HEAD, R.CMD_RQ_TAIL, R.CMD_Q_STATUS, R.CMD_Q_CTRL]
  simp only [List.pairwise_cons, List.mem_cons, List.not_mem_nil, or_false, forall_eq_or_imp, forall_eq] at apart
  unfold qPointersZero
  refine ⟨?_, ?_, ?_, ?_, ?_, State.fld_setFld_self _ _ _ _ h4 (by decide) (by decide)⟩ <;>
    simp only [State.reg_setFld_other, State.reg_setReg_other, State.reg_setReg_self, hwf, h1, h2, h3, h4, apart, ne_eq,
      not_false_eq_true]

theorem writeQCtrl_enables (n : Fin 4) (hoff : s.flag (R.CMD_Q_CTRL n) F.CMD_Q_CTRL_EN = false)
    (hw : F.CMD_Q_CTRL_EN.get w = 1) : writeQCtrl n w s = qPointersZero n (qCtrlSet n w s) := by
  rw [writeQCtrl_eq, hoff, qCtrlSet_enable hwf n hw]
  rfl

end

/-! ### DMA channels, alarms, MDIO (R353, R378, R384, R405) -/

theorem dmaDoorbell_idle {c : Nat} (h : s.dmaState c = Ds.IDLE) : dmaDoorbell c s =
    let t := ((s.setChan c { s.chan c with resume := false }).incWrap (R.DMA_CNT c) F.DMA_CNT_RUNS 1).setDmaState c Ds.QUEUED
    dmaPump (c / 4) (setDmaQueue (c / 4) (t.dmaQueue (c / 4) ++ [c]) t) := by
  rw [dmaDoorbell, if_pos h]
  rfl

theorem dmaDoorbell_off {c : Nat} (h : s.dmaState c = Ds.OFF) : dmaDoorbell c s = s := by
  simp [dmaDoorbell, h, Ds.OFF, Ds.IDLE, Ds.PARKED]

theorem writeMdio_busy (hb : s.flag R.ETH_MDIO_CMD F.ETH_MDIO_CMD_BUSY = true) (hg : F.ETH_MDIO_CMD_GO.get w = 1) :
    writeMdio w s = s := by
  simp [writeMdio, hb, hg]

theorem writeMdio_starts (hb : s.flag R.ETH_MDIO_CMD F.ETH_MDIO_CMD_BUSY = false) (hg : F.ETH_MDIO_CMD_GO.get w = 1) :
    let t := writePlain R.ETH_MDIO_CMD w s
    writeMdio w s = (t.setFlag R.ETH_MDIO_CMD F.ETH_MDIO_CMD_BUSY true).emit
      (.mdio (F.ETH_MDIO_CMD_CL45.get w == 1) (F.ETH_MDIO_CMD_OP.get w) (F.ETH_MDIO_CMD_PHYAD.get w)
        (F.ETH_MDIO_CMD_REG.get w) ((t.reg R.ETH_MDIO_DATA).extractLsb' 0 16)) := by
  simp [writeMdio, hb, hg]

theorem writeMdio_plain (hg : F.ETH_MDIO_CMD_GO.get w = 0) : writeMdio w s = writePlain R.ETH_MDIO_CMD w s := by
  simp [writeMdio, hg]

theorem writeAlarm_plain {n : Nat} (h : F.HEAD_ALARM_ACK.get w = 0) :
    writeAlarm n w s = writePlain (R.HEAD_ALARM n) w s := by
  simp [writeAlarm, h]

theorem writeAlarm_ack {n : Nat} (h : F.HEAD_ALARM_ACK.get w = 1) :
    let t := writePlain (R.HEAD_ALARM n) w s
    writeAlarm n w s = if t.fld (R.HEAD_WIT n) F.HEAD_WIT_CLEAR_N = 0
      ∧ t.flag (R.HEAD_ALARM n) F.HEAD_ALARM_ACTIVE = true ∧ (t.head n).held = false then witnessClear n t else t := by
  simp [writeAlarm, h, alarmAck, and_assoc]

end
end Sys2Proof.Machine

/-- Settles O28. -/
theorem ownStepRegistersAct : Obligations.OwnStepRegistersAct := by
  unfold Obligations.OwnStepRegistersAct
  intro s hb
  have hlive := State.bridge_live hb
  have qCtrl (n : Fin 4) (w : Word) : exec (.cmdQEn n w) s = .next (writeQCtrl n w s) :=
    congrArg Host.Outcome.next ((bar0One_direct hb (directReg_bridge.1 n) (Bool.and_false _) hlive w).trans
      (writeReg_qCtrl n))
  have alarm (n : Fin 4) (v : Word) (hd : s.dark 0x2D = false) : exec (.alarmAck n v) s = .next (writeAlarm n v s) :=
    congrArg Host.Outcome.next ((bar0One_direct hb (directReg_alarm n) (Bool.and_false _) hd v).trans (writeReg_alarm n))
  have mdio (v : Word) (hd : s.dark 0x30 = false) : exec (.ethMdioGo v) s = .next (writeMdio v s) :=
    congrArg Host.Outcome.next ((bar0One_direct hb directReg_mdio (Bool.and_false _) hd v).trans writeReg_mdio)
  refine ⟨fun n w hwf hoff hw => ?_, fun n w hon => ⟨_, rfl, ?_⟩, fun c v hh hd => ?_, fun n v hd => ?_,
    fun x v hf hd hl => ⟨_, rfl, ?_⟩, fun v hd hbusy => ?_, fun v hd hbusy hg => ?_⟩
  · have hset := qCtrlSet_regsWf hwf (w := w) n
    obtain ⟨h1, h2, h3, h4, hctrl, hdrop⟩ := qPointersZero_reads hset n
    refine ⟨_, (qCtrl n w).trans (congrArg _ (writeQCtrl_enables hwf n hoff hw)), h1, h2, h3, h4, ?_, ?_, hdrop⟩
    · rw [State.flag, hctrl]; exact qCtrlSet_enable hwf n hw
    · rw [State.fld, hctrl]; exact qCtrlSet_log2 hwf n
  · rw [qCtrl, writeQCtrl_enabled n hon]; rfl
  · have bell : exec (.dmaCDoorbell c v) s = .next (writeReg (R.DMA_DOORBELL c) v s) := by
      show Host.Outcome.next (s.holdOr 0x2F (.dmaCDoorbell c v) (bar0One (R.DMA_DOORBELL c) v)) = _
      rw [State.holdOr, hh, if_neg Bool.false_ne_true,
        bar0One_direct hb (directReg_bridge.2 c).1 (Bool.and_false _) hlive]
    have abort : exec (.dmaCAbort c v) s = .next (writeReg (R.DMA_ABORT c) v s) :=
      congrArg Host.Outcome.next (bar0One_direct hb (directReg_bridge.2 c).2 (Bool.and_false _) hlive v)
    rw [bell, abort, writeReg_dmaDoorbell, writeReg_dmaAbort]
    refine ⟨fun h => by rw [if_pos h], fun h => by rw [h, if_neg Bool.false_ne_true], fun h => by rw [if_pos h],
      fun h => by rw [h, if_neg Bool.false_ne_true], fun h => ⟨_, rfl, dmaDoorbell_idle h⟩, fun h hp => ?_, fun h => ?_⟩
    · rw [dmaAbort_running h, if_neg hp]
    · exact ⟨dmaDoorbell_off h, by rw [dmaAbort_idle (.inl h)]⟩
  · exact ⟨fun h => (alarm n v hd).trans (congrArg _ (writeAlarm_plain h)),
      fun h => ⟨_, rfl, (alarm n v hd).trans (congrArg _ (writeAlarm_ack h))⟩⟩
  · exact congrArg Host.Outcome.next ((bar0One_direct hb (directReg_checker x) hf hd v).trans (writeReg_checker x hl))
  · exact ⟨fun h => ⟨_, rfl, (mdio v hd).trans (congrArg _ (writeMdio_starts hbusy h))⟩,
      fun h => (mdio v hd).trans (congrArg _ (writeMdio_plain h))⟩
  · exact (mdio v hd).trans (congrArg _ (writeMdio_busy hbusy hg))
end

section
/-! PROOF. Host reads of registers and their latches (R4, R361, R363, R369, R530). -/

open Sys2Proof Sys2Proof.Machine

namespace Sys2Proof.Machine

section
variable {a : Nat} {wide : Bool} {s : State}

theorem hostRead_unsupported (h : s.bridgeOpen = false ∨ wide = true ∧ a % 8 ≠ 0) :
    hostRead a wide s = s.emit .unsupported := by
  rcases h with h | ⟨rfl, h⟩ <;> simp [hostRead, h]

section
variable (hb : s.bridgeOpen = true) (ha : wide = true → a % 8 = 0)
include hb ha

theorem hostRead_open : hostRead a wide s =
    if fusedReg s.part.ab a then s.emit (.readData (List.replicate (1 + b01 wide) 0))
    else if s.darkReg a then darkAccess (a / 0x10000) (s.emit (.readData (List.replicate (1 + b01 wide) 0xFFFFFFFF)))
    else if wide then (readWide a s).2.emit (.readData (readWide a s).1)
    else (readReg 0 a s).2.emit (.readData [(readReg 0 a s).1]) := by
  have hno : (!s.bridgeOpen || (wide && a % 8 != 0)) = false := by
    cases wide
    · simp [hb]
    · simp [hb, ha rfl]
  simp only [hostRead, hno, Bool.false_eq_true, if_false]

theorem hostRead_fused (hf : fusedReg s.part.ab a = true) :
    hostRead a wide s = s.emit (.readData (List.replicate (1 + b01 wide) 0)) := by
  rw [hostRead_open hb ha, if_pos hf]

theorem hostRead_dark (hf : fusedReg s.part.ab a = false) (hd : s.darkReg a = true) : hostRead a wide s =
    darkAccess (a / 0x10000) (s.emit (.readData (List.replicate (1 + b01 wide) 0xFFFFFFFF))) := by
  rw [hostRead_open hb ha, hf, if_neg Bool.false_ne_true, if_pos hd]

end

section
variable (hb : s.bridgeOpen = true) (hf : fusedReg s.part.ab a = false) (hd : s.darkReg a = false)
include hb hf hd

theorem hostRead_wide (ha : a % 8 = 0) : hostRead a true s =
    (sampleFor a s).emit (.readData [(sampleFor a s).view a, (sampleFor a s).view (a + 4)]) := by
  rw [hostRead_open hb fun _ => ha, hf, hd, if_neg Bool.false_ne_true, if_neg Bool.false_ne_true, if_pos rfl]
  rfl

theorem hostRead_narrow {w : Word} {t : State} (hr : readReg 0 a s = (w, t)) :
    hostRead a false s = t.emit (.readData [w]) := by
  rw [hostRead_open hb fun h => Bool.noConfusion h, hf, hd, if_neg Bool.false_ne_true, if_neg Bool.false_ne_true,
    if_neg Bool.false_ne_true, hr]

end
end

/-- Every latched group of Table RM-2 is in the list. -/
theorem latchGroups_mem : (⟨0, R.TICK_COUNT_LO, [R.TICK_COUNT_HI]⟩ : LatchGroup) ∈ latchGroups
    ∧ (∀ n : Fin 4, (⟨1 + n, R.TB_NS n, [R.TB_S_LO n, R.TB_S_HI n]⟩ : LatchGroup) ∈ latchGroups)
    ∧ (⟨5, R.PPS_IN_NS, [R.PPS_IN_S_LO, R.PPS_IN_INFO]⟩ : LatchGroup) ∈ latchGroups
    ∧ (⟨6, R.PWR_RTC_LO, [R.PWR_RTC_HI]⟩ : LatchGroup) ∈ latchGroups
    ∧ ∀ x : Fin 48, (⟨7 + x, R.TEST_BITS_LO x, [R.TEST_BITS_HI x]⟩ : LatchGroup) ∈ latchGroups := by decide +kernel

end Sys2Proof.Machine

/-- Settles O29. -/
theorem latchedReadsKeepTheirGroup : Obligations.LatchedReadsKeepTheirGroup := by
  unfold Obligations.LatchedReadsKeepTheirGroup
  intro wide s reads
  have group (c : Instr) (g : LatchGroup) (hg : g ∈ latchGroups) (hc : exec c s = .next (hostRead g.first wide s)) :
      reads c g.no g.first g.rest := by
    refine ⟨fun h => ?_, fun _ hw ha => ?_, fun hb ha hf => ?_, fun ⟨hb, hf⟩ ha hd => ?_, fun ⟨hb, hf⟩ hw hd => ?_,
      fun ⟨hb, hf⟩ hw ha hd => ?_⟩
    · rw [hc, hostRead_unsupported (.inl h)]
    · rw [hc, hostRead_unsupported (.inr ⟨hw, ha⟩)]
    · rw [hc, hostRead_fused hb ha hf]
    · rw [hc, hostRead_dark hb ha hf hd]
    · rw [hc, hw, hostRead_narrow hb hf hd (readReg_first hg 0 s)]
      rfl
    · rw [hc, hw, hostRead_wide hb hf hd ha]
  obtain ⟨htick, htb, hpps, hrtc, htest⟩ := latchGroups_mem
  exact ⟨group _ _ htick rfl, fun n => group _ _ (htb n) rfl, group _ _ hpps rfl, group _ _ hrtc rfl,
    fun x => group _ _ (htest x) rfl⟩
end

section
/-! PROOF. The doorbells of the command rings (R89–R91) and the host's window into the frame store (R321, R367, R369,
R372). -/

open Sys2Proof Sys2Proof.Machine

namespace Sys2Proof.Machine

section
variable {s : State}

/-! ### Doorbells -/

theorem State.holdOr_free {d : Nat} {i : Work} {go : State → State} (h : s.holdsWork d = false) : s.holdOr d i go = go s := by
  rw [State.holdOr, h, if_neg Bool.false_ne_true]

section
variable {n : Fin 4} {tail : Nat} {words : List Word}

theorem sqTail_open (hb : s.bridgeOpen = true) (ok : Bool) : sqTail n tail words ok s =
    let t := s.setFld (R.CMD_SQ_TAIL n) F.CMD_SQ_TAIL_TAIL tail
    if t.ringActive n = false then t
    else if ok = false then (if t.groomRuns then ringFail n t else t)
    else groomTurn (t.setPort n { t.port n with unserved := words.take (4 * ringUsed (t.ringLog2 n)
      (t.fld (R.CMD_SQ_HEAD n) F.CMD_SQ_HEAD_HEAD) (t.fld (R.CMD_SQ_TAIL n) F.CMD_SQ_TAIL_TAIL)) }) := by
  simp only [sqTail, hb, Bool.not_true, Bool.false_eq_true, if_false, Bool.not_eq_true']

theorem directReg_rqHead : ∀ n : Fin 4, directReg (R.CMD_RQ_HEAD n) 0x2F = true := by decide +kernel

theorem writeReg_rqHead (n : Fin 4) (w : Word) :
    writeReg (R.CMD_RQ_HEAD n) w s = (writePlain (R.CMD_RQ_HEAD n) w s).pumpRing n := by
  have hpage : R.CMD_RQ_HEAD n / 0x10000 = 3 := by unfold R.CMD_RQ_HEAD; omega
  have hp := writeReg_present (directReg_rqHead n) (laneLacks_otherPage (by omega))
  have hno : R.CMD_RQ_HEAD n % 0x10000 / 0x40 = n := by unfold R.CMD_RQ_HEAD; omega
  have hoff : R.CMD_RQ_HEAD n % 0x10000 % 0x40 = 0x1C := by unfold R.CMD_RQ_HEAD; omega
  simp only [writeReg, hp, hpage, hno, hoff, n.isLt]
  rfl

theorem rqHead_open (hb : s.bridgeOpen = true) (v : Nat) (ok : Bool) : rqHead n v ok s =
    let r := (writePlain (R.CMD_RQ_HEAD n) (w32 v) s).pumpRing n
    if !r.bridgeOpen || !r.groomRuns || !r.ringActive n then r else if !ok then ringFail n r else groomTurn r := by
  rw [rqHead, bar0One_direct hb (directReg_rqHead n) (Bool.and_false _) (State.bridge_live hb), writeReg_rqHead]

end

/-! ### BAR2 -/

section
variable {off n : Nat} {data : List (Option Byte)}

theorem exec_bar2Read (h : off + n ≤ 2 ^ 28) : exec (.bar2Read off n) s = .next (bar2Read off n s) :=
  if_neg (by omega)

theorem exec_bar2Write (h : off + data.length ≤ 2 ^ 28) : exec (.bar2Write off data) s = .next (bar2Write off data s) :=
  if_neg (by omega)

theorem State.fsDark_of_bar2Dark {phys : Nat} (h : s.bar2Dark phys n = false) : s.fsDark = false :=
  (Bool.or_eq_false_iff.mp h).1

section
variable (hb : s.bridgeOpen = true)
include hb

theorem bar2Read_outside (hh : inHeap (s.bar2Phys off) n = false) : bar2Read off n s = s.emit .unsupported := by
  simp only [bar2Read, hb, hh, Bool.not_true, Bool.not_false, Bool.false_eq_true, if_false, if_true]

theorem bar2Write_outside (hh : inHeap (s.bar2Phys off) data.length = false) : bar2Write off data s =
    (pwFail 1 off (s.bar2Phys off) data.length Pw.PROTECTED s).raise Ev.FS_PROTECT 0 0 := by
  simp only [bar2Write, hb, hh, Bool.not_true, Bool.not_false, Bool.false_eq_true, if_false, if_true]

theorem bar2Read_dark (hh : inHeap (s.bar2Phys off) n = true) (hd : s.bar2Dark (s.bar2Phys off) n = true) :
    bar2Read off n s = darkAccess 0x20 (s.emit (.readBytes (List.replicate n 0xFF) false)) := by
  simp only [bar2Read, hb, hh, hd, Bool.not_true, Bool.false_eq_true, if_false, if_true]

theorem bar2Write_dark (hh : inHeap (s.bar2Phys off) data.length = true)
    (hd : s.bar2Dark (s.bar2Phys off) data.length = true) :
    bar2Write off data s = pwFail 1 off (s.bar2Phys off) data.length Pw.DARK (darkAccess 0x20 s) := by
  simp only [bar2Write, hb, hh, hd, Bool.not_true, Bool.false_eq_true, if_false, if_true]

theorem bar2Read_live (hh : inHeap (s.bar2Phys off) n = true) (hd : s.bar2Dark (s.bar2Phys off) n = false) :
    bar2Read off n s = ((s.poisonIn (s.bar2Phys off) n).foldl (fun t g => noteUncorr g t) s).emit
      (.readBytes (s.fsRead (s.bar2Phys off) n) (!(s.poisonIn (s.bar2Phys off) n).isEmpty)) := by
  simp only [bar2Read, hb, hh, hd, State.fsLoad, State.fsDark_of_bar2Dark hd, Bool.not_true, Bool.false_eq_true, if_false]

/-- The poisoned granules of which a write covers a word only in part. -/
def tornIn (phys : Nat) (data : List (Option Byte)) (s : State) : List Nat :=
  (s.poisonIn phys data.length).filter (fun g => (upTo 16).any (fun j =>
    touches phys data (g * 256 + 16 * j) 16 && !covers phys data (g * 256 + 16 * j) 16))

theorem bar2Write_torn (hh : inHeap (s.bar2Phys off) data.length = true)
    (hd : s.bar2Dark (s.bar2Phys off) data.length = false) (ht : tornIn (s.bar2Phys off) data s ≠ []) :
    bar2Write off data s = pwFail 1 off (s.bar2Phys off) data.length Pw.ECC
      ((tornIn (s.bar2Phys off) data s).foldl (fun t g => noteUncorr g t) s) := by
  have ht' : (!(tornIn (s.bar2Phys off) data s).isEmpty) = true := by simpa using ht
  unfold tornIn at ht' ⊢
  simp only [bar2Write, hb, hh, hd, ht', Bool.not_true, Bool.false_eq_true, if_false, if_true]

theorem bar2Write_clean (hh : inHeap (s.bar2Phys off) data.length = true)
    (hd : s.bar2Dark (s.bar2Phys off) data.length = false) (hp : s.poisonIn (s.bar2Phys off) data.length = []) :
    bar2Write off data s = storeEnabled (s.bar2Phys off) data
      { s with store := { s.store with poison := s.store.poison.filter (fun _ => true) } } := by
  simp only [bar2Write, hb, hh, hd, hp, Bool.not_true, Bool.false_eq_true, if_false, List.filter_nil, List.isEmpty_nil,
    List.contains_nil, Bool.false_and, Bool.not_false]

end
end

/-! ### Enabled bytes -/

theorem storeEnabled_kept (data : List (Option Byte)) (a : Nat) (h : s.memWf = true) :
    (storeEnabled a data s).regs = s.regs ∧ (storeEnabled a data s).memWf = true := by
  induction data generalizing a s with
  | nil => exact ⟨rfl, h⟩
  | cons b bs ih =>
    cases b with
    | none => exact ih (a + 1) h
    | some b => exact ih (a + 1) (s := s.fsWrite a [b]) (State.memWf_fsWrite a [b] s h)

theorem State.fsRead_one (a : Nat) : s.fsRead a 1 = [SMap.get s.store.mem 0 a] := rfl

theorem storeEnabled_byte (data : List (Option Byte)) (a c : Nat) (h : s.memWf = true) :
    SMap.get (storeEnabled a data s).store.mem 0 c = if a ≤ c ∧ c < a + data.length
      then (data.getD (c - a) none).getD (SMap.get s.store.mem 0 c) else SMap.get s.store.mem 0 c := by
  induction data generalizing a s with
  | nil => rw [if_neg (by simp)]; rfl
  | cons b bs ih =>
    have later (hc : a + 1 ≤ c) : (b :: bs).getD (c - a) none = bs.getD (c - (a + 1)) none := by
      rw [show c - a = (c - (a + 1)) + 1 by omega, List.getD_cons_succ]
    cases b with
    | none =>
      rw [storeEnabled, ih (a + 1) h, List.length_cons]
      by_cases hca : c = a
      · subst hca
        rw [if_neg (by omega), Nat.sub_self]
        split <;> rfl
      · by_cases hin : a + 1 ≤ c ∧ c < a + 1 + bs.length
        · rw [if_pos hin, if_pos (by omega), later hin.1]
        · rw [if_neg hin, if_neg (by omega)]
    | some b =>
      have hw := ((State.memWf_iff s).mp h).2.1
      rw [storeEnabled, ih (a + 1) (State.memWf_fsWrite a [b] s h), List.length_cons]
      by_cases hca : c = a
      · subst hca
        rw [if_neg (by omega), if_pos (by omega), Nat.sub_self]
        exact get_writeBytes_inside [b] s.store.mem c 0 hw (by simp)
      · have hout : SMap.get (s.fsWrite a [b]).store.mem 0 c = SMap.get s.store.mem 0 c :=
          get_writeBytes_outside [b] s.store.mem a c hw (by simp; omega)
        rw [hout]
        by_cases hin : a + 1 ≤ c ∧ c < a + 1 + bs.length
        · rw [if_pos hin, if_pos (by omega), later hin.1]
        · rw [if_neg hin, if_neg (by omega)]

end

end Sys2Proof.Machine

/-- Settles O30. -/
theorem ringsAndBar2Accesses : Obligations.RingsAndBar2Accesses := by
  unfold Obligations.RingsAndBar2Accesses
  refine ⟨fun n tail words s hb hh => ?_, fun off s hb => ⟨fun n hn hi hd hp => ?_, fun n hn hi hd hp => ?_,
    fun data torn hn hi hd ht hne => ?_, fun n hn hi hd => ?_, fun n hn hi => ?_, fun data hn hi hd hp hwf => ?_,
    fun data hn hi hd => ?_, fun data hn hi => ?_⟩⟩
  · have tailRow (ok : Bool) : exec (.cmdSqTail n tail words ok) s = .next (sqTail n tail.toNat words ok s) :=
      congrArg Host.Outcome.next (State.holdOr_free hh)
    have headRow (ok : Bool) : exec (.cmdRqHead n tail ok) s = .next (rqHead n tail.toNat ok s) := rfl
    intro t used r
    refine ⟨fun ha => ?_, fun ha => ?_, fun ha ok => ?_, fun hbr hgr har => ⟨?_, ?_⟩, fun hno ok => ?_⟩
    · rw [tailRow, sqTail_open hb, if_neg (by simpa using ha), if_neg (by simp)]
    · rw [tailRow, sqTail_open hb, if_neg (by simpa using ha), if_pos rfl]
    · rw [tailRow, sqTail_open hb, if_pos ha]
    · rw [headRow, rqHead_open hb]
      exact congrArg Host.Outcome.next (if_neg (by simp [r] at hbr hgr har; simp [hbr, hgr, har]))
    · rw [headRow, rqHead_open hb]
      exact congrArg Host.Outcome.next (if_neg (by simp [r] at hbr hgr har; simp [hbr, hgr, har]))
    · rw [headRow, rqHead_open hb]
      exact congrArg Host.Outcome.next (if_pos (by rcases hno with h | h <;> simp [r] at h <;> simp [h]))
  · rw [exec_bar2Read hn, bar2Read_live hb hi hd, hp]
    rfl
  · rw [exec_bar2Read hn, bar2Read_live hb hi hd, List.isEmpty_eq_false_iff.mpr hp]
    rfl
  · subst ht
    rw [exec_bar2Write hn, bar2Write_torn hb hi hd hne]
    rfl
  · rw [exec_bar2Read hn, bar2Read_dark hb hi hd]
  · rw [exec_bar2Read hn, bar2Read_outside hb hi]
  · have hwf' : State.memWf { s with store := { s.store with poison := s.store.poison.filter (fun _ => true) } } = true := hwf
    obtain ⟨hregs, hmem⟩ := storeEnabled_kept data (s.bar2Phys off) hwf'
    refine ⟨_, (exec_bar2Write hn).trans (congrArg _ (bar2Write_clean hb hi hd hp)), hregs, hmem, fun a => ?_⟩
    rw [State.fsRead_one, State.fsRead_one, storeEnabled_byte data _ a hwf']
    split <;> rfl
  · rw [exec_bar2Write hn, bar2Write_dark hb hi hd]
  · rw [exec_bar2Write hn, bar2Write_outside hb hi]
end

section
/-! PROOF. DMA channels at work (R361, R378–R386). -/

open Sys2Proof Sys2Proof.Machine

namespace Sys2Proof.Machine

section
variable {c : Nat} {s : State}

/-! ### When a channel's phases go on -/

theorem State.dmaIn_running (hd : s.host.d3hot = false) (hr : s.dmaState c = Ds.RUNNING) (p : DmaPhase → Bool) :
    s.dmaIn c p = p (s.chan c).phase := by
  simp [State.dmaIn, hd, hr, Ds.RUNNING, Ds.ABORTING]

theorem State.dmaIn_aborting (hd : s.host.d3hot = false) (hr : s.dmaState c = Ds.ABORTING) (p : DmaPhase → Bool) :
    s.dmaIn c p = p (s.chan c).phase := by
  simp [State.dmaIn, hd, hr, Ds.RUNNING, Ds.ABORTING]

theorem State.dmaIn_d3hot (hd : s.host.d3hot = true) (p : DmaPhase → Bool) : s.dmaIn c p = false := by
  simp [State.dmaIn, hd]

theorem dmaResidue_of_desc {d : Desc} (h : (s.chan c).desc = some d) :
    dmaResidue c s = (w32 (d.total - (s.chan c).moved), s) := by
  simp only [dmaResidue, h]

/-! ### The next descriptor (R381) -/

theorem dmaNext_disabling (h : (s.chan c).disabling = true) : dmaNext c s = dmaDisabled c s := by
  simp only [dmaNext, h, if_true]

theorem dmaNext_goesOn {d : Desc} (hd : (s.chan c).desc = some d) (hx : (s.chan c).disabling = false) :
    dmaNext c s = if d.isEnd then s.setChan c { s.chan c with phase := .tail false } else dmaFetch c (wAt d.words 0) s := by
  simp only [dmaNext, hx, hd, Bool.false_eq_true, if_false]

/-! ### Nothing happens in D3hot (R361) -/

theorem descriptorFetch_d3hot (h : s.host.d3hot = true) (ws : List Word) (ok : Bool) : descriptorFetch c ws ok s = s := by
  simp only [descriptorFetch, State.dmaIn_d3hot h, Bool.not_false, if_true]

theorem descriptorDone_d3hot (h : s.host.d3hot = true) (data : List Byte) (ok : Bool) (moved : Nat) :
    descriptorDone c data ok moved s = s := by
  simp only [descriptorDone, State.dmaIn_d3hot h, Bool.not_false, Bool.true_or, if_true]

theorem readbackDone_d3hot (h : s.host.d3hot = true) (ok : Bool) : readbackDone c ok s = s := by
  unfold readbackDone
  split
  · simp only [State.dmaIn_d3hot h, Bool.not_false, if_true]
  · rfl

theorem completionTimeout_d3hot (h : s.host.d3hot = true) (moved : Nat) : completionTimeout c moved s = s := by
  simp only [completionTimeout, State.dmaIn_d3hot h, Bool.not_false, if_true]

/-! ### The steps of a running channel -/

section
variable (hd : s.host.d3hot = false) (hr : s.dmaState c = Ds.RUNNING)
include hd hr

/-- The state in which a descriptor that has been read stands. -/
def descTaken (c : Nat) (d : Desc) (s : State) : State :=
  s.setChan c { s.chan c with desc := some d, phase := .data, moved := 0, p2hSeq := 0 }

theorem descriptorFetch_fails (hp : (s.chan c).phase = .fetch) {ws : List Word} {r : Word} {t : State}
    (ht : dmaResidue c s = (r, t)) : descriptorFetch c ws false s = dmaFail c De.HOST r t := by
  simp only [descriptorFetch, State.dmaIn_running hd hr, hp, ht]
  rfl

theorem descriptorFetch_read (hp : (s.chan c).phase = .fetch) {ws : List Word} {d : Desc}
    (hdesc : d = ⟨(s.chan c).fetchAt, ws.take 8⟩) : descriptorFetch c ws true s =
      let t := descTaken c d s
      if t.descError d ≠ 0 then dmaFail c (t.descError d) (w32 d.total)
        (if t.descError d = De.DARK ∧ (t.descRanges d).any (fun r => t.underTest r.1 r.2) then darkAccess 0x20 t else t)
      else if d.p2h then
        match t.p2hSlot d with
        | some (slot, q, _) => holdMark d.pad slot (readerDma c) (t.setChan c { t.chan c with p2hSeq := q })
        | none => t
      else t := by
  subst hdesc
  have hin : (!s.dmaIn c (· == .fetch)) = false := by rw [State.dmaIn_running hd hr, hp]; rfl
  simp only [descriptorFetch, hin] <;> rfl

theorem descriptorDone_dark {d : Desc} (hp : (s.chan c).phase = .data) (hx : (s.chan c).desc = some d)
    (hk : s.descDark d = true) (data : List Byte) (ok : Bool) (moved : Nat) :
    descriptorDone c data ok moved s = dmaFail c De.DARK (w32 (d.total - Nat.min moved d.total)) s := by
  have hin : (!s.dmaIn c (· == .data) || s.dmaState c != Ds.RUNNING) = false := by
    rw [State.dmaIn_running hd hr, hp, hr]; rfl
  simp only [descriptorDone, hin, hx, hk]
  rfl

theorem descriptorDone_moved {d : Desc} {m : Moved} {t : State} {data : List Byte} {ok : Bool} {moved : Nat}
    (hp : (s.chan c).phase = .data) (hx : (s.chan c).desc = some d) (hk : s.descDark d = false)
    (hm : dmaMove c (if ok then d.total else Nat.min moved d.total) d data s = (m, t)) :
    descriptorDone c data ok moved s = if m.err ≠ 0 then dmaFail c m.err (w32 (d.total - m.bytes)) t
      else if !ok then dmaFail c De.HOST (w32 (d.total - m.bytes)) t
      else if d.irq then (dmaRelease c t).setChan c { (dmaRelease c t).chan c with phase := .readback 0 }
      else dmaNext c (dmaRelease c t) := by
  have hin : (!s.dmaIn c (· == .data) || s.dmaState c != Ds.RUNNING) = false := by
    rw [State.dmaIn_running hd hr, hp, hr]; rfl
  simp only [descriptorDone, hin, hx, hk, hm, Bool.false_eq_true, if_false]

theorem tailReread_lost {p : Bool} (hp : (s.chan c).phase = .tail p) : tailReread c none s = dmaFail c De.HOST 0 s := by
  simp [tailReread, hp, hr, hd]

theorem tailReread_read {p : Bool} (hp : (s.chan c).phase = .tail p) (w : Word) : tailReread c (some w) s =
    if (s.chan c).disabling then dmaDisabled c s
    else if !bit w 0 then dmaFetch c w s
    else if p then dmaPump (c / 4) ((s.setDmaState c Ds.PARKED).setChan c { s.chan c with phase := .none })
    else s.setChan c { s.chan c with phase := .readback 1 } := by
  simp only [tailReread, hp, hr, hd, ne_eq, not_true_eq_false, decide_false, Bool.or_self, Bool.false_eq_true, if_false]

end

/-! ### Read-backs (R383) -/

section
variable (hin : s.dmaIn c (fun _ => true) = true) {ok : Bool}
include hin

theorem readbackDone_err {code : Nat} {residue : Word} {d : Desc} (hp : (s.chan c).phase = .readback 3)
    (he : (s.chan c).err = some (code, residue)) (hx : (s.chan c).desc = some d) :
    readbackDone c ok s = dmaErrorEnd c code residue s := by
  simp only [readbackDone, hp, hin, dmaResidue_of_desc hx, he]
  rfl

theorem readbackDone_abort {d : Desc} (hp : (s.chan c).phase = .readback 2) (hx : (s.chan c).desc = some d) :
    readbackDone c ok s = if ok then dmaAborted c (w32 (d.total - (s.chan c).moved)) s
      else dmaErrorEnd c De.HOST (w32 (d.total - (s.chan c).moved)) s := by
  simp only [readbackDone, hp, hin, dmaResidue_of_desc hx]
  rfl

theorem readbackDone_park {d : Desc} (hp : (s.chan c).phase = .readback 1) (hx : (s.chan c).desc = some d) :
    readbackDone c ok s = if ok then (if (s.chan c).disabling then dmaDisabled c s else dmaPark c s)
      else dmaErrorEnd c De.HOST 0 s := by
  simp only [readbackDone, hp, hin, dmaResidue_of_desc hx]
  rfl

theorem readbackDone_report {d : Desc} (hp : (s.chan c).phase = .readback 0) (hx : (s.chan c).desc = some d) :
    readbackDone c ok s = if !ok then dmaErrorEnd c De.HOST 0 s
      else dmaNext c (dmaMessage c (dmaWriteBack c 0 (setDmaStatus c Ds.RUNNING 1 0 s))) := by
  simp only [readbackDone, hp, hin, dmaResidue_of_desc hx]
  rfl

end

/-! ### Time-outs and aborts (R384, R386) -/

section
variable (hd : s.host.d3hot = false) (hr : s.dmaState c = Ds.RUNNING)
include hd hr

theorem completionTimeout_fetch (hp : (s.chan c).phase = .fetch) (moved : Nat) {r : Word} {t : State}
    (ht : dmaResidue c s = (r, t)) : completionTimeout c moved s = dmaFail c De.HOST r t := by
  have hin : (!s.dmaIn c (· != .none)) = false := by rw [State.dmaIn_running hd hr, hp]; rfl
  simp only [completionTimeout, hin, hp, ht, Bool.false_eq_true, if_false]

theorem completionTimeout_tail {p : Bool} (hp : (s.chan c).phase = .tail p) (moved : Nat) :
    completionTimeout c moved s = dmaFail c De.HOST 0 s := by
  have hin : (!s.dmaIn c (· != .none)) = false := by rw [State.dmaIn_running hd hr, hp]; rfl
  simp only [completionTimeout, hin, hp, Bool.false_eq_true, if_false]

end

theorem State.chan_setChan_of_ne_idle {x : Chan} (h : x ≠ Chan.idle) : (s.setChan c x).chan c = x := by
  simp [State.chan, State.setChan, SMap.get, SMap.put, h, SMap.find_insert_self]

theorem abortBurstDone_written {moved : Nat} {data : List Byte} {d : Desc} (hd : s.host.d3hot = false)
    (ha : s.dmaState c = Ds.ABORTING) (hp : (s.chan c).phase = .abortBurst) (hx : (s.chan c).desc = some d)
    (hm : (s.chan c).moved ≠ 0) (hw : (s.chan c).wrote = true) :
    abortBurstDone c moved data s = s.setChan c { s.chan c with phase := .readback 2 } := by
  have hin : (!s.dmaIn c (· == .abortBurst)) = false := by rw [State.dmaIn_aborting hd ha, hp]; rfl
  have hstep : abortBurstDone c moved data s =
      if ((s.setChan c { s.chan c with phase := .readback 2 }).chan c).wrote then
        s.setChan c { s.chan c with phase := .readback 2 }
      else readbackDone c true (s.setChan c { s.chan c with phase := .readback 2 }) := by
    simp only [abortBurstDone, ha, hin, hx, hm, ne_eq, not_true_eq_false, decide_false, Bool.or_self, Bool.false_eq_true,
      if_false]
  rw [hstep, State.chan_setChan_of_ne_idle fun h => DmaPhase.noConfusion (congrArg Chan.phase h), if_pos hw]

theorem dmaTimer_eq : dmaTimer c s =
    if startIs 1 (fun _ => true) (s.reg (R.DMA_CTRL c)) = false ∨ s.dmaState c = Ds.OFF then s
    else if s.dmaState c = Ds.IDLE then dmaQueueUp c false s
    else if s.dmaState c = Ds.PARKED then dmaQueueUp c (!s.flag (R.DMA_CTRL c) F.DMA_CTRL_RESTART) s
    else (s.incSat (R.DMA_CNT c) F.DMA_CNT_OVERRUN 1).raise Ev.DMA_OVERRUN (dmaUnit c) 0 := by
  cases hs : startIs 1 (fun _ => true) (s.reg (R.DMA_CTRL c))
  · simp [dmaTimer, hs]
  · by_cases ho : s.dmaState c = Ds.OFF
    · simp [dmaTimer, hs, dmaStart, ho, Ds.OFF, Ds.IDLE, Ds.PARKED]
    · simp [dmaTimer, hs, dmaStart, ho]

/-- A channel that fails: at once, or after a read-back where it has written and the host can be reached. -/
theorem dmaFail_eq (code : Nat) (residue : Word) : dmaFail c code residue s =
    if (s.chan c).wrote = true ∧ s.host.linkUp = true then
      dmaRelease c (s.setChan c { s.chan c with phase := .readback 3, err := some (code, residue) })
    else dmaErrorEnd c code residue s := by
  simp only [dmaFail, Bool.and_eq_true]

end

end Sys2Proof.Machine

/-- Settles O31. -/
theorem dmaRunsFetchMoveAndEnd : Obligations.DmaRunsFetchMoveAndEnd := by
  unfold Obligations.DmaRunsFetchMoveAndEnd
  refine ⟨fun c s hr => ⟨fun hd => ⟨?_, ?_, ?_, ?_, ?_, ?_, ?_, ?_⟩, ?_, ?_, dmaNext_disabling, ?_⟩,
    fun c s => ⟨fun hd => ⟨fun hr => ⟨?_, ?_, ?_, ?_, ?_, ?_, ?_⟩, ?_, ?_⟩, ?_⟩⟩
  · rintro ws d t hp hdesc rfl he
    have hf := descriptorFetch_read hd hr hp hdesc
    have he : ¬ (descTaken c d s).descError d ≠ 0 := not_not_intro he
    dsimp only at hf
    rw [if_neg he] at hf
    refine ⟨fun hp2 => ?_, fun slot q a hp2 hs => ?_⟩
    · rw [if_neg (by rw [hp2]; decide)] at hf
      exact congrArg Host.Outcome.next hf
    · rw [if_pos hp2] at hf
      have hs : (descTaken c d s).p2hSlot d = some (slot, q, a) := hs
      rw [hs] at hf
      exact congrArg Host.Outcome.next hf
  · intro data d m t hp hx hk hm he
    refine congrArg Host.Outcome.next ((descriptorDone_moved (ok := true) (moved := d.total) hd hr hp hx hk hm).trans ?_)
    rw [if_neg (not_not_intro he), if_neg (by decide)]
  · intro w p hp hx hb
    refine congrArg (fun t => Host.Outcome.next (groomTurn (dmaHeld c t))) ((tailReread_read hd hr hp w).trans ?_)
    rw [if_neg (by rw [hx]; decide), if_pos (by rw [hb]; rfl)]
  · intro w hp hx hb
    refine congrArg (fun t => Host.Outcome.next (groomTurn (dmaHeld c t))) ((tailReread_read hd hr hp w).trans ?_)
    rw [if_neg (by rw [hx]; decide), if_neg (by rw [hb]; decide), if_pos rfl]
  · intro w hp hx hb
    refine congrArg (fun t => Host.Outcome.next (groomTurn (dmaHeld c t))) ((tailReread_read hd hr hp w).trans ?_)
    rw [if_neg (by rw [hx]; decide), if_neg (by rw [hb]; decide), if_neg Bool.false_ne_true]
  · intro w p hp hx
    refine congrArg (fun t => Host.Outcome.next (groomTurn (dmaHeld c t))) ((tailReread_read hd hr hp w).trans ?_)
    rw [if_pos hx]
  · exact fun d hp hx => congrArg Host.Outcome.next (readbackDone_park (State.dmaIn_running hd hr _) hp hx)
  · exact fun d hp hx => congrArg Host.Outcome.next (readbackDone_report (State.dmaIn_running hd hr _) hp hx)
  · intro d hx hdis he
    rw [dmaNext_goesOn hx hdis, he, if_neg Bool.false_ne_true]
  · intro d hx hdis he
    rw [dmaNext_goesOn hx hdis, he, if_pos rfl]
  · exact fun hd ws ok data moved => ⟨congrArg Host.Outcome.next (descriptorFetch_d3hot hd ws ok),
      congrArg Host.Outcome.next (descriptorDone_d3hot hd data ok moved),
      congrArg Host.Outcome.next (readbackDone_d3hot hd ok), congrArg Host.Outcome.next (completionTimeout_d3hot hd moved)⟩
  · exact fun d ok data moved hp hx hk =>
      congrArg Host.Outcome.next ((descriptorDone_dark hd hr hp hx hk data ok moved).trans (dmaFail_eq _ _))
  · intro d ok data moved m t hp hx hk hm he
    refine congrArg Host.Outcome.next ((descriptorDone_moved hd hr hp hx hk hm).trans ?_)
    by_cases h0 : m.err = 0
    · have hok : ok = false := he.resolve_left (not_not_intro h0)
      rw [if_neg (not_not_intro h0), hok, if_pos (by decide), if_pos h0]
      exact dmaFail_eq _ _
    · rw [if_pos h0, if_neg h0]
      exact dmaFail_eq _ _
  · rintro ws d t e hp hdesc rfl rfl he
    have hf := descriptorFetch_read hd hr hp hdesc
    have he : (descTaken c d s).descError d ≠ 0 := he
    dsimp only at hf
    rw [if_pos he] at hf
    exact congrArg Host.Outcome.next (hf.trans (dmaFail_eq _ _))
  · exact fun ws moved r t hp ht =>
      ⟨congrArg Host.Outcome.next ((descriptorFetch_fails hd hr hp ht).trans (dmaFail_eq _ _)),
        congrArg Host.Outcome.next ((completionTimeout_fetch hd hr hp moved ht).trans (dmaFail_eq _ _))⟩
  · exact fun p moved hp => ⟨congrArg Host.Outcome.next ((completionTimeout_tail hd hr hp moved).trans (dmaFail_eq _ _)),
      congrArg (fun t => Host.Outcome.next (groomTurn (dmaHeld c t))) ((tailReread_lost hd hr hp).trans (dmaFail_eq _ _))⟩
  · exact fun code residue d ok hp he hx =>
      congrArg Host.Outcome.next (readbackDone_err (State.dmaIn_running hd hr _) hp he hx)
  · intro k d hk hp hx
    have hin := State.dmaIn_running hd hr fun _ => true
    obtain rfl | rfl : k = 0 ∨ k = 1 := by omega
    · exact congrArg Host.Outcome.next (readbackDone_report hin hp hx)
    · exact congrArg Host.Outcome.next (readbackDone_park hin hp hx)
  · exact fun d ha hp hx => ⟨congrArg Host.Outcome.next (readbackDone_abort (State.dmaIn_aborting hd ha _) hp hx),
      congrArg Host.Outcome.next (readbackDone_abort (State.dmaIn_aborting hd ha _) hp hx)⟩
  · exact fun d data moved ha hp hx hm hw => congrArg Host.Outcome.next (abortBurstDone_written hd ha hp hx hm hw)
  · exact fun hh => congrArg Host.Outcome.next ((State.holdOr_free hh).trans dmaTimer_eq)
end

section
/-! PROOF. Resets and power of the host bridge (R361, R371, R374, R375); Ethernet frames, the groom's turn, chains and
MDIO (R87, R92, R93, R95, R105, R403, R405). -/

open Sys2Proof Sys2Proof.Machine

namespace Sys2Proof.Machine

section
variable {s : State}

/-! ### The host bridge -/

/-- What a reset of the host bridge does whatever its kind. -/
def bridgeCleared (s : State) : State :=
  let t := (dmaStopAll ([(0 : Fin 4), 1, 2, 3].foldl (fun t n =>
    writeQCtrl n (F.CMD_Q_CTRL_EN.put 0 (t.reg (R.CMD_Q_CTRL n))) t) s)).resetRegs msixPage
  { t with host := { t.host with d3hot := false, backoff := false } }

/-- The link counted down. -/
def bridgeLinkDown (u : State) : State :=
  ((State.setFld { u with host := { u.host with linkUp := false } } R.HB_LINK F.HB_LINK_SPEED 0).setFld R.HB_LINK
    F.HB_LINK_WIDTH 0).incSat R.HB_LINK F.HB_LINK_DOWNS 1

theorem hostBridgeReset_eq (kind : HbReset) : hostBridgeReset kind s =
    let v := (if kind = .flr then bridgeCleared s else bridgeLinkDown (bridgeCleared s)).raise Ev.HB_RESET 0 0
    if kind = .linkDown then v.raise Ev.HB_LINK_DOWN 0 0 else v := by
  unfold hostBridgeReset bridgeCleared bridgeLinkDown
  rfl

theorem setBackoff_eq (waiting : Bool) : setBackoff waiting s =
    if waiting = true ∧ s.host.backoff = false then
      State.incSat { s with host := { s.host with backoff := true } } R.HB_BACKOFF F.HB_BACKOFF_COUNT 1
    else { s with host := { s.host with backoff := waiting } } := by
  cases waiting <;> cases h : s.host.backoff <;> simp [setBackoff, h]

/-! ### Ethernet frames -/

section
variable {port : Fin 2} {f : EthFrame}

theorem frameIn_off (h : s.ethOn port = false) : frameIn port f s = s := by
  simp only [frameIn, ethFilter, h, Bool.not_false, if_true]

theorem frameIn_filtered (h : s.ethOn port = true) (hf : s.frameOk port f = false) :
    frameIn port f s = filtered port s := by
  simp only [frameIn, ethFilter, h, hf, Bool.not_true, Bool.false_eq_true, if_false]

theorem frameIn_other (h : s.ethOn port = true) (hf : s.frameOk port f = true) (he : f.etherType ≠ 0x88B5) :
    frameIn port f s = s.incWrap (R.ETH_RX port) F.ETH_RX_GOOD 1 := by
  have he' : (f.etherType == 0x88B5) = false := beq_eq_false_iff_ne.mpr he
  simp only [frameIn, ethFilter, h, hf, he', Bool.not_true, Bool.false_eq_true, if_false, if_true]

theorem frameIn_command (h : s.ethOn port = true) (hf : s.frameOk port f = true) (he : f.etherType = 0x88B5) :
    frameIn port f s = cmdFrameIn port f (s.incWrap (R.ETH_RX port) F.ETH_RX_GOOD 1) := by
  have he' : (f.etherType == 0x88B5) = true := beq_iff_eq.mpr he
  simp only [frameIn, ethFilter, h, hf, he', Bool.not_true, Bool.false_eq_true, if_false, if_true]

end

section
variable {port : Nat} {f : EthFrame}

theorem cmdFrameIn_discarded (h : s.fld R.CMD_ETH_CTRL F.CMD_ETH_CTRL_PORT_EN / 2 ^ port % 2 = 0 ∨ bAt f.payload 1 ≠ 1
    ∨ s.sender f = none ∨ ∃ n, s.sender f = some n ∧ frameCmds n f = none) :
    cmdFrameIn port f s = s.incSat R.CMD_ETH_STATUS F.CMD_ETH_STATUS_DISCARD 1 := by
  unfold cmdFrameIn
  dsimp only
  split
  · rfl
  next hon =>
    rcases h with h | h | h | ⟨n, h, hn⟩
    · exact absurd (.inl h) hon
    · exact absurd (.inr h) hon
    · simp only [h]
    · simp only [h, hn]

section
variable {n : Fin 8} {cs : List Cmd} (hp : s.fld R.CMD_ETH_CTRL F.CMD_ETH_CTRL_PORT_EN / 2 ^ port % 2 ≠ 0)
  (hv : bAt f.payload 1 = 1) (hs : s.sender f = some n) (hc : frameCmds n f = some cs)
include hp hv hs hc

theorem cmdFrameIn_new {v : Via} (hvia : v = ⟨port, f.vlan, f.src, BitVec.ofNat 16 (bAt f.payload 2 + 256 * bAt f.payload 3)⟩)
    (hr : (s.port (8 + n.val)).replay.find? (fun e => e.1 = v.seq) = none) : cmdFrameIn port f s =
      groomTurn (s.setPort (8 + n.val) { s.port (8 + n.val) with
        last := v
        replay := keepSeq (s.port (8 + n.val)).replay v.seq
        queue := (s.port (8 + n.val)).queue ++ cs.map (fun c => (c, v)) }) := by
  subst hvia
  simp only [cmdFrameIn, if_neg (not_or.mpr ⟨hp, not_not_intro hv⟩), hs, hc, hr]

theorem cmdFrameIn_replayed {v : Via} {e : BitVec 16 × List Reply}
    (hvia : v = ⟨port, f.vlan, f.src, BitVec.ofNat 16 (bAt f.payload 2 + 256 * bAt f.payload 3)⟩)
    (hr : (s.port (8 + n.val)).replay.find? (fun e => e.1 = v.seq) = some e) : cmdFrameIn port f s =
      resend v e.2 (s.setPort (8 + n.val) { s.port (8 + n.val) with last := v }) := by
  subst hvia
  simp only [cmdFrameIn, if_neg (not_or.mpr ⟨hp, not_not_intro hv⟩), hs, hc, hr]

end
end

/-! ### The groom's turn (R95, R105) -/

/-- What the sources offer, in the order of the turn; a chain whose command still works offers nothing. -/
def State.offers (s : State) : List (Source × Cmd × Via × Nat) :=
  (sourcesFrom s.groom.turn).filterMap (fun src =>
    if (s.chainOf src).any (·.key.isSome) then none else (s.offer src).map (fun o => (src, o)))

theorem State.mem_offers {src : Source} {o : Cmd × Via × Nat} (hsrc : src ∈ sourcesFrom s.groom.turn)
    (hk : (s.chainOf src).any (·.key.isSome) = false) (ho : s.offer src = some o) : (src, o) ∈ s.offers :=
  List.mem_filterMap.mpr ⟨src, hsrc, by rw [hk, if_neg Bool.false_ne_true, ho]; rfl⟩

theorem State.nextCmd_urgent (hg : s.groomRuns = true) {e : Source × Cmd × Via × Nat}
    (hu : s.offers.find? (fun o => o.2.1.pkt.urgent) = some e) : s.nextCmd = some e := by
  unfold State.offers at hu
  simp only [State.nextCmd, hg, hu, Bool.not_true, Bool.false_eq_true, if_false]

theorem State.nextCmd_chain (hg : s.groomRuns = true) {e : Source × Cmd × Via × Nat}
    (hu : s.offers.find? (fun o => o.2.1.pkt.urgent) = none)
    (hc : s.offers.find? (fun o => (s.chainOf o.1).isSome) = some e) : s.nextCmd = some e := by
  unfold State.offers at hu hc
  simp only [State.nextCmd, hg, hu, hc, Bool.not_true, Bool.false_eq_true, if_false]

theorem State.nextCmd_turn (hg : s.groomRuns = true) (hu : s.offers.find? (fun o => o.2.1.pkt.urgent) = none)
    (hc : s.offers.find? (fun o => (s.chainOf o.1).isSome) = none) : s.nextCmd = s.offers.head? := by
  unfold State.offers at hu hc ⊢
  simp only [State.nextCmd, hg, hu, hc, Bool.not_true, Bool.false_eq_true, if_false]

/-- Where a source offers a command, one is chosen: an URGENT one before all others, then one of an open chain. -/
theorem State.nextCmd_of_offer (hg : s.groomRuns = true) {e : Source × Cmd × Via × Nat} (he : e ∈ s.offers) :
    ∃ e', s.nextCmd = some e' ∧ (e.2.1.pkt.urgent = true → e'.2.1.pkt.urgent = true)
      ∧ (e'.2.1.pkt.urgent = false → (s.chainOf e.1).isSome = true → (s.chainOf e'.1).isSome = true) := by
  cases hu : s.offers.find? (fun o => o.2.1.pkt.urgent) with
  | some e' =>
    have hurg : e'.2.1.pkt.urgent = true := List.find?_some (p := fun o : Source × Cmd × Via × Nat => o.2.1.pkt.urgent) hu
    exact ⟨e', State.nextCmd_urgent hg hu, fun _ => hurg, fun h => absurd hurg (by simp [h])⟩
  | none =>
    have hno : ¬ e.2.1.pkt.urgent = true := List.find?_eq_none.mp hu e he
    cases hc : s.offers.find? (fun o => (s.chainOf o.1).isSome) with
    | some e' =>
      have hopen : (s.chainOf e'.1).isSome = true := List.find?_some (p := fun o : Source × Cmd × Via × Nat => (s.chainOf o.1).isSome) hc
      exact ⟨e', State.nextCmd_chain hg hu hc, fun h => absurd h hno, fun _ _ => hopen⟩
    | none =>
      have hnc : ¬ (s.chainOf e.1).isSome = true := List.find?_eq_none.mp hc e he
      obtain ⟨e', rest, hl⟩ := List.exists_cons_of_ne_nil (List.ne_nil_of_mem he)
      exact ⟨e', by rw [State.nextCmd_turn hg hu hc, hl]; rfl, fun h => absurd h hno, fun _ h => absurd h hnc⟩

/-! ### MDIO (R405) -/

/-- The MDIO operation reads. -/
def State.mdioReads (t : State) : Bool :=
  if t.flag R.ETH_MDIO_CMD F.ETH_MDIO_CMD_CL45 then t.fld R.ETH_MDIO_CMD F.ETH_MDIO_CMD_OP == 3
  else t.fld R.ETH_MDIO_CMD F.ETH_MDIO_CMD_OP == 2

theorem State.mdioReads_true {t : State} (h : if t.flag R.ETH_MDIO_CMD F.ETH_MDIO_CMD_CL45 then
    t.fld R.ETH_MDIO_CMD F.ETH_MDIO_CMD_OP = 3 else t.fld R.ETH_MDIO_CMD F.ETH_MDIO_CMD_OP = 2) : t.mdioReads = true := by
  unfold State.mdioReads
  split at h <;> simp_all

theorem State.mdioReads_false {t : State} (h : if t.flag R.ETH_MDIO_CMD F.ETH_MDIO_CMD_CL45 then
    t.fld R.ETH_MDIO_CMD F.ETH_MDIO_CMD_OP ≠ 3 else t.fld R.ETH_MDIO_CMD F.ETH_MDIO_CMD_OP ≠ 2) : t.mdioReads = false := by
  unfold State.mdioReads
  split at h <;> simp_all

theorem mdioDone_eq {data : Option (BitVec 16)} (hd : s.dark 0x30 = false)
    (hb : s.flag R.ETH_MDIO_CMD F.ETH_MDIO_CMD_BUSY = true) : mdioDone data s =
    let t := s.setFlag R.ETH_MDIO_CMD F.ETH_MDIO_CMD_BUSY false
    if t.mdioReads then (t.setFlag R.ETH_MDIO_DATA F.ETH_MDIO_DATA_ERR data.isNone).setFld
      R.ETH_MDIO_DATA F.ETH_MDIO_DATA_DATA ((data.map (·.toNat)).getD 0xFFFF) else t := by
  have hno : (s.dark 0x30 || !s.flag R.ETH_MDIO_CMD F.ETH_MDIO_CMD_BUSY) = false := by rw [hd, hb]; rfl
  simp only [mdioDone, hno, Bool.false_eq_true, if_false]
  generalize s.setFlag R.ETH_MDIO_CMD F.ETH_MDIO_CMD_BUSY false = t
  change (if (!t.mdioReads) = true then _ else _) = _
  cases t.mdioReads
  · rfl
  · cases data <;> rfl

end

end Sys2Proof.Machine

/-- Settles O32. -/
theorem hostBridgeResetsAndPower : Obligations.HostBridgeResetsAndPower := by
  unfold Obligations.HostBridgeResetsAndPower
  intro s hd
  refine ⟨fun kind t u ht hu => ?_, fun waiting => ?_, fun speed width => ?_, ⟨rfl, ?_⟩, ⟨rfl, ?_⟩⟩
  · have hrow : exec (.hostBridgeReset kind) s = .next (hostBridgeReset kind s) :=
      congrArg Host.Outcome.next (if_neg (by rw [hd]; decide))
    have hc : bridgeCleared s = u := by rw [hu, ht, bridgeCleared]
    rw [hrow, hostBridgeReset_eq, hc]
    refine ⟨fun hk => ?_, fun hk => ⟨_, rfl, ?_⟩⟩
    · subst hk; rfl
    · simp only [if_neg hk]
      by_cases hl : kind = .linkDown
      · simp only [if_pos hl]; rfl
      · simp only [if_neg hl]; rfl
  · exact congrArg Host.Outcome.next ((if_neg (by rw [hd]; decide)).trans (setBackoff_eq waiting))
  · exact congrArg Host.Outcome.next (if_neg (by rw [hd]; decide))
  · simp [setD3hot, hd, State.bridgeOpen]
  · simp [setD3hot, hd]

/-- Settles O33. -/
theorem ethernetFramesChainsAndMdio : Obligations.EthernetFramesChainsAndMdio := by
  unfold Obligations.EthernetFramesChainsAndMdio
  refine ⟨fun port f s hh => ?_, fun s => ⟨fun src h hc => ?_, fun src hc => ?_, fun k src c v len hn => ?_,
    fun src o hg ho hk hsrc => ?_, fun hd hb => ⟨_, rfl, fun data => ⟨fun hr => ?_, fun hr => ?_⟩⟩⟩⟩
  · intro t both
    have rows {v : State} (h : frameIn port f s = v) : both v :=
      ⟨congrArg Host.Outcome.next h, congrArg Host.Outcome.next ((State.holdOr_free hh).trans h)⟩
    refine ⟨fun hoff => rows (frameIn_off hoff), fun hon => ⟨fun hf => rows (frameIn_filtered hon hf),
      fun hf he => rows (frameIn_other hon hf he), fun hf he => ⟨fun hno => ?_, fun n cs v p hp hv hs hc hvia hport => ?_⟩⟩⟩
    · exact rows ((frameIn_command hon hf he).trans (cmdFrameIn_discarded hno))
    · subst hport
      exact ⟨fun hr => rows ((frameIn_command hon hf he).trans (cmdFrameIn_new hp hv hs hc hvia hr)),
        fun e hr => rows ((frameIn_command hon hf he).trans (cmdFrameIn_replayed hp hv hs hc hvia hr))⟩
  · exact congrArg Host.Outcome.next (by simp only [chainTimeout, hc])
  · exact congrArg Host.Outcome.next (by simp only [chainTimeout, hc])
  · simp only [serve, hn]
  · obtain ⟨⟨src', o'⟩, hn, hu, hc⟩ := State.nextCmd_of_offer hg (State.mem_offers hsrc hk ho)
    exact ⟨src', o', hn, hu, hc⟩
  · refine congrArg Host.Outcome.next ((mdioDone_eq hd hb).trans ?_)
    dsimp only
    rw [State.mdioReads_true hr, if_pos rfl]
  · refine congrArg Host.Outcome.next ((mdioDone_eq hd hb).trans ?_)
    dsimp only
    rw [State.mdioReads_false hr, if_neg Bool.false_ne_true]
end

section
/-! PROOF. Lanes detect, train, align and drop (R117, R119–R122, R128, R514). -/

open Sys2Proof Sys2Proof.Machine

namespace Sys2Proof.Machine

section
variable {x : Nat} {s : State}

theorem State.laneState_of_laneIn {k : Nat} (h : s.laneIn x [k] = true) : s.laneState x = k := by
  simpa [State.laneIn] using (Bool.and_eq_true_iff.mp h).2

/-! ### Detect (R119, R120) -/

theorem detectDone_trains (h : s.laneIn x [Ls.detect] = true) (ho : 2 ≤ (s.lane x).ownBursts)
    (hp : 2 ≤ (s.lane x).partnerBursts) (hh : (s.lane x).holdoff = false) : detectDone x s = enterTrain x false s := by
  simp only [detectDone]
  exact if_pos ⟨State.laneState_of_laneIn h, ho, hp, by simp [hh]⟩

theorem detectDone_waits (h : (s.lane x).ownBursts < 2 ∨ (s.lane x).partnerBursts < 2 ∨ (s.lane x).holdoff = true) :
    detectDone x s = s := by
  simp only [detectDone]
  refine if_neg fun ⟨_, ho, hp, hh⟩ => ?_
  rcases h with h | h | h
  · omega
  · omega
  · simp [h] at hh

/-! ### Training (R121, R122, R128) -/

theorem trainMates_alone (h : s.bonded x = false ∨ s.laneState (mate x) ≠ Ls.train) : s.trainMates x = [x] := by
  unfold State.trainMates
  rcases h with h | h <;> simp [h]

theorem trainMates_pair (hb : s.bonded x = true) (hm : s.laneState (mate x) = Ls.train) : s.trainMates x = [x, mate x] := by
  simp [State.trainMates, hb, hm]

theorem attemptFailed_falls (hf : s.flag (R.LANE_CTRL x) F.LANE_CTRL_FALLBACK = true) (hr : 0 < (s.lane x).rate)
    (hn : s.repeats x = false) (hm : s.mateSet x = false) : attemptFailed x s =
      (s.trainMates x).foldl (fun t y => noteRetrain y (t.setLane y { t.lane y with
        rate := (s.lane x).rate - 1, attempts := (t.lane y).attempts + 1, trained := false })) s := by
  simp only [attemptFailed, hf, hn, hm, hr, decide_true, Bool.not_false, Bool.and_self, if_true]

theorem attemptFailed_fails (h : s.flag (R.LANE_CTRL x) F.LANE_CTRL_FALLBACK = false ∨ (s.lane x).rate = 0
    ∨ s.repeats x = true ∨ s.mateSet x = true) : attemptFailed x s = trainFail x s := by
  have hno : (s.flag (R.LANE_CTRL x) F.LANE_CTRL_FALLBACK && decide (0 < (s.lane x).rate) && !s.repeats x
      && !s.mateSet x) = false := by
    rcases h with h | h | h | h <;> simp [h]
  simp only [attemptFailed, hno, Bool.false_eq_true, if_false]

theorem trainTx_ok {p : PeerTrain} (hp : (s.lane x).peer = some p) (hr : p.ready = true)
    (he : s.fld (R.LANE_THRESH x) F.LANE_THRESH_TRAIN_MIN ≤ p.eye) (hs : s.rateStands x = true) :
    trainTx x s = trainOk x (if s.flag (R.LANE_TXEQ x) F.LANE_TXEQ_CUSTOM then 0 else (s.lane x).sentPreset) p.follow s := by
  simp only [trainTx, hp, hr, he, hs, decide_true, Bool.and_self, if_true]

theorem trainTx_failed (h : ∀ p, (s.lane x).peer = some p → p.ready = false
    ∨ p.eye < s.fld (R.LANE_THRESH x) F.LANE_THRESH_TRAIN_MIN ∨ s.rateStands x = false) :
    trainTx x s = attemptFailed x s := by
  cases hp : (s.lane x).peer with
  | none => simp only [trainTx, hp]
  | some p =>
    have hno : (p.ready && decide (s.fld (R.LANE_THRESH x) F.LANE_THRESH_TRAIN_MIN ≤ p.eye) && s.rateStands x) = false := by
      rcases h p hp with h | h | h
      · simp [h]
      · simp [show ¬ s.fld (R.LANE_THRESH x) F.LANE_THRESH_TRAIN_MIN ≤ p.eye by omega]
      · simp [h]
    simp only [trainTx, hp, hno, Bool.false_eq_true, if_false]

/-- The state in which the eye of a receive lane's attempt is judged. -/
def trainJudged (x : Nat) (r : TrainResult) (b : Best) (u : State) : State :=
  setEye x (eyeIndex r.hSteps.toNat r.vSteps.toNat) r.hSteps.toNat r.vSteps.toNat (sendTrain x b.preset b.eye false
    (if u.fastStart x then u else (u.triedPresets x).foldl (fun t p => sendTrain x p 0 false t) u))

/-- What a successful attempt of a receive lane leaves in its registers. -/
def trainKept (x : Nat) (r : TrainResult) (b : Best) (v : State) : State :=
  ((((v.setFlag (R.LANE_STATUS x) F.LANE_STATUS_POL_INV r.polInv).setFld (R.LANE_STATUS x) F.LANE_STATUS_CTLE_USED
    b.ctle).setReg (R.LANE_DFE_LO x) (tapsOf 0 r.dfeLo)).setReg (R.LANE_DFE_HI x) (tapsOf 4 r.dfeHi))

theorem trainRx_eq (r : TrainResult) : trainRx x r s =
    let b := if s.fastStart x then s.storedBest x else s.search x r
    let eye := eyeIndex r.hSteps.toNat r.vSteps.toNat
    let v := trainJudged x r b s
    let w := trainKept x r b v
    if v.fld (R.LANE_THRESH x) F.LANE_THRESH_TRAIN_MIN ≤ eye ∧ v.rateStands x = true then
      trainOk x b.preset r.partnerFollow (sendTrain x b.preset eye true (if x % 2 = 0
        then w.setFlag (R.LANE_STATUS x) F.LANE_STATUS_REVERSED (w.bonded x && r.oddBlock) else w))
    else if s.fastStart x then v.setLane x { v.lane x with full := true } else attemptFailed x v := by
  unfold trainRx trainJudged trainKept
  simp only [Bool.and_eq_true, decide_eq_true_eq]

theorem trainComplete_still (h : s.laneIn x [Ls.train] = false ∨ (s.lane x).trained = true) (r : TrainResult) :
    trainComplete x r s = s := by
  have hstop : (!s.laneIn x [Ls.train] || (s.lane x).trained) = true := by rcases h with h | h <;> simp [h]
  simp only [trainComplete, hstop, if_true]

theorem trainComplete_attempt (h : s.laneIn x [Ls.train] = true) (ht : (s.lane x).trained = false) (r : TrainResult) :
    trainComplete x r s = if x < 32 then trainRx x r (limitRate x r.partnerRate.toNat s) else trainTx x s := by
  have hgo : (!s.laneIn x [Ls.train] || (s.lane x).trained) = false := by rw [h, ht]; rfl
  simp only [trainComplete, hgo, Bool.false_eq_true, if_false]

/-! ### Align (R119, R128) -/

/-- A lane that has locked. -/
def alignLocked (x : Nat) (s : State) : State := s.setLane x { s.lane x with
  aligned := true, cwIndex := 1, scr := BitVec.ofNat 23 (scrAfterAlign (s.laneOne x)), missed := 0 }

theorem alignLock_eq (h : s.laneIn x [Ls.align] = true) (skew : Nat) : alignLock x skew s =
    let up (y : Nat) (t : State) : State := pmRequest y (reachUp y t)
    if s.bonded x = false then up x (alignLocked x s)
    else if 32 < skew then alignLocked x s
    else if (alignLocked x s).laneState (mate x) = Ls.up then up x (alignLocked x s)
    else if (alignLocked x s).laneState (mate x) = Ls.align ∧ ((alignLocked x s).lane (mate x)).aligned = true then
      up (mate x) (up x (alignLocked x s))
    else alignLocked x s := by
  have hb : (alignLocked x s).bonded x = s.bonded x := rfl
  unfold alignLock
  simp only [h, Bool.not_true, Bool.false_eq_true, if_false, Bool.not_eq_true', ← hb]
  rfl

theorem alignLock_still (h : s.laneIn x [Ls.align] = false) (skew : Nat) : alignLock x skew s = s := by
  simp only [alignLock, h, Bool.not_false, if_true]

theorem alignTimeout_eq (h : s.laneIn x [Ls.align] = true) : alignTimeout x s =
    let back (y : Nat) (t : State) : State := enterTrain y false (noteRetrain y t)
    if s.bonded x = true ∧ s.laneState (mate x) = Ls.align then back (mate x) (back x s) else back x s := by
  simp only [alignTimeout, h, Bool.not_true, Bool.false_eq_true, if_false, Bool.and_eq_true, beq_iff_eq]

theorem alignTimeout_still (h : s.laneIn x [Ls.align] = false) : alignTimeout x s = s := by
  simp only [alignTimeout, h, Bool.not_false, if_true]

/-! ### Low eyes (R117, R119, R514) -/

theorem eyeLow_acts (h : s.laneIn x [Ls.up, Ls.doze] = true) (hs : ∀ e, s.test.eye = some e → e.lane ≠ x)
    (he : s.eyeNow x < s.fld (R.LANE_THRESH x) F.LANE_THRESH_DROP_MIN) : eyeLow x s =
      if s.flag (R.LANE_CTRL x) F.LANE_CTRL_AUTO_RETRAIN then enterTrain x false (noteRetrain x s)
      else s.raise Ev.LANE_EYE_LOW (laneUnit x) 0 := by
  have hd : decide (s.fld (R.LANE_THRESH x) F.LANE_THRESH_DROP_MIN ≤ s.eyeNow x) = false := decide_eq_false (by omega)
  cases hsc : s.test.eye with
  | none => simp only [eyeLow, h, hd, hsc, Bool.not_true, Bool.or_self, Bool.false_eq_true, if_false]
  | some e =>
    have hne : (e.lane == x) = false := beq_eq_false_iff_ne.mpr (hs e hsc)
    simp only [eyeLow, h, hd, hsc, hne, Bool.not_true, Bool.or_self, Bool.false_eq_true, if_false]

theorem eyeLow_still (h : s.laneIn x [Ls.up, Ls.doze] = false ∨ (∃ e, s.test.eye = some e ∧ e.lane = x)
    ∨ s.fld (R.LANE_THRESH x) F.LANE_THRESH_DROP_MIN ≤ s.eyeNow x) : eyeLow x s = s := by
  unfold eyeLow
  refine if_pos ?_
  rcases h with h | ⟨e, he, hx⟩ | h
  · simp [h]
  · simp [he, hx]
  · simp [h]

end

end Sys2Proof.Machine

/-- Settles O34. -/
theorem lanesDetectAndTrain : Obligations.LanesDetectAndTrain := by
  unfold Obligations.LanesDetectAndTrain
  intro x s l least fall fails
  refine ⟨fun hin => ⟨?_, fun hh => ?_, fun hh => ?_, ?_, fun ho hp hh => ?_, fun h => ?_⟩, fun hin => ⟨?_, ?_, ?_⟩,
    fun hin => ⟨?_, fun r => ?_⟩, fun hin => ?_, fun ht r => ?_, fun hin ht hx r => ⟨fun p hp hr he hs => ?_, fun h => ?_⟩,
    fun hin ht hx r u v w b eye hu hb heye hv hw => ?_, fun hf hr hn hm => ⟨fun h => ?_, fun hb h => ?_⟩, fun h => ?_⟩
  · exact congrArg Host.Outcome.next (if_neg (by rw [hin]; decide))
  · exact congrArg Host.Outcome.next (if_neg (by rw [hin, hh]; decide))
  · exact congrArg Host.Outcome.next (if_pos (by rw [hin, hh]; decide))
  · exact congrArg Host.Outcome.next (if_pos hin)
  · exact detectDone_trains hin ho hp hh
  · exact detectDone_waits h
  · exact congrArg Host.Outcome.next (if_pos (by rw [hin]; rfl))
  · exact congrArg Host.Outcome.next (if_pos (by rw [hin]; rfl))
  · exact congrArg Host.Outcome.next (if_neg (by rw [hin]; decide))
  · exact congrArg Host.Outcome.next (if_neg (by rw [hin]; decide))
  · exact congrArg Host.Outcome.next (trainComplete_still (.inl hin) r)
  · exact congrArg Host.Outcome.next (if_pos hin)
  · exact congrArg Host.Outcome.next (trainComplete_still (.inr ht) r)
  · exact congrArg Host.Outcome.next ((trainComplete_attempt hin ht r).trans
      ((if_neg (by omega)).trans (trainTx_ok hp hr he hs)))
  · exact congrArg Host.Outcome.next ((trainComplete_attempt hin ht r).trans
      ((if_neg (by omega)).trans (trainTx_failed h)))
  · have hrx : exec (.trainComplete x r) s = .next (trainRx x r u) :=
      congrArg Host.Outcome.next ((trainComplete_attempt hin ht r).trans ((if_pos hx).trans (by rw [hu])))
    rw [trainRx_eq] at hrx
    subst hb heye hv hw
    refine ⟨fun he hs => ?_, fun h => ⟨fun hfast => ?_, fun hfast => ?_⟩⟩
    · exact hrx.trans (congrArg Host.Outcome.next (if_pos ⟨he, hs⟩))
    · have hno := not_and_of_not_or_not (h.imp Nat.not_le_of_gt Bool.eq_false_iff.mp)
      exact hrx.trans (congrArg Host.Outcome.next ((if_neg hno).trans (if_pos hfast)))
    · have hno := not_and_of_not_or_not (h.imp Nat.not_le_of_gt Bool.eq_false_iff.mp)
      exact hrx.trans (congrArg Host.Outcome.next ((if_neg hno).trans (if_neg (Bool.eq_false_iff.mp hfast))))
  · rw [attemptFailed_falls hf hr hn hm, trainMates_alone h]
    rfl
  · rw [attemptFailed_falls hf hr hn hm, trainMates_pair hb h]
    rfl
  · exact attemptFailed_fails h

/-- Settles O35. -/
theorem lanesAlignAndDrop : Obligations.LanesAlignAndDrop := by
  unfold Obligations.LanesAlignAndDrop
  intro x s locked up back down
  refine ⟨fun hin => ⟨fun hb skew => ?_, fun hb skew hs => ?_, fun hb skew hs => ⟨fun hm => ?_, fun hm ha => ?_,
    fun hu hm => ?_⟩, fun h => ?_, fun hb hm => ?_⟩, fun hin => ⟨fun skew => ?_, ?_⟩, fun h => ?_, fun h => ?_,
    fun h hs he => ?_, fun h => ?_, fun h => ?_, fun h => ?_, fun h hx => ?_, fun h => ?_⟩
  · exact congrArg Host.Outcome.next ((alignLock_eq hin skew).trans (if_pos hb))
  · exact congrArg Host.Outcome.next ((alignLock_eq hin skew).trans
      ((if_neg (by rw [hb]; decide)).trans (if_pos hs)))
  · exact congrArg Host.Outcome.next ((alignLock_eq hin skew).trans
      ((if_neg (by rw [hb]; decide)).trans ((if_neg (by omega)).trans (if_pos hm))))
  · have hu : ¬ (alignLocked x s).laneState (mate x) = Ls.up := fun h => absurd (h.symm.trans hm) (by decide)
    exact congrArg Host.Outcome.next ((alignLock_eq hin skew).trans
      ((if_neg (by rw [hb]; decide)).trans ((if_neg (by omega)).trans ((if_neg hu).trans (if_pos ⟨hm, ha⟩)))))
  · have hno := not_and_of_not_or_not (hm.imp id Bool.eq_false_iff.mp)
    exact congrArg Host.Outcome.next ((alignLock_eq hin skew).trans
      ((if_neg (by rw [hb]; decide)).trans ((if_neg (by omega)).trans ((if_neg hu).trans (if_neg hno)))))
  · have hno := not_and_of_not_or_not (h.imp Bool.eq_false_iff.mp id)
    exact congrArg Host.Outcome.next ((alignTimeout_eq hin).trans (if_neg hno))
  · exact congrArg Host.Outcome.next ((alignTimeout_eq hin).trans (if_pos ⟨hb, hm⟩))
  · exact congrArg Host.Outcome.next (alignLock_still hin skew)
  · exact congrArg Host.Outcome.next (alignTimeout_still hin)
  · exact congrArg Host.Outcome.next (if_pos h)
  · exact congrArg Host.Outcome.next (if_neg (Bool.eq_false_iff.mp h))
  · exact congrArg Host.Outcome.next (eyeLow_acts h hs he)
  · exact congrArg Host.Outcome.next (eyeLow_still h)
  · exact congrArg Host.Outcome.next (if_pos h)
  · exact congrArg Host.Outcome.next (if_neg (Bool.eq_false_iff.mp h))
  · exact congrArg Host.Outcome.next (if_pos (by rw [h, decide_eq_true hx]; rfl))
  · refine congrArg Host.Outcome.next (if_neg ?_)
    rcases h with h | h
    · rw [h, Bool.false_and]; decide
    · rw [decide_eq_false (by omega), Bool.and_false]; decide
end

section
/-! PROOF. Low-power states of lanes (R118, R124–R126), and link messages that arrive whole (R147, R446). -/

open Sys2Proof Sys2Proof.Machine

namespace Sys2Proof.Machine

/-! ### A message reaches its lane (R147, R446) -/

section
variable {x : Nat} {h : MsgHdr} {w : Work} {f : State → State} {s : State}

theorem onLane_held (hh : s.holdsWork (laneDomain x) = true) :
    onLane x w h f s = { s with pwr := { s.pwr with heldWork := s.pwr.heldWork ++ [w] } } := by
  simp only [onLane, State.holdOr, hh, if_true]

theorem onLane_dead (hh : s.holdsWork (laneDomain x) = false) (hl : s.linkLive x = false) : onLane x w h f s = s := by
  rw [onLane, State.holdOr_free hh, rxMsg, hl]
  rfl

theorem onLane_crc (hh : s.holdsWork (laneDomain x) = false) (hl : s.linkLive x = true) (hc : h.crcOk = false) :
    onLane x w h f s = s.incSat (R.LINK_MSG x) F.LINK_MSG_CRC_ERR 1 := by
  rw [onLane, State.holdOr_free hh, rxMsg, hl, hc]
  rfl

theorem onLane_whole (hh : s.holdsWork (laneDomain x) = false) (hl : s.linkLive x = true) (hc : h.crcOk = true) :
    onLane x w h f s = f s := by
  rw [onLane, State.holdOr_free hh, rxMsg, hl, hc]
  rfl

/-- Every message that a lane takes as its own goes through the lane's door. -/
theorem exec_laneMessage {i : Instr} (hi : laneMessage i = some (x, h, w)) (s : State) :
    ∃ f, exec i s = .next (onLane x w h f s) := by
  unfold laneMessage at hi
  split at hi <;> cases hi <;> exact ⟨_, rfl⟩

end

section
variable {x : Nat} {s : State}

/-! ### PM (R124) -/

/-- The answer to a PM request. -/
def pmReply (x : Nat) (h : MsgHdr) (s : State) (c : Nat) : State :=
  s.sendMsg x Mt.PM h.seq.toNat h.port.toNat [BitVec.ofNat 8 c]

section
variable {h : MsgHdr} {c : Nat}

theorem rxPm_accepts (hc : c = 1 ∨ c = 2) (hu : s.laneUp x = true) (hl : s.lead x = false) :
    rxPm x h c s = acceptLow x (c + 4) (pmReply x h s 3) := by
  rcases hc with rfl | rfl <;> simp only [rxPm, hu, hl, Bool.not_false, Bool.and_self, if_true] <;> rfl

theorem rxPm_refuses (hc : c = 1 ∨ c = 2) (hn : s.laneUp x = false ∨ s.lead x = true) :
    rxPm x h c s = pmReply x h s 5 := by
  have hno : (s.laneUp x && !s.lead x) = false := by rcases hn with h | h <;> simp [h]
  rcases hc with rfl | rfl <;> simp only [rxPm, hno, Bool.false_eq_true, if_false] <;> rfl

theorem rxPm_acknowledged {t n : Nat} (hr : (s.lane x).pmReq = some (t, n)) : rxPm x h 3 s = acceptLow x t s := by
  simp only [rxPm, hr]

theorem rxPm_unasked (hr : (s.lane x).pmReq = none) : rxPm x h 3 s = s := by
  simp only [rxPm, hr]

theorem rxPm_other (hc : c = 0 ∨ 4 < c) : rxPm x h c s = s := by
  unfold rxPm
  dsimp only
  split
  · omega
  · omega
  · omega
  · omega
  · rfl

end

theorem pmTimeout_none (hr : (s.lane x).pmReq = none) : pmTimeout x s = s := by
  simp only [pmTimeout, hr]

theorem pmTimeout_some {t n : Nat} (hr : (s.lane x).pmReq = some (t, n)) : pmTimeout x s =
    if n < 3 then pmSend x (t - 4) (s.setLane x { s.lane x with pmReq := some (t, n + 1) })
    else (s.setLane x { s.lane x with pmReq := none, pmExit := false, pmAsk := false }).raise Ev.LANE_PM_NAK (laneUnit x) 0 := by
  unfold pmTimeout
  split
  next h => simp [h] at hr
  next t' n' h =>
    obtain ⟨rfl, rfl⟩ : t' = t ∧ n' = n := by simpa [h] using hr
    rfl

/-! ### Entry and exit at an alignment codeword (R124) -/

theorem atAlignment_waits (h : s.pmWaits x = true) : atAlignment x s = s := by
  simp only [atAlignment, h, if_true]

theorem atAlignment_enters {t : Nat} (h : s.pmWaits x = false) (hu : s.laneState x = Ls.up)
    (hn : (s.lane x).pmNext = some t) : atAlignment x s = enterLow x t s := by
  simp only [atAlignment, h, hn, hu, Bool.false_eq_true, if_false, if_true]

theorem atAlignment_leaves (h : s.pmWaits x = false) (hd : s.laneState x = Ls.doze) (hn : (s.lane x).pmNext = none)
    (he : (s.lane x).pmExit = true) : atAlignment x s = leaveDoze x s := by
  simp only [atAlignment, h, hn, hd, he, Bool.false_eq_true, if_false, true_and, if_true]

/-! ### The exit from deep (R126) -/

/-- The eye index that a deep exit judges: the hub's own measurement, or the partner's report. -/
def deepEye (x hs vs e : Nat) : Nat := if x < 32 then eyeIndex hs vs else e

/-- The state with the eye of a deep exit noted. -/
def deepNoted (x hs vs e : Nat) (s : State) : State :=
  if x < 32 then setEye x (deepEye x hs vs e) hs vs s else setEye x (deepEye x hs vs e) 0 0 s

/-- The stored equaliser of a receive lane restored. -/
def deepRestored (x : Nat) (u : State) : State :=
  match (u.lane x).stored with
  | some (_, c, lo, hi) =>
    if x < 32 then ((u.setFld (R.LANE_STATUS x) F.LANE_STATUS_CTLE_USED c).setReg (R.LANE_DFE_LO x) lo).setReg (R.LANE_DFE_HI x) hi
    else u
  | none => u

theorem deepRestored_stored {p c : Nat} {lo hi : Word} (hx : x < 32) (hs : (s.lane x).stored = some (p, c, lo, hi)) :
    deepRestored x s =
      ((s.setFld (R.LANE_STATUS x) F.LANE_STATUS_CTLE_USED c).setReg (R.LANE_DFE_LO x) lo).setReg (R.LANE_DFE_HI x) hi := by
  simp only [deepRestored, hs, if_pos hx]

theorem deepRestored_none (h : 32 ≤ x ∨ (s.lane x).stored = none) : deepRestored x s = s := by
  unfold deepRestored
  split
  next hs =>
    rcases h with h | h
    · exact if_neg (by omega)
    · simp [h] at hs
  · rfl

theorem deepExit_still (h : s.laneIn x [Ls.deep] = false) (hs vs e : Nat) : deepExit x hs vs e s = s := by
  simp only [deepExit, h, Bool.not_false, if_true]

theorem deepExit_eq (h : s.laneIn x [Ls.deep] = true) (hs vs e : Nat) : deepExit x hs vs e s =
    let v := deepRestored x (deepNoted x hs vs e s)
    let w := v.setLane x { v.lane x with pmExit := false }
    if w.fld (R.LANE_THRESH x) F.LANE_THRESH_TRAIN_MIN ≤ deepEye x hs vs e then
      (enterLane x Ls.align w).setLane x { (enterLane x Ls.align w).lane x with txIndex := 0 }
    else enterTrain x true w := by
  have hno : ¬ (!s.laneIn x [Ls.deep]) = true := by rw [h]; decide
  rw [deepExit, if_neg hno]
  rfl

end

end Sys2Proof.Machine

/-- Settles O36. -/
theorem lanesEnterAndLeaveLowPower : Obligations.LanesEnterAndLeaveLowPower := by
  unfold Obligations.LanesEnterAndLeaveLowPower
  intro x s l
  refine ⟨fun h hh hl hc => ?_, fun t n hr hn => ?_, fun t n hr hn => ?_, fun hr => ?_, atAlignment_waits,
    fun t hw hu hn => atAlignment_enters hw hu hn, fun hw hd hn he => atAlignment_leaves hw hd hn he,
    fun hin hs vs e i u v w hi hu hv hv' hw => ?_, fun hin hs vs e => ?_, fun hin hx => ?_, fun hin => ?_⟩
  · have row (c : Byte) : exec (.pm x h c) s = .next (rxPm x h c.toNat s) :=
      congrArg Host.Outcome.next (onLane_whole hh hl hc)
    refine ⟨fun c hcode hu hlead => ?_, fun c hcode hn => ?_, fun t n hr => ?_, fun hr => ?_, ?_, fun c hcode => ?_⟩
    · exact (row c).trans (congrArg _ (rxPm_accepts (by rcases hcode with rfl | rfl <;> decide) hu hlead))
    · exact (row c).trans (congrArg _ (rxPm_refuses (by rcases hcode with rfl | rfl <;> decide) hn))
    · exact (row 3).trans (congrArg _ (rxPm_acknowledged hr))
    · exact (row 3).trans (congrArg _ (rxPm_unasked hr))
    · exact row 4
    · exact (row c).trans (congrArg _ (rxPm_other (hcode.imp (fun h => by rw [h]; rfl) id)))
  · exact congrArg Host.Outcome.next ((pmTimeout_some hr).trans (if_pos hn))
  · exact congrArg Host.Outcome.next ((pmTimeout_some hr).trans (if_neg (by omega)))
  · exact congrArg Host.Outcome.next (pmTimeout_none hr)
  · have hrow : exec (.deepExitComplete x ⟨hs, vs, e⟩) s = .next (deepExit x hs.toNat vs.toNat e.toNat s) := rfl
    have hi' : i = deepEye x hs.toNat vs.toNat e.toNat := hi
    have hu' : u = deepNoted x hs.toNat vs.toNat e.toNat s := by rw [hu, hi']; rfl
    have hrest : v = deepRestored x u := by
      by_cases hx : x.val < 32
      · cases hst : (u.lane x).stored with
        | none => rw [hv' (.inr hst), deepRestored_none (.inr hst)]
        | some q =>
          obtain ⟨p, c, lo, hi⟩ := q
          rw [hv p c lo hi hx hst, deepRestored_stored hx hst]
      · rw [hv' (.inl (by omega)), deepRestored_none (.inl (by omega))]
    clear hi hu hv hv'
    subst hi' hu' hrest hw
    rw [hrow, deepExit_eq hin]
    exact ⟨fun h => congrArg Host.Outcome.next (if_pos h), fun h => congrArg Host.Outcome.next (if_neg (by omega))⟩
  · exact congrArg Host.Outcome.next (deepExit_still hin _ _ _)
  · exact congrArg Host.Outcome.next (if_pos (by rw [hin, decide_eq_true hx]; rfl))
  · refine congrArg Host.Outcome.next (if_neg ?_)
    rcases hin with h | h
    · rw [h, Bool.false_and]; decide
    · rw [decide_eq_false (by omega), Bool.and_false]; decide

/-- Settles O37. -/
theorem linkMessagesArriveWhole : Obligations.LinkMessagesArriveWhole := by
  unfold Obligations.LinkMessagesArriveWhole
  intro i x h w s hi
  obtain ⟨f, hf⟩ := exec_laneMessage hi s
  rw [hf]
  exact ⟨fun hh => congrArg _ (onLane_held hh), fun hh hl => congrArg _ (onLane_dead hh hl),
    fun hh hl hc => congrArg _ (onLane_crc hh hl hc)⟩
end

section
/-! PROOF. The effects of link messages (R121, R147 to R163, R350). -/

open Sys2Proof Sys2Proof.Machine

namespace Sys2Proof.Machine

section
variable {x y : Nat} {h : MsgHdr} {s t : State}

/-! ### Relay (R162) -/

theorem relayOr_none {f : State → State} {m : Nat} {b : List Byte} (hr : s.relayTo x = none) : relayOr x h m b f s = f s := by
  simp only [relayOr, hr]

theorem relayOr_some {f : State → State} {m : Nat} {b : List Byte} (hr : s.relayTo x = some y) :
    relayOr x h m b f s = s.sendMsg y m h.seq.toNat h.port.toNat b := by
  simp only [relayOr, hr]

/-! ### The messages' effects, case by case -/

theorem rxTrain_receive {req eye flags rates : Byte} (hx : x < 32) :
    rxTrain x h req eye flags rates s = sendNak x h Mt.TRAIN s := by
  simp only [rxTrain, hx, if_true]

theorem rxTrain_idle {req eye flags rates : Byte} (hx : 32 ≤ x) (hs : s.laneState x ≠ Ls.train) :
    rxTrain x h req eye flags rates s = s := by
  rw [rxTrain, if_neg (by omega), if_pos hs]

theorem rxTrain_training {req eye flags rates : Byte} (hx : 32 ≤ x) (hs : s.laneState x = Ls.train) {u : State}
    (ht : t = setEye x eye.toNat 0 0 s)
    (hu : u = limitRate x (rates.toNat % 4) (t.setLane x { t.lane x with
      peer := some ⟨flags.getLsbD 0, eye.toNat, rates.toNat % 4, flags.getLsbD 2⟩ })) :
    rxTrain x h req eye flags rates s = if req.toNat < 8
        ∧ u.fld (R.LANE_TXEQ x) F.LANE_TXEQ_PRESET_MASK / 2 ^ req.toNat % 2 = 1 ∧ u.flag (R.LANE_TXEQ x) F.LANE_TXEQ_CUSTOM = false
      then u.setLane x { u.lane x with
        sentPreset := req.toNat, full := (u.lane x).full || req.toNat != (u.lane x).sentPreset } else u := by
  subst ht hu
  simp only [rxTrain, if_neg (Nat.not_lt.mpr hx), hs, ne_eq, not_true_eq_false, if_false, Bool.not_eq_true']

theorem rxEye_receive {eye : Byte} (hx : x < 32) : rxEye x h eye s = sendNak x h Mt.EYE s := by
  simp only [rxEye, hx, if_true]

theorem rxEye_transmit {eye : Byte} (hx : 32 ≤ x) : rxEye x h eye s = setEye x eye.toNat 0 0 s :=
  if_neg (Nat.not_lt.mpr hx)

theorem rxKeepalive_receive (hx : x < 32) : rxKeepalive x h s = sendNak x h Mt.KEEPALIVE s := if_pos hx

theorem rxKeepalive_transmit (hx : 32 ≤ x) : rxKeepalive x h s = s := if_neg (Nat.not_lt.mpr hx)

theorem rxTrigAck_waiting {tick : BitVec 16} (hm : tick ∈ (s.link x).trigs) : rxTrigAck x h tick s = trigAck x tick s :=
  if_pos (List.contains_iff_mem.mpr hm)

theorem rxTrigAck_stray {tick : BitVec 16} (hm : tick ∉ (s.link x).trigs) : rxTrigAck x h tick s =
    relayOr x h Mt.TRIG_ACK (beBytes 2 tick.toNat) (fun t => if x < 32 then t else sendNak x h Mt.TRIG_ACK t) s :=
  if_neg (fun h => hm (List.contains_iff_mem.mp h))

theorem rxAuthRespMsg_unasked {key sig : List Byte} (ha : (s.link x).auth = none) : rxAuthRespMsg x h key sig s =
    relayOr x h Mt.AUTH_RESP (key ++ sig) (fun t => t) s := by
  simp only [rxAuthRespMsg, ha, Option.isSome_none, Bool.false_eq_true, if_false]

theorem rxAuthRespMsg_asked {key sig : List Byte} (ha : (s.link x).auth.isSome = true) :
    rxAuthRespMsg x h key sig s = rxAuthResp x key sig s := by
  simp only [rxAuthRespMsg, ha, if_true]

section
variable {st r : Byte} {c v : Word} {body : List Byte}

theorem rxEchoMsg_receive (hx : x < 32) : rxEchoMsg x h st r c v s = sendNak x h Mt.ECHO s := if_pos hx

theorem rxEchoMsg_transmit (hx : 32 ≤ x) : rxEchoMsg x h st r c v s =
    relayOr x h Mt.ECHO ([st, r, 0, 0] ++ beBytes 4 c.toNat ++ beBytes 4 v.toNat)
      (rxEcho (x - 32) st.toNat r.toNat c v) s :=
  if_neg (Nat.not_lt.mpr hx)

theorem rxFrameStatusMsg_receive (hx : x < 32) : rxFrameStatusMsg x h body s =
    relayOr x h Mt.FRAME_STATUS body (fun t => t) (rxFrameStatus x body s) := if_pos hx

theorem rxFrameStatusMsg_transmit (hx : 32 ≤ x) : rxFrameStatusMsg x h body s =
    relayOr x h Mt.FRAME_STATUS body (sendNak x h Mt.FRAME_STATUS) s := if_neg (Nat.not_lt.mpr hx)

end

/-- The state in which a NAK has been counted. -/
def nakCounted (x : Nat) (s : State) : State := s.incSat (R.LINK_MSG x) F.LINK_MSG_NAK 1

theorem rxNak_challenge {m : Byte} (hm : m.toNat = Mt.AUTH_CHAL) (ha : ((nakCounted x s).link x).auth.isSome = true) :
    rxNak x h m s = authEnd x 2 0 (nakCounted x s) := if_pos ⟨hm, ha⟩

theorem rxNak_other {m : Byte} (hm : m.toNat ≠ Mt.AUTH_CHAL ∨ ((nakCounted x s).link x).auth.isSome = false) :
    rxNak x h m s = relayOr x h Mt.NAK [m] (fun t => t) (nakCounted x s) := by
  refine if_neg (fun ⟨h1, h2⟩ => ?_)
  rcases hm with hm | hm
  · exact hm h1
  · rw [show ((s.incSat (R.LINK_MSG x) F.LINK_MSG_NAK 1).link x).auth.isSome = false from hm] at h2
    exact Bool.false_ne_true h2

section
variable {o p : Byte} {k : BitVec 16} {d : Word} {n : Nat}

theorem rxTrigger_unrelayed (hr : s.relayTo x = none) : rxTrigger x h o p k d n s = sendNak x h Mt.TRIGGER s := by
  simp only [rxTrigger, hr]

theorem rxTrigger_relayed (hr : s.relayTo x = some y) {ns : Int}
    (hn : ns = roundUpHalf ((d.toNat : Int) * 1000 - (n : Int) - s.oneWay (if x < 32 then x else y)) 1000) :
    rxTrigger x h o p k d n s = if ns < 1000 then trigMiss y s else s.sendMsg y Mt.TRIGGER h.seq.toNat h.port.toNat
      ([o, p] ++ beBytes 2 k.toNat ++ beBytes 4 (ns.toNat % 2 ^ 28)) := by
  subst hn
  simp only [rxTrigger, hr]

end

theorem rxAuthChal_answered {nonce : List Byte} (hr : s.relayTo x = none) {serial : List Byte}
    (hs : ∀ b, (s.link x).ident = some b → serial = beBytes 4 (identSerial b))
    (hf : (s.link x).ident = none → serial = wordBytes (Config.freeWord (s.fresh + 1))) :
    rxAuthChal x h nonce s = State.sendMsg { s with fresh := s.fresh + 2 } x Mt.AUTH_RESP h.seq.toNat h.port.toNat
      (Config.devicePublic s.sec.otp.uniqueSecret ++ Config.deviceSign s.sec.otp.uniqueSecret (Config.sha384
        (nonce ++ serial ++ [(Config.freeWord s.fresh).extractLsb' 0 8] ++ s.hubIdent))) := by
  rw [rxAuthChal, relayOr_none hr]
  cases hi : (s.link x).ident with
  | none =>
    rw [hf hi]
    have hi' : (State.link { s with fresh := s.fresh + 1 + 1 } x).ident = none := hi
    simp only [State.draw, hi']
    rfl
  | some b =>
    rw [hs b hi]
    have hi' : (State.link { s with fresh := s.fresh + 1 + 1 } x).ident = some b := hi
    simp only [State.draw, hi']
    rfl

end

section
variable {x : Nat} {h : MsgHdr} {w : Work} {f : State → State} {s t : State}

/-- A message that arrives whole on a live lane has its effect. -/
theorem exec_arrived {i : Instr} (hh : s.holdsWork (laneDomain x) = false) (hl : s.linkLive x = true) (hc : h.crcOk = true)
    (hi : exec i s = .next (onLane x w h f s)) (hf : f s = t) : exec i s = .next t := by
  rw [hi, onLane_whole hh hl hc, hf]

end

end Sys2Proof.Machine

/-- Settles O38. -/
theorem linkMessagesHaveTheirEffect : Obligations.LinkMessagesHaveTheirEffect := by
  unfold Obligations.LinkMessagesHaveTheirEffect
  refine ⟨fun x h s hh hl hc => ⟨fun req eye flags rates => ⟨fun hx => ?_, fun hx hs => ?_, fun hx hs t u ht hu => ?_⟩,
    fun eye a b => ⟨fun hx => ?_, fun hx => ?_⟩, ⟨fun hx => ?_, fun hx => ?_⟩, fun id => ?_, fun tick hm => ?_,
    fun hr => ⟨fun l m => ?_, ?_, fun body => ?_, fun o p k d n => ?_, fun tick hm => ?_, fun key sig ha => ?_,
      fun hx body => ?_, fun hx st r c v => ?_⟩,
    fun hx st r c v => ?_, fun hx body t ht => ⟨fun hr => ?_, fun y hr => ?_⟩, fun m hm ha => ?_,
    fun m hm => ⟨fun hr => ?_, fun y hr => ?_⟩,
    fun y hr => ⟨fun body => ?_, fun l m => ?_, ?_, fun nonce => ?_, fun key sig ha => ?_, fun tick hm => ?_,
      fun hx body => ?_, fun hx st r c v => ?_, fun o p k d n ns hn => ⟨fun hd => ?_, fun hd => ?_⟩⟩⟩,
    fun x h nonce s hh hl hc hr => ?_⟩
  · exact exec_arrived hh hl hc rfl (rxTrain_receive hx)
  · exact exec_arrived hh hl hc rfl (rxTrain_idle hx hs)
  · exact exec_arrived hh hl hc rfl (rxTrain_training hx hs ht hu)
  · exact exec_arrived hh hl hc rfl (rxEye_receive hx)
  · exact exec_arrived hh hl hc rfl (rxEye_transmit hx)
  · exact exec_arrived hh hl hc rfl (rxKeepalive_receive hx)
  · exact exec_arrived hh hl hc rfl (rxKeepalive_transmit hx)
  · exact exec_arrived hh hl hc rfl rfl
  · exact exec_arrived hh hl hc rfl (rxTrigAck_waiting hm)
  · exact exec_arrived hh hl hc rfl (relayOr_none hr)
  · exact exec_arrived hh hl hc rfl (relayOr_none hr)
  · exact exec_arrived hh hl hc rfl (relayOr_none hr)
  · exact exec_arrived hh hl hc rfl (rxTrigger_unrelayed hr)
  · exact exec_arrived hh hl hc rfl ((rxTrigAck_stray hm).trans (relayOr_none hr))
  · exact exec_arrived hh hl hc rfl ((rxAuthRespMsg_unasked ha).trans (relayOr_none hr))
  · exact exec_arrived hh hl hc rfl ((rxFrameStatusMsg_transmit hx).trans (relayOr_none hr))
  · exact exec_arrived hh hl hc rfl ((rxEchoMsg_transmit hx).trans (relayOr_none hr))
  · exact exec_arrived hh hl hc rfl (rxEchoMsg_receive hx)
  · exact exec_arrived hh hl hc rfl ((rxFrameStatusMsg_receive hx).trans (ht ▸ relayOr_none hr))
  · exact exec_arrived hh hl hc rfl ((rxFrameStatusMsg_receive hx).trans (ht ▸ relayOr_some hr))
  · exact exec_arrived hh hl hc rfl (rxNak_challenge hm ha)
  · exact exec_arrived hh hl hc rfl ((rxNak_other hm).trans (relayOr_none hr))
  · exact exec_arrived hh hl hc rfl ((rxNak_other hm).trans (relayOr_some hr))
  · exact exec_arrived hh hl hc rfl (relayOr_some hr)
  · exact exec_arrived hh hl hc rfl (relayOr_some hr)
  · exact exec_arrived hh hl hc rfl (relayOr_some hr)
  · exact exec_arrived hh hl hc rfl (relayOr_some hr)
  · exact exec_arrived hh hl hc rfl ((rxAuthRespMsg_unasked ha).trans (relayOr_some hr))
  · exact exec_arrived hh hl hc rfl ((rxTrigAck_stray hm).trans (relayOr_some hr))
  · exact exec_arrived hh hl hc rfl ((rxFrameStatusMsg_transmit hx).trans (relayOr_some hr))
  · exact exec_arrived hh hl hc rfl ((rxEchoMsg_transmit hx).trans (relayOr_some hr))
  · exact exec_arrived hh hl hc rfl ((rxTrigger_relayed hr hn).trans (if_neg (Int.not_lt.mpr hd)))
  · exact exec_arrived hh hl hc rfl ((rxTrigger_relayed hr hn).trans (if_pos hd))
  · exact exec_arrived hh hl hc rfl (rxAuthChal_answered hr (fun b hb => by simp only [hb]) (fun hb => by simp only [hb]))
end

section
/-! PROOF. Calibration, triggers, GPIO and roll calls (R123, R152 to R155, R163), and partners (R155 to R160, R459). -/

open Sys2Proof Sys2Proof.Machine

namespace Sys2Proof.Machine

/-! ### Round-trip calibration (R123, R152) -/

section
variable {x turn t : Nat} {h : MsgHdr} {c : CalX} {s : State}

theorem rxCalResp_dead {id : Nat} (hl : s.linkLive x = false) : rxCalResp x h id turn t s = s := by
  simp only [rxCalResp, hl, Bool.not_false, if_true]

theorem rxCalResp_answers (hl : s.linkLive x = true) (hk : h.crcOk = true) (hc : (s.link x).cal = some c) :
    rxCalResp x h c.id turn t s =
      calNext x { c with answered := c.answered ++ [(t + 2 ^ 24 - turn % 2 ^ 24) % 2 ^ 24] } s := by
  simp only [rxCalResp, hl, hk, hc, Bool.not_true, Bool.false_eq_true, if_false, ne_eq, not_true_eq_false]

theorem rxCalResp_stray {id : Nat} (hl : s.linkLive x = true) (hk : h.crcOk = true)
    (hc : ∀ c, (s.link x).cal = some c → c.id ≠ id) : rxCalResp x h id turn t s = s := by
  cases hs : (s.link x).cal with
  | none => simp only [rxCalResp, hl, hk, hs, Bool.not_true, Bool.false_eq_true, if_false, if_true]
  | some c => simp only [rxCalResp, hl, hk, hs, Bool.not_true, Bool.false_eq_true, if_false, if_pos (hc c hs)]

theorem rxCalResp_damaged {id : Nat} (hl : s.linkLive x = true) (hk : h.crcOk = false) (hc : (s.link x).cal = some c) :
    rxCalResp x h id turn t s = calNext x c (crcErr x s) := by
  simp only [rxCalResp, hl, hk, hc, Bool.not_true, Bool.not_false, Bool.false_eq_true, if_false, if_true]

theorem rxCalResp_damaged_stray {id : Nat} (hl : s.linkLive x = true) (hk : h.crcOk = false) (hc : (s.link x).cal = none) :
    rxCalResp x h id turn t s = crcErr x s := by
  simp only [rxCalResp, hl, hk, hc, Bool.not_true, Bool.false_eq_true, if_false]

theorem calTimeout_some (hc : (s.link x).cal = some c) : calTimeout x s = calNext x c s := by
  simp only [calTimeout, hc]

theorem calTimeout_none (hc : (s.link x).cal = none) : calTimeout x s = s := by
  simp only [calTimeout, hc]

theorem calNext_more (hc : 0 < c.left) : calNext x c s = calSend x (c.left - 1) c.answered c.forCmd s :=
  if_neg (Nat.pos_iff_ne_zero.mp hc)

theorem calNext_last (hc : c.left = 0) : calNext x c s = calDone x c s := if_pos hc

/-- A TRIGGER_CAL of which no exchange was answered. -/
theorem calDone_unanswered (ha : c.answered = []) (hf : c.forCmd = true) : calDone x c s =
    (s.setLink x { s.link x with cal := none }).answerEvery (.triggerCal x) (Res.ok [0xFFFFFFFF, 0xFFFFFFFF]) := by
  simp only [calDone, ha, List.length_nil, if_true, hf]

/-- The mean of the answered exchanges, 0 of none, is what training stores. -/
theorem calDone_training (hf : c.forCmd = false) : calDone x c s =
    calDone.trained x ((s.setLink x { s.link x with cal := none }).setFld (R.LANE_RTT x) F.LANE_RTT_RTT_PS
      (c.answered.foldl (· + ·) 0 / c.answered.length)) := by
  simp only [calDone, hf, Bool.false_eq_true, if_false]
  split
  · next h0 => rw [h0, Nat.div_zero]
  · rfl

theorem calDone_command (ha : c.answered ≠ []) (hf : c.forCmd = true) : calDone x c s =
    ((s.setLink x { s.link x with cal := none }).setFld (R.LANE_RTT x) F.LANE_RTT_RTT_PS
      (c.answered.foldl (· + ·) 0 / c.answered.length)).answerEvery (.triggerCal x)
      (Res.ok [w32 (c.answered.foldl (· + ·) 0 / c.answered.length),
        w32 (c.answered.foldl Nat.max 0 - c.answered.foldl Nat.min (c.answered.foldl Nat.max 0))]) := by
  rw [calDone]
  simp only [List.length_eq_zero_iff, ha, if_false, hf, if_true]

/-! ### Triggers and GPIO (R154, R163) -/

theorem trigAckTimeout_waiting {tick : BitVec 16} (hm : tick ∈ (s.link x).trigs) :
    trigAckTimeout x tick s = trigMiss x (trigAck x tick s) := if_pos (List.contains_iff_mem.mpr hm)

theorem trigAckTimeout_stray {tick : BitVec 16} (hm : tick ∉ (s.link x).trigs) : trigAckTimeout x tick s = s :=
  if_neg (fun h => hm (List.contains_iff_mem.mp h))

theorem gpioSample_down (hu : s.laneUp x = false) : gpioSample x s = s := by
  simp only [gpioSample, hu, Bool.not_false, Bool.true_or, if_true]

section
variable {k n : Nat}

theorem gpioSample_same (hs : (s.link x).gpioSent = some (k, s.fld (R.LINK_GPIO x) F.LINK_GPIO_MASK))
    (he : (BitVec.ofNat 8 (s.fld (R.LINK_GPIO x) F.LINK_GPIO_OUT) &&& BitVec.ofNat 8 (s.fld (R.LINK_GPIO x) F.LINK_GPIO_MASK))
      = (BitVec.ofNat 8 k &&& BitVec.ofNat 8 (s.fld (R.LINK_GPIO x) F.LINK_GPIO_MASK))) : gpioSample x s = s := by
  simp only [gpioSample, hs, he, beq_self_eq_true, Bool.and_self, Bool.or_true, if_true]

theorem gpioSample_changed (hu : s.laneUp x = true) (hs : (s.link x).gpioSent = some (k, n))
    (hd : n ≠ s.fld (R.LINK_GPIO x) F.LINK_GPIO_MASK
      ∨ (BitVec.ofNat 8 (s.fld (R.LINK_GPIO x) F.LINK_GPIO_OUT) &&& BitVec.ofNat 8 (s.fld (R.LINK_GPIO x) F.LINK_GPIO_MASK))
        ≠ (BitVec.ofNat 8 k &&& BitVec.ofNat 8 (s.fld (R.LINK_GPIO x) F.LINK_GPIO_MASK))) :
    gpioSample x s = sendGpio x s := by
  simp only [gpioSample, hs, hu, Bool.not_true, Bool.false_or]
  refine if_neg (fun he => ?_)
  rw [Bool.and_eq_true, beq_iff_eq, beq_iff_eq] at he
  obtain ⟨hm, he⟩ := he
  subst hm
  exact hd.elim (fun h => h rfl) (fun h => h he)

end

theorem gpioSample_first (hu : s.laneUp x = true) (hs : (s.link x).gpioSent = none) :
    gpioSample x s = if s.fld (R.LINK_GPIO x) F.LINK_GPIO_MASK = 0 then s else sendGpio x s := by
  simp only [gpioSample, hs, hu, Bool.not_true, Bool.false_or, beq_iff_eq]

end

/-! ### Partners (R155 to R160, R459) -/

section
variable {x y : Nat} {h : MsgHdr} {b : List Byte} {s : State}

theorem rxIdent_down (hu : s.laneUp x = false) : rxIdent x h b s = s := by
  simp only [rxIdent, hu, Bool.not_false, if_true]

/-- The state in which the call of a lane has been answered. -/
def callEnded (x : Nat) (s : State) : State := s.setLink x { s.link x with calling := false }

section
variable (hu : s.laneUp x = true) (hc : h.crcOk = true) (hb : b.length = 32)
include hu hc hb

theorem rxIdent_uncalled (hk : (s.link x).calling = false) (hp : s.partnerKnown x = true) :
    rxIdent x h b s = relayOr x h Mt.IDENT b (fun t => t) s := by
  simp only [rxIdent, hu, hc, hb, hk, hp, Bool.not_true, Bool.not_false, Bool.false_eq_true, if_false, Bool.false_or,
    bne_self_eq_false, Bool.and_self, if_true]

theorem rxIdent_known (hn : (s.link x).calling = true ∨ s.partnerKnown x = false) {k : List Byte}
    (hi : ((callEnded x s).link x).ident = some k) : rxIdent x h b s =
      answerDiscover x true (if k.take 8 = b.take 8 ∨ (callEnded x s).partner x = Ps.refused
        then (callEnded x s).setFld (R.LINK_PARTNER x) F.LINK_PARTNER_MISSED 0
        else newPartner x b (losePartner x false (callEnded x s))) := by
  have hno : (!(s.link x).calling && s.partnerKnown x) = false := by rcases hn with h | h <;> simp [h]
  unfold callEnded at hi
  simp only [rxIdent, hu, hc, hb, hno, hi, Bool.not_true, Bool.false_eq_true, if_false, Bool.false_or, bne_self_eq_false]
  rfl

theorem rxIdent_first (hn : (s.link x).calling = true ∨ s.partnerKnown x = false)
    (hi : ((callEnded x s).link x).ident = none) : rxIdent x h b s =
      answerDiscover x true (newPartner x b (resumeIdent x b (callEnded x s))) := by
  have hno : (!(s.link x).calling && s.partnerKnown x) = false := by rcases hn with h | h <;> simp [h]
  unfold callEnded at hi
  simp only [rxIdent, hu, hc, hb, hno, hi, Bool.not_true, Bool.false_eq_true, if_false, Bool.false_or, bne_self_eq_false]
  rfl

end

theorem rxIdent_invalid (hu : s.laneUp x = true) (hb : h.crcOk = false ∨ b.length ≠ 32) {u : State}
    (h' : u = if h.crcOk then s else crcErr x s) :
    rxIdent x h b s = if (u.link x).calling then rollMiss x u else u := by
  have hbad : (!h.crcOk || b.length != 32) = true := by
    rcases hb with h | h
    · simp [h]
    · simp [h]
  subst h'
  simp only [rxIdent, hu, hbad, Bool.not_true, Bool.false_eq_true, if_false, if_true]

theorem identTimeout_calling (hu : s.laneUp x = true) (hc : (s.link x).calling = true) : identTimeout x s = rollMiss x s := by
  simp only [identTimeout, hu, hc, Bool.and_self, if_true]

theorem identTimeout_idle (h : s.laneUp x = false ∨ (s.link x).calling = false) : identTimeout x s = s := by
  refine if_neg (fun he => ?_)
  rw [Bool.and_eq_true] at he
  rcases h with h | h
  · rw [h] at he; exact Bool.false_ne_true he.2
  · rw [h] at he; exact Bool.false_ne_true he.1

/-- The state in which one more roll call of a lane has gone unanswered. -/
def missCounted (x : Nat) (s : State) : State :=
  (callEnded x s).setFld (R.LINK_PARTNER x) F.LINK_PARTNER_MISSED
    (satAdd ((callEnded x s).fld (R.LINK_PARTNER x) F.LINK_PARTNER_MISSED) 1 15)

theorem rollMiss_eq : rollMiss x s = answerDiscover x false
    (if (missCounted x s).partnerKnown x ∧ (missCounted x s).partner x ≠ Ps.refused
        ∧ (missCounted x s).fld R.LINK_ROLL F.LINK_ROLL_MISS_LIMIT ≤ s.fld (R.LINK_PARTNER x) F.LINK_PARTNER_MISSED + 1
      then losePartner x false (missCounted x s) else missCounted x s) := rfl

theorem rollMiss_lost (hk : (missCounted x s).partnerKnown x = true) (hr : (missCounted x s).partner x ≠ Ps.refused)
    (hm : (missCounted x s).fld R.LINK_ROLL F.LINK_ROLL_MISS_LIMIT ≤ s.fld (R.LINK_PARTNER x) F.LINK_PARTNER_MISSED + 1) :
    rollMiss x s = answerDiscover x false (losePartner x false (missCounted x s)) := by
  rw [rollMiss_eq, if_pos ⟨hk, hr, hm⟩]

theorem rollMiss_kept (hk : (missCounted x s).partnerKnown x = false ∨ (missCounted x s).partner x = Ps.refused
      ∨ s.fld (R.LINK_PARTNER x) F.LINK_PARTNER_MISSED + 1 < (missCounted x s).fld R.LINK_ROLL F.LINK_ROLL_MISS_LIMIT) :
    rollMiss x s = answerDiscover x false (missCounted x s) := by
  rw [rollMiss_eq, if_neg]
  rintro ⟨h1, h2, h3⟩
  rcases hk with hk | hk | hk
  · rw [hk] at h1; exact Bool.false_ne_true h1
  · exact h2 hk
  · exact absurd h3 (Nat.not_le.mpr hk)

/-! ### Authentication (R159) -/

section
variable {key sig : List Byte} {a : AuthX}

theorem rxAuthResp_undrawn (ha : (s.link x).auth = some a) (hn : a.nonce = []) : rxAuthResp x key sig s = s := by
  simp only [rxAuthResp, ha, hn, List.isEmpty_nil, if_true]

theorem rxAuthResp_unknown (ha : (s.link x).auth = some a) (hn : a.nonce ≠ []) (hk : ∀ k ∈ s.sec.allow, k ≠ Config.sha384 key) :
    rxAuthResp x key sig s = authEnd x 2 0 s := by
  have hf : s.sec.allow.findIdx? (· == Config.sha384 key) = none := by
    rw [List.findIdx?_eq_none_iff]
    exact fun k hm => beq_eq_false_iff_ne.mpr (hk k hm)
  simp only [rxAuthResp, ha, List.isEmpty_iff, hn, if_false, hf]

theorem rxAuthResp_known {i : Nat} (ha : (s.link x).auth = some a) (hn : a.nonce ≠ [])
    (hk : s.sec.allow.findIdx? (· == Config.sha384 key) = some i) :
    rxAuthResp x key sig s = if Config.ecdsaVerify key (Config.sha384 (s.authMessage x a.nonce)) sig
      then authEnd x 1 i s else authEnd x 2 0 s := by
  simp only [rxAuthResp, ha, List.isEmpty_iff, hn, if_false, hk]

end

theorem authEnd_none {r e : Nat} (ha : (s.link x).auth = none) : authEnd x r e s = s := by
  simp only [authEnd, ha]

/-! ### After a resume (R459) -/

theorem partnerResumeTimeout_ready (hx : x ∉ s.pwr.awaitPartner) : partnerResumeTimeout x s = s := by
  have hc : s.pwr.awaitPartner.contains x = false := Bool.eq_false_iff.mpr (fun h => hx (List.contains_iff_mem.mp h))
  simp only [partnerResumeTimeout, hc, Bool.not_false, if_true]

theorem partnerResumeTimeout_late (hx : x ∈ s.pwr.awaitPartner) {v : State} (hv : v = { s with pwr := { s.pwr with
      awaitPartner := s.pwr.awaitPartner.filter (· ≠ x), idents := SMap.erase s.pwr.idents x } }) :
    partnerResumeTimeout x s = if v.partnerKnown x then losePartner x false v else
      checkLinks ((if x < 32 then closeLaneCtxs x 2 (tunnelDown x v) else v).raise Ev.PARTNER_LOST (laneUnit x) 0) := by
  subst hv
  simp only [partnerResumeTimeout, List.contains_iff_mem.mpr hx, Bool.not_true, Bool.false_eq_true, if_false]

end

end Sys2Proof.Machine

/-- Settles O39. -/
theorem linkTimersAndCalibration : Obligations.LinkTimersAndCalibration := by
  unfold Obligations.LinkTimersAndCalibration
  intro x s
  refine ⟨fun h id turn t hh => ?_, fun h id turn t hh hl => ?_, fun h id turn t hh hl hk => ⟨fun c hc hi => ?_, fun hc => ?_⟩,
    fun h id turn t u hh hl hk hu => ⟨fun c hc => ?_, fun hc => ?_⟩, fun c hc => ?_, fun hc => ?_, fun c hc => calNext_more hc,
    fun c t hl ht => ⟨fun ha hf => ?_, fun hf u m hm hu => ?_, fun ha hf m hi lo hm hhi hlo => ?_⟩, fun tick hm => ?_,
    fun tick hm => ?_, fun hu => ?_, fun o m hu ho hm => ⟨fun k hs he => ?_, fun k n hs hd => ?_, fun hs => ?_⟩, rfl⟩
  · exact congrArg Host.Outcome.next (if_pos hh)
  · exact congrArg Host.Outcome.next ((State.holdOr_free hh).trans (rxCalResp_dead hl))
  · exact congrArg Host.Outcome.next ((State.holdOr_free hh).trans (hi ▸ rxCalResp_answers hl hk hc))
  · exact congrArg Host.Outcome.next ((State.holdOr_free hh).trans (rxCalResp_stray hl hk hc))
  · exact congrArg Host.Outcome.next ((State.holdOr_free hh).trans (hu ▸ rxCalResp_damaged hl hk hc))
  · exact congrArg Host.Outcome.next ((State.holdOr_free hh).trans (hu ▸ rxCalResp_damaged_stray hl hk hc))
  · exact congrArg Host.Outcome.next (calTimeout_some hc)
  · exact congrArg Host.Outcome.next (calTimeout_none hc)
  · rw [calNext_last hl, calDone_unanswered ha hf, ht]
  · rw [calNext_last hl, calDone_training hf, ← ht, ← hm, ← hu]
    rfl
  · rw [calNext_last hl, calDone_command ha hf, ← ht, ← hm, ← hhi, ← hlo]
  · exact congrArg Host.Outcome.next (trigAckTimeout_waiting hm)
  · exact congrArg Host.Outcome.next (trigAckTimeout_stray hm)
  · exact congrArg Host.Outcome.next (gpioSample_down hu)
  · subst ho hm
    exact congrArg Host.Outcome.next (gpioSample_same hs he)
  · subst ho hm
    exact congrArg Host.Outcome.next (gpioSample_changed hu hs hd)
  · subst ho hm
    exact congrArg Host.Outcome.next (gpioSample_first hu hs)

/-- Settles O40. -/
theorem partnersComeAndGo : Obligations.PartnersComeAndGo := by
  unfold Obligations.PartnersComeAndGo
  intro x h b s t missed kept
  refine ⟨fun hh => ?_, fun hh hu => ?_, fun hh hu hc hb => ⟨fun hk hp => ⟨fun hr => ?_, fun y hr => ?_⟩,
    fun hk k hi => ⟨fun he => ?_, fun hne hr => ?_⟩, fun hi ht => ?_⟩, fun u hh hl hb hu => ?_, fun hu hc => ?_, fun hc => ?_,
    fun u hu => ⟨fun hk hr hm => ?_, fun hk => ?_⟩,
    fun key sig a hh hl hc ha => ⟨fun hn => ?_, fun hn hk => ?_, fun i hn hk => ?_⟩, rfl, fun r e ha => authEnd_none ha,
    fun hx => ?_, fun v w hx hv hw => ⟨fun hk => ?_, fun hk => ?_⟩⟩
  · exact congrArg Host.Outcome.next (if_pos hh)
  · exact congrArg Host.Outcome.next ((State.holdOr_free hh).trans (rxIdent_down hu))
  · exact congrArg Host.Outcome.next
      ((State.holdOr_free hh).trans ((rxIdent_uncalled hu hc hb hk hp).trans (relayOr_none hr)))
  · exact congrArg Host.Outcome.next
      ((State.holdOr_free hh).trans ((rxIdent_uncalled hu hc hb hk hp).trans (relayOr_some hr)))
  · exact congrArg Host.Outcome.next ((State.holdOr_free hh).trans ((rxIdent_known hu hc hb (.inl hk) hi).trans
      (congrArg (answerDiscover x true) (if_pos he))))
  · exact congrArg Host.Outcome.next ((State.holdOr_free hh).trans ((rxIdent_known hu hc hb (.inl hk) hi).trans
      (congrArg (answerDiscover x true) (if_neg (not_or.mpr ⟨hne, hr⟩)))))
  · have hp : s.partnerKnown x = false := by rw [State.partnerKnown, hi]; rfl
    exact congrArg Host.Outcome.next ((State.holdOr_free hh).trans (rxIdent_first hu hc hb (.inr hp) ht))
  · exact congrArg Host.Outcome.next ((State.holdOr_free hh).trans (rxIdent_invalid hl hb hu))
  · exact congrArg Host.Outcome.next (identTimeout_calling hu hc)
  · exact congrArg Host.Outcome.next (identTimeout_idle hc)
  · subst hu
    exact rollMiss_lost hk hr hm
  · subst hu
    exact rollMiss_kept hk
  · exact exec_arrived hh hl hc rfl ((rxAuthRespMsg_asked (by rw [ha]; rfl)).trans (rxAuthResp_undrawn ha hn))
  · exact exec_arrived hh hl hc rfl ((rxAuthRespMsg_asked (by rw [ha]; rfl)).trans (rxAuthResp_unknown ha hn hk))
  · exact exec_arrived hh hl hc rfl ((rxAuthRespMsg_asked (by rw [ha]; rfl)).trans (rxAuthResp_known ha hn hk))
  · exact congrArg Host.Outcome.next (partnerResumeTimeout_ready hx)
  · exact congrArg Host.Outcome.next ((partnerResumeTimeout_late hx hv).trans (if_pos hk))
  · exact congrArg Host.Outcome.next ((partnerResumeTimeout_late hx hv).trans
      ((if_neg (Bool.eq_false_iff.mp hk)).trans (by rw [hw])))
end

section
/-! PROOF. Codewords of receive lanes (R119, R131, R138 to R144, R510 to R513) and tunnelled transfers (R162, R429). -/

open Sys2Proof Sys2Proof.Machine

namespace Sys2Proof.Machine

section
variable {x a : Nat} {l : List Nat} {raw : List Byte} {s v : State}

/-- A lane known to be in one state is in a list of states where the list holds that one. -/
theorem State.laneIn_of_laneIn (h : s.laneIn x [a] = true) : s.laneIn x l = l.contains a := by
  have hs : s.laneState x = a := State.laneState_of_laneIn h
  rw [State.laneIn, Bool.and_eq_true] at h
  rw [State.laneIn, h.1, hs, Bool.true_and]

theorem State.laneIn_append (l m : List Nat) : s.laneIn x (l ++ m) = (s.laneIn x l || s.laneIn x m) := by
  simp only [State.laneIn, List.contains_append, Bool.and_or_distrib_left]

/-! ### The door of a receive lane -/

theorem rxCodeword_ignored (h : s.looped x = true ∨ raw.length ≠ 240) : rxCodeword x raw s = s := by
  rw [rxCodeword]
  split
  · rfl
  · next hl => exact if_pos (h.resolve_left hl)

section
variable {got : List Byte} (hl : s.looped x = false) (hn : raw.length = 240) (hv : injectBytes x raw s = (got, v))
include hl hn hv

theorem rxCodeword_cells (hs : s.laneIn x [Ls.up, Ls.doze] = true) : rxCodeword x raw s = cellsWord x got v := by
  simp only [rxCodeword, rxWord, hl, hn, hv, hs, Bool.false_eq_true, if_false, ne_eq, not_true_eq_false, if_true]

theorem rxCodeword_trial (hs : s.laneIn x [Ls.align] = true) : rxCodeword x raw s = trialWord x (got.map (·.toNat)) v := by
  have h1 : s.laneIn x [Ls.up, Ls.doze] = false := State.laneIn_of_laneIn hs
  simp only [rxCodeword, rxWord, hl, hn, hv, hs, h1, Bool.false_eq_true, if_false, ne_eq, not_true_eq_false, if_true]

theorem rxCodeword_train (hs : s.laneIn x [Ls.train] = true) : rxCodeword x raw s =
    trainWord x (got.map (·.toNat)) (v.setLane (v.cellHome x) { v.lane (v.cellHome x) with delivered := [] }) := by
  have h1 : s.laneIn x [Ls.up, Ls.doze] = false := State.laneIn_of_laneIn hs
  have h2 : s.laneIn x [Ls.align] = false := State.laneIn_of_laneIn hs
  simp only [rxCodeword, rxWord, hl, hn, hv, hs, h1, h2, Bool.false_eq_true, if_false, ne_eq, not_true_eq_false, if_true]

theorem rxCodeword_test (hs : s.laneIn x [Ls.test] = true) : rxCodeword x raw s =
    if s.fld (R.TEST_PCHK x) F.TEST_PCHK_PAT = 7 then idleWord x got v else checkBits x (sentBits got) v := by
  have h1 : s.laneIn x [Ls.up, Ls.doze] = false := State.laneIn_of_laneIn hs
  have h2 : s.laneIn x [Ls.align] = false := State.laneIn_of_laneIn hs
  have h3 : s.laneIn x [Ls.train] = false := State.laneIn_of_laneIn hs
  simp only [rxCodeword, rxWord, hl, hn, hv, hs, h1, h2, h3, Bool.false_eq_true, if_false, ne_eq, not_true_eq_false, if_true]

theorem rxCodeword_elsewhere (hs : s.laneIn x [Ls.train, Ls.align, Ls.up, Ls.doze, Ls.test] = false) :
    rxCodeword x raw s = v := by
  rw [show [Ls.train, Ls.align, Ls.up, Ls.doze, Ls.test] = [Ls.train] ++ ([Ls.align] ++ ([Ls.up, Ls.doze] ++ [Ls.test])) from rfl,
    State.laneIn_append, State.laneIn_append, State.laneIn_append, Bool.or_eq_false_iff, Bool.or_eq_false_iff,
    Bool.or_eq_false_iff] at hs
  obtain ⟨h1, h2, h3, h4⟩ := hs
  simp only [rxCodeword, rxWord, hl, hn, hv, h1, h2, h3, h4, Bool.false_eq_true, if_false, ne_eq, not_true_eq_false]

end

/-! ### A codeword -/

section
variable {i seed : Nat} {cw : List Nat}

theorem State.wordAt_eq {w : List Nat} (hc : cw = if i = 0 then maskParity w else w)
    (hs : seed = if i = 0 then scrSeed (v.laneOne x) else (v.lane x).scr.toNat) : v.wordAt x i w = (cw, seed) := by
  rw [hc, hs, State.wordAt]
  split <;> rfl

section
variable (hi : i = (v.lane x).cwIndex) (hw : v.wordAt x i (raw.map (·.toNat)) = (cw, seed))
include hi hw

theorem cellsWord_decoded {fixed d : List Nat} {hit : Bool} (hd : rsDecode cw = some (fixed, hit)) {t u : State}
    (he : d = wordData cw fixed hit seed) (ht : t = countCorr x hit (tookWord x i (scramble (cw.take 224) seed).2 v))
    (hu : u = (cellsOf d).foldl (takeCell x)
      (repeatWord x raw i seed (some d) (if i = 0 then t.setLane x { t.lane x with missed := 0 } else t))) :
    cellsWord x raw v = if i = 0 then atAlignment x u else u := by
  subst hu ht he hi
  simp only [cellsWord, hw, hd]

theorem cellsWord_lost (hd : rsDecode cw = none) {t u : State}
    (ht : t = damageCells x (repeatWord x raw i seed none
      ((tookWord x i (scramble (cw.take 224) seed).2 v).incSat (R.LINK_FEC_UNCORR x) F.LINK_FEC_UNCORR_UNCORR 1)))
    (hu : u = t.setLane x { t.lane x with missed := (t.lane x).missed + 1 }) :
    cellsWord x raw v = if i = 0 then (if 4 ≤ (u.lane x).missed then alignmentLoss x u else u) else t := by
  subst hu ht hi
  simp only [cellsWord, hw, hd]

end

section
variable (hi : i = if isAlignWord (raw.map (·.toNat)) then 0 else (v.lane x).cwIndex)
  (hw : v.wordAt x i (raw.map (·.toNat)) = (cw, seed))
include hi hw

theorem idleWord_lost (hd : rsDecode cw = none) : idleWord x raw v =
    (tookWord x i (scramble (cw.take 224) seed).2 v).incSat (R.LINK_FEC_UNCORR x) F.LINK_FEC_UNCORR_UNCORR 1 := by
  subst hi
  simp only [idleWord, hw, hd]

theorem idleWord_decoded {fixed : List Nat} {hit : Bool} (hd : rsDecode cw = some (fixed, hit)) : idleWord x raw v =
    checkerCount x 1792 (((wordData cw fixed hit seed).map ones8).foldl (· + ·) 0)
      (countCorr x hit (tookWord x i (scramble (cw.take 224) seed).2 v)) := by
  subst hi
  simp only [idleWord, hw, hd]

end

end

/-! ### Tunnelled transfers (R162, R429) -/

section
variable {h : MsgHdr} {st i : Byte} {d : List Byte}

theorem rxI2cResp_own (ha : (s.twc (32 + x)).active = true) (hq : (s.twc (32 + x)).reqSeq = h.seq.toNat) :
    rxI2cResp x h st i d s = tunnelResp x h.seq.toNat st.toNat i.toNat d s := by
  simp only [rxI2cResp, ha, hq, beq_self_eq_true, Bool.and_self, if_true]

theorem rxI2cResp_foreign (ha : (s.twc (32 + x)).active = false ∨ (s.twc (32 + x)).reqSeq ≠ h.seq.toNat) :
    rxI2cResp x h st i d s = relayOr x h Mt.I2C_RESP ([st, i] ++ d) (fun t => t) s := by
  refine if_neg (fun he => ?_)
  rw [Bool.and_eq_true, beq_iff_eq] at he
  rcases ha with ha | ha
  · rw [ha] at he; exact Bool.false_ne_true he.1
  · exact ha he.2

theorem tunnelTimeout_active (ha : (s.twc (32 + x)).active = true) : tunnelTimeout x s = tunnelEnd x Tw.TUNNEL_TIMEOUT 0 [] s :=
  if_pos ha

theorem tunnelTimeout_idle (ha : (s.twc (32 + x)).active = false) : tunnelTimeout x s = s :=
  if_neg (Bool.eq_false_iff.mp ha)

end

end

end Sys2Proof.Machine

/-- Settles O41. -/
theorem codewordsAndTunnels : Obligations.CodewordsAndTunnels := by
  unfold Obligations.CodewordsAndTunnels
  refine ⟨fun x raw s => ⟨fun h => ?_, fun hl hn got v hv =>
    ⟨fun i cw seed hs hi hc hsd => ⟨fun fixed hit hd d t u he ht hu => ?_, fun hd t u ht hu => ?_⟩, fun hs => ?_, fun hs => ?_,
      fun hs hp => ?_, fun i cw seed hs hp hi hc hsd => ⟨fun hd => ?_, fun fixed hit hd => ?_⟩, fun hs => ?_⟩⟩,
    fun x h s => ⟨fun hh hl hc st i d => ⟨fun ha hq => ?_, fun ha => ⟨fun hr => ?_, fun y hr => ?_⟩⟩, fun ha => ?_, fun ha => ?_⟩⟩
  · exact congrArg Host.Outcome.next (rxCodeword_ignored h)
  · have hw := State.wordAt_eq hc hsd
    subst hc hsd
    exact congrArg Host.Outcome.next ((rxCodeword_cells hl hn hv hs).trans (cellsWord_decoded hi hw hd he ht hu))
  · have hw := State.wordAt_eq hc hsd
    subst hc hsd
    have hlost := cellsWord_lost hi hw hd ht hu
    exact ⟨fun hne => congrArg Host.Outcome.next ((rxCodeword_cells hl hn hv hs).trans (hlost.trans (if_neg hne))),
      fun h0 => congrArg Host.Outcome.next ((rxCodeword_cells hl hn hv hs).trans (hlost.trans (if_pos h0)))⟩
  · exact congrArg Host.Outcome.next (rxCodeword_trial hl hn hv hs)
  · exact congrArg Host.Outcome.next (rxCodeword_train hl hn hv hs)
  · exact congrArg Host.Outcome.next ((rxCodeword_test hl hn hv hs).trans (if_neg hp))
  · have hw := State.wordAt_eq hc hsd
    subst hc hsd
    exact congrArg Host.Outcome.next ((rxCodeword_test hl hn hv hs).trans ((if_pos hp).trans (idleWord_lost hi hw hd)))
  · have hw := State.wordAt_eq hc hsd
    subst hc hsd
    exact congrArg Host.Outcome.next ((rxCodeword_test hl hn hv hs).trans ((if_pos hp).trans (idleWord_decoded hi hw hd)))
  · exact congrArg Host.Outcome.next (rxCodeword_elsewhere hl hn hv hs)
  · exact exec_arrived hh hl hc rfl (rxI2cResp_own ha hq)
  · exact exec_arrived hh hl hc rfl ((rxI2cResp_foreign ha).trans (relayOr_none hr))
  · exact exec_arrived hh hl hc rfl ((rxI2cResp_foreign ha).trans (relayOr_some hr))
  · exact congrArg Host.Outcome.next (tunnelTimeout_active ha)
  · exact congrArg Host.Outcome.next (tunnelTimeout_idle ha)
end

section
/-! PROOF. Ticks: the seal window, the check, the seal and the tick instant (R43, R53 to R65, R178, R445). -/

open Sys2Proof Sys2Proof.Machine

namespace Sys2Proof.Machine

section
variable {s : State} {f : Frozen}

theorem State.winOpen_of_frozen (h : s.groom.staging.frozen ≠ none) : s.winOpen = true :=
  Option.isSome_iff_ne_none.mpr h

theorem State.winOpen_of_none (h : s.groom.staging.frozen = none) : s.winOpen = false := by
  rw [State.winOpen, h]
  rfl

theorem sealWindowOpen_opens (hs : s.sealing = true) (hf : s.groom.staging.frozen = none) : sealWindowOpen s = freeze s := by
  rw [sealWindowOpen, hs, State.winOpen_of_none hf]
  rfl

theorem sealWindowOpen_idle (h : s.sealing = false ∨ s.groom.staging.frozen ≠ none) : sealWindowOpen s = s := by
  rcases h with h | h
  · rw [sealWindowOpen, h]
    rfl
  · rw [sealWindowOpen, State.winOpen_of_frozen h, Bool.not_true, Bool.and_false]
    rfl

/-- The check gives the frozen set its verdict. -/
theorem checkDone_judges (hf : s.groom.staging.frozen = some f) (hv : f.void = false) (he : f.entries ≠ [])
    (hn : f.verdict = none) (hu : s.groom.up = true) :
    checkDone s = { s with groom := { s.groom with staging := { s.groom.staging with
      frozen := some { f with verdict := some (verdict s f.entries) } } } } := by
  have he' : f.entries.isEmpty = false := Bool.eq_false_iff.mpr (fun h => he (List.isEmpty_iff.mp h))
  simp only [checkDone, hf, hv, he', hn, hu, Option.isSome_none, Bool.not_true, Bool.or_self, Bool.false_eq_true, if_false]

theorem checkDone_idle (h : ∀ f : Frozen, s.groom.staging.frozen = some f →
    f.void = true ∨ f.entries = [] ∨ f.verdict ≠ none ∨ s.groom.up = false) : checkDone s = s := by
  cases hf : s.groom.staging.frozen with
  | none => simp only [checkDone, hf]
  | some f =>
    have hstop : (f.void || f.entries.isEmpty || f.verdict.isSome || !s.groom.up) = true := by
      rcases h f hf with h | h | h | h
      · simp [h]
      · simp [h]
      · simp [Option.isSome_iff_ne_none.mpr h]
      · simp [h]
    simp only [checkDone, hf, hstop, if_true]

/-! ### The set falls due (R60, R61) -/

theorem sealDue_none (hf : s.groom.staging.frozen = none) : sealDue s = closeWindow s := by
  simp only [sealDue, hf]

theorem sealDue_void (hf : s.groom.staging.frozen = some f) (hv : f.void = true) : sealDue s = closeWindow s := by
  simp only [sealDue, hf, hv, if_true]

theorem sealDue_empty (hf : s.groom.staging.frozen = some f) (hv : f.void = false) (he : f.entries = []) :
    sealDue s = noteSeal 3 0 0 (closeWindow s).tickLo (closeWindow s) := by
  simp only [sealDue, hf, hv, he, Bool.false_eq_true, if_false]

theorem sealDue_set {e : Entry} {es : List Entry} (hf : s.groom.staging.frozen = some f) (hv : f.void = false)
    (he : f.entries = e :: es) : sealDue s =
      sealSet f.entries (f.verdict.getD (.fail 8 e.tag e.unit)) (closeWindow s).tickLo (closeWindow s) := by
  simp only [sealDue, hf, hv, he, Bool.false_eq_true, if_false]

theorem sealDue_judged {v : Verdict} (hf : s.groom.staging.frozen = some f) (hv : f.void = false) (he : f.entries ≠ [])
    (hd : f.verdict = some v) : sealDue s = sealSet f.entries v (closeWindow s).tickLo (closeWindow s) := by
  obtain ⟨e, es, hes⟩ := List.exists_cons_of_ne_nil he
  rw [sealDue_set hf hv hes, hd, Option.getD_some]

/-! ### The tick instant (R43, R445) -/

theorem tick_stopped (h : s.tg.running = false) : tick s = s := by
  rw [tick, h]
  rfl

theorem tick_running (h : s.tg.running = true) : tick s = tickInstant s := by
  rw [tick, h]
  rfl

theorem tickInstant_entry (h : s.pwr.entry ≠ none) : tickInstant s = stopInstant s :=
  if_pos (Option.isSome_iff_ne_none.mpr h)

/-- The state whose set the tick seals: one without a window has had its set frozen. -/
def tickFrozen (s : State) : State := if s.sealing && !s.winOpen then freeze s else s

/-- The state before the apply strobe: the tick has been counted, and the gates have checked the period that ends. -/
def tickCounted (f : State) : State :=
  gatesTick (padsTick (applySteps (applyRebuilt (comingReady { f with tg := { f.tg with
    count := f.tg.count + 1, since := f.tg.since + 1, first := false } })).newRecordPeriod))

theorem tickInstant_eq (h : s.pwr.entry = none) {f a b : State} (hf : f = tickFrozen s) (ha : a = tickCounted f)
    (hb : b = forceDue (sealDue a)) : tickInstant s = recover (tickWork (standTick (stopClocks a
      (if f.tg.first = true ∨ a.tickSrc ≠ b.tickSrc ∨ a.reg R.TICK_PERIOD ≠ b.reg R.TICK_PERIOD then b.reanchor else b)))) := by
  have hn : ¬ s.pwr.entry.isSome = true := by rw [h]; exact Bool.false_ne_true
  subst hb ha hf
  exact if_neg hn

end

end Sys2Proof.Machine

/-- Settles O43. -/
theorem ticksSealAndApplySets : Obligations.TicksSealAndApplySets := by
  unfold Obligations.TicksSealAndApplySets
  intro s g next void
  refine ⟨fun hs hf => ?_, fun h => ?_, fun f hf hv he hn hu => ?_, fun h => ?_, fun h => ?_, fun h he => ?_,
    fun h he => ?_, fun hf => sealDue_none hf, fun f hf => ⟨fun hv => sealDue_void hf hv, fun hv he => sealDue_empty hf hv he,
      fun hv he hd => sealDue_judged hf hv he hd, fun r tag unit hv he hd => sealDue_judged hf hv he hd, fun e es hv he hd => ?_⟩⟩
  · exact congrArg Host.Outcome.next (sealWindowOpen_opens hs hf)
  · exact congrArg Host.Outcome.next (sealWindowOpen_idle h)
  · exact congrArg Host.Outcome.next (checkDone_judges hf hv he hn hu)
  · exact congrArg Host.Outcome.next (checkDone_idle h)
  · exact congrArg Host.Outcome.next (tick_stopped h)
  · exact congrArg Host.Outcome.next ((tick_running h).trans (tickInstant_entry he))
  · exact congrArg Host.Outcome.next ((tick_running h).trans (tickInstant_eq he rfl rfl rfl))
  · rw [sealDue_set hf hv he, hd]
    rfl
end

section
/-! PROOF. The ends of a tick's work (R26, R66, R72, R218, R496). -/

open Sys2Proof Sys2Proof.Machine

namespace Sys2Proof.Machine

section
variable {n k : Nat} {s : State}

/-! ### Done reports (R66) -/

/-- The number of a unit splits into its class and its index. -/
theorem unit_class_index (hk : k < 16) (hn : n < 4096) :
    uClass (BitVec.ofNat 16 (0x1000 * k + n)) = k ∧ uIndex (BitVec.ofNat 16 (0x1000 * k + n)) = n := by
  simp only [uClass, uIndex, BitVec.toNat_ofNat]
  omega

theorem doneReport_stall (hn : n < 4096) : doneReport (BitVec.ofNat 16 (0x2000 + n)) s = reportStall n s := by
  obtain ⟨hc, hi⟩ := unit_class_index (k := 2) (by decide) hn
  simp only [doneReport, hc, hi]

theorem doneReport_yard (hn : n < 4096) : doneReport (BitVec.ofNat 16 (0x3000 + n)) s = remapFollow (reportYard n s) := by
  obtain ⟨hc, hi⟩ := unit_class_index (k := 3) (by decide) hn
  simp only [doneReport, hc, hi]

theorem doneReport_remap (hn : n < 4096) : doneReport (BitVec.ofNat 16 (0x4000 + n)) s = remapDone n s := by
  obtain ⟨hc, hi⟩ := unit_class_index (k := 4) (by decide) hn
  simp only [doneReport, hc, hi]

theorem doneReport_head (hn : n < 4096) : doneReport (BitVec.ofNat 16 (0x5000 + n)) s =
    if (s.head n).owes.isSome then dmaHead n (headReport n s) else s := by
  obtain ⟨hc, hi⟩ := unit_class_index (k := 5) (by decide) hn
  simp only [doneReport, hc, hi]

theorem doneReport_other {u : BitVec 16} (h : u.toNat < 0x2000 ∨ 0x6000 ≤ u.toNat) : doneReport u s = s := by
  have hc : uClass u ≤ 1 ∨ 6 ≤ uClass u := by
    unfold uClass
    omega
  rw [doneReport]
  split
  · omega
  · omega
  · omega
  · omega
  · rfl

theorem reportStall_busy (h : (s.stall n).state = .running ∨ (s.stall n).xfers ≠ [] ∨ (s.stall n).launchOnRestart = true) :
    reportStall n s = s := if_pos h

theorem reportStall_ended (hr : (s.stall n).state ≠ .running) (hx : (s.stall n).xfers = [])
    (hl : (s.stall n).launchOnRestart = false) : reportStall n s = stallReport n s := by
  refine if_neg ?_
  rintro (h | h | h)
  · exact hr h
  · exact h hx
  · rw [hl] at h; exact Bool.false_ne_true h

theorem stallReport_owed (h : (s.stall n).owesDone = true) : stallReport n s =
    (s.setStall n { s.stall n with owesDone := false, late := false, truncIn := false }).emit
      (.doneReport (BitVec.ofNat 16 (stallUnit n)) (s.stall n).launchTick
        (doneStatus ((s.stall n).state == .fault) (s.stall n).truncIn) (s.stall n).usedCycles (s.stall n).late) := by
  simp only [stallReport, h, Bool.not_true, Bool.false_eq_true, if_false]

theorem stallReport_done (h : (s.stall n).owesDone = false) : stallReport n s = s := by
  simp only [stallReport, h, Bool.not_false, if_true]

theorem reportYard_ready {i : Nat} {y : Yard} {tick : Word} (hy : s.yard? i = some y) (ho : y.owes = some tick)
    (hr : s.yardReady y = true) : reportYard i s = yardReport y tick s := by
  simp only [reportYard, hy, ho, hr, if_true]

/-! ### Loads, restarts and record periods (R26, R72, R218, R496) -/

theorem loadComplete_loading {o : KObj} (h : (s.stall n).loadingObj = some o) {t : State}
    (ht : t = s.onPair n (fun y => { loadObject o y with state := .loaded })) : loadComplete n s =
      if (t.stall n).lock then t.setStall (n / 2 * 2 + 1) { t.stall (n / 2 * 2 + 1) with state := .checker } else t := by
  subst ht
  simp only [loadComplete, h]

theorem loadComplete_idle (h : (s.stall n).loadingObj = none) : loadComplete n s = s := by
  simp only [loadComplete, h]

/-- Stalls of which none waits for its clocks launch nothing. -/
theorem foldl_launch_none (l : List Nat) (f : Nat → Nat) (g : State → Nat → State)
    (h : ∀ i ∈ l, (s.stall (f i)).launchOnRestart = false) :
    l.foldl (fun t i => if (t.stall (f i)).launchOnRestart then g t i else t) s = s := by
  induction l with
  | nil => rfl
  | cons i l ih =>
    rw [List.foldl_cons, h i (List.mem_cons_self), if_neg Bool.false_ne_true]
    exact ih (fun j hj => h j (List.mem_cons_of_mem i hj))

/-- What a launch does to the stall of a shed whose clocks restart. -/
def launchOnPair (h : Nat) (t : State) (i : Nat) : State := t.onPair (16 * h + i) (launched (t.stall (16 * h + i)).launchTick)

theorem shedRestart_eq {h : Nat} {t : State}
    (ht : t = { s with pwr := { s.pwr with stoppedSheds := s.pwr.stoppedSheds.filter (· ≠ h) } }) : shedRestart h s =
      (upTo 16).foldl (fun a i => if (a.stall (16 * h + i)).launchOnRestart then launchOnPair h a i else a) t := by
  subst ht
  rfl

theorem recordWindow_idle (h : s.tg.running = false) : recordWindow s = s.newRecordPeriod :=
  if_neg (Bool.eq_false_iff.mp h)

theorem recordWindow_running (h : s.tg.running = true) : recordWindow s = s := if_pos h

end

end Sys2Proof.Machine

/-- Settles O44. -/
theorem workOfATickEnds : Obligations.WorkOfATickEnds := by
  unfold Obligations.WorkOfATickEnds
  intro s
  refine ⟨fun n hn => ⟨fun hr hx hl => ⟨fun ho => ?_, fun ho => ?_⟩, fun h => ?_⟩, fun i hi => ?_,
    fun i y tick hy ho hr => reportYard_ready hy ho hr, fun n hn => ?_, fun n hn => ⟨fun o ho => ?_, fun ho => ?_⟩, fun u hu => ?_,
    fun n o t ho ht => ?_, fun n ho => ?_, fun h t ht => ?_, fun h => ?_, fun h => ?_⟩
  · exact congrArg Host.Outcome.next ((doneReport_stall hn).trans ((reportStall_ended hr hx hl).trans (stallReport_owed ho)))
  · exact congrArg Host.Outcome.next ((doneReport_stall hn).trans ((reportStall_ended hr hx hl).trans (stallReport_done ho)))
  · exact congrArg Host.Outcome.next ((doneReport_stall hn).trans (reportStall_busy h))
  · exact congrArg Host.Outcome.next (doneReport_yard hi)
  · exact congrArg Host.Outcome.next (doneReport_remap hn)
  · refine congrArg Host.Outcome.next ((doneReport_head hn).trans ?_)
    simp only [ho, Option.isSome_some, if_true, headReport]
  · refine congrArg Host.Outcome.next ((doneReport_head hn).trans ?_)
    simp only [ho, Option.isSome_none, Bool.false_eq_true, if_false]
  · exact congrArg Host.Outcome.next (doneReport_other hu)
  · exact congrArg Host.Outcome.next (loadComplete_loading ho ht)
  · exact congrArg Host.Outcome.next (loadComplete_idle ho)
  · exact ⟨congrArg Host.Outcome.next (shedRestart_eq ht), fun hl => congrArg Host.Outcome.next ((shedRestart_eq ht).trans
      (foldl_launch_none (upTo 16) (fun i => 16 * h.val + i) (launchOnPair h) (fun i hi => hl i (List.mem_range.mp hi))))⟩
  · exact congrArg Host.Outcome.next (recordWindow_idle h)
  · exact congrArg Host.Outcome.next (recordWindow_running h)
end

section
/-! PROOF. gPTP messages at their time base (R394, R402, R403, R407 to R411). -/

open Sys2Proof Sys2Proof.Machine

namespace Sys2Proof.Machine

section
variable {port domain n : Nat} {event : Bool} {f : Nat → State → State} {s t : State}

/-! ### The door of a port (R402, R403, R407) -/

theorem gptpRx_down (h : s.ethUp port = false) : gptpRx port domain event f s = s := by
  simp only [gptpRx, h, Bool.not_false, if_true]

theorem gptpRx_event (h : s.ethUp port = true) (hn : s.gptpOf port domain = none) :
    gptpRx port domain true f s = s.incSat (R.ETH_RX port) F.ETH_RX_FILTERED 1 := by
  simp only [gptpRx, h, hn, Bool.not_true, Bool.false_eq_true, if_false, if_true]
  rfl

theorem gptpRx_general (h : s.ethUp port = true) (hn : s.gptpOf port domain = none) :
    gptpRx port domain false f s = s.incWrap (R.ETH_RX port) F.ETH_RX_GOOD 1 := by
  simp only [gptpRx, h, hn, Bool.not_true, Bool.false_eq_true, if_false]

theorem gptpRx_bound (h : s.ethUp port = true) (hn : s.gptpOf port domain = some n)
    (ht : t = s.incWrap (R.ETH_RX port) F.ETH_RX_GOOD 1) : gptpRx port domain event f s = f n t := by
  subst ht
  simp only [gptpRx, h, hn, Bool.not_true, Bool.false_eq_true, if_false]

theorem syncMeasured_slave {rx src : Int} {lc : Nat} (h : s.tbSlave n = true ∧ s.asCapable n = true) :
    syncMeasured n rx src lc s = ownMeasurement n (rx - src) src lc s := by
  simp only [syncMeasured, h, Bool.and_self, if_true]

theorem syncMeasured_other {rx src : Int} {lc : Nat} (h : ¬ (s.tbSlave n = true ∧ s.asCapable n = true)) :
    syncMeasured n rx src lc s = s := by
  rw [syncMeasured, if_neg (by rwa [Bool.and_eq_true])]

/-! ### The messages of a bound time base -/

section
variable (hu : s.ethUp port = true) (hn : s.gptpOf port domain = some n)
  (ht : t = s.incWrap (R.ETH_RX port) F.ETH_RX_GOOD 1) {seq : BitVec 16}
include hu hn ht

theorem rxSync_twoStep {o : PtpTime} {c : Int} : rxSync port domain seq true o c s =
    t.setGptp n { t.gptp n with sync := some (seq, t.rxStamp port n, t.clk.localNs) } :=
  gptpRx_bound hu hn ht

theorem rxSync_oneStep {o : PtpTime} {c : Int} : rxSync port domain seq false o c s =
    syncMeasured n (t.rxStamp port n) (fineOf o + c + t.linkDelay n) t.clk.localNs t :=
  gptpRx_bound hu hn ht

theorem rxFollowUp_awaited {rx : Int} {lc : Nat} {o : PtpTime} {c : Int} (hs : (t.gptp n).sync = some (seq, rx, lc)) :
    rxFollowUp port domain seq o c s =
      syncMeasured n rx (fineOf o + c + t.linkDelay n) lc (t.setGptp n { t.gptp n with sync := none }) := by
  rw [rxFollowUp, gptpRx_bound hu hn ht]
  simp only [hs, if_true]

theorem rxFollowUp_stray {o : PtpTime} {c : Int} (hs : ∀ rx lc, (t.gptp n).sync ≠ some (seq, rx, lc)) :
    rxFollowUp port domain seq o c s = t := by
  rw [rxFollowUp, gptpRx_bound hu hn ht]
  cases hg : (t.gptp n).sync with
  | none => rfl
  | some e =>
    obtain ⟨q, rx, lc⟩ := e
    have hq : q ≠ seq := fun he => hs rx lc (he ▸ hg)
    simp only [hq, if_false]

theorem rxPdelayRespFollowUp_completes {t1 t2 t4 turn d : Int} {q : PtpTime} (hr : (t.gptp n).pdReq = some (seq, some t1))
    (hp : (t.gptp n).pdResp = some (seq, t2, t4))
    (hturn : turn = (match (t.gptp n).pdLast with
      | some (a3, a4) => if t4 - a4 = 0 then t4 - t1 else Int.tdiv ((t4 - t1) * (fineOf q - a3)) (t4 - a4)
      | none => t4 - t1))
    (hd : d = Int.tdiv (turn - (fineOf q - t2)) 2) :
    rxPdelayRespFollowUp port domain seq q s = (t.setGptp n { t.gptp n with
        pdReq := none, pdResp := none, pdLast := some (fineOf q, t4), linkDelay := d, asCapable := true, lost := 0 }).setFld
      (R.TB_LINKMEAS n) F.TB_LINKMEAS_DELAY_PS
      (if (Int.tdiv (d * 1000) 65536).toNat ≤ F.TB_LINKMEAS_DELAY_PS.max then (Int.tdiv (d * 1000) 65536).toNat
        else F.TB_LINKMEAS_DELAY_PS.max) := by
  rw [rxPdelayRespFollowUp, gptpRx_bound hu hn ht]
  subst hd hturn
  simp only [hr, hp, and_self, if_true] <;> rfl

theorem rxPdelayRespFollowUp_stray {q : PtpTime}
    (h : ∀ t1 t2 t4, (t.gptp n).pdReq = some (seq, some t1) → (t.gptp n).pdResp ≠ some (seq, t2, t4)) :
    rxPdelayRespFollowUp port domain seq q s = t := by
  rw [rxPdelayRespFollowUp, gptpRx_bound hu hn ht]
  dsimp only
  split
  · next k t1 k' t2 t4 hr hp =>
    refine if_neg (fun he => ?_)
    obtain ⟨rfl, rfl⟩ := he
    exact h t1 t2 t4 hr hp
  · rfl

section
variable {a : AnnounceMsg}

theorem rxAnnounce_master (hr : t.fld (R.TB_GPTP n) F.TB_GPTP_ROLE = 2) : rxAnnounce port domain a s = t := by
  rw [rxAnnounce, gptpRx_bound hu hn ht]
  exact if_pos hr

theorem rxAnnounce_follows {better : Bool}
    (hb : better = Config.bmcaBetter (dataset a.prio1.toNat a.clockClass.toNat a.accuracy.toNat a.variance.toNat a.prio2.toNat
        a.gm.toNat a.steps.toNat a.sender.toNat) (dataset (t.fld (R.TB_GPTP n) F.TB_GPTP_PRIO1) 248 0 0
          (t.fld (R.TB_GPTP n) F.TB_GPTP_PRIO2) (t.ownIdentity n).toNat 0 0))
    {u : State} (h' : u = t.setFld (R.TB_STATUS n) F.TB_STATUS_PORT_STATE 1)
    (hr : t.fld (R.TB_GPTP n) F.TB_GPTP_ROLE ≠ 2) (hf : t.fld (R.TB_GPTP n) F.TB_GPTP_ROLE = 1 ∨ better = true) :
    rxAnnounce port domain a s = gmChange n a.gm (if u.tbState n = 0
      then (u.setTb n { u.tb n with hist := [] }).setTbState n 1 else u) := by
  subst h' hb
  rw [rxAnnounce, gptpRx_bound hu hn ht]
  exact (if_neg hr).trans (if_pos hf)

theorem rxAnnounce_leads {better : Bool}
    (hb : better = Config.bmcaBetter (dataset a.prio1.toNat a.clockClass.toNat a.accuracy.toNat a.variance.toNat a.prio2.toNat
        a.gm.toNat a.steps.toNat a.sender.toNat) (dataset (t.fld (R.TB_GPTP n) F.TB_GPTP_PRIO1) 248 0 0
          (t.fld (R.TB_GPTP n) F.TB_GPTP_PRIO2) (t.ownIdentity n).toNat 0 0))
    (hr : t.fld (R.TB_GPTP n) F.TB_GPTP_ROLE ≠ 2) (h1 : t.fld (R.TB_GPTP n) F.TB_GPTP_ROLE ≠ 1) (hf : better = false) :
    rxAnnounce port domain a s = becomeMaster n t := by
  subst hb
  rw [rxAnnounce, gptpRx_bound hu hn ht]
  exact (if_neg hr).trans (if_neg (not_or.mpr ⟨h1, Bool.eq_false_iff.mp hf⟩))

end

end

end

end Sys2Proof.Machine

/-- Settles O45. -/
theorem gptpMessagesReachTheirInstance : Obligations.GptpMessagesReachTheirInstance := by
  unfold Obligations.GptpMessagesReachTheirInstance
  intro port domain seq s t events general
  refine ⟨fun hu => ?_, fun hu hn => ?_, fun n hu hn => ⟨fun o c => ?_, fun o c hs => ?_, fun o c hs => ?_,
    fun rx lc o c u hs h' => ?_, fun hs o c => ?_, fun q u h' => ?_, fun q => ?_,
    fun t1 t2 t4 q turn d u hr hp hturn hd h' => ?_, fun h q => ?_,
    fun a u better hb h' => ⟨fun hr => ?_, fun hr hf => ?_, fun hr h1 hf => ?_⟩, fun a b c => ?_⟩⟩
  · have down {e : Bool} {f : Nat → State → State} := congrArg (Host.Outcome.next (φ := Fault) (ρ := Refusal))
      (gptpRx_down (domain := domain.toNat) (event := e) (f := f) hu)
    exact ⟨⟨fun _ _ _ => down, fun _ => down, fun _ => down⟩, fun _ _ => down, fun _ => down, fun _ => down, fun _ _ _ => down⟩
  · have event {f : Nat → State → State} := congrArg (Host.Outcome.next (φ := Fault) (ρ := Refusal)) (gptpRx_event (f := f) hu hn)
    have general {f : Nat → State → State} := congrArg (Host.Outcome.next (φ := Fault) (ρ := Refusal)) (gptpRx_general (f := f) hu hn)
    exact ⟨⟨fun _ _ _ => event, fun _ => event, fun _ => event⟩, fun _ _ => general, fun _ => general, fun _ => general,
      fun _ _ _ => general⟩
  · exact congrArg Host.Outcome.next (rxSync_twoStep hu hn rfl)
  · exact congrArg Host.Outcome.next ((rxSync_oneStep hu hn rfl).trans (syncMeasured_slave hs))
  · exact congrArg Host.Outcome.next ((rxSync_oneStep hu hn rfl).trans (syncMeasured_other hs))
  · have hfollow := rxFollowUp_awaited hu hn rfl (o := o) (c := c) hs
    subst h'
    exact ⟨fun hs => congrArg Host.Outcome.next (hfollow.trans (syncMeasured_slave hs)),
      fun hs => congrArg Host.Outcome.next (hfollow.trans (syncMeasured_other hs))⟩
  · exact congrArg Host.Outcome.next (rxFollowUp_stray hu hn rfl hs)
  · subst h'
    exact congrArg Host.Outcome.next (gptpRx_bound hu hn rfl)
  · exact congrArg Host.Outcome.next (gptpRx_bound hu hn rfl)
  · subst h'
    exact congrArg Host.Outcome.next (rxPdelayRespFollowUp_completes hu hn rfl hr hp hturn hd)
  · exact congrArg Host.Outcome.next (rxPdelayRespFollowUp_stray hu hn rfl h)
  · exact congrArg Host.Outcome.next (rxAnnounce_master hu hn rfl hr)
  · exact congrArg Host.Outcome.next (rxAnnounce_follows hu hn rfl hb h' hr hf)
  · exact congrArg Host.Outcome.next (rxAnnounce_leads hu hn rfl hb hr h1 hf)
  · exact congrArg Host.Outcome.next (gptpRx_bound hu hn rfl)
end

section
/-! PROOF. Time bases: their timers, stamps, steps and hold-over, and the PPS pins (R395 to R413). -/

open Sys2Proof Sys2Proof.Machine

namespace Sys2Proof.Machine

section
variable {n port : Nat} {s t u : State}

/-! ### 802.1AS timers (R408, R410, R411) -/

theorem masterTimer_idle (h : s.tbMaster n = false ∨ s.ethUp (s.fld (R.TB_GPTP n) F.TB_GPTP_PORT) = false) :
    (!s.tbMaster n || !s.ethUp (s.fld (R.TB_GPTP n) F.TB_GPTP_PORT)) = true := by
  rcases h with h | h <;> simp [h]

theorem syncTimer_idle (h : s.tbMaster n = false ∨ s.ethUp (s.fld (R.TB_GPTP n) F.TB_GPTP_PORT) = false) : syncTimer n s = s :=
  if_pos (masterTimer_idle h)

theorem announceTimer_idle (h : s.tbMaster n = false ∨ s.ethUp (s.fld (R.TB_GPTP n) F.TB_GPTP_PORT) = false) :
    announceTimer n s = s := if_pos (masterTimer_idle h)

section
variable (hm : s.tbMaster n = true) (hu : s.ethUp (s.fld (R.TB_GPTP n) F.TB_GPTP_PORT) = true)
include hm hu

theorem syncTimer_sends : syncTimer n s = gptpSend n ptpSync (s.gptp n).syncSeq 0
    (s.setGptp n { s.gptp n with syncSent := some (s.gptp n).syncSeq, syncSeq := (s.gptp n).syncSeq + 1 }) := by
  simp only [syncTimer, hm, hu, Bool.not_true, Bool.or_self, Bool.false_eq_true, if_false]

theorem announceTimer_sends : announceTimer n s = gptpSend n ptpAnnounce (s.gptp n).annSeq 0
    (s.setGptp n { s.gptp n with annSeq := (s.gptp n).annSeq + 1 }) := by
  simp only [announceTimer, hm, hu, Bool.not_true, Bool.or_self, Bool.false_eq_true, if_false]

end

theorem pdelayTimer_idle (h : s.tbMode n ≠ 1 ∨ s.flag (R.TB_GPTP n) F.TB_GPTP_PDELAY_EN = false
      ∨ s.ethUp (s.fld (R.TB_GPTP n) F.TB_GPTP_PORT) = false) : pdelayTimer n s = s := by
  refine if_pos ?_
  rcases h with h | h | h <;> simp [h]

theorem pdelayTimer_sends {lost : Nat} (hm : s.tbMode n = 1) (hp : s.flag (R.TB_GPTP n) F.TB_GPTP_PDELAY_EN = true)
    (hu : s.ethUp (s.fld (R.TB_GPTP n) F.TB_GPTP_PORT) = true)
    (hl : lost = if (s.gptp n).pdReq.isSome then (s.gptp n).lost + 1 else (s.gptp n).lost) :
    pdelayTimer n s = gptpSend n ptpPdelayReq (s.gptp n).pdSeq 0 (s.setGptp n { s.gptp n with
      lost := lost, asCapable := (s.gptp n).asCapable && decide (lost ≤ 9), pdReq := some ((s.gptp n).pdSeq, none),
      pdResp := none, pdSeq := (s.gptp n).pdSeq + 1 }) := by
  subst hl
  have hno : ¬ (s.tbMode n ≠ 1 ∨ (!s.flag (R.TB_GPTP n) F.TB_GPTP_PDELAY_EN) = true
      ∨ (!s.ethUp (s.fld (R.TB_GPTP n) F.TB_GPTP_PORT)) = true) := by
    simp [hm, hp, hu]
  exact if_neg hno

/-! ### Ports (R402, R406, R408) -/

theorem txTimestamp_dark {id : BitVec 16} (h : s.dark 0x30 = true) : txTimestamp port id n s = s := if_pos h

theorem ethLinkChange_dark {up lock an : Bool} (h : s.dark 0x30 = true) : ethLinkChange port up lock an s = s := if_pos h

theorem txTimestamp_stored {id : BitVec 16} {q : List TxStamp} (h : s.dark 0x30 = false) (hq : q = SMap.get s.clk.txts [] port)
    (hl : q.length < 16) : txTimestamp port id n s =
      { s with clk := { s.clk with txts := SMap.put s.clk.txts [] port (q ++ [⟨id, n, s.epoch n,
        ((s.tbFine n : Int) + finePs (s.fld (R.ETH_TX_LAT port) F.ETH_TX_LAT_LAT_PS)).toNat⟩]) } } := by
  subst hq
  exact (if_neg (Bool.eq_false_iff.mp h)).trans (if_neg (Nat.not_le.mpr hl))

theorem txTimestamp_dropped {id : BitVec 16} (h : s.dark 0x30 = false) (hl : 16 ≤ (SMap.get s.clk.txts [] port).length)
    (ht : t = s.incSat (R.ETH_TXTS port) F.ETH_TXTS_OVERFLOW 1) : txTimestamp port id n s =
      (if (t.gptp n).syncSent = some id then t.setGptp n { t.gptp n with syncSent := none } else t).raise Ev.TS_OVERFLOW 0 0 := by
  subst ht
  exact (if_neg (Bool.eq_false_iff.mp h)).trans (if_pos hl)

theorem ethLinkChange_shown {up lock an : Bool} (h : s.dark 0x30 = false)
    (ht : t = ((s.setFlag (R.ETH_STATUS port) F.ETH_STATUS_LINK up).setFlag (R.ETH_STATUS port) F.ETH_STATUS_LOCK
      lock).setFlag (R.ETH_STATUS port) F.ETH_STATUS_AN_DONE an) : ethLinkChange port up lock an s =
      if s.flag (R.ETH_STATUS port) F.ETH_STATUS_LINK = true ∧ up = false
      then t.incSat (R.ETH_LINKCNT port) F.ETH_LINKCNT_DOWNS 1 else t := by
  subst ht
  simp only [ethLinkChange, h, Bool.false_eq_true, if_false, Bool.and_eq_true, Bool.not_eq_true']

/-! ### Hold-over, slews and steps (R395, R396, R399, R400) -/

theorem receiptTimeout_free (h : s.tbFree n = true) : receiptTimeout n s = s := if_pos h

theorem receiptTimeout_lost {p : Nat} (h : s.tbFree n = false) (hp : p = s.fld (R.TB_PAIR n) F.TB_PAIR_PARTNER)
    (hu : u = if s.switched n then s else if s.flag (R.TB_PAIR n) F.TB_PAIR_EN = true ∧ s.tbState p ≠ 4 then switchOver n s
      else holdover n s) :
    receiptTimeout n s = if u.tbState n = 4
      then (u.primariesOf n).foldl (fun t a => if t.switched a then holdover a t else t) u else u := by
  subst hu hp
  simp only [receiptTimeout, h, Bool.false_eq_true, if_false, Bool.and_eq_true, bne_iff_ne, ne_eq]

theorem slewDone_slewing (h : s.tbState n = 3) (ht : t = s.setTb n { s.tb n with remain := 0 }) :
    slewDone n s = (t.setRateEff n ((t.tb n).f.getD 0)).setTbState n 2 := by
  subst ht
  exact if_neg (not_not_intro h)

theorem slewDone_idle (h : s.tbState n ≠ 3) : slewDone n s = s := if_pos h

theorem applyStep_none (h : (s.tb n).step = none) : applyStep n s = s := by
  simp only [applyStep, h]

/-- A step while no tick runs moves the time base and nothing of the tick. -/
theorem applyStep_stopped {d : Int} (hr : s.tg.running = false) (h : (s.tb n).step = some d)
    (ht : t = cancelStep n (s.setTb n { s.tb n with val := (((s.tb n).val : Int) + d * 2 ^ 32).toNat % tbTop }))
    (hu : u = if d < 0 then (t.setFld (R.TB_STATUS n) F.TB_STATUS_EPOCH (t.epoch n + 1)).incSat (R.TB_CNT n) F.TB_CNT_BACKSTEPS 1
      else t.incSat (R.TB_CNT n) F.TB_CNT_STEPS 1) :
    applyStep n s = u.raise Ev.TB_STEP (tbUnit n) (evArg (b01 (decide (d < 0))) (u.epoch n) 0) := by
  subst hu ht
  by_cases hd : d < 0
  · simp only [applyStep, h, hd, decide_true, if_true, cancelStep, State.incSat_tg, State.setFld_tg, State.setFlag_tg,
      State.setTb_tg, hr, Bool.false_and, Bool.false_eq_true, if_false]
  · simp only [applyStep, h, hd, decide_false, cancelStep, State.incSat_tg, State.setFlag_tg, State.setTb_tg, hr,
      Bool.false_and, Bool.false_eq_true, if_false]

theorem stepApply_running (h : s.tg.running = true ∨ (s.tb n).step = none) : stepApply n s = s := by
  rcases h with h | h
  · exact if_pos h
  · rw [stepApply, applyStep_none h, ite_self]

theorem stepApply_stopped (h : s.tg.running = false) : stepApply n s = applyStep n s := if_neg (Bool.eq_false_iff.mp h)

/-! ### PPS pins (R412, R413) -/

theorem ppsInEdge_off (h : s.flag R.PPS_IN_CTRL F.PPS_IN_CTRL_EN = false ∨ s.groom.up = false) : ppsInEdge s = s := by
  refine if_pos ?_
  rcases h with h | h <;> simp [h]

section
variable (he : s.flag R.PPS_IN_CTRL F.PPS_IN_CTRL_EN = true) (hg : s.groom.up = true)
include he hg

theorem ppsInEdge_glitch {a : Nat} (ha : s.clk.ppsInAt = some a) (hl : s.clk.localNs - a < 500000000) :
    ppsInEdge s = s.incSat R.PPS_IN_CNT F.PPS_IN_CNT_GLITCHES 1 := by
  simp only [ppsInEdge, he, hg, ha, hl, Bool.not_true, Bool.or_self, Bool.false_eq_true, if_false, decide_true, if_true]

theorem ppsInEdge_captured (ha : ∀ a, s.clk.ppsInAt = some a → 500000000 ≤ s.clk.localNs - a) {m v : Nat} {w : State}
    (ht : t = State.incWrap { s with clk := { s.clk with ppsInAt := some s.clk.localNs } } R.PPS_IN_CNT F.PPS_IN_CNT_EDGES 1)
    (hm : m = t.fld R.PPS_IN_CTRL F.PPS_IN_CTRL_TB) (hv : v = t.tbWhole m - t.fld R.PPS_IN_CTRL F.PPS_IN_CTRL_DLY_NS)
    (hu : u = (t.setReg R.PPS_IN_NS (w32 (v % 1000000000))).setReg R.PPS_IN_S_LO (w32 (v / 1000000000)))
    (hw : w = u.setReg R.PPS_IN_INFO (w32 (v / 1000000000 / 2 ^ 32 % 65536 + 65536 * u.epoch m + 2 ^ 24 * m))) :
    ppsInEdge s = ((upTo 4).filter (fun k => w.tbMode k == 2)).foldl (fun t k => ppsMeasure k t) w := by
  subst hw hu hv hm ht
  cases hp : s.clk.ppsInAt with
  | none => simp only [ppsInEdge, he, hg, hp, Bool.not_true, Bool.or_self, Bool.false_eq_true, if_false, nsOf, secOf]
  | some a =>
    have hl : ¬ s.clk.localNs - a < 500000000 := Nat.not_lt.mpr (ha a hp)
    simp only [ppsInEdge, he, hg, hp, hl, Bool.not_true, Bool.or_self, Bool.false_eq_true, if_false, decide_false, nsOf, secOf]

end

theorem ppsOutEdge_off (h : ¬ (s.flag R.PPS_OUT_CTRL F.PPS_OUT_CTRL_EN = true ∧ s.groom.up = true
      ∧ (s.flag R.PPS_OUT_CTRL F.PPS_OUT_CTRL_GATE = false ∨ s.tbState (s.fld R.PPS_OUT_CTRL F.PPS_OUT_CTRL_SRC) = 2))) :
    ppsOutEdge s = s := by
  rw [ppsOutEdge]
  split
  · rfl
  · next hon =>
    rw [if_pos]
    simp only [Bool.or_eq_true, Bool.not_eq_true', not_or, Bool.not_eq_false] at hon
    obtain ⟨he, hg⟩ := hon
    obtain ⟨hgate, hstate⟩ := not_or.mp (fun hor => h ⟨he, hg, hor⟩)
    simp [hgate, hstate]

section
variable (h : s.flag R.PPS_OUT_CTRL F.PPS_OUT_CTRL_EN = true ∧ s.groom.up = true
      ∧ (s.flag R.PPS_OUT_CTRL F.PPS_OUT_CTRL_GATE = false ∨ s.tbState (s.fld R.PPS_OUT_CTRL F.PPS_OUT_CTRL_SRC) = 2))
include h

theorem ppsOutEdge_gated : (s.flag R.PPS_OUT_CTRL F.PPS_OUT_CTRL_GATE
    && s.tbState (s.fld R.PPS_OUT_CTRL F.PPS_OUT_CTRL_SRC) != 2) = false := by
  rcases h.2.2 with h | h <;> simp [h]

theorem ppsOutEdge_skips {a : Nat} (ha : s.clk.ppsOutAt = some a) (hl : s.clk.localNs - a < 500000000) :
    ppsOutEdge s = s.incSat R.PPS_OUT_CNT F.PPS_OUT_CNT_SKIPPED 1 := by
  have hgate := ppsOutEdge_gated h
  obtain ⟨he, hg, -⟩ := h
  simp only [ppsOutEdge, he, hg, hgate, ha, hl, Bool.not_true, Bool.or_self, Bool.false_eq_true, if_false, decide_true, if_true]

theorem ppsOutEdge_pulses (ha : ∀ a, s.clk.ppsOutAt = some a → 500000000 ≤ s.clk.localNs - a) : ppsOutEdge s =
    State.incWrap { s with clk := { s.clk with ppsOutAt := some s.clk.localNs, ppsOut := true } } R.PPS_OUT_CNT
      F.PPS_OUT_CNT_PULSES 1 := by
  have hgate := ppsOutEdge_gated h
  obtain ⟨he, hg, -⟩ := h
  cases hp : s.clk.ppsOutAt with
  | none => simp only [ppsOutEdge, he, hg, hgate, hp, Bool.not_true, Bool.or_self, Bool.false_eq_true, if_false]
  | some a =>
    have hl : ¬ s.clk.localNs - a < 500000000 := Nat.not_lt.mpr (ha a hp)
    simp only [ppsOutEdge, he, hg, hgate, hp, hl, Bool.not_true, Bool.or_self, Bool.false_eq_true, if_false, decide_false]

end

end

end Sys2Proof.Machine

/-- Settles O46. -/
theorem timeBasesAndPpsPins : Obligations.TimeBasesAndPpsPins := by
  unfold Obligations.TimeBasesAndPpsPins
  refine ⟨fun n port s => ⟨fun hm hu => ⟨?_, ?_⟩, fun h => ⟨?_, ?_⟩, fun lost hm hp hu hl => ?_, fun h => ?_,
      fun hd => ⟨fun id => ?_, fun up lock an => ?_⟩, fun id q hd hq hl => ?_, fun id t hd hl ht => ?_,
      fun up lock an t hd ht => ?_, fun p u hf hp hu => ?_, fun hf => ?_, fun t hs ht => ?_, fun hs => ?_,
      fun d t u hr hs ht hu => ?_, fun h => ?_⟩,
    fun s => ⟨fun h => ?_, fun he hg => ⟨fun a ha hl => ?_, fun ha t m v u w ht hm hv hu hw => ?_⟩, fun h => ?_,
      fun h => ⟨fun a ha hl => ?_, fun ha => ?_⟩, rfl⟩⟩
  · exact congrArg Host.Outcome.next (syncTimer_sends hm hu)
  · exact congrArg Host.Outcome.next (announceTimer_sends hm hu)
  · exact congrArg Host.Outcome.next (syncTimer_idle h)
  · exact congrArg Host.Outcome.next (announceTimer_idle h)
  · exact congrArg Host.Outcome.next (pdelayTimer_sends hm hp hu hl)
  · exact congrArg Host.Outcome.next (pdelayTimer_idle h)
  · exact congrArg Host.Outcome.next (txTimestamp_dark hd)
  · exact congrArg Host.Outcome.next (ethLinkChange_dark hd)
  · exact congrArg Host.Outcome.next (txTimestamp_stored hd hq hl)
  · exact congrArg Host.Outcome.next (txTimestamp_dropped hd hl ht)
  · exact congrArg Host.Outcome.next (ethLinkChange_shown hd ht)
  · exact congrArg Host.Outcome.next (receiptTimeout_lost hf hp hu)
  · exact congrArg Host.Outcome.next (receiptTimeout_free hf)
  · exact congrArg Host.Outcome.next (slewDone_slewing hs ht)
  · exact congrArg Host.Outcome.next (slewDone_idle hs)
  · exact congrArg Host.Outcome.next ((stepApply_stopped hr).trans (applyStep_stopped hr hs ht hu))
  · exact congrArg Host.Outcome.next (stepApply_running h)
  · exact congrArg Host.Outcome.next (ppsInEdge_off h)
  · exact congrArg Host.Outcome.next (ppsInEdge_glitch he hg ha hl)
  · exact congrArg Host.Outcome.next (ppsInEdge_captured he hg ha ht hm hv hu hw)
  · exact congrArg Host.Outcome.next (ppsOutEdge_off h)
  · exact congrArg Host.Outcome.next (ppsOutEdge_skips h ha hl)
  · exact congrArg Host.Outcome.next (ppsOutEdge_pulses h ha)
end

section
/-! PROOF. The handshake of a sleep entry and its end, and wakes (R446 to R454). -/

open Sys2Proof Sys2Proof.Machine

namespace Sys2Proof.Machine

section
variable {d : Nat} {e : EntrySt} {s : State}

/-! ### The handshake (R446, R447) -/

theorem delayExpiry_awake (h : s.pwr.entry = none) : delayExpiry d s = s := by simp only [delayExpiry, h]

theorem domainAgrees_awake (h : s.pwr.entry = none) : domainAgrees d s = s := by simp only [domainAgrees, h]

theorem entryComplete_awake (h : s.pwr.entry = none) : entryComplete s = s := by simp only [entryComplete, h]

theorem delayExpiry_other (h : s.pwr.entry = some e) (hd : e.delaying ≠ some d) : delayExpiry d s = s := by
  simp only [delayExpiry, h, ne_eq, hd, not_false_eq_true, if_true]

theorem domainAgrees_other (h : s.pwr.entry = some e) (hd : ¬ (e.delaying = some d ∧ s.answerOf d = .agree)) :
    domainAgrees d s = s := by
  simp only [domainAgrees, h, hd, if_false]

theorem delayExpiry_refuses (h : s.pwr.entry = some e) (hd : e.delaying = some d) {r : Nat} {b : Bool}
    (hb : s.blocker d = some (r, b)) : delayExpiry d s = s.endEntry 1 d r 0 := by
  simp only [delayExpiry, h, hd, hb, ne_eq, not_true_eq_false, if_false]

theorem delayExpiry_abandons (h : s.pwr.entry = some e) (hd : e.delaying = some d) (hb : s.blocker d = none) :
    delayExpiry d s = askDomains (d + 1) (abandonShed d s) := by
  simp only [delayExpiry, h, hd, hb, ne_eq, not_true_eq_false, if_false]

theorem domainAgrees_able (h : s.pwr.entry = some e) (hd : e.delaying = some d) (ha : s.answerOf d = .agree) :
    domainAgrees d s = askDomains (d + 1) s := by
  simp only [domainAgrees, h, hd, ha, and_self, if_true]

/-! ### A completed entry (R448 to R450) -/

/-- What a completed entry into `k` leaves, but for the state of its wake. -/
structure Slept (k : SleepKind) (t : State) : Prop where
  entry : t.pwr.entry = none
  kind : t.pwr.kind = k
  pwrgood : t.pwr.pwrgood = false
  up : t.groom.up = false
  selfRefresh : t.store.selfRefresh = true
  debugScopes : t.sec.debugScopes = 0

theorem wakeNow_pwr (m : Nat) (s : State) : (wakeNow m s).pwr = { s.pwr with
    pwrReq := true
    resume := .waitPwrgood
    wakeRtc := s.pwr.rtc.toNat
    lateWake := 0 } := by
  unfold wakeNow
  split <;> rfl

theorem wakeNow_frame (m : Nat) (s : State) :
    (wakeNow m s).groom = s.groom ∧ (wakeNow m s).store = s.store ∧ (wakeNow m s).sec = s.sec := by
  unfold wakeNow
  split <;> exact ⟨rfl, rfl, rfl⟩

theorem Slept.wakeNow {k : SleepKind} (h : Slept k s) (m : Nat) : Slept k (wakeNow m s) := by
  obtain ⟨hg, hs, hc⟩ := wakeNow_frame m s
  exact ⟨by rw [wakeNow_pwr, h.entry], by rw [wakeNow_pwr, h.kind], by rw [wakeNow_pwr, h.pwrgood], by rw [hg, h.up],
    by rw [hs, h.selfRefresh], by rw [hc, h.debugScopes]⟩

/-- The hub is asleep, and then acts on a wake that came too late to stop the entry. -/
theorem entryComplete_agreed (h : s.pwr.entry = some e) (ha : e.agreed = true) : ∃ z, entryComplete s = lateWakes (e.kind == .off) z
    ∧ Slept e.kind z ∧ z.pwr.resume = .asleep ∧ z.pwr.pwrReq = false := by
  have hno : ¬ (!e.agreed) = true := by rw [ha]; exact Bool.false_ne_true
  rw [entryComplete, h]
  exact ⟨_, if_neg hno, ⟨rfl, rfl, rfl, rfl, rfl, rfl⟩, rfl, rfl⟩

theorem entryComplete_waiting (h : s.pwr.entry = some e) (ha : e.agreed = false) : entryComplete s = s := by
  simp only [entryComplete, h, ha, Bool.not_false, if_true]

/-- A late wake is acted on at once, but not after an entry into Off. -/
theorem lateWakes_slept {k : SleepKind} (h : Slept k s) (hr : s.pwr.resume = .asleep) (hq : s.pwr.pwrReq = false) :
    Slept k (lateWakes (k == .off) s) ∧ ((lateWakes (k == .off) s).pwr.resume = .asleep ∧ (lateWakes (k == .off) s).pwr.pwrReq = false
      ∨ k ≠ .off ∧ (lateWakes (k == .off) s).pwr.resume = .waitPwrgood ∧ (lateWakes (k == .off) s).pwr.pwrReq = true) := by
  rw [lateWakes]
  split
  · exact ⟨h, .inl ⟨hr, hq⟩⟩
  · next hw =>
    refine ⟨h.wakeNow _, .inr ⟨fun hk => hw (.inr (by rw [hk]; rfl)), ?_, ?_⟩⟩
    · rw [wakeNow_pwr]
    · rw [wakeNow_pwr]

/-! ### Wake sources (R447, R452 to R454) -/

variable {k : Nat}

theorem wake_none (h : k = 0) : wake k s = s := if_pos h

theorem wake_aborts (h : k ≠ 0) (he : s.pwr.entry = some e) (ha : e.agreed = false) : wake k s = s.endEntry 2 0xFF 0 k := by
  simp only [wake, h, he, ha, if_false, Bool.false_eq_true]

theorem wake_late (h : k ≠ 0) (he : s.pwr.entry = some e) (ha : e.agreed = true) :
    wake k s = { s with pwr := { s.pwr with lateWake := s.pwr.lateWake ||| k } } := by
  simp only [wake, h, he, ha, if_false, if_true]

theorem wake_asleep (h : k ≠ 0) (he : s.pwr.entry = none) (hr : s.pwr.resume = .asleep) :
    wake k s = if s.pwr.kind = .off then s else wakeNow k s := by
  simp only [wake, h, he, hr, if_false, if_true]

theorem wake_awake (h : k ≠ 0) (he : s.pwr.entry = none) (hr : s.pwr.resume ≠ .asleep) : wake k s = idleEnd s := by
  simp only [wake, h, he, hr, if_false]

end

end Sys2Proof.Machine

/-- Settles O47. -/
theorem sleepEntriesAndWakes : Obligations.SleepEntriesAndWakes := by
  unfold Obligations.SleepEntriesAndWakes
  refine ⟨fun s => ⟨fun h => ⟨fun d => ⟨?_, ?_⟩, ?_⟩, fun e d h => ⟨fun hd => ⟨fun r b hb => ?_, fun hb => ?_, fun ha => ?_, fun ha => ?_⟩,
      fun hd => ⟨?_, ?_⟩, fun ha => ?_, fun ha => ?_⟩⟩,
    fun s also => ⟨rfl, rfl, fun x hx => ?_, fun x hx => ?_, fun ha => ?_, fun ha => ?_, fun k hk => wake_none hk,
      fun k e hk he ha => wake_aborts hk he ha, fun k e hk he ha => wake_late hk he ha, fun k hk he hr ho => ?_,
      fun k hk he hr ho => ?_, fun k hk he hr => wake_awake hk he hr⟩⟩
  · exact congrArg Host.Outcome.next (delayExpiry_awake h)
  · exact congrArg Host.Outcome.next (domainAgrees_awake h)
  · exact congrArg Host.Outcome.next (entryComplete_awake h)
  · exact congrArg Host.Outcome.next (delayExpiry_refuses h hd hb)
  · exact congrArg Host.Outcome.next (delayExpiry_abandons h hd hb)
  · exact congrArg Host.Outcome.next (domainAgrees_able h hd ha)
  · exact congrArg Host.Outcome.next (domainAgrees_other h (fun hn => ha hn.2))
  · exact congrArg Host.Outcome.next (delayExpiry_other h hd)
  · exact congrArg Host.Outcome.next (domainAgrees_other h (fun hn => hd hn.1))
  · exact congrArg Host.Outcome.next (entryComplete_waiting h ha)
  · obtain ⟨z, hz, hs, hr, hq⟩ := entryComplete_agreed h ha
    obtain ⟨⟨h1, h2, h3, h4, h5, h6⟩, hw⟩ := lateWakes_slept hs hr hq
    exact ⟨_, congrArg Host.Outcome.next hz, h1, h2, h3, h4, h5, h6, hw⟩
  · exact congrArg Host.Outcome.next (if_pos hx)
  · exact congrArg Host.Outcome.next (if_neg (Bool.eq_false_iff.mp hx))
  · exact congrArg Host.Outcome.next (if_pos ha)
  · exact congrArg Host.Outcome.next (if_neg ha)
  · have hwake := (wake_asleep hk he hr).trans (if_neg ho)
    exact ⟨hwake, (congrArg (·.pwr.pwrReq) hwake).trans (by rw [wakeNow_pwr]),
      (congrArg (·.pwr.resume) hwake).trans (by rw [wakeNow_pwr])⟩
  · exact (wake_asleep hk he hr).trans (if_pos ho)
end

section
/-! PROOF. Resumes, the supplies and the temperature (R443, R454 to R458, R498, R550 to R553). -/

open Sys2Proof Sys2Proof.Machine

namespace Sys2Proof.Machine

section
variable {s t u v : State}

/-! ### PWRGOOD (R454, R455) -/

theorem pwrgoodRises_ignored {fails : List (Fin 60)} (h : s.pwr.pwrgood = true ∨ s.pwr.pwrReq = false) :
    pwrgoodRises fails s = s := by
  refine if_pos ?_
  rw [Bool.not_eq_true']
  exact h

theorem pwrgoodRises_eq {fails : List (Fin 60)} (hg : s.pwr.pwrgood = false) (hr : s.pwr.pwrReq = true)
    (ht : t = { s with pwr := { s.pwr with pwrgood := true } }) : pwrgoodRises fails s =
      if s.pwr.resume ≠ .waitPwrgood then t
      else if fails.any (fun b => decide (0x33 ≤ b.val)) then coldStart true t else groomResumes t := by
  subst ht
  refine if_neg ?_
  simp [hg, hr]

theorem pwrgoodTimeout_waiting (h : s.pwr.resume = .waitPwrgood) : pwrgoodTimeout s = { s with pwr := { s.pwr with
    pwrReq := false, resume := .asleep, pmicTimeouts := s.pwr.pmicTimeouts + 1 } } := if_neg (not_not_intro h)

theorem pwrgoodTimeout_other (h : s.pwr.resume ≠ .waitPwrgood) : pwrgoodTimeout s = s := if_pos h

/-! ### Banks (R455 to R458) -/

section
variable {b : Nat} {ok : Bool}

theorem bankCheck_unwanted (h : s.checkable b = false) : bankCheck b ok s = s := by
  simp only [bankCheck, h, Bool.not_false, if_true]

theorem bankCheck_dramFails (h : s.checkable b = true) (hd : dramBank b = true) : bankCheck b false s = coldStart true s := by
  simp only [bankCheck, h, hd, Bool.not_true, Bool.not_false, Bool.false_eq_true, if_false, Bool.and_self, if_true]

section
variable (h : s.checkable b = true)
  (ht : t = { s with pwr := { s.pwr with toCheck := s.pwr.toCheck.filter (fun c => c != b) } })
include h ht

theorem bankCheck_dramPasses (hd : dramBank b = true) (hu : u = settleDram (makeReady [b] t)) :
    bankCheck b true s = if u.pwr.toCheck.any dramBank then u else storePass u := by
  subst hu ht
  simp only [bankCheck, h, hd, Bool.not_true, Bool.false_eq_true, if_false, Bool.false_and, Bool.true_and, if_true,
    Bool.not_eq_true']
  split
  · next hn => rw [hn]; rfl
  · next hn => rw [if_pos (Bool.not_eq_false _ ▸ hn)]

theorem bankCheck_other (hd : dramBank b = false) :
    bankCheck b ok s = settleDram (if ok then makeReady [b] t else bankFails b t) := by
  subst ht
  simp only [bankCheck, h, hd, Bool.not_true, Bool.false_eq_true, if_false, Bool.false_and, Bool.and_false]

end

theorem rebuildDone_builds (hr : b ∈ s.pwr.rebuild) (hd : b ∉ s.pwr.rebuilt) (hu : s.groom.up = true)
    (ht : t = { s with pwr := { s.pwr with rebuilt := s.pwr.rebuilt ++ [b] } }) :
    rebuildDone b s = if s.pwr.resume = .awake ∧ s.tg.running = false then applyRebuilt t else t := by
  subst ht
  have hno : (!s.pwr.rebuild.contains b || s.pwr.rebuilt.contains b || !s.groom.up) = false := by
    simp [hr, hd, hu]
  simp only [rebuildDone, hno, Bool.false_eq_true, if_false, Bool.not_eq_true']

theorem rebuildDone_idle (h : b ∉ s.pwr.rebuild ∨ b ∈ s.pwr.rebuilt ∨ s.groom.up = false) : rebuildDone b s = s := by
  refine if_pos ?_
  rcases h with h | h | h <;> simp [h]

end

/-! ### The resume step (R456) -/

theorem resumeStep_waiting (h : s.pwr.resume ≠ .checking ∨ s.pwr.toCheck ≠ []) : resumeStep s = s := by
  refine if_pos ?_
  rcases h with h | h <;> simp [h]

/-- The clocks of a hub that takes up its work again. -/
def resumedClocks (s : State) : State :=
  resumeClocks ((s.pwr.rtc.toNat - s.pwr.entryRtc) * 1000000000 / 32768)
    (forgetLate { s with pwr := { s.pwr with resume := .awake, resumeTick := s.tickLo } })

/-- RESUME_DONE is raised, with the time that the resume took. -/
def resumeNoted (t : State) : State :=
  (t.setFld R.PWR_RESUME F.PWR_RESUME_TIME
    (satAdd 0 ((t.pwr.rtc.toNat - t.pwr.wakeRtc) * 10000 / 32768) 0xFFFF)).raise Ev.RESUME_DONE 0 0

/-- The pads that AUTO_PADS names are released, and the cameras powered. -/
def resumePads (u : State) : State :=
  let v := releasePads (u.fld R.PWR_RESUME_CTRL F.PWR_RESUME_CTRL_AUTO_PADS) u
  { v with pwr := { v.pwr with
    gpio := v.pwr.gpio ||| BitVec.ofNat 16 (v.fld R.PWR_RESUME_CTRL F.PWR_RESUME_CTRL_CAMPWR),
    awaitPartner := v.pwr.idents.map (·.1) } }

/-- The ticks start again in the states that tick. -/
def resumeTicks (w : State) : State :=
  if w.dstate == .run || w.dstate == .degraded || (w.dstate == .safe && w.flag R.TICK_CTRL F.TICK_CTRL_RUN) then startTicks w else w

theorem resumeStep_checked (hr : s.pwr.resume = .checking) (hc : s.pwr.toCheck = [])
    (ht : t = checkDirects (wantLanes (resumeTicks (resumePads (resumeNoted (resumedClocks s)))))) :
    resumeStep s = if t.tg.running then t else applyRebuilt t := by
  subst ht
  have hno : ¬ (s.pwr.resume != .checking || !s.pwr.toCheck.isEmpty) = true := by
    rw [hr, hc]
    decide
  exact if_neg hno

/-! ### Supplies (R550 to R553) -/

theorem brownOut_ignored (h : s.pwr.pwrgood = false ∨ s.pwr.resume = .asleep) : brownOut s = s := by
  refine if_pos ?_
  rw [Bool.not_eq_true']
  exact h

theorem brownOut_fails (hg : s.pwr.pwrgood = true) (hr : s.pwr.resume ≠ .asleep) : brownOut s =
    { coldStart false s with sec := { (coldStart false s).sec with bootFault := true } } := by
  refine if_neg ?_
  simp [hg, hr]

/-- A start from a state that is no sleep entry leaves no earlier state to report. -/
theorem coldStart_plain {good : Bool} (h1 : s.dstate ≠ .holdEntry) (h2 : s.dstate ≠ .stowEntry) : coldStart good s =
    { coldReset s with pwr := { (coldReset s).pwr with
      pwrReq := true, pwrgood := good, pmicTimeouts := if good then s.pwr.pmicTimeouts else 0,
      pmicFails := if good then s.pwr.pmicFails else [] } } := by
  cases hs : s.dstate with
  | holdEntry => exact absurd hs h1
  | stowEntry => exact absurd hs h2
  | _ => simp only [coldStart, hs]

theorem thermalTrip_off (h : s.pwr.pwrgood = false) : thermalTrip s = s := if_neg (Bool.eq_false_iff.mp h)

theorem thermalTrip_on (h : s.pwr.pwrgood = true) : thermalTrip s = unpowered true s := if_pos h

theorem coldPowerUp_off (hr : s.pwr.resume = .asleep) (hk : s.pwr.kind = .off) (hb : s.sec.bootFault = false) :
    coldPowerUp s = coldStart false s := by
  refine if_pos ⟨hr, hk, ?_⟩
  rw [hb]
  rfl

theorem coldPowerUp_ignored (h : s.pwr.resume ≠ .asleep ∨ s.pwr.kind ≠ .off ∨ s.sec.bootFault = true) : coldPowerUp s = s := by
  refine if_neg ?_
  rintro ⟨h1, h2, h3⟩
  rcases h with h | h | h
  · exact h h1
  · exact h h2
  · rw [h] at h3; exact Bool.false_ne_true h3

/-! ### Temperature (R498) -/

theorem temperature_off {temp : BitVec 9} {sensor : Nat}
    (h : s.pwr.pwrgood = false ∨ s.pwr.resume = .asleep ∨ s.pwr.resume = .waitPwrgood) : temperature temp sensor s = s := by
  refine if_pos ?_
  rw [Bool.not_eq_true']
  exact h

/-- A reading re-arms the thresholds that it lies 5 °C below. -/
def rearm (c warn crit : Int) (t : State) : State :=
  { t with ev := { t.ev with
    warnArmed := t.ev.warnArmed || decide (c ≤ warn - 5), critArmed := t.ev.critArmed || decide (c ≤ crit - 5),
    critHot := t.ev.critHot && decide (crit - 5 ≤ c) } }

theorem rearm_eq (c warn crit : Int) (t : State) :
    (let a := if c ≤ warn - 5 then { t with ev := { t.ev with warnArmed := true } } else t
     let b := if c ≤ crit - 5 then { a with ev := { a.ev with critArmed := true } } else a
     if c < crit - 5 then { b with ev := { b.ev with critHot := false } } else b) = rearm c warn crit t := by
  unfold rearm
  by_cases h1 : c ≤ warn - 5 <;> by_cases h2 : c < crit - 5
  · simp [h1, h2, Int.not_le.mpr h2, Int.le_of_lt h2]
  · by_cases h3 : c ≤ crit - 5 <;> simp [h1, h2, h3, Int.not_lt.mp h2]
  · simp [h1, h2, Int.not_le.mpr h2, Int.le_of_lt h2]
  · by_cases h3 : c ≤ crit - 5 <;> simp [h1, h2, h3, Int.not_lt.mp h2]

theorem temperature_kept {temp : BitVec 9} {sensor : Nat} {c warn crit : Int} (hg : s.pwr.pwrgood = true)
    (hr : s.pwr.resume ≠ .asleep) (hw : s.pwr.resume ≠ .waitPwrgood) (hc : c = sext 9 temp.toNat)
    (ht : t = s.setFld R.EV_TEMP F.EV_TEMP_TEMP temp.toNat) (hwarn : warn = t.fld R.EV_TEMP F.EV_TEMP_WARN_C)
    (hcrit : crit = t.fld R.EV_TEMP F.EV_TEMP_CRIT_C) (hu : u = rearm c warn crit t)
    (hv : v = if u.ev.warnArmed = true ∧ warn ≤ c
      then State.raise { u with ev := { u.ev with warnArmed := false } } Ev.TEMP_WARN 0 (evArg sensor 0 0) else u) :
    temperature temp sensor s = if v.ev.critArmed = true ∧ crit ≤ c
      then State.raise { v with ev := { v.ev with critArmed := false, critHot := true } } Ev.TEMP_CRIT 0 (evArg sensor 0 0)
      else v := by
  have hno : ¬ ((!s.pwr.pwrgood) = true ∨ s.pwr.resume = .asleep ∨ s.pwr.resume = .waitPwrgood) := by
    simp [hg, hr, hw]
  rw [← rearm_eq] at hu
  subst hv hu hcrit hwarn ht hc
  exact if_neg hno

end

end Sys2Proof.Machine

/-- Settles O48. -/
theorem resumesSuppliesAndTemperature : Obligations.ResumesSuppliesAndTemperature := by
  unfold Obligations.ResumesSuppliesAndTemperature
  refine ⟨fun s => ⟨fun h fails => ?_, fun t hg hr ht => ⟨fun fails hw hf => ?_, fun fails b hw hb h33 => ?_, fun fails hw => ?_⟩,
      fun hw => ?_, fun hw => ?_, fun b t hc ht => ⟨fun hd => ⟨?_, ?_⟩, fun hd => ⟨?_, fun u hu => ?_⟩⟩, fun b ok hc => ?_,
      fun h => ?_, fun hr hc => ?_, fun b t hr hd hu ht => ?_, fun b h => ?_⟩,
    fun s => ⟨fun hg hr => ?_, fun h => ?_, fun good h1 h2 => ?_, fun hg => ?_, fun hg => ?_, ?_, fun hr hk hb => ?_, fun h => ?_,
      fun temp sensor h => ?_, fun temp sensor t u v c warn crit hg hr hw hc ht hwarn hcrit hu hv => ?_⟩⟩
  · exact congrArg Host.Outcome.next (pwrgoodRises_ignored h)
  · have hany : ¬ fails.any (fun b => decide (0x33 ≤ b.val)) = true := by
      simpa using hf
    exact congrArg Host.Outcome.next
      ((pwrgoodRises_eq hg hr ht).trans ((if_neg (not_not_intro hw)).trans (if_neg hany)))
  · have hany : fails.any (fun b => decide (0x33 ≤ b.val)) = true := List.any_eq_true.mpr ⟨b, hb, decide_eq_true h33⟩
    exact congrArg Host.Outcome.next
      ((pwrgoodRises_eq hg hr ht).trans ((if_neg (not_not_intro hw)).trans (if_pos hany)))
  · exact congrArg Host.Outcome.next ((pwrgoodRises_eq hg hr ht).trans (if_pos hw))
  · exact congrArg Host.Outcome.next (pwrgoodTimeout_waiting hw)
  · exact congrArg Host.Outcome.next (pwrgoodTimeout_other hw)
  · exact congrArg Host.Outcome.next (bankCheck_other hc ht hd)
  · exact congrArg Host.Outcome.next (bankCheck_other hc ht hd)
  · exact congrArg Host.Outcome.next (bankCheck_dramFails hc hd)
  · exact congrArg Host.Outcome.next (bankCheck_dramPasses hc ht hd hu)
  · exact congrArg Host.Outcome.next (bankCheck_unwanted hc)
  · exact congrArg Host.Outcome.next (resumeStep_waiting h)
  · exact congrArg Host.Outcome.next (resumeStep_checked hr hc rfl)
  · exact congrArg Host.Outcome.next (rebuildDone_builds hr hd hu ht)
  · exact congrArg Host.Outcome.next (rebuildDone_idle h)
  · exact congrArg Host.Outcome.next (brownOut_fails hg hr)
  · exact congrArg Host.Outcome.next (brownOut_ignored h)
  · exact ⟨_, coldStart_plain h1 h2, rfl, rfl, rfl, rfl, rfl, rfl⟩
  · exact ⟨_, congrArg Host.Outcome.next (thermalTrip_on hg), rfl, rfl, rfl, rfl⟩
  · exact congrArg Host.Outcome.next (thermalTrip_off hg)
  · exact ⟨supplyLoss s, rfl, rfl, rfl, rfl, rfl, rfl, rfl, rfl⟩
  · exact congrArg Host.Outcome.next (coldPowerUp_off hr hk hb)
  · exact congrArg Host.Outcome.next (coldPowerUp_ignored h)
  · exact congrArg Host.Outcome.next (temperature_off h)
  · exact congrArg Host.Outcome.next (temperature_kept hg hr hw hc ht hwarn hcrit hu hv)
end

section
/-! PROOF. Boots and restarts (R107, R467, R468, R478, R486), and the security block's own events (R472 to R485). -/

open Sys2Proof Sys2Proof.Machine

namespace Sys2Proof.Machine

section
variable {s t u v : State}

/-! ### The ROM (R467, R486) -/

theorem coldBoot_ignored {b : Straps} {ok : Bool}
    (h : s.dstate ≠ .boot ∨ s.pwr.pwrgood = false ∨ s.sec.fwReady = true ∨ s.sec.fw ≠ none) : coldBoot b ok s = s := by
  refine if_pos ?_
  rw [Bool.not_eq_true', Option.isSome_iff_ne_none]
  exact h

theorem coldBoot_boots {a : Straps} {ok : Bool} (hd : s.dstate = .boot) (hg : s.pwr.pwrgood = true) (hr : s.sec.fwReady = false)
    (hf : s.sec.fw = none) (hv : v = if s.evStatus Ev.STATE_CHANGE then s else s.moveTo .boot 0xF000)
    (ht : t = State.setFld { v with sec := { v.sec with strapBalls := a, straps := a, trngOk := ok, bootFault := !ok } }
      R.TWT_CTRL F.TWT_CTRL_ADDR (strapAddr a.twtAs))
    (hu : u = { t with pwr := { t.pwr with startNs := t.clk.localNs } }) :
    coldBoot a ok s = if ok then romSteps u else u := by
  have hno : ¬ (s.dstate ≠ .boot ∨ (!s.pwr.pwrgood) = true ∨ s.sec.fwReady = true ∨ s.sec.fw.isSome = true) := by
    simp [hd, hg, hr, hf]
  subst hu ht hv
  exact if_neg hno

theorem romSteps_standalone (h : s.sec.straps.bootSel = 1 ∨ s.directory = none) : romSteps s = enterStandalone s := by
  by_cases hb : s.sec.straps.bootSel = 1
  · exact if_pos hb
  · simp only [romSteps, hb, if_false, h.resolve_left hb]

/-- The directory of the flash has been read. -/
def dirRead (copy : Nat) (xspi : Bool) (s : State) : State :=
  let y := s.setFld R.SEC_BOOT F.SEC_BOOT_DIR_COPY copy
  { y with sec := { y.sec with xspi := xspi } }

section
variable {copy : Nat} {xspi : Bool} {l : List DirEntry} {codes : List Nat} {x : State}
  (hb : s.sec.straps.bootSel ≠ 1) (hd : s.directory = some (copy, xspi, l))
include hb hd

theorem romSteps_noFirmware (hf : firstGood 1 ((dirRead copy xspi s).candidates 1) (dirRead copy xspi s) = (none, codes, x)) :
    romSteps s = enterStandalone (noteRejects codes x) := by
  unfold dirRead at hf
  simp only [romSteps, hb, if_false, hd, hf]

theorem romSteps_firmware {e : DirEntry} {i : Img}
    (hf : firstGood 1 ((dirRead copy xspi s).candidates 1) (dirRead copy xspi s) = (some (e, i), codes, x))
    (ht : t = ((noteRejects codes x).setFld R.SEC_BOOT F.SEC_BOOT_FW_SLOT e.slot).setFld R.SEC_BOOT F.SEC_BOOT_FW_KEY i.key) :
    romSteps s = { t with sec := { t.sec with fw := some (w32 i.ver, i.svn, i.key, i.digest), fwReady := true } } := by
  unfold dirRead at hf
  subst ht
  simp only [romSteps, hb, if_false, hd, hf]

end

/-! ### Firmware (R468, R478) -/

theorem firmwareStart_ignored {trained : Bool} (h : s.dstate ≠ .boot ∨ s.sec.fwReady = false) : firmwareStart trained s = s := by
  refine if_pos ?_
  rw [Bool.not_eq_true']
  exact h

/-- The state in which verified firmware has started. -/
def firmwareUp (s : State) : State :=
  tellPmic { s with sec := { s.sec with fwReady := false, warm := false }, groom := { s.groom with up := true } }

theorem firmwareStart_eq {trained : Bool} (hd : s.dstate = .boot) (hr : s.sec.fwReady = true) (ht : t = firmwareUp s) :
    firmwareStart trained s =
      if !(s.sec.warm && trained) && !t.sec.trngOk then
        State.goTo (let u := makeReady ((upTo 0x34).filter (fun d => t.domainOn d && d != 0x31 && d != 0x32)) t
          { u with ev := { u.ev with trngBoot := true } }) .safe Ev.TRNG_FAIL
      else firmwareSteps ((settleDram (allReady
        (if s.sec.warm && trained then { t with store := { t.store with selfRefresh := false } } else keyStore t))).goTo
          .config 0xF001) := by
  have hno : ¬ (s.dstate ≠ .boot ∨ (!s.sec.fwReady) = true) := by simp [hd, hr]
  subst ht
  exact if_neg hno

theorem warm_and_trained_false {trained : Bool} (h : s.sec.warm = false ∨ trained = false) : (s.sec.warm && trained) = false := by
  rcases h with h | h <;> simp [h]

/-! ### Restarts of the groom (R107) -/

theorem groomMiscompare_ignored (h : s.groom.up = false ∨ s.groom.restarting = true) : groomMiscompare s = s := by
  refine if_pos ?_
  rcases h with h | h <;> simp [h]

/-- A miscompare came within a second of the last one. -/
def State.miscomparedAgain (s : State) : Bool :=
  match s.groom.lastMiscompare with | some t => decide (s.localMs < t + 1000) | none => false

/-- The groom after a miscompare: restarting, with no work of its own left. -/
def State.groomStopped (s : State) : Groom :=
  { s.groom with
    up := false, restarting := true, safeAfterRestart := s.groom.safeAfterRestart || s.miscomparedAgain,
    lastMiscompare := some s.localMs,
    chains := [], slots := [], mbox := { s.groom.mbox with busy := false },
    ports := s.groom.ports.map (fun (e : Nat × Port) => (e.1, e.2.restarted)) }

theorem groomMiscompare_stops (hu : s.groom.up = true) (hr : s.groom.restarting = false) : groomMiscompare s =
    (State.discardStaged ((upTo 4).foldl (fun t n => t.setFlag (R.CMD_Q_STATUS n) F.CMD_Q_STATUS_STALL false)
      { s with ev := { s.ev with log := [] }, groom := s.groomStopped })).raiseBase Ev.GROOM_MISCOMPARE 0 0 := by
  refine if_neg ?_
  simp [hu, hr]

theorem groomRestarted_ignored (h : s.groom.restarting = false) : groomRestarted s = s := by
  simp only [groomRestarted, h, Bool.not_false, if_true]

theorem groomRestarted_restarts {routed : Bool} (hr : s.groom.restarting = true)
    (ht : t = { s with groom := { s.groom with up := true, restarting := false, restarted := true, safeAfterRestart := false } })
    (hu : u = t.deliverDeferred.settleLost)
    (he : routed = (u.evStatus Ev.GROOM_MISCOMPARE && u.evEn Ev.GROOM_MISCOMPARE
      && u.flag (R.EV_CTRL Ev.GROOM_MISCOMPARE) F.EV_CTRL_SAFE)) :
    groomRestarted s = if s.groom.safeAfterRestart || routed then u.enterSafe Ev.GROOM_MISCOMPARE
      else u.degrade Ev.GROOM_MISCOMPARE := by
  subst he hu ht
  simp only [groomRestarted, hr, Bool.not_true, Bool.false_eq_true, if_false]

/-! ### The security block's own events (R472 to R485) -/

theorem trngFail_dark (h : s.dark 0x33 = true) : trngFail s = s := if_pos h

theorem trngFail_live (h : s.dark 0x33 = false) : trngFail s =
    (State.incSat { s with sec := { s.sec with trngOk := false } } R.SEC_TRNG F.SEC_TRNG_HEALTH_FAILS 1).raise Ev.TRNG_FAIL 0 0 :=
  if_neg (Bool.eq_false_iff.mp h)

theorem trngRetest_ignored {ok : Bool} (h : s.dark 0x33 = true ∨ s.sec.trngOk = true ∨ ok = false) : trngRetest ok s = s := by
  refine if_pos ?_
  rcases h with h | h | h <;> simp [h]

theorem trngRetest_recovers (h : s.dark 0x33 = false) (hk : s.sec.trngOk = false) : trngRetest true s =
    State.raise { s with sec := { s.sec with trngOk := true } } Ev.TRNG_RECOVERED 0 0 := by
  refine if_neg ?_
  simp [h, hk]

theorem otpProgrammed_none {ok : Bool} (h : s.sec.otpJobs = []) : otpProgrammed ok s = s := by simp only [otpProgrammed, h]

theorem otpProgrammed_ends {ok : Bool} {k : Nat} {h : BitVec 384} {rest : List (Nat × BitVec 384)}
    (hj : s.sec.otpJobs = (k, h) :: rest)
    (ht : t = { s with sec := { s.sec with otpJobs := rest, otp := { s.sec.otp with
      slotState := SMap.put s.sec.otp.slotState 0 k (if s.sec.otp.slot k = 3 then 3 else if ok then 1 else 2),
      ownerHash := SMap.put s.sec.otp.ownerHash 0 k h } } }) :
    otpProgrammed ok s = if ok then t else t.raise Ev.OTP_FAIL 0 0 := by
  subst ht
  simp only [otpProgrammed, hj]

theorem flashWritten_none {ok : Bool} (h : s.sec.flashJobs = []) : flashWritten ok s = s := by simp only [flashWritten, h]

section
variable {j : FlashJob} {rest : List FlashJob} {ok : Bool} (hj : s.sec.flashJobs = j :: rest)
  (ht : t = { s with sec := { s.sec with flashJobs := rest } })
include hj ht

theorem flashWritten_config (hk : j.kind = 0) :
    flashWritten ok s = if ok then (storeImage j t).raise Ev.CONFIG_WRITTEN 0 0 else t := by
  subst ht
  cases ok <;> simp only [flashWritten, hj, hk, Bool.false_eq_true, if_false, if_true]

theorem flashWritten_save (hk : j.kind = 1) : flashWritten ok s =
    if ok then (storeImage j t).answer .flashSave (Res.ok [w32 j.payloadBytes]) else t.answer .flashSave (Res.err St.FAULT 6) := by
  subst ht
  cases ok <;> simp only [flashWritten, hj, hk, Bool.false_eq_true, if_false, if_true]

theorem flashWritten_firmware (hk : 1 < j.kind) : flashWritten ok s =
    if ok then (storeImage j t).answer .flashFw (Res.ok []) else t.answer .flashFw (Res.err St.FAULT 6) := by
  subst ht
  obtain ⟨k, hk⟩ := Nat.exists_eq_add_of_lt hk
  have hk2 : j.kind = k + 2 := by omega
  cases ok <;> simp only [flashWritten, hj, hk2, Bool.false_eq_true, if_false, if_true]

end

end

end Sys2Proof.Machine

/-- Settles O49. -/
theorem bootsAndRestarts : Obligations.BootsAndRestarts := by
  unfold Obligations.BootsAndRestarts
  intro s
  refine ⟨fun b ok a v t u hd hg hr hf ha hv ht hu => ?_, fun h b ok => ?_, fun t trained hd hr ht =>
    ⟨fun hk u hu => ?_, fun hk hok => ?_, fun hk hok u hu => ?_⟩, fun trained h => ?_, fun hu hr => ?_, fun h => ?_,
    fun t u routed hr ht hu he => ?_, fun h => ?_⟩
  · have hboot : exec (.coldBoot b ok) s = .next (if ok then romSteps u else u) := by
      subst ha
      exact congrArg Host.Outcome.next (coldBoot_boots hd hg hr hf hv ht hu)
    refine ⟨fun hok => hboot.trans (congrArg Host.Outcome.next (if_neg (Bool.eq_false_iff.mp hok))),
      fun hok hs => hboot.trans (congrArg Host.Outcome.next ((if_pos hok).trans (romSteps_standalone hs))),
      fun copy xspi l w good codes x hok hs hdir hw hfg => ⟨fun hn => ?_, fun e i z hgood hz => ?_⟩⟩
    · subst hw hn
      exact hboot.trans (congrArg Host.Outcome.next ((if_pos hok).trans (romSteps_noFirmware hs hdir hfg)))
    · subst hw hgood
      exact hboot.trans (congrArg Host.Outcome.next ((if_pos hok).trans (romSteps_firmware hs hdir hfg hz)))
  · exact congrArg Host.Outcome.next (coldBoot_ignored h)
  · have hkeep : (s.sec.warm && trained) = true := by rw [hk.1, hk.2]; rfl
    subst hu
    refine congrArg Host.Outcome.next ((firmwareStart_eq hd hr ht).trans ?_)
    simp only [hkeep, Bool.not_true, Bool.false_and, Bool.false_eq_true, if_false, if_true]
  · refine congrArg Host.Outcome.next ((firmwareStart_eq hd hr ht).trans ?_)
    simp only [warm_and_trained_false hk, hok, Bool.not_true, Bool.and_false, Bool.false_eq_true, if_false]
  · subst hu
    refine congrArg Host.Outcome.next ((firmwareStart_eq hd hr ht).trans ?_)
    simp only [warm_and_trained_false hk, hok, Bool.not_false, Bool.and_self, if_true]
  · exact congrArg Host.Outcome.next (firmwareStart_ignored h)
  · exact congrArg Host.Outcome.next (groomMiscompare_stops hu hr)
  · exact congrArg Host.Outcome.next (groomMiscompare_ignored h)
  · exact congrArg Host.Outcome.next (groomRestarted_restarts hr ht hu he)
  · exact congrArg Host.Outcome.next (groomRestarted_ignored h)

/-- Settles O50. -/
theorem securityEventsAct : Obligations.SecurityEventsAct := by
  unfold Obligations.SecurityEventsAct
  intro s
  refine ⟨fun h => ?_, fun h => ?_, fun h hk => ?_, fun ok h => ?_, fun k h rest ok t hj ht => ?_, fun hj ok => ?_,
    fun j rest t hj ht => ⟨fun hk => ⟨?_, ?_⟩, fun hk => ⟨?_, ?_⟩, fun hk => ⟨?_, ?_⟩⟩, fun hj ok => ?_, fun h => rfl⟩
  · exact congrArg Host.Outcome.next (trngFail_live h)
  · exact congrArg Host.Outcome.next (trngFail_dark h)
  · exact congrArg Host.Outcome.next (trngRetest_recovers h hk)
  · exact congrArg Host.Outcome.next (trngRetest_ignored h)
  · exact congrArg Host.Outcome.next (otpProgrammed_ends hj ht)
  · exact congrArg Host.Outcome.next (otpProgrammed_none hj)
  · exact congrArg Host.Outcome.next (flashWritten_config hj ht hk)
  · exact congrArg Host.Outcome.next (flashWritten_config hj ht hk)
  · exact congrArg Host.Outcome.next (flashWritten_save hj ht hk)
  · exact congrArg Host.Outcome.next (flashWritten_save hj ht hk)
  · exact congrArg Host.Outcome.next (flashWritten_firmware hj ht hk)
  · exact congrArg Host.Outcome.next (flashWritten_firmware hj ht hk)
  · exact congrArg Host.Outcome.next (flashWritten_none hj)
end

section
/-! PROOF. Frames at the gates (R168 to R177, R187 to R194, R487). -/

open Sys2Proof Sys2Proof.Machine

namespace Sys2Proof.Machine

section
variable {x stream g c : Nat} {num : BitVec 16} {dmg : PktDamage} {s t u v : State}

/-! ### Damage (R168, R174, R193) -/

theorem damageCounted_whole (h : dmg = .good ∨ dmg = .trunc) : damageCounted dmg = false := by
  rcases h with rfl | rfl <;> rfl

theorem damageCounted_damaged (h1 : dmg ≠ .good) (h2 : dmg ≠ .trunc) : damageCounted dmg = true := by
  cases dmg with
  | good => exact absurd rfl h1
  | trunc => exact absurd rfl h2
  | _ => rfl

theorem unmatched_whole (h : dmg = .good ∨ dmg = .trunc) : unmatched g dmg s = noMatch g s :=
  if_neg (Bool.eq_false_iff.mp (damageCounted_whole h))

theorem unmatched_damaged (h1 : dmg ≠ .good) (h2 : dmg ≠ .trunc) : unmatched g dmg s = s :=
  if_pos (damageCounted_damaged h1 h2)

theorem unsupportedDt_whole (h : dmg = .good ∨ dmg = .trunc) : unsupportedDt g dmg s = dtDrop g s :=
  if_neg (Bool.eq_false_iff.mp (damageCounted_whole h))

theorem unsupportedDt_damaged (h1 : dmg ≠ .good) (h2 : dmg ≠ .trunc) : unsupportedDt g dmg s = s :=
  if_pos (damageCounted_damaged h1 h2)

theorem afterFrame_opened (h : s.ctxState g c = Gs.opened) : afterFrame g c s = noMatch g s := if_pos h

theorem afterFrame_other (h : s.ctxState g c ≠ Gs.opened) : afterFrame g c s = s := if_neg h

/-! ### The door of a lane (R446, R487) -/

/-- What the gates take of a lane: not the ROM personality's stream 0. -/
theorem gates_take (h : s.dstate ≠ .standalone ∨ stream ≠ 0) : ¬ (s.dstate = .standalone ∧ stream = 0 ∧ s.carries x = true) := by
  rintro ⟨h1, h2, -⟩
  exact h.elim (fun h => h h1) (fun h => h h2)

theorem not_stand_of_silent (h : s.carries x = false) : ¬ (s.dstate = .standalone ∧ stream = 0 ∧ s.carries x = true) := by
  rintro ⟨-, -, h3⟩
  rw [h] at h3
  exact Bool.false_ne_true h3

theorem sofArrives_held (h : s.holdsWork (laneDomain x) = true) : sofArrives x stream num s = s := if_pos h

theorem sofArrives_stand (h : s.holdsWork (laneDomain x) = false) (hs : s.dstate = .standalone) (h0 : stream = 0)
    (hc : s.carries x = true) : sofArrives x stream num s = standSof x s :=
  (if_neg (Bool.eq_false_iff.mp h)).trans (if_pos ⟨hs, h0, hc⟩)

theorem sofArrives_gate (h : s.holdsWork (laneDomain x) = false)
    (hn : ¬ (s.dstate = .standalone ∧ stream = 0 ∧ s.carries x = true)) : sofArrives x stream num s = frameStart x stream num s :=
  (if_neg (Bool.eq_false_iff.mp h)).trans (if_neg hn)

theorem endArrives_stand (hs : s.dstate = .standalone) (h0 : stream = 0) (hc : s.carries x = true) :
    endArrives x stream num s = standEnd x s := if_pos ⟨hs, h0, hc⟩

theorem endArrives_gate (hn : ¬ (s.dstate = .standalone ∧ stream = 0 ∧ s.carries x = true)) :
    endArrives x stream num s = frameEnd x stream num s := if_neg hn

theorem frameStart_silent (h : s.carries x = false) : frameStart x stream num s = s := by
  simp only [frameStart, h, Bool.not_false, if_true]

theorem frameEnd_silent (h : s.carries x = false) : frameEnd x stream num s = s := by
  simp only [frameEnd, h, Bool.not_false, if_true]

theorem otherPacket_silent {dt : Nat} (h : s.carries x = false) : otherPacket x stream dt dmg s = s := by
  simp only [otherPacket, h, Bool.not_false, if_true]

theorem sofArrives_silent (h : s.carries x = false) : sofArrives x stream num s = s := by
  cases hh : s.holdsWork (laneDomain x) with
  | true => exact sofArrives_held hh
  | false => exact (sofArrives_gate hh (not_stand_of_silent h)).trans (frameStart_silent h)

/-! ### Frame ends (R175, R177) -/

section
variable (hc : s.carries x = true)
include hc

theorem frameEnd_unmatched (hm : s.matchCtx x stream = none) : frameEnd x stream num s = noMatch (x / 4) s := by
  simp only [frameEnd, hc, hm, Bool.not_true, Bool.false_eq_true, if_false]

theorem frameEnd_noFrame (hm : s.matchCtx x stream = some c) (hf : (s.ctx (x / 4) c).frame = none) :
    frameEnd x stream num s = afterFrame (x / 4) c s := by
  simp only [frameEnd, hc, hm, hf, Bool.not_true, Bool.false_eq_true, if_false]

theorem frameEnd_closes {f : GFrame} (hm : s.matchCtx x stream = some c) (hf : (s.ctx (x / 4) c).frame = some f) :
    frameEnd x stream num s = closeFrame (x / 4) c (if f.outLines < f.set.gw.outH then 2 else 0)
      (keepFrame (x / 4) c { f with eofDelta := w32 (s.clk.localNs - f.captured), fnumMismatch := num ≠ f.frameNum } s) := by
  simp only [frameEnd, hc, hm, hf, Bool.not_true, Bool.false_eq_true, if_false]

/-! ### Frame starts (R172, R190, R191) -/

theorem frameStart_unmatched (hm : s.matchCtx x stream = none) : frameStart x stream num s = noMatch (x / 4) s := by
  simp only [frameStart, hc, hm, Bool.not_true, Bool.false_eq_true, if_false]

end

/-- A frame start of a context whose start has been counted: its slot or its records are claimed. -/
def claimFrame (x g c : Nat) (num : BitVec 16) (t : State) : State :=
  match (t.gwords g c).kind with
  | 1 =>
    (match claimSlot (F.GATE_TARGET_PADDOCK.get (t.gwords g c).target) (t.gwords g c).samples t with
    | (none, s) => discardFrame g c s
    | (some i, s) => openFrame x g c num (some i) s)
  | _ =>
    if (t.tagRing g c (t.gwords g c)).isSome ∧ (t.ctx g c).recCred < 2 then gateRaise Ev.GATE_CREDIT g c 0 (discardFrame g c t)
    else openFrame x g c num none t

section
variable (hk : (t.gwords g c).kind ≠ 1)
include hk

theorem claimFrame_records : claimFrame x g c num t =
    if (t.tagRing g c (t.gwords g c)).isSome ∧ (t.ctx g c).recCred < 2 then gateRaise Ev.GATE_CREDIT g c 0 (discardFrame g c t)
    else openFrame x g c num none t := by
  rw [claimFrame]
  split
  · next h => exact absurd h hk
  · rfl

theorem claimFrame_opens (h : (t.tagRing g c (t.gwords g c)).isSome = false ∨ 2 ≤ (t.ctx g c).recCred) :
    claimFrame x g c num t = openFrame x g c num none t := by
  refine (claimFrame_records hk).trans (if_neg ?_)
  rintro ⟨h1, h2⟩
  rcases h with h | h
  · rw [h] at h1; exact Bool.false_ne_true h1
  · exact absurd h2 (Nat.not_lt.mpr h)

theorem claimFrame_starved (h : (t.tagRing g c (t.gwords g c)).isSome = true) (hr : (t.ctx g c).recCred < 2) :
    claimFrame x g c num t = gateRaise Ev.GATE_CREDIT g c 0 (discardFrame g c t) :=
  (claimFrame_records hk).trans (if_pos ⟨h, hr⟩)

end

section
variable (hk : (t.gwords g c).kind = 1) {w : State}
include hk

theorem claimFrame_slot {i : Nat}
    (hs : claimSlot (F.GATE_TARGET_PADDOCK.get (t.gwords g c).target) (t.gwords g c).samples t = (some i, w)) :
    claimFrame x g c num t = openFrame x g c num (some i) w := by
  simp only [claimFrame, hk, hs]

theorem claimFrame_full
    (hs : claimSlot (F.GATE_TARGET_PADDOCK.get (t.gwords g c).target) (t.gwords g c).samples t = (none, w)) :
    claimFrame x g c num t = discardFrame g c w := by
  simp only [claimFrame, hk, hs]

end

/-- A frame start has been counted. -/
def startCounted (g c : Nat) (v : State) : State :=
  v.setCtx g c { v.ctx g c with starts := (v.ctx g c).starts + 1, dropping := false }

section
variable {c0 : Nat} (hc : s.carries x = true) (hm : s.matchCtx x stream = some c0) (hu : u = closeFrame (x / 4) c0 3 s)
include hc hm hu

theorem frameStart_gone (hn : u.matchCtx x stream = none) : frameStart x stream num s = u := by
  subst hu
  simp only [frameStart, hc, hm, hn, Bool.not_true, Bool.false_eq_true, if_false]

theorem frameStart_unready (hn : u.matchCtx x stream = some c) (hp : u.fld (R.LINK_PARTNER x) F.LINK_PARTNER_STATE ≠ 3) :
    frameStart x stream num s = u := by
  subst hu
  simp only [frameStart, hc, hm, hn, hp, Bool.not_true, Bool.false_eq_true, if_false, ne_eq, not_false_eq_true, if_true]

theorem frameStart_ready (hn : u.matchCtx x stream = some c) (hp : u.fld (R.LINK_PARTNER x) F.LINK_PARTNER_STATE = 3) :
    frameStart x stream num s = claimFrame x (x / 4) c num (startCounted (x / 4) c (closeFrame (x / 4) c 3 u)) := by
  subst hu
  simp only [frameStart, hc, hm, hn, hp, Bool.not_true, Bool.false_eq_true, if_false, ne_eq, not_true_eq_false] <;> rfl

end

/-! ### Other packets (R146, R169) -/

section
variable {dt : Nat} (hc : s.carries x = true)
include hc

theorem otherPacket_header (hd : dmg = .header) : otherPacket x stream dt dmg s = countDamage (x / 4) dmg s := by
  simp only [otherPacket, hc, hd, Bool.not_true, Bool.false_eq_true, if_false, if_true]

variable (hd : dmg ≠ .header)
include hd

theorem otherPacket_unsupported (hs : supportedDt dt = false) : otherPacket x stream dt dmg s =
    unsupportedDt (x / 4) dmg (countDamage (x / 4) dmg s) := by
  simp only [otherPacket, hc, hd, hs, Bool.not_true, Bool.not_false, Bool.false_eq_true, if_false, if_true]

variable (hs : supportedDt dt = true) (ht : t = countDamage (x / 4) dmg s)
include hs ht

theorem otherPacket_unmatched (hm : t.matchCtx x stream = none) : otherPacket x stream dt dmg s = unmatched (x / 4) dmg t := by
  subst ht
  simp only [otherPacket, hc, hd, hs, hm, Bool.not_true, Bool.false_eq_true, if_false]

theorem otherPacket_noFrame (hm : t.matchCtx x stream = some c) (hf : (t.ctx (x / 4) c).frame = none) :
    otherPacket x stream dt dmg s = afterFrame (x / 4) c t := by
  subst ht
  simp only [otherPacket, hc, hd, hs, hm, hf, Bool.not_true, Bool.false_eq_true, if_false, Option.isNone_none, if_true]

theorem otherPacket_frame {f : GFrame} (hm : t.matchCtx x stream = some c) (hf : (t.ctx (x / 4) c).frame = some f) :
    otherPacket x stream dt dmg s = if dmg = .trunc then closeFrame (x / 4) c 1 t else t := by
  subst ht
  simp only [otherPacket, hc, hd, hs, hm, hf, Bool.not_true, Bool.false_eq_true, if_false, Option.isNone_some]

end

/-! ### Timers (R175, R187, R189) -/

theorem closeFrame_none {cause : Nat} (h : (s.ctx g c).frame = none) : closeFrame g c cause s = s := by
  simp only [closeFrame, h]

theorem fsWaitTimeout_waiting (h : (s.ctx g c).waitFs = true) :
    fsWaitTimeout g c s = tryClose g c (s.setCtx g c { s.ctx g c with waitFs := false }) := if_pos h

theorem fsWaitTimeout_idle (h : (s.ctx g c).waitFs = false) : fsWaitTimeout g c s = s := if_neg (Bool.eq_false_iff.mp h)

theorem hdrExpiry_none {k : Nat} (h : s.inst g k = none) : hdrExpiry g k s = s := by simp only [hdrExpiry, h]

theorem hdrExpiry_some {k : Nat} {i : HdrInst} (h : s.inst g k = some i) :
    hdrExpiry g k s = checkInst g k (s.setInst g k (some { i with expired := true })) := by simp only [hdrExpiry, h]

end

end Sys2Proof.Machine

/-- Settles O51. -/
theorem framesOpenAndClose : Obligations.FramesOpenAndClose := by
  unfold Obligations.FramesOpenAndClose
  intro x stream num cor s0 g s lost
  refine ⟨fun hh => ?_, fun hc => ⟨?_, ?_, fun dt dmg => ?_⟩, fun hc hs h0 => ⟨fun hh => ?_, ?_⟩, fun hc hg =>
    ⟨fun hm => ⟨?_, fun hh => ?_⟩, fun c hm hf => ⟨fun ho => ?_, fun ho => ?_⟩, fun c f hm hf => ?_,
      fun c0 u hm hu hh => ⟨fun hn => ?_, fun c hn => ⟨fun hp => ?_, fun hp => ⟨_, _, rfl, rfl, fun hk hr => ?_, fun hk hr hl => ?_,
        fun r w hk hs => ⟨fun i hr => ?_, fun hr => ?_⟩⟩⟩⟩, fun t c => rfl⟩,
    fun hc dt dmg => ⟨fun hd => ?_, fun hd hs => ⟨fun hw => ?_, fun h1 h2 => ?_⟩, fun hd hs hm => ⟨fun hw => ?_, fun h1 h2 => ?_⟩,
      fun c hd hs hm => ⟨fun hf ho => ?_, fun hf ho => ?_, fun f hf => ⟨fun ht => ?_, fun ht => ?_⟩⟩⟩,
    fun h c => ⟨fun hf => ?_, fun f hf => rfl, fun hw => ?_, fun hw => ?_⟩, fun h k => ⟨fun hi => ?_, fun i hi => ?_⟩⟩
  · exact congrArg Host.Outcome.next (sofArrives_held hh)
  · exact congrArg Host.Outcome.next (sofArrives_silent hc)
  · exact congrArg Host.Outcome.next ((endArrives_gate (not_stand_of_silent hc)).trans (frameEnd_silent hc))
  · exact congrArg Host.Outcome.next (otherPacket_silent hc)
  · exact congrArg Host.Outcome.next (sofArrives_stand hh hs h0 hc)
  · exact congrArg Host.Outcome.next (endArrives_stand hs h0 hc)
  · exact congrArg Host.Outcome.next ((endArrives_gate (gates_take hg)).trans (frameEnd_unmatched hc hm))
  · exact congrArg Host.Outcome.next ((sofArrives_gate hh (gates_take hg)).trans (frameStart_unmatched hc hm))
  · exact congrArg Host.Outcome.next ((endArrives_gate (gates_take hg)).trans ((frameEnd_noFrame hc hm hf).trans (afterFrame_opened ho)))
  · exact congrArg Host.Outcome.next ((endArrives_gate (gates_take hg)).trans ((frameEnd_noFrame hc hm hf).trans (afterFrame_other ho)))
  · exact congrArg Host.Outcome.next ((endArrives_gate (gates_take hg)).trans (frameEnd_closes hc hm hf))
  · exact congrArg Host.Outcome.next ((sofArrives_gate hh (gates_take hg)).trans (frameStart_gone hc hm hu hn))
  · exact congrArg Host.Outcome.next ((sofArrives_gate hh (gates_take hg)).trans (frameStart_unready hc hm hu hn hp))
  · exact congrArg Host.Outcome.next ((sofArrives_gate hh (gates_take hg)).trans
      ((frameStart_ready hc hm hu hn hp).trans (claimFrame_opens hk hr)))
  · exact congrArg Host.Outcome.next ((sofArrives_gate hh (gates_take hg)).trans
      ((frameStart_ready hc hm hu hn hp).trans (claimFrame_starved hk hr hl)))
  · subst hr
    exact congrArg Host.Outcome.next ((sofArrives_gate hh (gates_take hg)).trans
      ((frameStart_ready hc hm hu hn hp).trans (claimFrame_slot hk hs)))
  · subst hr
    exact congrArg Host.Outcome.next ((sofArrives_gate hh (gates_take hg)).trans
      ((frameStart_ready hc hm hu hn hp).trans (claimFrame_full hk hs)))
  · exact congrArg Host.Outcome.next (otherPacket_header hc hd)
  · exact congrArg Host.Outcome.next ((otherPacket_unsupported hc hd hs).trans (unsupportedDt_whole hw))
  · exact congrArg Host.Outcome.next ((otherPacket_unsupported hc hd hs).trans (unsupportedDt_damaged h1 h2))
  · exact congrArg Host.Outcome.next ((otherPacket_unmatched hc hd hs rfl hm).trans (unmatched_whole hw))
  · exact congrArg Host.Outcome.next ((otherPacket_unmatched hc hd hs rfl hm).trans (unmatched_damaged h1 h2))
  · exact congrArg Host.Outcome.next ((otherPacket_noFrame hc hd hs rfl hm hf).trans (afterFrame_opened ho))
  · exact congrArg Host.Outcome.next ((otherPacket_noFrame hc hd hs rfl hm hf).trans (afterFrame_other ho))
  · exact congrArg Host.Outcome.next ((otherPacket_frame hc hd hs rfl hm hf).trans (if_pos ht))
  · exact congrArg Host.Outcome.next ((otherPacket_frame hc hd hs rfl hm hf).trans (if_neg ht))
  · exact congrArg Host.Outcome.next (closeFrame_none hf)
  · exact congrArg Host.Outcome.next (fsWaitTimeout_waiting hw)
  · exact congrArg Host.Outcome.next (fsWaitTimeout_idle hw)
  · exact congrArg Host.Outcome.next (hdrExpiry_none hi)
  · exact congrArg Host.Outcome.next (hdrExpiry_some hi)
end

section
/-! PROOF. Picture data and returned credits (R168 to R174, R191 to R194). -/

open Sys2Proof Sys2Proof.Machine

namespace Sys2Proof.Machine

section
variable {x stream g c : Nat} {data : List Byte} {dmg : PktDamage} {s t : State}

/-! ### Damage (R168, R193) -/

theorem countDamage_whole (h : dmg = .good ∨ dmg = .trunc) : countDamage g dmg s = s := by
  rcases h with rfl | rfl <;> rfl

theorem countDamage_crc (h : dmg = .crc ∨ dmg = .cut) : countDamage g dmg s = s.incSat (R.GATE_DROP g) F.GATE_DROP_CRC_ERR 1 := by
  rcases h with rfl | rfl <;> rfl

/-! ### Pixel lines (R170, R173, R174) -/

section
variable {dt : Nat}

theorem lineArrives_stand (hc : s.carries x = true) (hs : s.dstate = .standalone) (h0 : stream = 0) :
    lineArrives x stream dt data dmg s = standLine x dt data dmg (countDamage (x / 4) dmg s) := if_pos ⟨hs, h0, hc⟩

theorem lineArrives_gate (hn : ¬ (s.dstate = .standalone ∧ stream = 0 ∧ s.carries x = true)) :
    lineArrives x stream dt data dmg s = pixelLine x stream dt data dmg s := if_neg hn

theorem pixelLine_silent (h : s.carries x = false) : pixelLine x stream dt data dmg s = s := by
  simp only [pixelLine, h, Bool.not_false, if_true]

variable (hc : s.carries x = true)
include hc

theorem pixelLine_header (hd : dmg = .header) : pixelLine x stream dt data dmg s = countDamage (x / 4) dmg s := by
  simp only [pixelLine, hc, hd, Bool.not_true, Bool.false_eq_true, if_false, if_true]

variable (hd : dmg ≠ .header)
include hd

theorem pixelLine_unsupported (hs : supportedDt dt = false) : pixelLine x stream dt data dmg s =
    unsupportedDt (x / 4) dmg (countDamage (x / 4) dmg s) := by
  simp only [pixelLine, hc, hd, hs, Bool.not_true, Bool.not_false, Bool.false_eq_true, if_false, if_true]

variable (hs : supportedDt dt = true) (ht : t = countDamage (x / 4) dmg s)
include hs ht

theorem pixelLine_unmatched (hm : t.matchCtx x stream = none) :
    pixelLine x stream dt data dmg s = unmatched (x / 4) dmg t := by
  subst ht
  simp only [pixelLine, hc, hd, hs, hm, Bool.not_true, Bool.false_eq_true, if_false]

variable (hm : t.matchCtx x stream = some c)
include hm

theorem pixelLine_noFrame (hf : (t.ctx (x / 4) c).frame = none) : pixelLine x stream dt data dmg s =
    if (t.ctx (x / 4) c).dropping && (t.ctx (x / 4) c).flushMark then flushAnswer (x / 4) c t
    else if dt = (t.effective (x / 4) c).dt then noMatch (x / 4) t else afterFrame (x / 4) c t := by
  subst ht
  simp only [pixelLine, hc, hd, hs, hm, hf, Bool.not_true, Bool.false_eq_true, if_false]

variable {f : GFrame} (hf : (t.ctx (x / 4) c).frame = some f)
include hf

theorem pixelLine_cut (hq : dmg = .trunc) : pixelLine x stream dt data dmg s = closeFrame (x / 4) c 1 t := by
  subst ht
  simp only [pixelLine, hc, hd, hs, hm, hf, Bool.not_true, Bool.false_eq_true, if_false]
  exact if_pos hq

theorem pixelLine_otherType (hq : dmg ≠ .trunc) (hdt : dt ≠ f.set.gw.dt) : pixelLine x stream dt data dmg s = t := by
  subst ht
  simp only [pixelLine, hc, hd, hs, hm, hf, Bool.not_true, Bool.false_eq_true, if_false]
  exact (if_neg hq).trans (if_pos hdt)

theorem pixelLine_taken (hq : dmg ≠ .trunc) (hdt : dt = f.set.gw.dt) : pixelLine x stream dt data dmg s =
    takeLineOf (x / 4) c (if dmg = .cut then { f with damaged := true } else f)
      (if dmg ≠ .good || !wholePixels dt data.length then none else some (unpackLine dt data))
      (t.setGate (x / 4) { t.gate (x / 4) with
        pixels := (t.gate (x / 4)).pixels + data.length / (groupSize dt).1 * (groupSize dt).2 / perPixel dt }) := by
  subst ht
  simp only [pixelLine, hc, hd, hs, hm, hf, Bool.not_true, Bool.false_eq_true, if_false]
  exact (if_neg hq).trans (if_neg (not_not_intro hdt))

end

theorem flushAnswer_marks (h : (s.ctx g c).flushMark = true) : flushAnswer g c s =
    (s.setCtx g c { s.ctx g c with flushMark := false }).emit (.flushMarker (gateRingRef g c)) := if_pos h

/-! ### Embedded data (R169, R171) -/

section

theorem embeddedData_silent (h : s.carries x = false) : embeddedData x stream data dmg s = s := by
  simp only [embeddedData, h, Bool.not_false, if_true]

variable (hc : s.carries x = true)
include hc

theorem embeddedData_header (hd : dmg = .header) : embeddedData x stream data dmg s = countDamage (x / 4) dmg s := by
  simp only [embeddedData, hc, hd, Bool.not_true, Bool.false_eq_true, if_false, if_true]

variable (hd : dmg ≠ .header) (ht : t = countDamage (x / 4) dmg s)
include hd ht

theorem embeddedData_unmatched (hm : t.matchCtx x stream = none) :
    embeddedData x stream data dmg s = unmatched (x / 4) dmg t := by
  subst ht
  simp only [embeddedData, hc, hd, hm, Bool.not_true, Bool.false_eq_true, if_false]

variable (hm : t.matchCtx x stream = some c)
include hm

theorem embeddedData_noFrame (hf : (t.ctx (x / 4) c).frame = none) : embeddedData x stream data dmg s =
    if t.ctxState (x / 4) c = Gs.wait
        ∧ (F.GATE_CTRL_EMB.get (t.gwords (x / 4) c).ctrl ≠ 1 ∨ (t.gwords (x / 4) c).kind ≠ 1) then dtDrop (x / 4) t
    else afterFrame (x / 4) c t := by
  subst ht
  simp only [embeddedData, hc, hd, hm, hf, Bool.not_true, Bool.false_eq_true, if_false]

variable {f : GFrame} (hf : (t.ctx (x / 4) c).frame = some f)
include hf

theorem embeddedData_cut (hq : dmg = .trunc) : embeddedData x stream data dmg s = closeFrame (x / 4) c 1 t := by
  subst ht
  simp only [embeddedData, hc, hd, hm, hf, Bool.not_true, Bool.false_eq_true, if_false]
  exact if_pos hq

variable (hq : dmg ≠ .trunc)
include hq

theorem embeddedData_unwanted (hw : F.GATE_CTRL_EMB.get f.set.gw.ctrl ≠ 1 ∨ f.set.gw.kind ≠ 1) :
    embeddedData x stream data dmg s = dtDrop (x / 4) t := by
  subst ht
  simp only [embeddedData, hc, hd, hm, hf, Bool.not_true, Bool.false_eq_true, if_false]
  exact (if_neg hq).trans (if_pos hw)

variable (he : F.GATE_CTRL_EMB.get f.set.gw.ctrl = 1) (hk : f.set.gw.kind = 1)
include he hk

theorem embeddedData_noSlot (hn : f.slot = none ∨ t.pad? (F.GATE_TARGET_PADDOCK.get f.set.gw.target) = none) :
    embeddedData x stream data dmg s = dtDrop (x / 4) t := by
  subst ht
  simp only [embeddedData, hc, hd, hm, hf, hq, he, hk, Bool.not_true, Bool.false_eq_true, if_false, ne_eq, not_true_eq_false,
    or_self]
  rcases hn with hn | hn
  · simp only [hn]
  · rw [hn]
    split
    · next h => exact absurd h (by simp)
    · rfl

theorem embeddedData_written {i : Nat} {p : Paddock} {bs : List Byte} (hi : f.slot = some i)
    (hp : t.pad? (F.GATE_TARGET_PADDOCK.get f.set.gw.target) = some p) (hb : bs = data.take (4032 - f.embBytes)) :
    embeddedData x stream data dmg s = keepFrame (x / 4) c { f with
        embBytes := f.embBytes + bs.length
        embLost := f.embLost || decide (bs.length < data.length) }
      (t.fsStore (p.slotAddr i + 64 + f.embBytes) bs).2 := by
  subst ht hb
  simp only [embeddedData, hc, hd, hm, hf, hq, he, hk, hi, hp, Bool.not_true, Bool.false_eq_true, if_false, ne_eq,
    not_true_eq_false, or_self]

end

/-! ### Credits (R191) -/

theorem fillCredit_none {p k lines recs : Nat} (h : (s.pad? p).bind (fun y => y.fill k) = none) :
    fillCredit p k lines recs s = s := by
  simp only [fillCredit, h]

theorem fillCredit_some {p k lines recs : Nat} {f : Fill} (h : (s.pad? p).bind (fun y => y.fill k) = some f) :
    fillCredit p k lines recs s = pumpFill p k fillFuel (setFill p k { f with
      lineCred := satAdd f.lineCred lines (2 ^ f.log2Depth), recCred := satAdd f.recCred recs 16 } s) := by
  simp only [fillCredit, h]

end

end Sys2Proof.Machine

/-- Settles O52. -/
theorem picturesAndCreditsLand : Obligations.PicturesAndCreditsLand := by
  unfold Obligations.PicturesAndCreditsLand
  intro x stream dt data cor dmg s0 g s d lost dropped
  refine ⟨countDamage_whole, fun h => congrArg (countDamage g · s) h, countDamage_crc, fun h => congrArg (countDamage g · s) h, fun hc => ⟨?_, ?_⟩, fun hc hs h0 => ?_,
    fun hc hd => ⟨fun hg => ?_, ?_⟩, fun hc hg hd => ⟨fun hs => ⟨fun hw => ?_, fun h1 h2 => ?_⟩,
      fun hs hm => ⟨fun hw => ?_, fun h1 h2 => ?_⟩, fun c hs hm hf => ⟨fun h1 h2 => ?_, fun hn => ⟨fun ho => ?_, fun h1 h2 => ?_⟩⟩,
      fun c f hs hm hf => ⟨fun hq => ?_, fun hq hdt => ?_, fun hq hdt => ⟨_, _, rfl, rfl, fun hgood hw => ?_, fun hbad => ?_⟩⟩⟩,
    fun hc hd => ⟨fun hm => ⟨fun hw => ?_, fun h1 h2 => ?_⟩, fun c hm hf => ⟨fun ho => ?_, fun ho hw => ?_, fun ho he hk => ?_,
        fun h1 h2 => ?_⟩, fun c f hm hf => ⟨fun hq => ?_, fun hq hw => ?_, fun hq he hk => ⟨fun hn => ?_, fun i p hi hp => ⟨_, rfl, ?_⟩⟩⟩⟩,
    fun h c lines recs => rfl, fun p k lines recs => ⟨fun hn => ?_, fun f hf => ?_⟩⟩
  · exact congrArg Host.Outcome.next ((lineArrives_gate (not_stand_of_silent hc)).trans (pixelLine_silent hc))
  · exact congrArg Host.Outcome.next (embeddedData_silent hc)
  · exact congrArg Host.Outcome.next (lineArrives_stand hc hs h0)
  · exact congrArg Host.Outcome.next ((lineArrives_gate (gates_take hg)).trans (pixelLine_header hc hd))
  · exact congrArg Host.Outcome.next (embeddedData_header hc hd)
  · exact congrArg Host.Outcome.next ((lineArrives_gate (gates_take hg)).trans
      ((pixelLine_unsupported hc hd hs).trans (unsupportedDt_whole hw)))
  · exact congrArg Host.Outcome.next ((lineArrives_gate (gates_take hg)).trans
      ((pixelLine_unsupported hc hd hs).trans (unsupportedDt_damaged h1 h2)))
  · exact congrArg Host.Outcome.next ((lineArrives_gate (gates_take hg)).trans
      ((pixelLine_unmatched hc hd hs rfl hm).trans (unmatched_whole hw)))
  · exact congrArg Host.Outcome.next ((lineArrives_gate (gates_take hg)).trans
      ((pixelLine_unmatched hc hd hs rfl hm).trans (unmatched_damaged h1 h2)))
  · refine congrArg Host.Outcome.next ((lineArrives_gate (gates_take hg)).trans ((pixelLine_noFrame hc hd hs rfl hm hf).trans
      ((if_pos ?_).trans (flushAnswer_marks h2))))
    exact Bool.and_eq_true_iff.mpr ⟨h1, h2⟩
  · have hno : ¬ ((d.ctx g c).dropping && (d.ctx g c).flushMark) = true := by rcases hn with h | h <;> simp [h]
    refine congrArg Host.Outcome.next ((lineArrives_gate (gates_take hg)).trans ((pixelLine_noFrame hc hd hs rfl hm hf).trans
      ((if_neg hno).trans ?_)))
    split
    · rfl
    · next hne => exact afterFrame_opened (ho.resolve_left hne)
  · have hno : ¬ ((d.ctx g c).dropping && (d.ctx g c).flushMark) = true := by rcases hn with h | h <;> simp [h]
    exact congrArg Host.Outcome.next ((lineArrives_gate (gates_take hg)).trans ((pixelLine_noFrame hc hd hs rfl hm hf).trans
      ((if_neg hno).trans ((if_neg h1).trans (afterFrame_other h2)))))
  · exact congrArg Host.Outcome.next ((lineArrives_gate (gates_take hg)).trans (pixelLine_cut hc hd hs rfl hm hf hq))
  · exact congrArg Host.Outcome.next ((lineArrives_gate (gates_take hg)).trans (pixelLine_otherType hc hd hs rfl hm hf hq hdt))
  · refine congrArg Host.Outcome.next ((lineArrives_gate (gates_take hg)).trans ((pixelLine_taken hc hd hs rfl hm hf hq hdt).trans ?_))
    rw [if_neg (c := (_ || _) = true) (by simp [hgood, hw])]
  · refine congrArg Host.Outcome.next ((lineArrives_gate (gates_take hg)).trans ((pixelLine_taken hc hd hs rfl hm hf hq hdt).trans ?_))
    rw [if_pos (c := (_ || _) = true) (by rcases hbad with h | h <;> simp [h])]
  · exact congrArg Host.Outcome.next ((embeddedData_unmatched hc hd rfl hm).trans (unmatched_whole hw))
  · exact congrArg Host.Outcome.next ((embeddedData_unmatched hc hd rfl hm).trans (unmatched_damaged h1 h2))
  · have hno : ¬ (d.ctxState g c = Gs.wait ∧ (F.GATE_CTRL_EMB.get (d.gwords g c).ctrl ≠ 1 ∨ (d.gwords g c).kind ≠ 1)) :=
      fun h => absurd (ho.symm.trans h.1) (by decide)
    exact congrArg Host.Outcome.next ((embeddedData_noFrame hc hd rfl hm hf).trans ((if_neg hno).trans (afterFrame_opened ho)))
  · exact congrArg Host.Outcome.next ((embeddedData_noFrame hc hd rfl hm hf).trans (if_pos ⟨ho, hw⟩))
  · have hno : ¬ (d.ctxState g c = Gs.wait ∧ (F.GATE_CTRL_EMB.get (d.gwords g c).ctrl ≠ 1 ∨ (d.gwords g c).kind ≠ 1)) :=
      fun h => h.2.elim (fun h => h he) (fun h => h hk)
    have hne : d.ctxState g c ≠ Gs.opened := by rw [ho]; decide
    exact congrArg Host.Outcome.next ((embeddedData_noFrame hc hd rfl hm hf).trans ((if_neg hno).trans (afterFrame_other hne)))
  · exact congrArg Host.Outcome.next ((embeddedData_noFrame hc hd rfl hm hf).trans
      ((if_neg (fun h => h1 h.1)).trans (afterFrame_other h2)))
  · exact congrArg Host.Outcome.next (embeddedData_cut hc hd rfl hm hf hq)
  · exact congrArg Host.Outcome.next (embeddedData_unwanted hc hd rfl hm hf hq hw)
  · exact congrArg Host.Outcome.next (embeddedData_noSlot hc hd rfl hm hf hq he hk hn)
  · exact congrArg Host.Outcome.next (embeddedData_written hc hd rfl hm hf hq he hk hi hp rfl)
  · exact congrArg Host.Outcome.next (fillCredit_none hn)
  · exact congrArg Host.Outcome.next (fillCredit_some hf)
end

section
/-! PROOF. The ends of stall work and of mesh copies (R207, R209, R214, R222 to R224, R267). -/

open Sys2Proof Sys2Proof.Machine

namespace Sys2Proof.Machine

section
variable {n : Nat} {s : State}

/-! ### Stalls (R207, R214, R223, R224) -/

theorem lineRunaway_faults (hm : (s.stall n).mode = 2) (hr : (s.stall n).state = .running) :
    lineRunaway n s = stallFault n Sf.RUNAWAY s := if_pos ⟨hm, hr⟩

theorem lineRunaway_ignored (h : (s.stall n).mode ≠ 2 ∨ (s.stall n).state ≠ .running) : lineRunaway n s = s :=
  if_neg (fun hn => h.elim (fun h => h hn.1) (fun h => h hn.2))

section
variable {p : Nat}

theorem creditReturn_returns {o : OutPort} {len : Nat} {rest : List Nat} (ho : (s.stall n).out p = some o)
    (hr : o.returning = len :: rest) : creditReturn n p s = s.setStall n ((s.stall n).setOut p
      { o with credits := satAdd o.credits len (2 ^ o.log2Depth), returning := rest }) := by
  simp only [creditReturn, ho, hr]

theorem creditReturn_none (h : ∀ o, (s.stall n).out p = some o → o.returning = []) : creditReturn n p s = s := by
  cases ho : (s.stall n).out p with
  | none => simp only [creditReturn, ho]
  | some o => simp only [creditReturn, ho, h o ho]

end

theorem inputLine_noPath (h : (s.head n).direct = false) : inputLine n s = s := by
  simp only [inputLine, h, Bool.not_false, if_true]

section
variable {p : Nat} (hd : (s.head n).direct = true) (hp : p = s.fld (R.HEAD_DIR_SRC n) F.HEAD_DIR_SRC_PAIR)
include hd hp

theorem inputLine_ignored (h : (s.stall p).lock = false ∨ (s.stall p).mode ≠ 2 ∨ (s.stall p).ready = []) : inputLine n s = s := by
  have hstop : (!(s.stall p).lock || decide ((s.stall p).mode ≠ 2) || (s.stall p).ready.isEmpty) = true := by
    rcases h with h | h | h <;> simp [h]
  subst hp
  simp only [inputLine, hd, hstop, Bool.not_true, Bool.false_eq_true, if_false, if_true]

theorem inputLine_pair (hl : (s.stall p).lock = true) (hm : (s.stall p).mode = 2) (hr : (s.stall p).ready ≠ []) :
    inputLine n s = if (s.stall p).state = .running then
        if (s.stall p).haveLine then s.raise Ev.PAIR_LINE_LATE (stallUnit p) 0 else takeLine p s
      else if (s.stall p).waitLine then takeLine p s else s := by
  have hgo : (!(s.stall p).lock || decide ((s.stall p).mode ≠ 2) || (s.stall p).ready.isEmpty) = false := by
    simp [hl, hm, hr]
  subst hp
  simp only [inputLine, hd, hgo, Bool.not_true, Bool.false_eq_true, if_false]

end

/-! ### Hayloft transfers (R209, R222) -/

section
variable {t : Xfer} {x : Stall}

theorem xferData_putBad (hp : t.put = true) (hb : x.bad t.loc t.bytes = true) : xferData t x s = none := by
  simp only [xferData, hp, hb, if_true]

theorem xferData_put (hp : t.put = true) (hb : x.bad t.loc t.bytes = false) :
    xferData t x s = some (readBytes x.store t.loc t.bytes) := by
  simp only [xferData, hp, hb, if_true, Bool.false_eq_true, if_false]

theorem xferData_getPoor (hp : t.put = false) (hb : s.hayPoor t.hay t.bytes = true) : xferData t x s = none := by
  simp only [xferData, hp, hb, Bool.false_eq_true, if_false, if_true]

theorem xferData_get (hp : t.put = false) (hb : s.hayPoor t.hay t.bytes = false) :
    xferData t x s = some (s.hayRead t.hay t.bytes) := by
  simp only [xferData, hp, hb, Bool.false_eq_true, if_false]

end

theorem xferDone_none (h : (s.stall n).xfers = []) : xferDone n s = s := by simp only [xferDone, h]

section
variable {t : Xfer} {rest : List Xfer} {u : State} (hx : (s.stall n).xfers = t :: rest)
  (hu : u = s.onPair n (fun z => { z with xfers := rest }))
include hx hu

theorem xferDone_faults (hb : xferData t (s.stall n) s = none) : xferDone n s = stallFault n Sf.ECC u := by
  subst hu
  simp only [xferDone, hx, hb]

variable {bs : List Byte} (hb : xferData t (s.stall n) s = some bs)
include hb

theorem xferDone_get (hp : t.put = false) :
    xferDone n s = u.onPair n (fun z => { z with store := writeBytes z.store t.loc bs }) := by
  subst hu
  simp only [xferDone, hx, hb, hp, Bool.false_eq_true, if_false]

theorem xferDone_put (hp : t.put = true) : xferDone n s =
    if (s.stall n).lock && ((s.stall (n + 1)).xfers.head? != some t || xferData t (s.stall (n + 1)) s != some bs)
    then stallFault n Sf.LOCKSTEP u else u.hayWrite t.hay bs := by
  subst hu
  simp only [xferDone, hx, hb, hp, if_true]

theorem xferDone_put_alone (hp : t.put = true) (hl : (s.stall n).lock = false) : xferDone n s = u.hayWrite t.hay bs := by
  rw [xferDone_put hx hu hb hp, hl]
  rfl

theorem xferDone_put_differs (hp : t.put = true) (hl : (s.stall n).lock = true)
    (hd : (s.stall (n + 1)).xfers.head? ≠ some t ∨ xferData t (s.stall (n + 1)) s ≠ some bs) :
    xferDone n s = stallFault n Sf.LOCKSTEP u := by
  rw [xferDone_put hx hu hb hp, if_pos]
  rw [hl, Bool.true_and, Bool.or_eq_true, bne_iff_ne, bne_iff_ne]
  exact hd

theorem xferDone_put_agrees (hp : t.put = true) (hh : (s.stall (n + 1)).xfers.head? = some t)
    (hd : xferData t (s.stall (n + 1)) s = some bs) : xferDone n s = u.hayWrite t.hay bs := by
  rw [xferDone_put hx hu hb hp, if_neg]
  simp [hh, hd]

end

/-! ### Mesh copies (R267, R268) -/

theorem meshLoadDone_none {m : Nat} {ok : Bool} (h : (s.mesh m).loading = none) : meshLoadDone m ok s = s := by
  simp only [meshLoadDone, h]

section
variable {m src : Nat} {b : MeshBuf} {bs : List Byte} {ok good : Bool} {u v w z : State}

/-- The nodes of a copied mesh are all in range. -/
def nodesOk (b : MeshBuf) (bs : List Byte) : Bool :=
  (upTo (b.gw * b.gh)).all (fun i => nodeOk ((bs.drop (8 * i)).take 8))

variable (hl : (s.mesh m).loading = some (b, src)) (hr : s.fsLoad src (b.gw * b.gh * 8) = (bs, good, u))
  (hv : v = u.setMesh m { s.mesh m with loading := none, reply := none })
include hl hr hv

section
variable (hw : w = if (s.mesh m).held then unstageMesh m v else v) (hz : z = w.setMesh m { w.mesh m with held := false })
include hw hz

theorem meshLoadDone_unread (h : ok = false ∨ good = false) : meshLoadDone m ok s =
    showMesh m (z.answerEvery (.meshLoad m) (Res.err St.FAULT 5)) := by
  have hno : (ok && good) = false := by rcases h with h | h <;> simp [h]
  subst hz hw hv
  simp only [meshLoadDone, hl, hr, hno, Bool.not_false, if_true]

theorem meshLoadDone_badNodes (hg : good = true) (hn : nodesOk b bs = false) : meshLoadDone m true s =
    showMesh m (z.answerEvery (.meshLoad m) (Res.err St.RANGE 3)) := by
  unfold nodesOk at hn
  subst hz hw hv
  simp only [meshLoadDone, hl, hr, hg, hn, Bool.and_self, Bool.not_true, Bool.not_false, Bool.false_eq_true, if_false, if_true]

end

theorem meshLoadDone_swapsIn (hg : good = true) (hn : nodesOk b bs = true) {h t : State}
    (hh : h = v.hayWrite b.at_ (bs ++ List.replicate (b.bytes - bs.length) 0))
    (ht : t = showMesh m (h.setMesh m { h.mesh m with next := some b })) {r : Res}
    (hnone : (s.mesh m).reply = none → r = Res.ok [t.reg (R.MESH_STATUS m)])
    (hsome : ∀ st k, (s.mesh m).reply = some (st, k) → r = { Res.ok [t.reg (R.MESH_STATUS m)] with status := st, tick := some k }) :
    meshLoadDone m true s = t.answerEvery (.meshLoad m) r := by
  unfold nodesOk at hn
  subst ht hh hv
  cases hy : (s.mesh m).reply with
  | none =>
    rw [hnone hy]
    simp only [meshLoadDone, hl, hr, hg, hn, hy, Bool.and_self, Bool.not_true, Bool.false_eq_true, if_false]
  | some y =>
    obtain ⟨st, k⟩ := y
    rw [hsome st k hy]
    simp only [meshLoadDone, hl, hr, hg, hn, hy, Bool.and_self, Bool.not_true, Bool.false_eq_true, if_false]

end

end

end Sys2Proof.Machine

/-- Settles O53. -/
theorem stallAndMeshWorkEnds : Obligations.StallAndMeshWorkEnds := by
  unfold Obligations.StallAndMeshWorkEnds
  intro s
  refine ⟨fun n => ⟨fun hm hr => ?_, fun h => ?_, fun p o len rest ho hr => ?_, fun p h => ?_, fun h => ?_, fun t rest hx =>
      ⟨fun hp hb => ?_, fun hp hb hl => ?_, fun hp hb hl => ⟨fun hd => ?_, fun hh hd => ?_⟩, fun hp hb => ?_, fun hp hb => ?_⟩⟩,
    fun h => ⟨fun hd => ?_, fun n hd hn => ⟨fun hi => ?_, fun hl hm hr => ⟨fun hs hh => ?_, fun hs hh => ?_, fun hs hh => ?_,
      fun hs hh => ?_⟩⟩⟩,
    fun m => ⟨fun hl ok => ?_, fun b src bs good u hl hr => ⟨_, rfl, _, rfl, _, rfl, fun ok h => ?_, fun hg hn => ?_,
      fun hg hn => ⟨_, rfl, _, rfl, fun hy => ?_, fun st k hy => ?_⟩⟩⟩⟩
  · exact congrArg Host.Outcome.next (lineRunaway_faults hm hr)
  · exact congrArg Host.Outcome.next (lineRunaway_ignored h)
  · exact congrArg Host.Outcome.next (creditReturn_returns ho hr)
  · exact congrArg Host.Outcome.next (creditReturn_none h)
  · exact congrArg Host.Outcome.next (xferDone_none h)
  · exact congrArg Host.Outcome.next (xferDone_faults hx rfl (xferData_putBad hp hb))
  · exact congrArg Host.Outcome.next (xferDone_put_alone hx rfl (xferData_put hp hb) hp hl)
  · exact congrArg Host.Outcome.next (xferDone_put_differs hx rfl (xferData_put hp hb) hp hl hd)
  · exact congrArg Host.Outcome.next (xferDone_put_agrees hx rfl (xferData_put hp hb) hp hh hd)
  · exact congrArg Host.Outcome.next (xferDone_faults hx rfl (xferData_getPoor hp hb))
  · exact congrArg Host.Outcome.next (xferDone_get hx rfl (xferData_get hp hb) hp)
  · exact congrArg Host.Outcome.next (inputLine_noPath hd)
  · exact congrArg Host.Outcome.next (inputLine_ignored hd hn hi)
  · exact congrArg Host.Outcome.next ((inputLine_pair hd hn hl hm hr).trans ((if_pos hs).trans (if_pos hh)))
  · exact congrArg Host.Outcome.next ((inputLine_pair hd hn hl hm hr).trans ((if_pos hs).trans (if_neg (Bool.eq_false_iff.mp hh))))
  · exact congrArg Host.Outcome.next ((inputLine_pair hd hn hl hm hr).trans ((if_neg hs).trans (if_pos hh)))
  · exact congrArg Host.Outcome.next ((inputLine_pair hd hn hl hm hr).trans ((if_neg hs).trans (if_neg (Bool.eq_false_iff.mp hh))))
  · exact congrArg Host.Outcome.next (meshLoadDone_none hl)
  · exact congrArg Host.Outcome.next (meshLoadDone_unread hl hr rfl rfl rfl h)
  · exact congrArg Host.Outcome.next (meshLoadDone_badNodes hl hr rfl rfl rfl hg hn)
  · exact congrArg Host.Outcome.next (meshLoadDone_swapsIn hl hr rfl hg hn rfl rfl (fun _ => rfl)
      (fun st k h => absurd (hy.symm.trans h) (Option.some_ne_none _).symm))
  · refine congrArg Host.Outcome.next (meshLoadDone_swapsIn hl hr rfl hg hn rfl rfl
      (fun h => absurd (hy.symm.trans h) (Option.some_ne_none _)) (fun st' k' h => ?_))
    cases hy.symm.trans h
    rfl
end

section
/-! PROOF. The scrubber, the traffic monitor and the heads (R309, R311, R329, R341, R350, R353). -/

open Sys2Proof Sys2Proof.Machine

namespace Sys2Proof.Machine

section
variable {n : Nat} {s t u v w : State}

/-! ### The scrubber (R311, R517) -/

theorem scrubStep_idle {r : ScrubRead} {o : Bool}
    (h : s.fsDark = true ∨ s.store.selfRefresh = true ∨ s.flag R.FS_SCRUB F.FS_SCRUB_EN = false) : scrubStep r o s = s := by
  refine if_pos ?_
  rcases h with h | h | h <;> simp [h]

/-- What the scrubber's read of a granule leaves. -/
def scrubbed (g : Nat) (r : ScrubRead) (o : Bool) (s : State) : State :=
  if s.underTest (g * 256) 256 then s
  else if r == .uncorrectable || s.store.poison.contains g then
    noteUncorr g { s with store := { s.store with
      poison := if o || s.store.poison.contains g then s.store.poison else s.store.poison ++ [g] } }
  else if r == .corrected then noteCorr g s
  else s

section
variable {g : Nat} {r : ScrubRead} {o : Bool}

theorem scrubbed_skips (h : s.underTest (g * 256) 256 = true) : scrubbed g r o s = s := if_pos h

theorem scrubbed_known (h : s.underTest (g * 256) 256 = false) (hb : r = .uncorrectable ∨ s.store.poison.contains g = true)
    (ho : o = true ∨ s.store.poison.contains g = true) : scrubbed g r o s = noteUncorr g s := by
  have hbad : (r == .uncorrectable || s.store.poison.contains g) = true := by
    rw [Bool.or_eq_true, beq_iff_eq]
    exact hb
  have hold : (o || s.store.poison.contains g) = true := by
    rw [Bool.or_eq_true]
    exact ho
  simp only [scrubbed, h, hbad, hold, Bool.false_eq_true, if_false, if_true]

theorem scrubbed_poisons (h : s.underTest (g * 256) 256 = false) (hb : r = .uncorrectable ∨ s.store.poison.contains g = true)
    (ho : o = false) (hp : s.store.poison.contains g = false) :
    scrubbed g r o s = noteUncorr g { s with store := { s.store with poison := s.store.poison ++ [g] } } := by
  have hr : r = .uncorrectable := hb.resolve_right (Bool.eq_false_iff.mp hp)
  simp only [scrubbed, h, hp, ho, hr, beq_self_eq_true, Bool.or_self, Bool.or_false, Bool.false_eq_true, if_false, if_true]

theorem scrubbed_corrected (h : s.underTest (g * 256) 256 = false) (hp : s.store.poison.contains g = false)
    (hr : r = .corrected) : scrubbed g r o s = noteCorr g s := by
  subst hr
  simp only [scrubbed, h, hp, Bool.or_false, Bool.false_eq_true, if_false, beq_self_eq_true, if_true]
  rfl

theorem scrubbed_clean (h : s.underTest (g * 256) 256 = false) (hp : s.store.poison.contains g = false)
    (hr : r = .clean) : scrubbed g r o s = s := by
  subst hr
  simp only [scrubbed, h, hp, Bool.or_false, Bool.false_eq_true, if_false]
  rfl

section
variable (hd : s.fsDark = false) (hr : s.store.selfRefresh = false) (he : s.flag R.FS_SCRUB F.FS_SCRUB_EN = true)
  (hg : g = s.fld R.FS_SCRUB_POS F.FS_SCRUB_POS_GRANULE)
include hd hr he hg

theorem scrubStep_eq : scrubStep r o s =
    if g + 1 = fsGranules then
      (((scrubbed g r o s).setFld R.FS_SCRUB_POS F.FS_SCRUB_POS_GRANULE 0).setFlag R.FS_STATUS F.FS_STATUS_SCRUB_BUSY
        false).incSat R.FS_SCRUB_POS F.FS_SCRUB_POS_PASSES 1
    else ((scrubbed g r o s).setFld R.FS_SCRUB_POS F.FS_SCRUB_POS_GRANULE (g + 1)).setFlag R.FS_STATUS F.FS_STATUS_SCRUB_BUSY
      true := by
  subst hg
  by_cases hl : s.fld R.FS_SCRUB_POS F.FS_SCRUB_POS_GRANULE + 1 = fsGranules <;>
    simp only [scrubStep, scrubbed, hd, hr, he, hl, Bool.or_self, Bool.not_true, Bool.not_false, Bool.false_eq_true, if_false,
      decide_true, decide_false, if_true]

end

end

/-! ### The traffic monitor (R309) -/

theorem foldl_max_le (l : List Nat) (a : Nat) : a ≤ l.foldl Nat.max a ∧ ∀ x ∈ l, x ≤ l.foldl Nat.max a := by
  induction l generalizing a with
  | nil => exact ⟨Nat.le_refl a, fun x hx => absurd hx List.not_mem_nil⟩
  | cons b l ih =>
    obtain ⟨h1, h2⟩ := ih (Nat.max a b)
    refine ⟨Nat.le_trans (Nat.le_max_left a b) h1, fun x hx => ?_⟩
    rcases List.mem_cons.mp hx with rfl | hx
    · exact Nat.le_trans (Nat.le_max_right a x) h1
    · exact h2 x hx

theorem foldl_max_mem (l : List Nat) (a : Nat) : l.foldl Nat.max a = a ∨ l.foldl Nat.max a ∈ l := by
  induction l generalizing a with
  | nil => exact .inl rfl
  | cons b l ih =>
    rw [List.foldl_cons]
    rcases ih (Nat.max a b) with h | h
    · rw [h]
      rcases Nat.le_total a b with hab | hab
      · exact .inr (List.mem_cons.mpr (.inl (Nat.max_eq_right hab)))
      · exact .inl (Nat.max_eq_left hab)
    · exact .inr (List.mem_cons_of_mem b h)

theorem getD_le_busiestCount (counts : List Nat) {i : Nat} (hi : i < 64) : counts.getD i 0 ≤ busiestCount counts := by
  rw [List.getD_eq_getElem?_getD]
  cases h : counts[i]? with
  | none => exact Nat.zero_le _
  | some c =>
    have hm : c ∈ counts.take 64 := by
      rw [← List.getElem?_take_of_lt hi] at h
      exact List.mem_of_getElem? h
    exact (foldl_max_le _ 0).2 c hm

theorem exists_busiest (counts : List Nat) : ∃ i, i < 64 ∧ counts.getD i 0 = busiestCount counts := by
  rcases foldl_max_mem (counts.take 64) 0 with h | h
  · refine ⟨0, by decide, Nat.le_antisymm (getD_le_busiestCount counts (by decide)) ?_⟩
    rw [busiestCount, h]
    exact Nat.zero_le _
  · obtain ⟨i, hi, he⟩ := List.getElem_of_mem h
    rw [List.length_take, Nat.lt_min] at hi
    refine ⟨i, hi.1, ?_⟩
    rw [List.getD_eq_getElem?_getD, List.getElem?_eq_getElem hi.2, Option.getD_some, busiestCount, ← he, List.getElem_take]

/-- The busiest channel is one of those with the largest count. -/
theorem busiest_mem (counts : List Nat) :
    busiest counts ∈ (upTo 64).filter (fun i => counts.getD i 0 == busiestCount counts) := by
  rw [busiest]
  split
  · next h =>
    obtain ⟨i, hi, he⟩ := exists_busiest counts
    have hm : i ∈ (upTo 64).filter (fun i => counts.getD i 0 == busiestCount counts) :=
      List.mem_filter.mpr ⟨List.mem_range.mpr hi, beq_iff_eq.mpr he⟩
    rw [h] at hm
    exact absurd hm List.not_mem_nil
  · next i h => rw [h]; exact List.mem_singleton.mpr rfl
  · next h1 h2 =>
    have hpos : 0 < ((upTo 64).filter (fun i => counts.getD i 0 == busiestCount counts)).length :=
      List.length_pos_iff.mpr h1
    rw [getD_of_lt _ (Nat.mod_lt _ hpos)]
    exact List.getElem_mem _

theorem busiest_spec (counts : List Nat) : busiest counts < 64 ∧ counts.getD (busiest counts) 0 = busiestCount counts := by
  obtain ⟨h1, h2⟩ := List.mem_filter.mp (busiest_mem counts)
  exact ⟨List.mem_range.mp h1, beq_iff_eq.mp h2⟩

section
variable {counts : List Nat}

theorem monitorWindow_dark (h : s.fsDark = true ∨ s.store.selfRefresh = true) : monitorWindow counts s = s := by
  refine if_pos ?_
  rcases h with h | h <;> simp [h]

section
variable (hd : s.fsDark = false) (hr : s.store.selfRefresh = false) (hw : w = showTraffic counts s)
include hd hr hw

theorem monitorWindow_quiet (hf : (counts.take 64).sum < w.monFloor) : monitorWindow counts s = w := by
  subst hw
  simp only [monitorWindow, hd, hr, hf, Bool.or_self, Bool.false_eq_true, if_false, if_true]

variable (hf : w.monFloor ≤ (counts.take 64).sum)
include hf

theorem monitorWindow_even (hu : unbalanced counts (w.fld R.FS_MON F.FS_MON_RATIO) = false)
    (ht : t = (upTo 64).foldl (fun u n => State.setFld u (R.FS_CH_OCC n) F.FS_CH_OCC_OVER 0) w) :
    monitorWindow counts s = { t with store := { t.store with imbCount := 0, imbRaised := false } } := by
  subst ht hw
  simp only [monitorWindow, hd, hr, Nat.not_lt.mpr hf, hu, Bool.or_self, Bool.false_and, Bool.not_false, Bool.false_eq_true,
    if_false, if_true]

theorem monitorWindow_uneven (hu : unbalanced counts (w.fld R.FS_MON F.FS_MON_RATIO) = true)
    (ht : t = (upTo 64).foldl (fun u n => if n == busiest counts then State.incSat u (R.FS_CH_OCC n) F.FS_CH_OCC_OVER 1
      else State.setFld u (R.FS_CH_OCC n) F.FS_CH_OCC_OVER 0) w)
    (hv : v = { t with store := { t.store with imbCount := t.store.imbCount + 1 } }) :
    monitorWindow counts s =
      if v.store.imbRaised || decide (t.store.imbCount + 1 < v.fld R.FS_MON F.FS_MON_SUSTAIN) then v
      else State.raise { v with store := { v.store with imbRaised := true } } Ev.FS_IMBALANCE 0 (evArg (busiest counts) 0 0) := by
  subst hv ht hw
  simp only [monitorWindow, hd, hr, Nat.not_lt.mpr hf, hu, Bool.or_self, Bool.true_and, Bool.not_true, Bool.false_eq_true,
    if_false]

end

end

/-! ### Heads (R329, R341, R350, R353) -/

theorem handOver_none (h : (s.head n).frame = none) : handOver n s = s := by
  simp only [handOver, handLine, h]

theorem handOver_some {f : OutFrame} (h : (s.head n).frame = some f) : handOver n s =
    if ((handLine n s).head n).direct && ((handLine n s).head n).frame.isNone then dmaHead n (handLine n s) else handLine n s := by
  simp only [handOver, h]

theorem directTimeout_ignored (h : (s.head n).direct = false ∨ s.flag (R.HEAD_CTRL n) F.HEAD_CTRL_EN = false
    ∨ (s.head n).nosource = true ∨ s.sleepStopped = true) : directTimeout n s = s := by
  refine if_pos ?_
  rcases h with h | h | h | h <;> simp [h]

theorem directTimeout_holds (hd : (s.head n).direct = true) (he : s.flag (R.HEAD_CTRL n) F.HEAD_CTRL_EN = true)
    (hn : (s.head n).nosource = false) (hs : s.sleepStopped = false) : directTimeout n s =
      (holdCond n Wc.NOSOURCE (s.setReg (R.HEAD_DIR_STATUS n)
        (w32 (8 + (s.reg (R.HEAD_DIR_STATUS n)).toNat / 256 % 256 * 256)))).raise (Ev.DIRECT_NOSOURCE + n) (headUnit n) 0 := by
  refine if_neg ?_
  simp [hd, he, hn, hs]

section
variable {r : Nat} {k : Word}

theorem echoDeadline_answered (h : (s.region n r).awaits.find? (fun a => a.counter = k) = none) : echoDeadline n r k s = s := by
  simp only [echoDeadline, h]

/-- An echo is judged at its deadline. -/
def judgeEcho (n r : Nat) (a : Await) (u : State) : State :=
  if !a.echoed then regionFail n r Wc.MISSING u
  else if a.ok then (u.setFld (R.HEAD_TSTAT n r) F.HEAD_TSTAT_LAST_CAUSE 0).incSat (R.HEAD_TSTAT n r) F.HEAD_TSTAT_PASS 1
  else u

section
variable {a : Await}

theorem judgeEcho_missing (he : a.echoed = false) : judgeEcho n r a u = regionFail n r Wc.MISSING u := by
  simp only [judgeEcho, he, Bool.not_false, if_true]

theorem judgeEcho_passed (he : a.echoed = true) (ho : a.ok = true) : judgeEcho n r a u =
    (u.setFld (R.HEAD_TSTAT n r) F.HEAD_TSTAT_LAST_CAUSE 0).incSat (R.HEAD_TSTAT n r) F.HEAD_TSTAT_PASS 1 := by
  simp only [judgeEcho, he, ho, Bool.not_true, Bool.false_eq_true, if_false, if_true]

theorem judgeEcho_failed (he : a.echoed = true) (ho : a.ok = false) : judgeEcho n r a u = u := by
  simp only [judgeEcho, he, ho, Bool.not_true, Bool.false_eq_true, if_false]

end

theorem echoDeadline_judges {a : Await} (h : (s.region n r).awaits.find? (fun a => a.counter = k) = some a)
    (ht : t = judgeEcho n r a (s.setRegion n r { s.region n r with awaits := (s.region n r).awaits.filter (fun b => b ≠ a) })) :
    echoDeadline n r k s = countSpans n (t.setHead n { t.head n with
      spans := (t.head n).spans.map (fun p => if p.serial = a.serial then { p with waiting := p.waiting - 1 } else p) }) := by
  subst ht
  simp only [echoDeadline, h, judgeEcho]

end

end

end Sys2Proof.Machine

/-- Settles O54. -/
theorem storeAndHeadsGoOn : Obligations.StoreAndHeadsGoOn := by
  unfold Obligations.StoreAndHeadsGoOn
  intro s
  refine ⟨fun hd hr he g r o hg => ⟨scrubbed g r o s, scrubbed_skips, fun h hb => ⟨scrubbed_known h hb, scrubbed_poisons h hb⟩,
      fun h hp => ⟨scrubbed_corrected h hp, scrubbed_clean h hp⟩, fun hl => ?_, fun hl => ?_⟩,
    fun h r o => ?_, fun counts hd hr => ⟨_, rfl, fun hf => ?_, fun hf hu => ⟨_, rfl, ?_⟩, fun hf hu => ⟨_, rfl, _, rfl,
      fun hs => ?_, fun hn hs => ?_⟩⟩, fun counts i => ⟨(busiest_spec counts).1, fun hi => ?_⟩, fun h counts => ?_,
    fun n => ⟨fun hf => ?_, fun f hf => ⟨fun hd hn => ?_, fun h => ?_⟩, fun hd he hn hs => ?_, fun h => ?_,
      fun r k => ⟨fun ha => ?_, fun a ha => ⟨_, judgeEcho n r a _, rfl, judgeEcho_missing, judgeEcho_passed,
        judgeEcho_failed, ?_⟩⟩⟩⟩
  · exact congrArg Host.Outcome.next ((scrubStep_eq hd hr he hg).trans (if_neg hl))
  · exact congrArg Host.Outcome.next ((scrubStep_eq hd hr he hg).trans (if_pos hl))
  · exact congrArg Host.Outcome.next (scrubStep_idle h)
  · exact congrArg Host.Outcome.next (monitorWindow_quiet hd hr rfl hf)
  · exact congrArg Host.Outcome.next (monitorWindow_even hd hr rfl hf hu rfl)
  · refine congrArg Host.Outcome.next ((monitorWindow_uneven hd hr rfl hf hu rfl rfl).trans (if_pos ?_))
    rw [Bool.or_eq_true, decide_eq_true_iff]
    exact hs
  · refine congrArg Host.Outcome.next ((monitorWindow_uneven hd hr rfl hf hu rfl rfl).trans (if_neg ?_))
    rw [Bool.or_eq_true, decide_eq_true_iff, not_or]
    exact ⟨Bool.eq_false_iff.mp hn, Nat.not_lt.mpr hs⟩
  · rw [(busiest_spec counts).2]
    exact getD_le_busiestCount counts hi
  · exact congrArg Host.Outcome.next (monitorWindow_dark h)
  · exact congrArg Host.Outcome.next (handOver_none hf)
  · refine congrArg Host.Outcome.next ((handOver_some hf).trans (if_pos ?_))
    rw [hd, hn]
    rfl
  · refine congrArg Host.Outcome.next ((handOver_some hf).trans (if_neg ?_))
    rw [Bool.and_eq_true, Option.isNone_iff_eq_none]
    rintro ⟨h1, h2⟩
    rcases h with h | h
    · rw [h] at h1; exact Bool.false_ne_true h1
    · exact h h2
  · exact congrArg Host.Outcome.next (directTimeout_holds hd he hn hs)
  · exact congrArg Host.Outcome.next (directTimeout_ignored h)
  · exact congrArg Host.Outcome.next (echoDeadline_answered ha)
  · exact congrArg Host.Outcome.next (echoDeadline_judges ha rfl)
end

section
/-! PROOF. Local two-wire controllers (R419 to R427). -/

open Sys2Proof Sys2Proof.Machine

namespace Sys2Proof.Machine

section
variable {c : Nat} {x : TwXfer} {rest : List TwXfer} {s t : State}

/-! ### A free bus (R419, R420) -/

theorem twBusFree_ignored (h : (s.twc c).queue = [] ∨ (s.twc c).active = true ∨ (s.twc c).stuck = true) : twBusFree c s = s := by
  cases hq : (s.twc c).queue with
  | nil => simp only [twBusFree, hq]
  | cons x rest =>
    have hbusy : ((s.twc c).active || (s.twc c).stuck) = true := by
      rw [Bool.or_eq_true]
      exact h.resolve_left (by rw [hq]; exact List.cons_ne_nil x rest)
    simp only [twBusFree, hq, hbusy, if_true]

/-- The bytes with which a transfer starts: the address with its direction, the bytes to write, and the address again for a
write then read. -/
def twFirstBytes (x : TwXfer) : List Byte :=
  BitVec.ofNat 8 (2 * x.addr + (if x.op = 2 then 1 else 0)) :: x.wdata
    ++ (if x.op = 3 then [BitVec.ofNat 8 (2 * x.addr + 1)] else [])

theorem twFirstBytes_write (h2 : x.op ≠ 2) (h3 : x.op ≠ 3) : twFirstBytes x = BitVec.ofNat 8 (2 * x.addr) :: x.wdata := by
  rw [twFirstBytes, if_neg h2, if_neg h3, List.append_nil, Nat.add_zero]

theorem twFirstBytes_read (h : x.op = 2) : twFirstBytes x = BitVec.ofNat 8 (2 * x.addr + 1) :: x.wdata := by
  rw [twFirstBytes, if_pos h, if_neg (by rw [h]; decide), List.append_nil]

theorem twFirstBytes_writeRead (h : x.op = 3) :
    twFirstBytes x = BitVec.ofNat 8 (2 * x.addr) :: (x.wdata ++ [BitVec.ofNat 8 (2 * x.addr + 1)]) := by
  rw [twFirstBytes, if_neg (by rw [h]; decide), if_pos h, Nat.add_zero, List.cons_append]

theorem twBusFree_starts (hq : (s.twc c).queue = x :: rest) (ha : (s.twc c).active = false) (hs : (s.twc c).stuck = false) :
    twBusFree c s = twShow c ((twBegin c s).emit (.twoWire c x.addr (twFirstBytes x))) := by
  simp only [twBusFree, hq, ha, hs, Bool.or_self, Bool.false_eq_true, if_false, twFirstBytes]

/-! ### Ends (R420 to R426) -/

theorem twTransferEnd_ignored {r : TwEnd} (h : (s.twc c).active = false ∨ (s.twc c).queue = []) : twTransferEnd c r s = s := by
  cases hq : (s.twc c).queue with
  | nil => simp only [twTransferEnd, hq]
  | cons x rest =>
    have ha : (s.twc c).active = false := h.resolve_right (by rw [hq]; exact List.cons_ne_nil x rest)
    simp only [twTransferEnd, hq, ha, Bool.not_false, if_true]

section
variable (hq : (s.twc c).queue = x :: rest)
include hq

theorem twEnd_answers {result nack pos : Nat} {d : List Byte}
    (ht : t = twShow c (twCount c result (s.setTwc c { s.twc c with queue := rest, active := false }))) :
    twEnd c result nack pos d s = t.answer (.twXfer c x.serial) (Res.ok (twPayload result nack pos d x.attempts)) := by
  subst ht
  simp only [twEnd, hq]

variable (ha : (s.twc c).active = true)
include ha

theorem twTransferEnd_ok {d : List Byte} : twTransferEnd c (.ok d) s = twEnd c Tw.OK 0 0 (twRead x d) s := by
  simp only [twTransferEnd, hq, ha, Bool.not_true, Bool.false_eq_true, if_false]

theorem twTransferEnd_addrNack : twTransferEnd c .addrNack s = twEnd c Tw.ADDR_NACK 0 0 [] s := by
  simp only [twTransferEnd, hq, ha, Bool.not_true, Bool.false_eq_true, if_false]

theorem twTransferEnd_dataNack {i : Byte} : twTransferEnd c (.dataNack i) s = twEnd c Tw.DATA_NACK i.toNat 0 [] s := by
  simp only [twTransferEnd, hq, ha, Bool.not_true, Bool.false_eq_true, if_false]

theorem twTransferEnd_arbCond : twTransferEnd c .arbCond s =
    twEnd c Tw.ARB_LOST_COND 0 0 [] (s.incSat (R.TWC_ARB c) F.TWC_ARB_COND 1) := by
  simp only [twTransferEnd, hq, ha, Bool.not_true, Bool.false_eq_true, if_false]

theorem twTransferEnd_arbData {pos : BitVec 13}
    (ht : t = (s.incSat (R.TWC_ARB c) F.TWC_ARB_DATA 1).setFld (R.TWC_STATUS c) F.TWC_STATUS_BITPOS pos.toNat) :
    twTransferEnd c (.arbData pos) s =
      if F.TWC_CTRL_RETRIES.get (s.twc c).ctrl < x.attempts then twEnd c Tw.ARB_LOST_DATA 0 pos.toNat [] t
      else twShow c (t.setTwc c { s.twc c with active := false }) := by
  subst ht
  simp only [twTransferEnd, hq, ha, Bool.not_true, Bool.false_eq_true, if_false]

end

theorem twStretch_active (h : (s.twc c).active = true) : twStretch c s = twEnd c Tw.STRETCH_TIMEOUT 0 0 [] s := if_pos h

theorem twStretch_ignored (h : (s.twc c).active = false ∨ (s.twc c).queue = []) : twStretch c s = s := by
  rw [twStretch]
  split
  · next ha =>
    have hq : (s.twc c).queue = [] := h.resolve_left (by rw [ha]; exact Bool.noConfusion)
    simp only [twEnd, hq]
  · rfl

theorem twStuck_ignored (h : (s.twc c).active = true ∨ (s.twc c).stuck = true ∨ s.flag (R.TWC_CTRL c) F.TWC_CTRL_EN = false) :
    twStuck c s = s := by
  refine if_pos ?_
  rcases h with h | h | h <;> simp [h]

theorem twStuck_ends (ha : (s.twc c).active = false) (hs : (s.twc c).stuck = false)
    (he : s.flag (R.TWC_CTRL c) F.TWC_CTRL_EN = true) : twStuck c s = twEndAll c Tw.BUS_STUCK (s.twc c).queue.length
      ((twShow c (s.setTwc c { s.twc c with stuck := true })).raise Ev.TW_STUCK (twUnit c) 0) := by
  refine if_neg ?_
  simp [ha, hs, he]

theorem twUnstick_stuck (h : (s.twc c).stuck = true) : twUnstick c s = twShow c (s.setTwc c { s.twc c with stuck := false }) :=
  if_pos h

theorem twUnstick_free (h : (s.twc c).stuck = false) : twUnstick c s = s := if_neg (Bool.eq_false_iff.mp h)

/-! ### Attention requests (R427) -/

section
variable {ns : Nat} {fell : Bool}

theorem twAttention_ignored (h : ns < 4000 ∨ fell = true ∨ s.flag (R.TWC_CTRL c) F.TWC_CTRL_EN = false
    ∨ s.flag (R.TWC_CTRL c) F.TWC_CTRL_ATTN_EN = false ∨ (s.twc c).active = true ∨ (s.twc c).stuck = true) :
    twAttention c ns fell s = s := by
  refine if_pos ?_
  rcases h with h | h | h | h | h | h <;> simp [h]

theorem twAttention_counted (hn : 4000 ≤ ns) (he : s.flag (R.TWC_CTRL c) F.TWC_CTRL_EN = true)
    (hb : s.flag (R.TWC_CTRL c) F.TWC_CTRL_ATTN_EN = true) (ha : (s.twc c).active = false) (hs : (s.twc c).stuck = false) :
    twAttention c ns false s = ((s.setFlag (R.TWC_ATTN c) F.TWC_ATTN_PEND true).incSat (R.TWC_ATTN c) F.TWC_ATTN_COUNT 1).raise
      Ev.TW_ATTN (twUnit c) 0 := by
  refine if_neg ?_
  simp [hn, he, hb, ha, hs]

end

end

end Sys2Proof.Machine

/-- Settles O58. -/
theorem twoWireTransfersEnd : Obligations.TwoWireTransfersEnd := by
  unfold Obligations.TwoWireTransfersEnd
  intro n s k
  refine ⟨fun x rest hq ha hs => ⟨fun h2 h3 => ?_, fun h => ?_, fun h => ?_⟩, fun h => ?_, fun x rest hq ha =>
      ⟨fun d => ?_, ?_, fun i => ?_, ?_, fun pos => ⟨_, rfl, fun h => ?_, fun h => ?_⟩⟩, fun h => ⟨fun r => ?_, ?_⟩,
    fun c result nack pos x rest d hq => ⟨_, rfl, twEnd_answers hq rfl⟩, fun h => ?_, fun h => ?_, fun ha hs he => ?_, fun h => ?_,
    fun h => ?_, fun ns fell => ⟨fun h => ?_, fun hn he hb ha hs => ?_⟩⟩
  · exact congrArg Host.Outcome.next ((twBusFree_starts hq ha hs).trans (by rw [twFirstBytes_write h2 h3]))
  · exact congrArg Host.Outcome.next ((twBusFree_starts hq ha hs).trans (by rw [twFirstBytes_read h]))
  · exact congrArg Host.Outcome.next ((twBusFree_starts hq ha hs).trans (by rw [twFirstBytes_writeRead h]))
  · exact congrArg Host.Outcome.next (twBusFree_ignored h)
  · exact congrArg Host.Outcome.next (twTransferEnd_ok hq ha)
  · exact congrArg Host.Outcome.next (twTransferEnd_addrNack hq ha)
  · exact congrArg Host.Outcome.next (twTransferEnd_dataNack hq ha)
  · exact congrArg Host.Outcome.next (twTransferEnd_arbCond hq ha)
  · exact congrArg Host.Outcome.next ((twTransferEnd_arbData hq ha rfl).trans (if_pos h))
  · exact congrArg Host.Outcome.next ((twTransferEnd_arbData hq ha rfl).trans (if_neg (Nat.not_lt.mpr h)))
  · exact congrArg Host.Outcome.next (twTransferEnd_ignored h)
  · exact congrArg Host.Outcome.next (twStretch_ignored h)
  · exact congrArg Host.Outcome.next (twStretch_active h)
  · exact congrArg Host.Outcome.next (twStuck_ignored h)
  · exact congrArg Host.Outcome.next (twStuck_ends ha hs he)
  · exact congrArg Host.Outcome.next (twUnstick_stuck h)
  · exact congrArg Host.Outcome.next (twUnstick_free h)
  · exact congrArg Host.Outcome.next (twAttention_ignored h)
  · exact congrArg Host.Outcome.next (twAttention_counted hn he hb ha hs)
end

section
/-! PROOF. The target TWT0 (R94, R431 to R436). -/

open Sys2Proof Sys2Proof.Machine

namespace Sys2Proof.Machine

section
variable {s t : State}

/-! ### The mute after a wake (R436) -/

theorem State.twtMuted_iff {k : Nat} (h : s.pwr.matched = some k) :
    s.twtMuted = true ↔ s.pwr.resume ≠ .awake ∧ s.rtcFine < k + 50000 * 32768 := by
  simp only [State.twtMuted, h, Bool.and_eq_true, bne_iff_ne, decide_eq_true_iff]

theorem State.twtMuted_unmatched (h : s.pwr.matched = none) : s.twtMuted = false := by
  simp only [State.twtMuted, h, Bool.and_false]

/-! ### Bytes (R431, R433) -/

section
variable {c : Byte}

theorem twtPut_busy (hl : t.twtLive = true) (hp : t.twtPage = 1) (hb : t.groom.mbox.busy = true) :
    twtWindowWrite.twtPut t c = t.incSat R.TWT_XFER F.TWT_XFER_NACKS 1 := by
  simp only [twtWindowWrite.twtPut, hl, hp, hb, beq_self_eq_true, Bool.and_self, if_true]
  rfl

theorem twtPut_command (hl : t.twtLive = true) (hp : t.twtPage = 1) (hb : t.groom.mbox.busy = false) :
    twtWindowWrite.twtPut t c =
      twtStep (t.setMbox { t.groom.mbox with cmd := SMap.put t.groom.mbox.cmd 0 t.twtPointer c }) := by
  simp only [twtWindowWrite.twtPut, hl, hp, hb, beq_self_eq_true, Bool.and_self, Bool.and_false, Bool.false_eq_true, if_false,
    if_true]

theorem twtPut_elsewhere (h : t.twtLive = false ∨ t.twtPage ≠ 1) : twtWindowWrite.twtPut t c = twtStep t := by
  have hno : (t.twtLive && t.twtPage == 1) = false := by rcases h with h | h <;> simp [h]
  simp only [twtWindowWrite.twtPut, hno, Bool.false_and, Bool.false_eq_true, if_false]

end

/-! ### The mailbox (R94, R433, R434) -/

theorem twtProto_awake (h : s.twtAwake = true) :
    twtProto s = (s.incSat R.TWT_CNT F.TWT_CNT_PROTO 1).raise Ev.TWT_PROTO 0xB200 0 := by
  simp only [twtProto, h, Bool.not_true, Bool.false_eq_true, if_false]

theorem twtProto_asleep (h : s.twtAwake = false) : twtProto s = s := by
  simp only [twtProto, h, Bool.not_false, if_true]

theorem twtDone_live (h : s.twtLive = true) :
    twtDone s = s.setMbox { s.groom.mbox with ready := false, rpl := [], attn := false } := by
  simp only [twtDone, h, Bool.not_true, Bool.false_eq_true, if_false]

theorem twtDone_dead (h : s.twtLive = false) : twtDone s = s := by
  simp only [twtDone, h, Bool.not_false, if_true]

theorem twtAttnOut_calls (hl : s.twtLive = true) (hw : s.twtAwake = true) (ha : s.groom.mbox.attn = true) :
    twtAttnOut s = (s.setMbox { s.groom.mbox with attn := false }).emit .twtAttn := by
  simp only [twtAttnOut, hl, hw, ha, Bool.and_self, if_true]

theorem twtAttnOut_silent (h : s.twtLive = false ∨ s.twtAwake = false ∨ s.groom.mbox.attn = false) : twtAttnOut s = s := by
  refine if_neg ?_
  rcases h with h | h | h <;> simp [h]

/-! ### SUBMIT (R94, R433) -/

theorem length_bytesWords (k : Nat) : ∀ bs : List Byte, bs.length = 4 * k → (bytesWords bs).length = k := by
  induction k with
  | zero =>
    intro bs hb
    rw [List.eq_nil_of_length_eq_zero hb]
    rfl
  | succ k ih =>
    intro bs hb
    match bs with
    | a :: b :: c :: d :: rest =>
      have hr : rest.length = 4 * k := by
        simp only [List.length_cons] at hb
        omega
      rw [bytesWords, List.length_cons, ih rest hr]
    | [] | [_] | [_, _] | [_, _, _] =>
      simp only [List.length_cons, List.length_nil] at hb
      omega

/-- The mailbox's 64 words, padded to the length that their header names, are a packet. -/
theorem exists_parsePacket {src : Source} {ws : List Word} (h : ws.length = 64) :
    ∃ c rest, parsePacket src (ws ++ List.replicate (bits (wAt ws 1) 27 16 - 60) 0) = some (c, rest) := by
  match ws with
  | w0 :: w1 :: w2 :: w3 :: tail =>
    have ht : tail.length = 60 := by
      simp only [List.length_cons] at h
      omega
    have hfit : ¬ (tail ++ List.replicate (bits w1 27 16 - 60) (0 : Word)).length < bits w1 27 16 := by
      rw [List.length_append, List.length_replicate, ht]
      omega
    exact ⟨_, _, if_neg hfit⟩
  | [] | [_] | [_, _] | [_, _, _] =>
    simp only [List.length_cons, List.length_nil] at h
    omega

/-- The words of the mailbox's command page. -/
def State.mboxWords (t : State) : List Word := bytesWords ((upTo 256).map (fun i => SMap.get t.groom.mbox.cmd 0 i))

theorem State.length_mboxWords : t.mboxWords.length = 64 :=
  length_bytesWords 64 _ (by rw [List.length_map, upTo, List.length_range])

section
variable (ht : t = groomTurn s)
include ht

theorem submit_dead (h : t.twtLive = false) : submit s = t.setMbox { t.groom.mbox with reject := true } := by
  subst ht
  simp only [submit, h, Bool.not_false, if_true]

theorem submit_refused (h : t.twtLive = true) (hm : t.groom.mbox.busy = true ∨ t.groom.mbox.ready = true) :
    submit s = t.setMbox { t.groom.mbox with reject := true } := by
  have hno : (t.groom.mbox.busy || t.groom.mbox.ready || !t.groomRuns) = true := by rcases hm with h | h <;> simp [h]
  subst ht
  simp only [submit, h, mailbox, hno, Bool.not_true, Bool.false_eq_true, if_false, if_true]

theorem submit_taken (h : t.twtLive = true) (hb : t.groom.mbox.busy = false) (hr : t.groom.mbox.ready = false) {c : Cmd} {n : Nat}
    (hp : parsePacket .twt (t.mboxWords ++ List.replicate (bits (wAt t.mboxWords 1) 27 16 - 60) 0) = some (c, n)) :
    submit s = takeOne c (t.setMbox { t.groom.mbox with busy := true, reject := false }) := by
  have hgo : (t.groom.mbox.busy || t.groom.mbox.ready || !t.groomRuns) = false := by
    rw [hb, hr, show t.groomRuns = true from h]
    rfl
  subst ht
  unfold State.mboxWords at hp
  simp only [submit, h, mailbox, hgo, hp, Bool.not_true, Bool.false_eq_true, if_false]

end

/-! ### The window address (R435) -/

section
variable {a : Nat} {also : BitVec 5}

theorem twtMatch_wakes (he : s.flag R.PWR_WAKE F.PWR_WAKE_EN_TWT = true) (ha : a = s.fld R.TWT_CTRL F.TWT_CTRL_ADDR)
    (ht : t = if s.twtAwake then s else { s with pwr := { s.pwr with matched := some s.rtcFine } }) :
    twtMatch a also s = wake (t.wakeMask 2 also) t := by
  subst ht
  refine if_neg ?_
  simp [he, ha]

theorem twtMatch_ignored (h : s.flag R.PWR_WAKE F.PWR_WAKE_EN_TWT = false ∨ a ≠ s.fld R.TWT_CTRL F.TWT_CTRL_ADDR) :
    twtMatch a also s = s := by
  refine if_pos ?_
  rcases h with h | h <;> simp [h]

end

end

end Sys2Proof.Machine

/-- Settles O59. -/
theorem twt0Answers : Obligations.Twt0Answers := by
  unfold Obligations.Twt0Answers
  intro s ack deaf
  refine ⟨fun t h => State.twtMuted_iff h, State.twtMuted_unmatched, fun hw hm => ⟨?_, ?_, fun b rest => ?_, fun n => ?_,
      fun b rest => ?_, fun n => ?_⟩, fun t c => ⟨twtPut_busy, twtPut_command, twtPut_elsewhere⟩,
    fun hw hm => ⟨fun d => ?_, fun d => ?_, fun n => ?_, fun n => ?_⟩, fun hw => ?_,
    fun hw => ⟨?_, fun d => ?_, fun d => ?_, fun n => ?_, fun n => ?_⟩, fun h => ?_, fun h => ?_, fun hl hw ha => ?_, fun h => ?_,
    fun t ht => ⟨fun hl => ?_, fun hl hm => ?_, fun hl hb hr => ?_⟩, fun a also he ha => ⟨_, rfl, ?_⟩, fun a also h => ?_⟩
  · exact congrArg Host.Outcome.next (twtAnswer_awake _ s hw hm)
  · exact congrArg Host.Outcome.next (twtAnswer_awake _ s hw hm)
  · exact congrArg Host.Outcome.next (twtAnswer_awake _ s hw hm)
  · exact congrArg Host.Outcome.next (twtAnswer_awake _ s hw hm)
  · exact congrArg Host.Outcome.next (twtAnswer_awake _ s hw hm)
  · exact congrArg Host.Outcome.next (twtAnswer_awake _ s hw hm)
  · exact congrArg Host.Outcome.next (twtAnswer_muted _ s hw hm)
  · exact congrArg Host.Outcome.next (twtAnswer_muted _ s hw hm)
  · exact congrArg Host.Outcome.next (twtAnswer_muted _ s hw hm)
  · exact congrArg Host.Outcome.next (twtAnswer_muted _ s hw hm)
  · exact congrArg Host.Outcome.next (twtProto_awake hw)
  · exact congrArg Host.Outcome.next (twtProto_asleep hw)
  · exact congrArg Host.Outcome.next (twtAnswer_asleep _ s hw)
  · exact congrArg Host.Outcome.next (twtAnswer_asleep _ s hw)
  · exact congrArg Host.Outcome.next (twtAnswer_asleep _ s hw)
  · exact congrArg Host.Outcome.next (twtAnswer_asleep _ s hw)
  · exact congrArg Host.Outcome.next (twtDone_live h)
  · exact congrArg Host.Outcome.next (twtDone_dead h)
  · exact congrArg Host.Outcome.next (twtAttnOut_calls hl hw ha)
  · exact congrArg Host.Outcome.next (twtAttnOut_silent h)
  · exact congrArg Host.Outcome.next (submit_dead ht hl)
  · exact congrArg Host.Outcome.next (submit_refused ht hl hm)
  · obtain ⟨c, rest, hp⟩ := exists_parsePacket (src := .twt) t.length_mboxWords
    exact ⟨_, c, rest, rfl, hp, congrArg Host.Outcome.next (submit_taken ht hl hb hr hp)⟩
  · exact congrArg Host.Outcome.next (twtMatch_wakes he ha rfl)
  · exact congrArg Host.Outcome.next (twtMatch_ignored h)
end

section
/-! PROOF. Test resources and boundary scan (R510 to R519). -/

open Sys2Proof Sys2Proof.Machine

namespace Sys2Proof.Machine

section
variable {x : Nat} {s t u v w : State}

/-! ### Checkers (R510) -/

theorem patternLock_locks {inv : Bool} (hl : s.laneIn x [Ls.test] = true) (hp : s.fld (R.TEST_PCHK x) F.TEST_PCHK_PAT ≠ 0)
    (hk : s.flag (R.TEST_PCHK x) F.TEST_PCHK_LOCK = false) : patternLock x inv s =
      (((s.setCheck x Checker.fresh).setFlag (R.TEST_PCHK x) F.TEST_PCHK_LOCK true).setFlag (R.TEST_PCHK x)
        F.TEST_PCHK_INV_SEEN inv).raise Ev.PATTERN_LOCK (testUnit x) 0 := by
  refine if_neg ?_
  simp [hl, hp, hk]

theorem patternLock_ignored {inv : Bool} (h : s.laneIn x [Ls.test] = false ∨ s.fld (R.TEST_PCHK x) F.TEST_PCHK_PAT = 0
    ∨ s.flag (R.TEST_PCHK x) F.TEST_PCHK_LOCK = true) : patternLock x inv s = s := by
  refine if_pos ?_
  rcases h with h | h | h <;> simp [h]

section
variable {n e : Nat}

theorem patternLost_loses (hl : s.laneIn x [Ls.test] = true) (hk : s.flag (R.TEST_PCHK x) F.TEST_PCHK_LOCK = true) :
    patternLost x n e s = (State.incSat (checkerCount x n e ((s.setCheck x Checker.fresh).setFlag (R.TEST_PCHK x)
      F.TEST_PCHK_LOCK false)) (R.TEST_CELL x) F.TEST_CELL_RELOCKS 1).raise Ev.PATTERN_LOST (testUnit x) 0 := by
  refine if_neg ?_
  simp [hl, hk]

theorem patternLost_ignored (h : s.laneIn x [Ls.test] = false ∨ s.flag (R.TEST_PCHK x) F.TEST_PCHK_LOCK = false) :
    patternLost x n e s = s := by
  refine if_pos ?_
  rcases h with h | h <;> simp [h]

end

/-! ### Eye scans (R515) and injections (R513) -/

theorem eyeEnd_none {grid : List Byte} {b : Bool} (h : s.test.eye = none) : eyeEnd grid b s = s := by
  simp only [eyeEnd, h]

theorem eyeEnd_answers {grid got : List Byte} {b : Bool} {e : EyeScan} (h : s.test.eye = some e)
    (hg : got = grid.take (e.cols * e.rows)) (ht : t = { s with test := { s.test with eye := none } })
    (hu : u = (((t.setFlag R.TEST_EYE_STATUS F.TEST_EYE_STATUS_BUSY false).setFlag R.TEST_EYE_STATUS F.TEST_EYE_STATUS_ABORTED
      b).setFld R.TEST_EYE_STATUS F.TEST_EYE_STATUS_DONE got.length).raise Ev.EYE_SCAN_DONE (testUnit e.lane) 0) :
    eyeEnd grid b s = u.answerEvery .eyeScan (Res.ok (w32 (e.cols + 256 * e.rows + 65536 * b01 b + 2 ^ 24 * e.eyeAtStart)
      :: bytesWords (got ++ List.replicate (e.cols * e.rows - got.length) 0xFF))) := by
  subst hu ht hg
  simp only [eyeEnd, h]

theorem injectDone_none {k : Nat} (h : SMap.get s.test.inj none x = none) : injectDone x k s = s := by
  simp only [injectDone, h]

section
variable {i : Inject} {k : Nat} (h : SMap.get s.test.inj none x = some i)
include h

theorem injectDone_unlimited (hl : i.left = none) : injectDone x k s = s := by
  cases i with
  | mk kind left exp wait count =>
    cases hl
    simp only [injectDone, h]

theorem injectDone_limited {n : Nat} (hl : i.left = some n) :
    injectDone x k s = injectEnd x (i.count + Nat.min (k - i.count) n) s := by
  cases i with
  | mk kind left exp wait count =>
    cases hl
    simp only [injectDone, h]

theorem injectEnd_ends {m : Nat} (ht : t = { s with test := { s.test with inj := SMap.put s.test.inj none x none } }) :
    injectEnd x m s = ((t.setFlag (R.TEST_INJ x) F.TEST_INJ_ACTIVE false).setFld (R.TEST_INJ x)
      F.TEST_INJ_INJECTED (Nat.min m (2 ^ 24 - 1))).raise Ev.INJECT_DONE (testUnit x) 0 := by
  subst ht
  simp only [injectEnd, h, showInjected]

end

/-! ### Memory tests (R516, R517) -/

theorem memDone_none {f c n : Nat} {a m : Word} (h : s.test.mem = none) : memDone f a m c n s = s := by
  simp only [memDone, h]

section
variable {j : MemTest} {a m : Word} {c k n fails : Nat}

theorem memCounts_other (h : j.unit ≠ 0x220 ∨ j.algo ≠ 1) : memCounts j a c k t = t :=
  if_neg (fun hn => h.elim (fun h => h hn.1) (fun h => h hn.2))

theorem memCounts_store (hu : j.unit = 0x220) (ha : j.algo = 1) : memCounts j a c k t =
    (upTo k).foldl (fun b _ => noteUncorr (a.toNat / 256) b) ((upTo c).foldl (fun b _ => noteCorr (a.toNat / 256) b) t) :=
  if_pos ⟨hu, ha⟩

/-- A memory test's outcome is shown: DONE, and of one with failures where the first was. -/
def memShown (j : MemTest) (n : Nat) (a m : Word) (v : State) : State :=
  if n = 0 then State.raise (State.setReg v R.TEST_MEM_COUNT 0) Ev.MEMTEST_DONE (0xE000 + j.unit) 0
  else State.raise (State.raise (State.setReg (State.setReg (State.setReg v R.TEST_MEM_ADDR a) R.TEST_MEM_BITS m)
    R.TEST_MEM_COUNT (w32 (Nat.min n (2 ^ 32 - 1)))) Ev.MEMTEST_DONE (0xE000 + j.unit) 0)
    Ev.MEMTEST_FAIL (0xE000 + j.unit) 0

theorem memDone_answers (h : s.test.mem = some j) (hn : n = if j.unit = 0x220 ∧ j.algo = 1 then k else fails)
    (ht : t = memCounts j a c k (memAfter j { s with test := { s.test with mem := none } }))
    (hv : v = (t.setFlag R.TEST_MEM_STATUS F.TEST_MEM_STATUS_BUSY false).setFld R.TEST_MEM_STATUS
      F.TEST_MEM_STATUS_RESULT (if n = 0 then 1 else 2))
    (hw : w = memShown j n a m v) :
    memDone fails a m c k s = w.answerEvery .memtest (Res.ok [w.reg R.TEST_MEM_STATUS, w.reg R.TEST_MEM_ADDR,
      w.reg R.TEST_MEM_BITS, w.reg R.TEST_MEM_COUNT]) := by
  have hzero : w32 (Nat.min 0 (2 ^ 32 - 1)) = 0 := by decide
  subst hw hv ht
  by_cases h0 : n = 0
  · simp only [memDone, h, ← hn, memShown, h0, if_true, hzero]
  · simp only [memDone, h, ← hn, memShown, h0, if_false]

end

/-! ### Boundary scan (R519) -/

theorem State.length_idcode : s.idcode.length = 32 := by
  rw [State.idcode, List.length_map, upTo, List.length_range]

/-- The identification is shifted out from bit 0, which is 1. -/
theorem State.head_idcode : s.idcode.head? = some true := by
  rw [State.idcode, List.head?_map, upTo, List.head?_range]
  simp only [Nat.reduceEqDiff, if_false, Option.map_some, Option.some.injEq, beq_iff_eq, Nat.pow_zero, Nat.div_one]
  omega

end

end Sys2Proof.Machine

/-- Settles O60. -/
theorem testResourcesAndBoundaryScan : Obligations.TestResourcesAndBoundaryScan := by
  unfold Obligations.TestResourcesAndBoundaryScan
  refine ⟨fun x s => ⟨fun hl hp hk inv => ?_, fun h inv => ?_, fun hl hk n e => ?_, fun h n e => ?_, fun t bits errs n hn => ?_,
      fun h grid b => ?_, fun e grid b h => ⟨_, rfl, _, _, rfl, rfl, ?_⟩, fun i n k h hl => ⟨_, rfl, ?_⟩, fun h k => ?_,
      fun i k h hl => ?_, fun h f a m c u => ?_, fun j fails a m c u n h hn => ⟨_, rfl, _, rfl, _, rfl, ?_⟩,
      fun j a c u t => ⟨memCounts_other, memCounts_store⟩⟩,
    fun dr s => ⟨rfl, rfl, rfl, rfl, rfl, rfl, rfl, rfl, rfl, State.length_idcode, State.head_idcode⟩⟩
  · exact congrArg Host.Outcome.next (patternLock_locks hl hp hk)
  · exact congrArg Host.Outcome.next (patternLock_ignored h)
  · exact congrArg Host.Outcome.next (patternLost_loses hl hk)
  · exact congrArg Host.Outcome.next (patternLost_ignored h)
  · subst hn
    rfl
  · exact congrArg Host.Outcome.next (eyeEnd_none h)
  · exact congrArg Host.Outcome.next (eyeEnd_answers h rfl rfl rfl)
  · exact congrArg Host.Outcome.next ((injectDone_limited h hl).trans (injectEnd_ends h rfl))
  · exact congrArg Host.Outcome.next (injectDone_none h)
  · exact congrArg Host.Outcome.next (injectDone_unlimited h hl)
  · exact congrArg Host.Outcome.next (memDone_none h)
  · exact congrArg Host.Outcome.next (memDone_answers h hn rfl rfl rfl)
end
